-- ==== Sys2Proof/Word.lean ====
section
/-!
DEFINITION. The word types of the block: bytes, 64-bit register words, and the sparse tables in which the state keeps
numbered things (ports, partitions, links): association lists with strictly rising keys.
-/
namespace Sys2Proof

/-- One byte of a record, a message or a memory. -/
abbrev Byte := BitVec 8

/-- One register of the register space (R6: registers are 64 bits wide). -/
abbrev Word := BitVec 64

/-- A table of numbered things, listed with strictly rising numbers; a number that is not listed stands for the default
entry that the reader of the table names. -/
abbrev Table (α : Type) := List (Nat × α)

end Sys2Proof
end

