-- ==== Sys2Proof/Syntax.lean ====
section
/-!
DEFINITION. The commands of the block: one constructor of `Instr` for each row of spec/opcode_table.json, with the operands
that the port and message tables of the spec give the event (R127, R204, R252, R317, R418, R425, R430 and the payload tables).
-/
namespace Sys2Proof

/-- HS_SLOT and HS_SEC of a host-slot access (R318). -/
structure Access where
  slot : Nat
  sec : Bool
  deriving DecidableEq, Repr

/-- The straps as the ST_ pins carry them (R394, R413). -/
structure Straps where
  strokeSrc : Nat
  boot : Nat
  mode : Nat
  slot0Sec : Bool
  links : Nat
  deriving DecidableEq, Repr

/-- What a memory-port read returned: its bytes, or nothing when the access failed (R427). -/
abbrev MemRead := Option (List Byte)

/-- One command on the tag interface (R418). -/
structure TagCmd where
  cslot : Nat
  ctx : Nat
  seq : Nat
  opc : Nat
  subop : Nat
  fmt : Nat
  dup : Bool
  cPresent : Bool
  maskPresent : Bool
  collValid : Bool
  phase : Nat
  layer : Nat
  oper : Nat
  coll : Nat
  m : Nat
  n : Nat
  k : Nat
  bytes : Nat
  deriving DecidableEq, Repr

/-- One stream-tap beat (R148, R418). `overflow`: the tap FIFO had no room for it (R149, R150). -/
structure TapBeat where
  cslot : Nat
  stream : Nat
  offset : Nat
  bytes : Nat
  last : Bool
  data : List Byte
  overflow : Bool := false
  deriving DecidableEq, Repr

/-- The outcomes one residue channel reports in one tile cycle (R127, R128). -/
structure ResidueReport where
  nchk : Nat
  nfail : Nat
  nskip : Nat
  parity : Nat
  fdet : Nat
  offset : Nat
  deriving DecidableEq, Repr

/-- A fabric-tap header beat (R173, R425); `ftStream` is the FT_STREAM signal. -/
structure FtHeader where
  ftStream : Nat
  stream : Nat
  purpose : Nat
  part : Nat
  ident : Nat
  step : Nat
  aux : Nat
  seg : Nat
  nseg : Nat
  seq : Nat
  base : Nat
  length : Nat
  deriving DecidableEq, Repr

/-- A STROKE marker's payload (R17). -/
structure Marker where
  num : Nat
  master : Nat
  hops : Nat
  flags : Nat
  acc : Nat
  lead : Nat
  deriving DecidableEq, Repr

/-- A heartbeat's payload (R313). -/
structure Heart where
  num : Nat
  chip : Nat
  flags : Nat
  link : Nat
  config : List Byte
  epochs : List Nat
  txOffset : Nat
  echoStroke : Nat
  echoHold : Nat
  deriving DecidableEq, Repr

/-- An ALARM (R275) with the epoch of its flit header. -/
structure AlarmMsg where
  epoch : Nat
  originStroke : Nat
  abortAt : Nat
  cause : Nat
  reach : Nat
  seq : Nat
  origin : Nat
  node : Nat
  part : Nat
  detail : List Byte
  deriving DecidableEq, Repr

/-- A VERDICT payload (R225); `kind` is 1 UP, 2 DOWN, 3 LATE_FAIL, 4 COPY_SUSPECT. -/
structure VerdictMsg where
  epoch : Nat
  stroke : Nat
  kind : Nat
  worst : Nat
  kinds : List Nat
  blocks : Nat
  members : Nat
  nfail : Nat
  uncovered : Nat
  checks : Nat
  chips : List Nat
  deriving DecidableEq, Repr

/-- TALLY_UP (kind 1) and TALLY_TOTAL (kind 2) (R177). -/
structure TallyMsg where
  epoch : Nat
  kind : Nat
  coll : Nat
  step : Nat
  first : Nat
  digests : List Nat
  count : Nat
  sat : Nat
  expD : Nat
  deriving DecidableEq, Repr

/-- XPORT (R177). -/
structure XportMsg where
  epoch : Nat
  coll : Nat
  step : Nat
  hostLink : Nat
  seq : Nat
  sender : Nat
  digest : Nat
  elems : Nat
  deriving DecidableEq, Repr

/-- SHARD (kind 4) and VOTE_RESULT (kind 6) (R177), with SRC of its flit. -/
structure ShardMsg where
  epoch : Nat
  kind : Nat
  group : Nat
  step : Nat
  member : Nat
  outcome : Nat
  shard : Nat
  reporting : Nat
  digest : Nat
  holding : Nat
  src : Nat
  deriving DecidableEq, Repr

/-- Exponent proposal (kind 1) or agreed vector (kind 2) (R108). -/
structure ExpMsg where
  epoch : Nat
  coll : Nat
  step : Nat
  first : Nat
  kind : Nat
  exps : List Int
  deriving DecidableEq, Repr

/-- The 64 bytes of a copy descriptor, field by field (R152); `crcOk` says that its CRC is right. -/
structure CopyDesc where
  kind : Nat
  opc : Nat
  subop : Nat
  fmtAB : Nat
  fmtCD : Nat
  flags : Nat
  node : Nat
  stroke : Nat
  piece : Nat
  m : Nat
  n : Nat
  k : Nat
  j0 : Nat
  jn : Nat
  seq : Nat
  src : Nat
  layer : Nat
  oper : Nat
  phase : Nat
  crcOk : Bool
  deriving DecidableEq, Repr

/-- A fragment of a record, a CENSUS summary or a cube census (R316). -/
structure RecFrag where
  rseq : Nat
  frag : Nat
  nfrag : Nat
  kind : Nat
  urgent : Bool
  data : List Byte
  deriving DecidableEq, Repr

/-- The CENSUS summary of one chip (R78, R308). -/
structure CensusSummary where
  chip : Nat
  digest : List Byte
  ready : Bool
  deriving DecidableEq, Repr

/-- A message of the Watch mesh, by its payload (R295). -/
inductive Msg where
  | alarm (a : AlarmMsg)
  | marker (m : Marker)
  | heartbeat (h : Heart)
  | verdict (v : VerdictMsg)
  | tally (t : TallyMsg)
  | xport (x : XportMsg)
  | shard (v : ShardMsg)
  | exps (e : ExpMsg)
  | peerReq (reqId origin chunks : Nat) (d : CopyDesc)
  | peerData (reqId chunk : Nat) (last : Bool) (data : List Byte)
  | peerResp (reqId status bytes digest : Nat)
  | chunk (item index frag : Nat) (data : List Byte)
  | record (f : RecFrag)
  | census (c : CensusSummary)
  | cubeCensus (chips unlike silent notReady : List Nat)
  deriving DecidableEq, Repr

/-- A data flit (R295): the header fields the receiver acts on, the result of its CRC and tag checks, and its message. -/
structure Flit where
  cls : Nat
  mode : Nat
  bypass : Bool
  dest : Nat
  ttl : Nat
  src : Nat
  epoch : Nat
  lseq : Nat
  ack : Nat
  msg : Msg
  deriving DecidableEq, Repr

/-- A HELLO step (R293). -/
structure Hello where
  major : Nat
  minor : Nat
  chip : Nat
  device : Nat
  lanes : Nat
  role : Nat
  linkIdx : Nat
  nonce : List Byte
  deriving DecidableEq, Repr

/-- What the host signals show at a stroke tick (R34, R216, R418, R422): ports without a clock edge in the stroke that
ends, ports whose clock was stretched in it, and the canary slack sampled at each port. -/
structure TickSignals where
  noEdge : List Nat
  stretched : List Nat
  slack : List (Nat × Nat)
  temps : List (Nat × Nat)
  deriving DecidableEq, Repr

/-- One count as an audit in Guard read it (R378): the row of R378 counted from 1, the link or slot and the class or channel
it concerns, the count expected and the count found. -/
structure AuditReading where
  row : Nat
  unit : Nat
  sub : Nat
  expected : Nat
  found : Nat
  deriving DecidableEq, Repr

/-- What a sentinel port shows at attach (R76, R127, R418). -/
structure PortAttach where
  port : Nat
  ok : Bool
  channels : Nat
  canary : Bool
  deriving DecidableEq, Repr

/-- What a copy group presents at the end of a piece (R155): the contract result, or, from a faulty unit, other bytes; or that a
chunk of the capture failed its CRC when it was staged, so that nothing ran (R150). -/
inductive GroupResult where
  | contract
  | faulty (bytes : List Byte)
  | ringCrc
  deriving DecidableEq, Repr

/-- How one run of a slice ended (R206, R209, R210, R213). -/
inductive RunEnd where
  | ran (observed : Nat) (injMissed : Bool)
  | overBudget
  deriving DecidableEq, Repr

/-- One command of the block: a row of spec/opcode_table.json. -/
inductive Instr where
  /-- COLD_RESET_ASSERT (R375): `n` is how many buffered records the RECORD domain commits in the 10 ms it has. -/
  | coldResetAssert (n : Nat)
  | coldResetDeassert (straps : Straps)
  | bringupRom (storeOk : Bool) (keyStoreOk : Bool) (zeroFail : List Nat)
  | firmwareImageCheck (src : Nat) (img : List Byte)
  | firmwareLoadGo (a : Access) (v : Word)
  | bringupStepTimeout
  | sentinelAttach (ports : List PortAttach)
  | censusStart
  | censusComplete
  | clockLoss
  | coreClockReturn
  | coreReset (a : Access) (v : Word)
  | controlReset (a : Access) (v : Word)
  | domainResetDone (domain : Nat)
  | lockstepMismatch (domain : Nat)
  | wardenWatchdog
  | powerEstimate (est : Nat)
  | grantStrobe (grant : Nat)
  | devkey (a : Access) (v : Word)
  | provision (a : Access) (v : Word) (blk : MemRead)
  | lifecycleReturn (a : Access) (v : Word) (blk : MemRead)
  | serial (a : Access) (v : Word) (blk : MemRead)
  | revoke (a : Access) (v : Word) (blk : MemRead)
  | otpAccessDone (err : Bool) (zeroFail : List Nat)
  | strokeTick (sig : TickSignals)
  | judgePhase (undelivered : List Nat)
  | publishPhase
  | guardPhase (audits : List AuditReading)
  | strokeMarker (link : Nat) (m : Marker) (now : Nat) (residence : Nat)
  | missingMarker
  | pinEdge (now : Nat)
  | heartbeat (link : Nat) (h : Heart) (now : Nat)
  | strokeEnable (a : Access) (v : Word)
  | strokeLock (a : Access) (v : Word)
  | periodWrite (a : Access) (v : Word)
  | strokeConflictRepeat
  | gndLoadGo (a : Access) (v : Word)
  | groundImageCheck (src : Nat) (img : List Byte)
  | groundSourceTimeout
  | nodeAbsent (node : Nat)
  | censusSummary (c : CensusSummary)
  | cubeCensusTimeout
  | deputyTimeout
  | tileClockStop (port : Nat)
  | tileClockStart (port : Nat)
  | residueOutcome (port chan : Nat) (r : ResidueReport)
  | residueCountClose (port : Nat)
  | residueInject (a : Access) (node : Nat)
  | forceDualWrite (a : Access) (node : Nat) (on : Bool)
  | rlStatusClear (a : Access) (node : Nat) (v : Word)
  | commandTag (port : Nat) (t : TagCmd)
  | tapBeat (port : Nat) (b : TapBeat)
  | cmdDone (port cslot : Nat)
  | duplexRefuse (port cslot : Nat)
  | duplexMissing (idx : Nat)
  | captureTooLong (cap : Nat)
  | pieceComplete (cap piece : Nat) (r : GroupResult)
  | backlogDrop (cap piece : Nat)
  | canaryDue (unit : Nat)
  | canaryComplete (unit : Nat) (failKernel : Option Nat)
  | canaryRun (a : Access) (v : Word)
  | cpyStoreWrite (a : Access) (v : Word)
  | cpyLock (a : Access) (v : Word)
  | peerReq (link reqId origin chunks : Nat) (d : CopyDesc)
  | peerData (link reqId chunk : Nat) (last : Bool) (data : List Byte)
  | peerResp (link reqId status bytes digest : Nat)
  | peerTimeout (reqId : Nat)
  | copySuspect (link : Nat) (v : VerdictMsg)
  | tapHeader (tap : Nat) (h : FtHeader)
  | tapData (tap stream offset count : Nat) (data : List Byte)
  | streamTimeout (tap stream : Nat)
  | tallyUp (link : Nat) (t : TallyMsg)
  | tallyRelayTimeout (coll step seg : Nat)
  | tallyTotal (link : Nat) (t : TallyMsg)
  | tallyTotalTimeout (coll step seg : Nat)
  | exponentProposal (link : Nat) (e : ExpMsg)
  | exponentAgreed (link : Nat) (e : ExpMsg)
  | xport (x : XportMsg)
  | xportTimeout (coll step hostLink seq : Nat)
  | stepMark (a : Access) (v : Word)
  | varnish (a : Access) (v : Word) (blk manifest : MemRead)
  | varnishCommitted (slot : Nat) (writeOk : Bool)
  | varnishTimeout (slot : Nat)
  | restore (a : Access) (v : Word) (blk rec : MemRead)
  | restoreShardTimeout (slot : Nat)
  | replLoad (a : Access) (v : Word) (table : MemRead)
  | shard (v : ShardMsg)
  | voteTimeout (group shard step : Nat)
  | voteResult (v : ShardMsg)
  | holdOpen
  | sliceGrant (port : Nat)
  | grantTimeout
  | sliceEligible (port : Nat)
  | holdLimit
  | sliceRunComplete (r : RunEnd)
  | sliceBudgetExpiry
  | witnessGrantTimeout
  | mbistRestore (saveCrc readCrc : Nat)
  | stressAck (mv : Int) (freq : Nat)
  | stressTimeout
  | heatReached (rise : Nat)
  | heatLimit
  | scrRun (a : Access) (v : Word)
  | analogDue (entry : Nat)
  | testPortAck (rdata : Nat)
  | testPortTimeout
  | trimRecommend (port : Nat)
  | deepTestAccess
  | verdictUp (link : Nat) (bypass : Bool) (v : VerdictMsg)
  | verdictRelayTimeout (epoch stroke : Nat)
  | verdictDown (link : Nat) (v : VerdictMsg)
  | horizonMiss (epoch stroke : Nat)
  | verdictLost (epoch stroke : Nat)
  | lateFail (link : Nat) (v : VerdictMsg)
  | blastRecord (idx : Nat) (revised : Bool)
  | quarantine (a : Access) (v : Word)
  | duplexDirectedExpiry (port : Nat)
  | progressInc (port n : Nat)
  | progressRebind (port n ctx : Nat) (active : Bool)
  | teardown (a : Access) (v : Word)
  | teardownPart (a : Access) (v : Word)
  | fenceDone (port : Nat) (err : Bool)
  | fabricFenceDone (err : Bool)
  | fenceTimeout (port : Nat)
  | lateArrival (port : Option Nat)
  | ladderL2 (a : Access) (v : Word)
  | ladderL3 (a : Access) (v : Word)
  | ladderL4 (a : Access) (v : Word)
  | ladderL5 (a : Access) (v : Word)
  | engineResetAck (port : Nat)
  | pmResetAck
  | ladderLevelTimeout (idx : Nat)
  | trCycleRequest
  | powerCycleTimeout
  | join (a : Access) (v : Word) (blk : MemRead)
  | leave (a : Access) (v : Word) (blk : MemRead)
  | joinStroke (part : Nat)
  | leaveStroke (part : Nat)
  | alarm (link : Nat) (m : AlarmMsg)
  | rcvAlarm (a : Access) (v : Word)
  | abortAt (epoch : Nat)
  | gateOn (a : Access) (v : Word)
  | gateStep (a : Access) (v : Word)
  | gateOff (a : Access) (v : Word)
  | stepDone (port : Nat)
  | ckptTimer (part : Nat)
  | ckptOverdue (part : Nat)
  | laneLock (lane : Nat)
  | echo (link sendTime echoed residence now : Nat)
  | hello (link : Nat) (h : Hello)
  | cert (link frag nfrag : Nat) (data : List Byte)
  | share (link : Nat) (key : List Byte)
  | proof (link : Nat) (sig : List Byte)
  | done (link : Nat) (mac : List Byte) (protectedRtt : Nat)
  | handshakeTimeout (link : Nat)
  | trainTimeout (link : Nat)
  | absentRetry (link : Nat)
  | secondLaneTimeout (link : Nat)
  | flitReceived (link lane : Nat) (crcOk tagOk : Bool) (f : Flit) (now : Nat)
  | credit (link : Nat) (returned : List Nat) (ack : Nat)
  | nack (link lseq : Nat) (returned : List Nat)
  | keyUpdate (link lseq : Nat)
  | rekey (link : Nat)
  | retryTimeout (link : Nat)
  | controlFlitTimer (link : Nat) (now : Nat)
  | heartbeatMiss (link : Nat)
  | creditWait (link cls : Nat)
  | crcWindow (link lane : Nat)
  | degradedRecovery (link : Nat)
  | broadcastChunk (link src item index : Nat) (data : List Byte)
  | broadcastStall (item : Nat)
  | wchBcast (a : Access) (v : Word) (item : MemRead)
  | routeSelect (a : Access) (v : Word)
  | routeWrite (a : Access) (v : Word)
  | recordFragment (link src : Nat) (f : RecFrag)
  | mailboxPost (a : Access) (window chan : Nat) (v : Word)
  | pop (a : Access) (window chan : Nat)
  | flush (a : Access) (window chan : Nat)
  | doorbell (a : Access) (window : Nat) (v : Word)
  | mailboxEcho (slot chan idx : Nat)
  | ledgerRead (slot chan idx : Nat) (req : MemRead)
  | counters (slot chan idx : Nat)
  | partState (slot chan idx : Nat)
  | serviceBusy (slot chan idx : Nat)
  | slotPowerOn (slot : Nat)
  | accessDenied (a : Access) (write : Bool) (addr size : Nat)
  | registerWrite (a : Access) (addr : Nat) (v : Word)
  | sealTimeout
  | rateWindow (idx : Nat)
  | recordCommit (ok : Bool)
  | unitErase (unit : Nat) (ok : Bool)
  | clear (a : Access) (v : Word) (blk : MemRead)
  | release (a : Access) (v : Word) (blk : MemRead)
  | summary
  | traceArm (a : Access) (buf : Nat) (v : Word)
  | traceTrig (a : Access) (buf : Nat) (v : Word)
  | tensorWatchWrite (a : Access) (idx : Nat) (v : Word)
  | memoryAccessDone (tag : Nat) (err : Bool)
  | memoryAccessTimeout (tag : Nat)
  | slotPowerOff (slot : Nat)
  | resetAckFall (port : Option Nat)
  | firmwareSourceTimeout
  | operatingHoursUnit
  | laneLockLoss (lane : Nat)
  deriving DecidableEq, Repr

end Sys2Proof
end

