-- ==== Sys2Proof/Decode.lean ====
section
/-!
DEFINITION. The command that a word spells by the bits of spec/opcode_table.json. Every row of that table has an empty list of
fields and no bits: the block takes events at its ports, not encoded words, so no word spells a command.
-/
namespace Sys2Proof

/-- The table gives no row any bits, so a word spells no command, whatever its length. -/
def decodeTableWord (_nbits _w : Nat) : Option Instr := none

end Sys2Proof
end

