-- ==== Sys2Proof/Machine/State.lean ====
section
/-!
DEFINITION. The state of one Dwehal block: every register, queue, buffer, counter and pin the spec gives it, as plain data,
one structure per part of the block; the ways a step can stop; and the state right after reset.
Sparse tables (`Table`) list numbered things; what an unlisted number stands for is the default value of its structure.
Stroke numbers are naturals below 2^48 (R11). Register fields keep the names of the field maps.
-/
namespace Sys2Proof.Machine

open Sys2Proof

/-! ### Build, straps, fuses and the record store -/

/-- Build-time parameters (R3, GLB_BUILD_PARAMS of R407). -/
structure Build where
  ports : Nat := 2048
  units : Nat := 32
  taps : Nat := 16
  mports : Nat := 8
  links : Nat := 8
  licensee : Nat := 0
  deriving DecidableEq, Repr

/-- The key store (R391) as the record store holds it. -/
structure KeyStore where
  podRootH : List Byte := []
  ledgerKey : List Byte := []
  linkScalar : List Byte := []
  joinKey : List Byte := []
  certChain : List Byte := []
  deriving DecidableEq, Repr

/-- One ledger record: its header (R340) and its body. -/
structure Rec where
  typ : Nat := 0
  rept : Nat := 1
  node : Nat := 0x7FF
  stroke : Nat := 0
  flags : Nat := 0
  span : Nat := 0
  ophours : Nat := 0
  pcycle : Nat := 0
  severity : Nat := 0
  seq : Nat := 0
  body : List Byte := []
  deriving DecidableEq, Repr

/-- One 64 KiB ledger unit (R352): bad units keep their place in the list. `torn` marks a record whose CRC fails after the
listed ones. -/
structure LUnit where
  idx : Nat := 0
  firstSeq : Nat := 0
  erases : Nat := 0
  written : Bool := false
  recs : List Rec := []
  torn : Bool := false
  fails : Nat := 0
  bad : Bool := false
  deriving DecidableEq, Repr

/-- One craquelure entry (R245). `unit` is 1 tile port, 2 copy unit, 3 Watch lane. -/
structure Craq where
  unit : Nat := 1
  index : Nat := 0
  state : Nat := 0
  subst : Nat := 0xFFFF
  events : Nat := 0
  trimMv : Nat := 0
  canaryMin : Nat := 0
  cause : Nat := 0
  since : Nat := 0
  hist : List Nat := []
  ophours : Nat := 0
  pcycle : Nat := 0
  total : Nat := 0
  seq : Nat := 0
  deriving DecidableEq, Repr

/-- The record store (R351) and what survives a power cycle in it. An image copy that has not been read yet is not listed; its first
read fixes it. -/
structure Nvm where
  kind : Nat := 1
  sizeMiB : Nat := 32
  readable : Bool := true
  ophours : Nat := 0
  pcycle : Nat := 0
  authCtr : Nat := 0
  clearPending : Bool := false
  groundA : Option (List Byte) := none
  groundB : Option (List Byte) := none
  fwA : Option (List Byte) := none
  fwB : Option (List Byte) := none
  keyStore : Option KeyStore := none
  craq : List Craq := []
  units : List LUnit := []
  deriving DecidableEq, Repr

/-- An OTP burn in progress (R431) and the command that waits for it. -/
structure OtpReq where
  addr : Nat := 0
  bits : Nat := 0
  op : Nat := 0
  store : Option KeyStore := none
  deriving DecidableEq, Repr

/-- Life-cycle: OTP words (R431), the unwrapped key store, PWR_LC_CMD, SCR_DEEP and the scan pin (R219, R388 to R393). -/
structure Life where
  otp : Table (BitVec 32) := []
  keys : Option KeyStore := none
  addr : Nat := 0
  result : Nat := 0
  req : Option OtpReq := none
  queue : List OtpReq := []
  keyLock : Bool := false
  scanOk : Bool := false
  zeroised : Bool := false
  zeroiseFail : Bool := false
  denied : Bool := false
  attempts : Nat := 0
  deriving DecidableEq, Repr

/-! ### Bring-up, power, clocks, resets -/

/-- Bring-up (R397), PWR_BOOT, the firmware image (R395, R396), and operating hours and power cycles as they count (R32, R33).
`tried` lists the firmware sources that have failed; `gTried` those of the ground image; `loading` is an open PWR_BOOT load;
`linksSettled` says that step 5 need not wait any more. -/
structure Boot where
  inReset : Bool := true
  stage : Nat := 1
  hours : Nat := 0
  cycles : Nat := 0
  source : Nat := 0
  err : Nat := 0
  addr : Nat := 0
  loading : Bool := false
  tried : List Nat := []
  gTried : List Nat := []
  fw : Option (List Byte) := none
  fwHash : List Byte := []
  attached : Bool := false
  linksSettled : Bool := false
  ready : Bool := false
  readyStroke : Nat := 0
  goldenTodo : List Nat := []
  analogTodo : List Nat := []
  canaryTodo : List Nat := []
  strapInvalid : List (Nat × Nat) := []
  deriving DecidableEq, Repr

/-- One running reset of the CORE (2) or CONTROL (3) domain (R376). -/
structure DomReset where
  domain : Nat := 0
  cause : Nat := 0
  row : Nat := 0
  expected : Nat := 0
  found : Nat := 0
  deriving DecidableEq, Repr

/-- Energy of one epoch on this block (R386). -/
structure EpochEnergy where
  epoch : Nat := 0
  first : Nat := 0
  start : Nat := 0
  deriving DecidableEq, Repr

/-- The power window (R381 to R387, R399) and the resets of R376. `unitFits` holds how many copy units the grant covered in the last
Judges; `energy` counts in steps of 0.5 µJ, one 0.25 W estimate of 2 µs. -/
structure Pwr where
  lock : Bool := false
  ramp : Nat := 8
  restore : Nat := 10
  forceShed : Nat := 0
  overdraw : Bool := false
  gating : Bool := false
  grantSeen : Bool := false
  grant : Nat := 36
  shedPeer : Bool := true
  shedSlices : Bool := true
  shedTw : Bool := true
  unitsServed : Nat := 0
  restorePeer : Nat := 0
  restoreSlices : Nat := 0
  restoreTw : Nat := 0
  unitFits : List Nat := []
  witness : Bool := true
  pinWitness : Bool := false
  pinEst : Nat := 0x24
  est : Nat := 0
  ests : List Nat := []
  peak : Nat := 0
  energy : Nat := 0
  selfFaults : Nat := 0
  lastSelfFault : Option Nat := none
  last : Nat := 0
  coreResets : Nat := 0
  controlResets : Nat := 0
  running : List DomReset := []
  clockLost : Bool := false
  deriving DecidableEq, Repr

/-! ### The stroke -/

/-- One entry of the phase table (R437, STK_PHASEn of R42). -/
structure PhaseEntry where
  mode : Nat := 0
  valid : Bool := false
  grains : Nat := 0
  deriving DecidableEq, Repr

/-- What one neighbour's heartbeats tell a pin-sourced block (R25). -/
structure Neighbour where
  link : Nat := 0
  agree : Nat := 0
  since : Nat := 0
  low : Bool := false
  deriving DecidableEq, Repr

/-- STK_CFG and STK_START (R42). -/
structure TickCfg where
  lock : Bool := false
  enable : Bool := false
  lead : Nat := 1
  period : Nat := 100000
  start : Nat := 0
  deriving DecidableEq, Repr

/-- The STROKE window and the follower (R9 to R42). `state` is the code of R22; `phase` is 0 Gather to 3 Guard. -/
structure Stk where
  source : Nat := 0
  state : Nat := 0
  flyRun : Nat := 0
  parent : Nat := 0
  cfgErr : Bool := false
  mismatch : Bool := false
  overrun : Nat := 0
  foreign : Nat := 0
  runt : Nat := 0
  missed : Nat := 0
  skewMax : Nat := 0
  skewLast : Int := 0
  stroke : Nat := 0
  phase : Nat := 0
  ticked : Bool := false
  sched : List (Nat × Nat) := []
  seen : List (Nat × Nat) := []
  flyTick : Bool := false
  valid4 : Nat := 0
  lastNum : Option Nat := none
  tickTime : Nat := 0
  nextTick : Nat := 0
  periods : List Nat := []
  parentSeen : Option (Nat × Nat) := none
  backupSeen : Option (Nat × Nat) := none
  conflictMaster : Bool := false
  conflictPin : Bool := false
  conflictAt : Nat := 0
  enabledAt : Nat := 0
  edgeRun : Nat := 0
  neighbours : List Neighbour := []
  linkDelay : Table Nat := []
  phases : List PhaseEntry := []
  deriving DecidableEq, Repr

/-! ### Ground image -/

/-- The POD section (R437). -/
structure PodSec where
  period : Nat := 100000
  lead : Nat := 1
  pinSourced : Bool := false
  logicalCount : Nat := 0
  master : Nat := 0x1FFFF
  hopsUp : Nat := 0
  hopsDown : Nat := 0
  fibreUp : Nat := 0
  fibreDown : Nat := 0
  cross : Nat := 0
  tunnelEnd : Nat := 0
  deriving DecidableEq, Repr

/-- The POLICY section (R69, R437). -/
structure Policy where
  hangW : Nat := 20
  sliceBudget : Nat := 50
  suspectEvents : Nat := 2
  suspectWindow : Nat := 1000000
  testFactor : Nat := 8
  marginMv : Nat := 30
  ladderMax : Nat := 4
  ckptTrigger : Nat := 0
  ckptInterval : Nat := 6000000
  lendEnable : Bool := true
  deriving DecidableEq, Repr

/-- One GOLDEN entry (R68) with what census made of it (R199). -/
structure Golden where
  typ : Nat := 0
  kind : Nat := 1
  pattern : Nat := 0
  seed : Nat := 0
  expected : Nat := 0
  enabled : Bool := true
  reference : Option Nat := none
  firstGroup : Option (Nat × Nat) := none
  deriving DecidableEq, Repr

/-- What the CHIP section says of one link (R288). -/
structure ChipLink where
  role : Nat := 0
  partner : Nat := 0x1FFFF
  asym : Nat := 0
  tunnelEnd : Nat := 0
  deriving DecidableEq, Repr

/-- One routing entry (R306). -/
structure Route where
  valid : Bool := false
  primary : Nat := 0
  altValid : Bool := false
  alt : Nat := 0
  deriving DecidableEq, Repr

/-- The CHIP section (R53, R288). -/
structure ChipSec where
  chip : Nat := 0
  parentLink : Nat := 0
  backups : List Nat := []
  links : List ChipLink := []
  warden : Nat := 0x1FFFF
  deputy : Nat := 0x1FFFF
  pfmPrimary : Nat := 0x1FFFF
  pfmSecondary : Nat := 0x1FFFF
  intra : List Route := []
  cube : List Route := []
  deriving DecidableEq, Repr

/-- One event-ring entry (R361, R362). -/
structure RingEntry where
  gen : Nat := 0
  stroke : Nat := 0
  typ : Nat := 0
  offset : Nat := 0
  node : Nat := 0
  severity : Nat := 0
  stretch : Bool := false
  flywheel : Bool := false
  forwarded : Bool := false
  detail : Nat := 0
  deriving DecidableEq, Repr

/-- An event ring (R361), newest first, with NOD_RING.EVENTS. -/
structure Ring where
  entries : List RingEntry := []
  count : Nat := 0
  deriving DecidableEq, Repr

/-- One progress counter and its hang window (R253, R255). `run` counts the latest counted strokes in which it was active
and did not move. -/
structure Prog where
  count : Nat := 0
  ctx : Nat := 0
  act : Bool := false
  actNow : Bool := false
  actLast : Bool := false
  moved : Bool := false
  run : Nat := 0
  lastMove : Nat := 0
  hung : Bool := false
  deriving DecidableEq, Repr

/-- A used assembly (R54) and what it presents (R47). -/
structure Asm where
  parent : Nat := 0x7FF
  children : List Nat := []
  lend : Bool := false
  borrow : Bool := false
  absent : Bool := false
  forceDual : Bool := false
  prog : List Prog := []
  ring : Ring := {}
  deriving DecidableEq, Repr

/-- GND_TILEp and the TILEMAP entry behind it (R55, R80). `state` is the code of GND_TILEp.STATE. -/
structure Tile where
  mapState : Nat := 2
  mapLogical : Nat := 0
  state : Nat := 2
  typ : Nat := 0
  part : Nat := 0
  logical : Nat := 0
  parent : Nat := 0
  host : Nat := 0
  deriving DecidableEq, Repr

/-- A logical number that waits for a spare (R246): the quarantined port that served it, the assembly that aggregated that port,
the stroke in which it became VACANT, and whether RCV_QUAR asked for it. -/
structure Vacancy where
  port : Nat := 0
  home : Nat := 0
  logical : Nat := 0
  since : Nat := 0
  manual : Bool := false
  deriving DecidableEq, Repr

/-- A substitution that takes effect at a tick (R246). -/
structure Subst where
  port : Nat := 0
  spare : Nat := 0
  home : Nat := 0
  logical : Nat := 0
  tick : Nat := 0
  deriving DecidableEq, Repr

/-- The GROUND window, the loaded image's sections, and the horizon (R38 to R40, R51 to R80). -/
structure Gnd where
  state : Nat := 0
  source : Nat := 0
  err : Nat := 0
  keySlot : Nat := 0
  attempts : Nat := 0
  serial : Nat := 0
  addr : Nat := 0
  pendingGo : Bool := false
  done : Bool := false
  pod : PodSec := {}
  policy : Policy := {}
  golden : List Golden := []
  chip : ChipSec := {}
  tree : Table Asm := []
  tiles : Table Tile := []
  vacancies : List Vacancy := []
  configDigest : List Byte := []
  h : Nat := 0
  a : Nat := 0
  dAgree : Nat := 0
  short : Bool := false
  deriving DecidableEq, Repr

/-! ### Sentinels -/

/-- Residue outcomes of one stroke (R125, R129, R130). -/
structure RlCount where
  chk : Nat := 0
  fail : Nat := 0
  skip : Nat := 0
  fdet : Nat := 0
  chan : Nat := 0
  opc : Nat := 0
  layer : Nat := 0
  oper : Nat := 0
  offset : Nat := 0
  deriving DecidableEq, Repr

/-- A check that has its verdict (R156, R222): the stroke it belongs to, its kind, the port it is counted at (`none`: node 0),
its epoch, its code and how many checks it stands for. `late` marks one that ended after the Judge of its stroke (R27). -/
structure Chk where
  stroke : Nat := 0
  kind : Nat := 0
  port : Option Nat := none
  epoch : Nat := 0
  part : Nat := 0
  code : Nat := 0
  n : Nat := 1
  late : Bool := false
  sweep : Bool := false
  opc : Nat := 0
  layer : Nat := 0
  partner : Nat := 0
  outcome : Nat := 0
  deriving DecidableEq, Repr

/-- One item of a classification's evidence (R249): kind, stroke, OPC and record body. -/
structure Evid where
  kind : Nat := 0
  stroke : Nat := 0
  opc : Nat := 0
  body : List Byte := []
  deriving DecidableEq, Repr

/-- A command in a command slot of a port (R420). `resp` is SP_TAG_RSP. -/
structure CmdSlot where
  tag : TagCmd
  stroke : Nat := 0
  resp : Nat := 0
  partner : Nat := 0
  capture : Option Nat := none
  dupIdx : Option Nat := none
  deriving DecidableEq, Repr

/-- The fence port of a sentinel, or of the fabric (R252, R261). -/
structure Fence where
  req : Bool := false
  op : Nat := 0
  ctx : Nat := 0
  cepoch : Nat := 0
  decided : Bool := false
  teardown : Nat := 0
  since : Nat := 0
  waiting : List Nat := []
  deriving DecidableEq, Repr

/-- The touch summary being built (R230). -/
structure Touch where
  buf : Nat := 0
  coll : Nat := 0
  step : Nat := 0
  borrowed : Bool := false
  duplex : Bool := false
  stretch : Bool := false
  silent : Bool := false
  failed : Bool := false
  clean : Bool := false
  active : Bool := false
  deriving DecidableEq, Repr

/-- NOD_RL_LAST with the full stroke number (R136). -/
structure RlLast where
  stroke : Nat := 0
  opc : Nat := 0
  kind : Nat := 0
  f127 : Bool := false
  f31 : Bool := false
  pred : Nat := 0
  obs : Nat := 0
  lane : Nat := 0
  deriving DecidableEq, Repr

/-- The residue collector of a sentinel (R118 to R136). -/
structure Rl where
  channels : Nat := 0
  parity : Nat := 0
  closed : Nat := 0
  counts : Table RlCount := []
  forceDual : Bool := false
  forceDualNext : Option Bool := none
  dualActive : Bool := false
  injSeen : Bool := false
  injMissed : Bool := false
  dropped : Bool := false
  injPending : List Nat := []
  injNext : Bool := false
  checks : Nat := 0
  failStrokes : Nat := 0
  fails : Nat := 0
  skips : Nat := 0
  last : Option RlLast := none
  deriving DecidableEq, Repr

/-- The sampling state of a sentinel (R143 to R147, R158). Thresholds and partner come in three generations: in force, for the
next stroke, and for the stroke after it. -/
structure Samp where
  alloc : Nat := 0
  thetaC : Nat := 0
  thetaD : Nat := 0
  partner : Option Nat := none
  next : Option (Nat × Nat × Nat × Option Nat) := none
  sampled : Nat := 0
  duplexed : Nat := 0
  sampledLast : Nat := 0
  duplexedLast : Nat := 0
  directedUntil : Nat := 0
  deriving DecidableEq, Repr

/-- A duplex event (R243). -/
structure DupEvent where
  stroke : Nat := 0
  partner : Nat := 0
  deriving DecidableEq, Repr

/-- Health and classification of a sentinel (R239 to R243). -/
structure Health where
  code : Nat := 0
  events : List Nat := []
  total : Nat := 0
  dupEvents : List DupEvent := []
  dupWatch : List (Nat × Nat) := []
  since : Nat := 0
  cause : Nat := 0
  passes : Nat := 0
  lastEvent : Nat := 0
  persists : Bool := false
  deriving DecidableEq, Repr

/-- The slice schedule of a sentinel (R200, R205, R213, R221). -/
structure Sched where
  rot : Nat := 0
  due : Nat := 0
  lastSlice : Nat := 0
  period : Nat := 0
  nextIdx : Table Nat := []
  eligibleAt : Nat := 0
  deferrals : Nat := 0
  holdStress : Bool := false
  lastKind : Nat := 0
  lastOutcome : Nat := 0
  lastStroke : Nat := 0
  urgent : Bool := false
  held : Option (Nat × Nat) := none
  deriving DecidableEq, Repr

/-- The canary of a sentinel (R216, R217, R221). -/
structure Canary where
  wired : Bool := false
  now : Nat := 0
  readings : List Nat := []
  sum : Nat := 0
  min : Nat := 0
  hourMin : Nat := 0xFF
  samples : Nat := 0
  below : Nat := 0
  trimMv : Nat := 0
  lastTrim : Option Nat := none
  trimWaits : Bool := false
  exhausted : Bool := false
  deriving DecidableEq, Repr

/-- The sentinel on one port. -/
structure Sentinel where
  attached : Bool := false
  failed : Bool := false
  clkStop : Bool := false
  stopSince : Nat := 0
  stretch : Bool := false
  restarted : Bool := false
  silent : Bool := false
  idle : Bool := false
  inReset : Bool := false
  level : Nat := 0
  lastAction : Nat := 0
  late : Nat := 0
  temp : Nat := 0xFF
  rl : Rl := {}
  cmds : Table CmdSlot := []
  phases : List Nat := []
  phasesPrev : List Nat := []
  samp : Samp := {}
  touch : Touch := {}
  prog : List Prog := []
  fence : Fence := {}
  rstReq : Bool := false
  rstAckHigh : Bool := false
  health : Health := {}
  sched : Sched := {}
  canary : Canary := {}
  evid : List Evid := []
  ring : Ring := {}
  deriving DecidableEq, Repr

/-! ### Partitions and epochs -/

/-- One partition (R56, R66, R273). `state` is RCV_PART_EPOCHk.STATE. -/
structure Part where
  valid : Bool := false
  owner : Nat := 0
  first : Nat := 0
  count : Nat := 0
  roots : List Nat := []
  state : Nat := 0
  epoch : Nat := 0
  pending : Option (Nat × Nat) := none
  leaveAt : Option Nat := none
  heldNext : Bool := false
  joined : Nat := 0
  phase : Nat := 0
  phaseNext : List (Nat × Nat) := []
  timer : Bool := false
  marks : List (Nat × Nat) := []
  firstMark : Bool := true
  lastVarnish : Option (Nat × Nat) := none
  sealed : List Nat := []
  ckptSince : Option Nat := none
  ckptDone : Bool := false
  ckptOverdue : Bool := false
  lastTrend : Option Nat := none
  budget : Nat := 0
  verifiedValid : Bool := false
  cnt : List Nat := []
  cntNow : List Nat := []
  cntPrev : List Nat := []
  tallyFails : List Nat := []
  deriving DecidableEq, Repr

/-- An epoch of which the block has a PENDING, MEMBER or ABORTING partition (R270 to R277). -/
structure Epoch where
  id : Nat := 0
  members : Nat := 1
  parent : Nat := 0xFF
  children : List Nat := []
  restore : Nat := 0
  config : List Byte := []
  seed : List Byte := []
  first : Nat := 0
  verified : Option Nat := none
  failedAt : Option Nat := none
  abortAt : Option Nat := none
  alarmSeq : Nat := 0
  missWritten : List Nat := []
  lostRaised : List Nat := []
  acted : List (Nat × Nat) := []
  deriving DecidableEq, Repr

/-- Combination of one stroke's verdicts at this block (R226, R227). -/
structure VRelay where
  epoch : Nat := 0
  stroke : Nat := 0
  own : Bool := false
  reported : List Nat := []
  acc : VerdictMsg
  sent : Bool := false
  down : Option VerdictMsg := none
  deriving DecidableEq, Repr

/-! ### The Copyist -/

/-- One copy unit (R137, R161, R162). -/
structure CUnit where
  up : Bool := false
  perm : Bool := false
  running : Bool := false
  failedOnce : Bool := false
  runNext : Bool := false
  census : Bool := false
  overran : Bool := false
  token : Bool := false
  due : Nat := 0
  deriving DecidableEq, Repr

/-- One piece of a capture (R153, R155). `state`: 0 waiting, 1 admitted, 2 judged. `run`: 1 first, 2 confirm. -/
structure Piece where
  state : Nat := 0
  run : Nat := 1
  group : Nat := 0
  firstGroup : Nat := 0
  rotated : Bool := false
  cost : Nat := 0
  j0 : Nat := 0
  jn : Nat := 0
  overran : Bool := false
  verdict : Nat := 0
  cause : Nat := 0
  mismatch : Bool := false
  firstRun : List Nat := []
  differs : Nat := 0
  firstDiff : Nat := 0
  hostBits : Nat := 0
  copyBits : Nat := 0
  diffOr : Nat := 0
  how : Nat := 0
  deriving DecidableEq, Repr

/-- One capture (R148 to R151). `state`: 0 in flight, 1 complete, 2 judged (retained). `sweep` is the sweep that
re-checks it. -/
structure Capture where
  port : Nat := 0
  tag : TagCmd
  epoch : Nat := 0
  part : Nat := 0
  accepted : Nat := 0
  stopped : Nat := 0
  last : Nat := 0
  state : Nat := 0
  ringOff : Nat := 0
  bytes : List (Nat × Nat × Byte) := []
  directed : Bool := false
  diverge : Bool := false
  landing : Nat := 0
  staged : Nat := 0
  served : Nat := 0
  pieces : List Piece := []
  sweep : Option Nat := none
  sweeping : Bool := false
  verdict : Nat := 0
  judgedAt : Nat := 0
  deriving DecidableEq, Repr

/-- A duplex check (R158 to R160). -/
structure Duplex where
  port : Nat := 0
  partner : Nat := 0
  seq : Nat := 0
  epoch : Nat := 0
  tag : TagCmd
  ownDone : Option Nat := none
  dupDone : Option Nat := none
  ownBytes : List (Nat × Nat × Byte) := []
  dupBytes : List (Nat × Nat × Byte) := []
  closed : Bool := false
  deriving DecidableEq, Repr

/-- A peer check this block sent (R163 to R165). -/
structure PeerOut where
  reqId : Nat := 0
  link : Nat := 0
  chip : Nat := 0
  sent : Nat := 0
  epoch : Nat := 0
  stroke : Nat := 0
  capture : Nat := 0
  piece : Nat := 0
  digest : Nat := 0
  busy : Nat := 0
  tie : Option (Nat × Nat) := none
  waiting : Bool := true
  deriving DecidableEq, Repr

/-- A peer request this block serves (R164). `epoch` is an epoch the origin is known to share. -/
structure PeerIn where
  reqId : Nat := 0
  origin : Nat := 0
  link : Nat := 0
  chunks : Nat := 0
  got : Nat := 0
  desc : CopyDesc
  data : List Byte := []
  state : Nat := 0
  group : Nat := 0
  tokens : Nat := 0
  overran : Bool := false
  deriving DecidableEq, Repr

/-- CPY_CFG's fields (R166). -/
structure CpyCfg where
  peerServeMax : Nat := 4
  canaryPeriod : Nat := 1000
  dirShare : Nat := 2
  dpxEn : Bool := false
  peerEn : Bool := true
  deriving DecidableEq, Repr

/-- A budget (R142) in 1/256 grain, the capacity Cs it was split by, the correction factor in 1/64 (R147), and the stroke to which
it applies. -/
structure Budget where
  b : Nat := 0
  gc : Nat := 0
  gd : Nat := 0
  gu : Nat := 0
  dir : Nat := 0
  cs : Nat := 0
  f : Nat := 64
  stroke : Nat := 0
  deriving DecidableEq, Repr

/-- The Copyist (R137 to R167). `budget` is the one computed last; `inForce` and `past` are those of the running stroke and of the
stroke before it. Costs are in FP8-equivalent FLOP. -/
structure Cpy where
  lock : Bool := false
  cfg : CpyCfg := {}
  eff : CpyCfg := {}
  cfgErr : Bool := false
  landing : Nat := 512
  staging : Nat := 1472
  service : Nat := 64
  heldLanding : Nat := 0
  heldStaging : Nat := 0
  heldService : Nat := 0
  ringBase : Nat := 0
  ringSize : Nat := 0
  hostRate : Nat := 0
  units : Table CUnit := []
  noCapacity : Bool := false
  budget : Budget := {}
  inForce : Budget := {}
  past : Budget := {}
  xPrev : Nat := 0
  costNow : Nat := 0
  lastCost : Nat := 0
  costs : List Nat := []
  captures : Table Capture := []
  nextCap : Nat := 0
  ringHead : Nat := 0
  backlog : Nat := 0
  duplexes : Table Duplex := []
  nextDup : Nat := 0
  peerOut : List PeerOut := []
  peerIn : List PeerIn := []
  nextReq : Nat := 0
  served : Nat := 0
  peerSent : Nat := 0
  peerServed : Nat := 0
  peerBusy : Nat := 0
  peerSplit : Nat := 0
  cFail : Nat := 0
  cLate : Nat := 0
  cUnc : Nat := 0
  cPass : Nat := 0
  disagreeNow : Nat := 0
  disagree : Nat := 0
  discardNow : Nat := 0
  discarded : Nat := 0
  canaryRuns : Nat := 0
  canaryFails : Nat := 0
  deriving DecidableEq, Repr

/-! ### Digests -/

/-- Tensor-watch statistics of one stream (R367). -/
structure TwStats where
  idx : Nat := 0
  fmt : Nat := 0
  expLo : Int := -20
  count : Nat := 0
  nan : Nat := 0
  inf : Nat := 0
  finite : Nat := 0
  sum : Int := 0
  min : Option Nat := none
  max : Option Nat := none
  hist : List Nat := []
  deriving DecidableEq, Repr

/-- One open or closed digest stream (R173, R174). -/
structure Stream where
  tap : Nat := 0
  hdr : FtHeader
  epoch : Nat := 0
  opened : Nat := 0
  point : Nat := 2
  got : Nat := 0
  digest : Nat := 0
  bad : Bool := false
  mixed : Bool := false
  tw : Option TwStats := none
  deriving DecidableEq, Repr

/-- One tally entry (R176 to R180), for (COLL, STEP, SEG). -/
structure Tally where
  epoch : Nat := 0
  part : Nat := 0
  coll : Nat := 0
  step : Nat := 0
  seg : Nat := 0
  own : Bool := false
  nContrib : Nat := 0
  count : Nat := 0
  sat : Nat := 0
  digest : Nat := 0
  reported : List Nat := []
  firstAt : Nat := 0
  sent : Bool := false
  ownLate : Option (Nat × Nat) := none
  bad : Bool := false
  sum : Option (Nat × Nat) := none
  total : Option (Nat × Nat × Nat × Nat) := none
  judged : Bool := false
  deriving DecidableEq, Repr

/-- Exponent agreement of one (COLL, STEP, FIRST) (R107 to R109). -/
structure ExpAgree where
  epoch : Nat := 0
  coll : Nat := 0
  step : Nat := 0
  first : Nat := 0
  acc : List Int := []
  own : Bool := false
  reported : List Nat := []
  sent : Bool := false
  agreed : Option (List Int) := none
  incomplete : Bool := false
  deriving DecidableEq, Repr

/-- A transport check waiting for its other half (R181). -/
structure Xport where
  epoch : Nat := 0
  part : Nat := 0
  coll : Nat := 0
  step : Nat := 0
  hostLink : Nat := 0
  seq : Nat := 0
  rx : Bool := false
  closed : Option Nat := none
  digest : Nat := 0
  elems : Nat := 0
  bad : Bool := false
  msg : Option XportMsg := none
  peer : Nat := 0
  deriving DecidableEq, Repr

/-- One replica entry (R182) with its digest (R183, R184). `ready` holds steps and digests that go to the root in the next
Publish; `waits` the votes that have no result yet: step, own digest, stroke of the mark that ended the step, and a verdict that
came before that mark; `gone` the members that this root has expelled. -/
structure Repl where
  part : Nat := 0
  group : Nat := 0
  shard : Nat := 0
  n : Nat := 0
  index : Nat := 0
  root : Nat := 0
  length : Nat := 0
  kind : Nat := 1
  interval : Nat := 0
  digest : Nat := 0
  covered : Nat := 0
  bad : Bool := false
  valid : Bool := false
  every : Nat := 1
  done : Bool := false
  ready : List (Nat × Nat) := []
  waits : List (Nat × Nat × Option Nat × Option Nat) := []
  splits : List Nat := []
  expelled : Bool := false
  gone : List Nat := []
  deriving DecidableEq, Repr

/-- A replica vote at the root (R185, R186); a report is a member index, its chip and its digest. -/
structure Vote where
  epoch : Nat := 0
  part : Nat := 0
  group : Nat := 0
  shard : Nat := 0
  step : Nat := 0
  firstAt : Nat := 0
  reports : List (Nat × Nat × Nat) := []
  closed : Bool := false
  outcome : Nat := 0
  deriving DecidableEq, Repr

/-- A checkpoint shard's digest (R187, R189). -/
structure CkptShard where
  part : Nat := 0
  step : Nat := 0
  shard : Nat := 0
  covered : Nat := 0
  digest : Nat := 0
  bad : Bool := false
  read : Bool := false
  mixed : Bool := false
  deriving DecidableEq, Repr

/-- One slot's DGT_CMD (R189, R192, R195). `running` holds an engine; `waiting` waits for the Judge of R338. -/
structure DgtCmd where
  op : Nat := 0
  status : Nat := 0
  part : Nat := 0
  retrySeen : Bool := false
  detail : Nat := 0
  waiting : Bool := false
  running : Bool := false
  started : Nat := 0
  step : Nat := 0
  recAddr : Nat := 0
  manifestH : List Byte := []
  entries : List (Nat × Nat × Nat) := []
  verified : List Nat := []
  point : Nat := 0
  blk : MemRead := none
  aux : MemRead := none
  deriving DecidableEq, Repr

/-- The digest engine (R168 to R195). -/
structure Dgt where
  tallyWait : Nat := 0x40
  replWait : Nat := 0x3E8
  twFixed : Bool := false
  xportEn : Bool := true
  proto : Bool := false
  tableFull : Bool := false
  tapFull : Bool := false
  tapBytes : Nat := 0
  streams : List Stream := []
  tally : List Tally := []
  exps : List ExpAgree := []
  xports : List Xport := []
  repl : List Repl := []
  staged : List (Nat × List Repl) := []
  votes : List Vote := []
  shards : List CkptShard := []
  cmds : Table DgtCmd := []
  twClosed : List Stream := []
  tallyFail : Nat := 0
  tallyVoid : Nat := 0
  xportFail : Nat := 0
  replExpel : Nat := 0
  replSplit : Nat := 0
  deriving DecidableEq, Repr

/-! ### Field screening -/

/-- SCR_CFG (R220). -/
structure ScrCfg where
  trimThresh : Nat := 0x0C
  trimEn : Bool := true
  analogEn : Bool := true
  heatEn : Bool := true
  slicesEn : Bool := true
  marginFreq : Nat := 4
  heatDelta : Nat := 10
  heatMax : Nat := 100
  grantWait : Nat := 16
  stressWait : Nat := 100
  deriving DecidableEq, Repr

/-- An on-demand slice (R202). -/
structure OnDemand where
  port : Nat := 0
  kind : Nat := 0
  pattern : Nat := 0xFFFF
  retest : Bool := false
  issued : Nat := 0
  deferred : Bool := false
  deriving DecidableEq, Repr

/-- The open hold (R201 to R215). `stage` is SCR_STATUS.STAGE; `run` is 0 stressed, 1 first nominal, 2 repeat, 3 witness;
`awaiting` is 1 for a stress answer and 2 for a nominal one; `dirty` says that the MBIST segment waits for its restore, and
`march` keeps the result of the march until then; `ending` is the outcome and cause that wait for the restore or for nominal
conditions. -/
structure Hold where
  port : Nat := 0
  kind : Nat := 0
  entry : Nat := 0
  od : Option OnDemand := none
  rotates : Bool := true
  stage : Nat := 1
  run : Nat := 1
  opened : Nat := 0
  granted : Option Nat := none
  setup : Bool := true
  heated : Bool := false
  heatAt : Nat := 0
  tempAt : Nat := 0xFF
  heaters : List Nat := []
  awaiting : Nat := 0
  stressAt : Nat := 0
  askMv : Int := 0
  askFreq : Nat := 0
  onStress : Bool := false
  appMv : Int := 0
  appFreq : Nat := 0
  tempRise : Nat := 0
  stressedFail : Bool := false
  ran : Bool := false
  injMissed : Bool := false
  stretched : Bool := false
  observed : Option Nat := none
  firstStroke : Option Nat := none
  witness : Option Nat := none
  witnessAt : Nat := 0
  witnessGranted : Bool := false
  dirty : Bool := false
  march : Option (Bool × Nat) := none
  second : Bool := false
  ending : Option (Nat × Nat) := none
  deriving DecidableEq, Repr

/-- A slice outcome that Judge has not classified yet (R210, R240, R241). -/
structure SliceEnd where
  port : Nat := 0
  kind : Nat := 0
  opc : Nat := 0
  outcome : Nat := 0
  stroke : Nat := 0
  mv : Int := 0
  freq : Nat := 0
  rise : Nat := 0
  body : List Byte := []
  deriving DecidableEq, Repr

/-- One ANALOG entry's run (R203, R429). `reg` is the register whose access is open; 4 stands for the write that ends loop-back. -/
structure Analog where
  entry : Nat := 0
  reg : Nat := 0
  height : Nat := 0
  width : Nat := 0
  errs : Nat := 0
  loopback : Bool := false
  deriving DecidableEq, Repr

/-- Field screening (R196 to R221). -/
structure Scr where
  cfg : ScrCfg := {}
  eff : ScrCfg := {}
  queue : List OnDemand := []
  waiting : List OnDemand := []
  hold : Option Hold := none
  ended : List SliceEnd := []
  result : Nat := 0
  pass : Nat := 0
  fail : Nat := 0
  uncovered : Nat := 0
  deferred : Nat := 0
  trimNode : Nat := 0
  trimStep : Nat := 0
  trimTotal : Nat := 0
  trimCount : Nat := 0
  analog : Option Analog := none
  analogLast : Table Nat := []
  analogTodo : List Nat := []
  runEntry : Option Nat := none
  deriving DecidableEq, Repr

/-! ### Verdicts, taint, recovery -/

/-- A FAIL whose blast radius is being computed (R233 to R236). -/
structure Blast where
  port : Nat := 0
  part : Nat := 0
  epoch : Nat := 0
  kind : Nat := 0
  f : Nat := 0
  a : Nat := 0
  truncated : Bool := false
  written : Bool := false
  peers : Bool := false
  q : Option Nat := none
  revise : Bool := false
  deriving DecidableEq, Repr

/-- A pentimento sweep (R237). -/
structure Sweep where
  port : Nat := 0
  part : Nat := 0
  epoch : Nat := 0
  f : Nat := 0
  blast : Nat := 0
  opened : Bool := false
  caps : List Nat := []
  swept : Nat := 0
  failed : Nat := 0
  unc : Nat := 0
  onset : Option Nat := none
  oldest : Option Nat := none
  atMax : Bool := false
  deriving DecidableEq, Repr

/-- A context (R257, R258). `state` is RCV_CTXc.STATE. -/
structure Ctx where
  state : Nat := 0
  parts : List Nat := []
  ports : List Nat := []
  cepoch : Nat := 0
  deriving DecidableEq, Repr

/-- A running teardown (R259 to R261). `cause` is the ALARM cause it started with; `fromFence` marks RCV_FENCE. -/
structure Teardown where
  id : Nat := 0
  whole : Bool := false
  ctx : Nat := 0
  parts : List Nat := []
  ctxs : List Nat := []
  ports : List Nat := []
  fabric : Bool := false
  start : Nat := 0
  cause : Nat := 0
  fromFence : Bool := false
  escalated : Bool := false
  deriving DecidableEq, Repr

/-- A running ladder level (R263 to R267). -/
structure Ladder where
  id : Nat := 0
  level : Nat := 2
  port : Nat := 0x7FF
  part : Nat := 0xFF
  cause : Nat := 0
  fromReg : Bool := false
  start : Nat := 0
  sampled : Nat := 0
  superseded : Bool := false
  waiting : Bool := false
  deriving DecidableEq, Repr

/-- RCV_CFG (R285). -/
structure RcvCfg where
  sampleEn : Bool := true
  trendMin : Nat := 2
  scrOffset : Nat := 0
  ckptSteps : Nat := 0
  deriving DecidableEq, Repr

/-- A step gate (R284): its tiles, those whose fence port is not free yet, those that have not answered the GATE request, and
those with a released command. -/
structure Gate where
  ctx : Nat := 0
  ports : List Nat := []
  waits : List Nat := []
  holding : List Nat := []
  stepping : List Nat := []
  steps : Nat := 0
  deriving DecidableEq, Repr

/-- The taint store (R230 to R232). -/
structure Taint where
  rows : Table (Table Touch) := []
  spillBase : Nat := 0
  spillSize : Nat := 0
  lock : Bool := false
  sweepEn : Bool := true
  span : Nat := 0x2710
  max : Nat := 0x100
  spillErr : Bool := false
  paused : Bool := false
  pausedSince : Nat := 0
  waiting : List Nat := []
  spilled : Table (Table Touch) := []
  lostRows : List Nat := []
  deriving DecidableEq, Repr

/-- A quarantine that waits for the open hold of its port (R208), with the slice that caused it. -/
structure QuarWait where
  port : Nat := 0
  cause : Nat := 0
  slice : SliceEnd := {}
  deriving DecidableEq, Repr

/-- The RECOVERY window and what runs behind it (R222 to R286). -/
structure Rcv where
  lock : Bool := false
  cfg : RcvCfg := {}
  eff : RcvCfg := {}
  ladderResult : Nat := 0
  fenceResult : Nat := 0
  joinAddr : Nat := 0
  joinResult : Nat := 0
  joinDone : Option Nat := none
  alarmCause : Nat := 0
  alarmAbort : Nat := 0
  ckpt : Nat := 0
  gateResult : Nat := 0
  gateSteps : Nat := 0
  gates : List Gate := []
  scratchBase : Nat := 0
  hangs : Nat := 0
  teardownsDone : Nat := 0
  resets : Nat := 0
  late : Nat := 0
  ctxs : Table Ctx := []
  teardowns : List Teardown := []
  nextId : Nat := 0
  fabric : Fence := {}
  ladders : List Ladder := []
  pmReq : Option Nat := none
  pmAckHigh : Bool := false
  cycleReq : Bool := false
  cycleAt : Option Nat := none
  left : List Nat := []
  blasts : List Blast := []
  sweeps : List Sweep := []
  blastA : Nat := 0
  quarResult : Nat := 0
  quarWaits : List QuarWait := []
  substs : List Subst := []
  relays : List VRelay := []
  fails84 : List (Nat × Nat × Nat × Nat) := []
  suspects84 : List (Nat × Nat × Nat) := []
  tainted : List (Nat × Nat × Nat × Nat) := []
  deriving DecidableEq, Repr

/-! ### Watch -/

/-- The handshake of a link (R293). `step` counts from 0 (waiting for HELLO) to 5 (done). -/
structure Shake where
  step : Nat := 0
  major : Nat := 4
  chip : Nat := 0
  device : Nat := 0
  lanes : Nat := 0
  role : Nat := 0xFF
  hello : List Byte := []
  ownHello : List Byte := []
  cert : List Byte := []
  frags : Nat := 0
  share : List Byte := []
  ownShare : List Byte := []
  proof : List Byte := []
  secret : Nat := 0
  fails : Nat := 0
  deriving DecidableEq, Repr

/-- WCH_ERRn (R317). -/
structure LinkErr where
  crc : Nat := 0
  retry : Nat := 0
  tag : Nat := 0
  creditTo : Nat := 0
  epoch : Nat := 0
  ttl : Nat := 0
  unreach : Nat := 0
  lost : Nat := 0
  deriving DecidableEq, Repr

/-- One Watch link (R287 to R313). `state` is the code of R290. Credits of class c are entry c. Entry c of `passed` counts the
flits of other classes sent while class c had a queued flit and a credit, since class c last sent (R300). -/
structure Link where
  state : Nat := 0
  lanes : List Nat := []
  lockAt : Nat := 0
  width : Nat := 0
  lanesBad : Nat := 0
  role : Nat := 0
  expected : Nat := 0x1FFFF
  asym : Nat := 0
  fallback : Bool := false
  cfgMismatch : Bool := false
  mismatchAt : Option Nat := none
  cause : Nat := 0
  partner : Nat := 0
  trains : Nat := 0
  since : Nat := 0
  err : LinkErr := {}
  good : Nat := 0
  rtts : List Nat := []
  measured : Bool := false
  shake : Shake := {}
  reserved : List Nat := []
  shared : Nat := 0
  borrowed : List Nat := []
  outstanding : List Nat := []
  returned : List Nat := []
  consumed : List Nat := []
  queue : List Flit := []
  passed : List Nat := []
  retry : List Flit := []
  txSeq : Nat := 0
  rxSeq : Nat := 0
  replays : Nat := 0
  txKeyGen : Nat := 0
  rxKeyGen : Nat := 0
  txKey : List Byte := []
  rxKey : List Byte := []
  rekeyAt : Option Nat := none
  txSince : Nat := 0
  sinceControl : Nat := 0
  nackAt : Option Nat := none
  hbMissed : Nat := 0
  hbSeen : Bool := false
  hbStroke : Nat := 0
  hbRtts : List Nat := []
  hbTx : List (Nat × Nat) := []
  hbEpochs : List Nat := []
  slowAt : Nat := 0
  crcWin : List Nat := []
  crcWinNo : Nat := 0
  tunnelBase : Nat := 0
  deriving DecidableEq, Repr

/-- WCH_CFG (R317). -/
structure WchCfg where
  crcMax : Nat := 0x40
  creditWait : Nat := 0x14
  hbMiss : Nat := 0x10
  trainWait : Nat := 0x3E8
  ttl : Nat := 0x40
  linkEn : Nat := 0
  deriving DecidableEq, Repr

/-- A broadcast item in progress (R315). -/
structure Bcast where
  item : Nat := 0
  typ : Nat := 0
  target : Nat := 0
  length : Nat := 0
  chunks : Nat := 0
  got : Nat := 0
  next : List Byte := []
  data : List Byte := []
  lastAt : Nat := 0
  deriving DecidableEq, Repr

/-- The fragments of one broadcast chunk that have come on a link (R314). -/
structure ChunkBuf where
  link : Nat := 0
  item : Nat := 0
  index : Nat := 0
  got : Nat := 0
  data : List Byte := []
  deriving DecidableEq, Repr

/-- The Watch mesh end of the block (R287 to R317). `assembled` holds the types and the bytes of complete items that bring-up has
not used yet. -/
structure Wch where
  lock : Bool := false
  cfg : WchCfg := {}
  eff : WchCfg := {}
  links : Table Link := []
  warden : Nat := 0
  chip : Nat := 0
  bypass : Nat := 0
  bypassNow : Nat := 0
  intra : Table Route := []
  cube : Table Route := []
  routeNext : List (Bool × Nat × Route) := []
  selTable : Bool := false
  selIndex : Nat := 0
  sel : Route := {}
  bcastAddr : Nat := 0
  bcastResult : Nat := 0
  rxBase : Nat := 0
  rxHead : Nat := 0
  rxTail : Nat := 0
  rxOverflow : Nat := 0
  alarmKeys : List (Nat × Nat × Nat × Nat) := []
  frags : List ChunkBuf := []
  items : List Bcast := []
  assembled : List (Nat × List Byte) := []
  doneItems : List Nat := []
  dropChunks : Nat := 0
  censusGot : List CensusSummary := []
  censusAt : Option Nat := none
  cubeSent : Bool := false
  cubeCopy : Bool := false
  deriving DecidableEq, Repr

/-! ### Host slots -/

/-- A notice of a mailbox (R324, R326). -/
structure Notice where
  ptr : Nat := 0
  len : Nat := 0
  tag : Nat := 0
  taken : Nat := 0
  answer : Option (Nat × Nat) := none
  discard : Bool := false
  deriving DecidableEq, Repr

/-- One mailbox channel (R324 to R332). -/
structure Mbx where
  ptr : Nat := 0
  toBlock : List Notice := []
  inService : List Notice := []
  toHost : List Notice := []
  underflow : Bool := false
  flushing : Bool := false
  fullErrs : Nat := 0
  posted : Nat := 0
  deriving DecidableEq, Repr

/-- One slot window (R318 to R339). -/
structure Slot where
  irq : Nat := 0
  irqEn : Nat := 0
  wakeAll : Bool := false
  bell : Nat := 0
  apSize : List Nat := [0, 0]
  apBase : List Nat := [0, 0]
  pwrOn : Bool := false
  wakeEvent : Bool := false
  deriving DecidableEq, Repr

/-- HS_ACK, HS_ERR and HS_RDATA of the last access (R416). -/
structure Bus where
  ack : Bool := false
  err : Bool := false
  rdata : Nat := 0
  deriving DecidableEq, Repr

/-! ### Ledger -/

/-- LDG_CFG (R370). -/
structure LdgCfg where
  fwdSev : Nat := 3
  summary : Nat := 0x2710
  rateWindow : Nat := 0x400
  sealAt : Nat := 0x100
  deriving DecidableEq, Repr

/-- One key folded by rate (R347). -/
structure RateKey where
  typ : Nat := 0
  node : Nat := 0
  body0 : Nat := 0
  opened : Nat := 0
  count : Nat := 0
  first : Nat := 0
  last : Nat := 0
  body : List Byte := []
  deriving DecidableEq, Repr

/-- The pending LOSS record (R349). -/
structure Loss where
  count : Nat := 0
  cause : Nat := 0
  severity : Nat := 0
  typ : Nat := 0
  first : Nat := 0
  last : Nat := 0
  deriving DecidableEq, Repr

/-- One trace entry (R363). -/
structure TraceEntry where
  stroke : Nat := 0
  offset : Nat := 0
  source : Nat := 0
  node : Nat := 0
  typ : Nat := 0
  severity : Nat := 0
  flags : Nat := 0
  seq : Nat := 0
  data : List Byte := []
  deriving DecidableEq, Repr

/-- The RW fields of LDG_TRACEb_CFG (R370). -/
structure TraceCfg where
  subtree : Bool := false
  sources : Nat := 0
  capSev : Nat := 0
  trigSev : Nat := 0
  node : Nat := 0
  trigType : Nat := 0
  post : Nat := 0x200
  deriving DecidableEq, Repr

/-- One trace buffer (R363, R364). The ring lists the newest entry first; `next` is the place of the next entry, 1 to 2,047;
`report` holds a TRACE_FROZEN record until Publish. -/
structure Trace where
  cfg : TraceCfg := {}
  eff : TraceCfg := {}
  state : Nat := 0
  trigger : Option TraceEntry := none
  ring : List TraceEntry := []
  next : Nat := 1
  postStored : Nat := 0
  overflow : Nat := 0
  dropped : Nat := 0
  lateTrig : Nat := 0
  report : Bool := false
  deriving DecidableEq, Repr

/-- LDG_TWi (R370). -/
structure TwEntry where
  en : Bool := false
  part : Nat := 0
  format : Nat := 0
  expLo : Nat := 0xEC
  every : Nat := 0
  layer : Nat := 0
  oper : Nat := 0
  deriving DecidableEq, Repr

/-- What the SUMMARY record gathers (R360). -/
structure SumAcc where
  period : Nat := 0
  checks : Nat := 0
  fail : Nat := 0
  unc : Nat := 0
  late : Nat := 0
  gc : Nat := 0
  gd : Nat := 0
  gu : Nat := 0
  recs : Nat := 0
  deriving DecidableEq, Repr

/-- The ledger (R340 to R371). -/
structure Ldg where
  cfg : LdgCfg := {}
  eff : LdgCfg := {}
  nvmErr : Bool := false
  lastFail : Bool := false
  noStore : Bool := false
  clearing : Bool := false
  clearTodo : List Nat := []
  twErr : Bool := false
  highStroke : Nat := 0
  hasStrokes : Bool := false
  next : Nat := 0
  ext : Nat := 0
  committed : Nat := 0
  oldest : Nat := 0
  craqTodo : List Craq := []
  openRec : Option Rec := none
  openSince : Nat := 0
  buffer : List Rec := []
  loss : Loss := {}
  lost : Nat := 0
  lossCause : Nat := 0
  rates : List RateKey := []
  signedAddr : Nat := 0
  signedResult : Nat := 0
  traces : List Trace := []
  tw : Table TwEntry := []
  twEff : Table TwEntry := []
  gcnt : List Nat := []
  gNow : List Nat := []
  gPrev : List Nat := []
  acc : SumAcc := {}
  deriving DecidableEq, Repr

/-! ### Outputs and memory accesses -/

/-- A memory-port access in flight and the work that issued it (R427). -/
inductive MemWork where
  | capture (cap : Nat)
  | spill (stroke : Nat)
  | sample (port : Nat)
  | tunnel (link : Nat)
  | rxRing
  | mailbox
  deriving DecidableEq, Repr

/-- What the block drives at its ports, in the order it does so. -/
inductive Out where
  | flit (link : Nat) (f : Flit)
  | control (link ckind : Nat) (data : List Byte)
  | memWrite (addr : Nat) (secure : Bool) (bytes : List Byte)
  | memWriteLast (addr : Nat) (bytes : List Byte)
  | tagResponse (port rsp partner : Nat)
  | fence (port : Option Nat) (op ctx cepoch : Nat)
  | fenceFall (port : Option Nat)
  | stepPulse (port : Nat)
  | clobPulse (port : Nat)
  | injPulse (port : Nat)
  | sliceReq (port kind : Nat)
  | sliceFall (port : Nat)
  | resetReq (port : Nat)
  | resetFall (port : Nat)
  | pmReset (scope part : Nat)
  | pmResetFall
  | stress (tile : Nat) (mv : Int) (freq : Nat)
  | stressFall
  | trim (tile mv : Nat)
  | cycleRequest
  | otp (write : Bool) (addr bits : Nat)
  | testPort (tgt idx reg : Nat) (write : Bool) (data : Nat)
  | report (what : String)
  deriving DecidableEq, Repr

/-! ### The block -/

/-- The whole block, and the queue of commands that wait. -/
structure State where
  build : Build := {}
  straps : Straps := { strokeSrc := 0, boot := 0, mode := 0, slot0Sec := false, links := 0 }
  nvm : Nvm := {}
  life : Life := {}
  boot : Boot := {}
  pwr : Pwr := {}
  energies : List EpochEnergy := []
  tcfg : TickCfg := {}
  stk : Stk := {}
  gnd : Gnd := {}
  sents : Table Sentinel := []
  parts : Table Part := []
  epochs : List Epoch := []
  chks : List Chk := []
  judged : List Chk := []
  judgedStroke : Nat := 0
  cpy : Cpy := {}
  dgt : Dgt := {}
  scr : Scr := {}
  taint : Taint := {}
  rcv : Rcv := {}
  wch : Wch := {}
  slots : Table Slot := []
  mbxs : Table Mbx := []
  bus : Bus := {}
  ldg : Ldg := {}
  mem : Table MemWork := []
  nextTag : Nat := 0
  outs : List Out := []
  fresh : Nat := 0
  pending : List Instr := []
  deriving DecidableEq, Repr

/-- Why a step stops with a fault. -/
inductive Fault where
  /-- A command names a port, link, lane, tap, slot, copy unit or other numbered unit that the block was not built with (R3):
  no such signal exists. Raised by the guard of every command that carries such a number. Safe: the hardware has no such
  event. -/
  | notBuilt (what : String) (index : Nat)
  deriving DecidableEq, Repr

/-- Why a step refuses a command. -/
inductive Refusal where
  /-- The command has no meaning yet. Raised by exec's arms only. Safe. -/
  | notModelled (mnemonic : String)
  deriving DecidableEq, Repr

/-- The block in cold reset (R374, R375): every register at its reset value, the record store and the fuses blank, and no
command waiting. -/
def State.reset : State := {}

end Sys2Proof.Machine
end

