-- ==== Sys2Proof/Config.lean ====
section
/-!
DEFINITION. What the spec names and does not give, as constants that no proof can see into: the cryptographic functions, the
layouts that the spec leaves to Fumuif and to Henheusk's firmware, random draws, and values that the spec leaves open.
-/
namespace Sys2Proof.Config

open Sys2Proof Sys2Proof.Machine

/-- SHA-384 (R57, R74, R314). Log entry 13. -/
opaque sha384 : List Byte → List Byte

/-- ECDSA P-384: key, signature and signed message (R57, R293, R355). Log entry 13. -/
opaque ecdsaOk : List Byte → List Byte → List Byte → Bool

/-- ECDSA P-384 signature by a private scalar (R293). Log entry 13. -/
opaque ecdsaSign : List Byte → List Byte → List Byte

/-- HKDF-SHA-384: input, salt and info (R293, R390). Log entry 13. -/
opaque hkdf : List Byte → List Byte → List Byte → List Byte

/-- HMAC-SHA-384: key and message (R270, R293). Log entry 13. -/
opaque hmac : List Byte → List Byte → List Byte

/-- The x-coordinate of an ECDH P-384 exchange: private scalar and public key (R293, R390). Log entry 13. -/
opaque ecdhX : List Byte → List Byte → List Byte

/-- The P-384 public key of a private scalar (R390, R391). Log entry 13. -/
opaque publicKey : List Byte → List Byte

/-- AES-256-GCM opening: key, nonce, additional data, ciphertext and tag (R391). Log entry 13. -/
opaque gcmOpen : List Byte → List Byte → List Byte → List Byte → List Byte → Option (List Byte)

/-- What a link certificate chain names (R293): chip number, DEVICE_ID, public key and the hash of the root it ends in. -/
structure Cert where
  chip : Nat
  device : Nat
  key : List Byte
  rootHash : List Byte
  deriving DecidableEq, Repr

/-- The chain in a list of bytes, when each of its signatures verifies (R293). Log entry 13. -/
opaque certChain : List Byte → Option Cert

/-- The CHIP section of a ground image, whose layout no rule gives (R53, R288, R437). Log entry 14. -/
opaque chipSection : List Byte → Option ChipSec

/-- A random draw of `n` bytes: nonces and ephemeral scalars (R293). Log entry 15. -/
opaque draw : Nat → Nat → List Byte

/-- A number the spec leaves open, drawn afresh (see the log entries that name it). -/
opaque openValue : Nat → Nat

end Sys2Proof.Config
end

