-- ==== Sys2Proof/Machine/Bits.lean ====
section
/-!
DEFINITION. Bit fields, byte order, saturating arithmetic, the operations of sparse tables, and the two checksums that the
spec names by their public definitions: CRC-32C and SipHash-2-4.
-/
namespace Sys2Proof.Machine

open Sys2Proof

/-! ### Fields of numbers -/

/-- Bits `hi` to `lo` of a number. -/
def bitsOf (n hi lo : Nat) : Nat := n / 2 ^ lo % 2 ^ (hi + 1 - lo)

/-- Bit `i` of a number. -/
def bitOf (n i : Nat) : Bool := n / 2 ^ i % 2 == 1

/-- Bits `hi` to `lo` of a register word. -/
def fld (w : Word) (hi lo : Nat) : Nat := bitsOf w.toNat hi lo

/-- Bit `i` of a register word. -/
def fbit (w : Word) (i : Nat) : Bool := bitOf w.toNat i

/-- A Bool as a bit. -/
def b2n (b : Bool) : Nat := if b then 1 else 0

/-- A field of `width` bits placed at bit `lo` of a word. -/
def at_ (lo width v : Nat) : Nat := v % 2 ^ width * 2 ^ lo

/-- A flag placed at bit `lo`. -/
def atB (lo : Nat) (b : Bool) : Nat := if b then 2 ^ lo else 0

/-- A register word from the sum of its placed fields. -/
def word (fields : List Nat) : Word := BitVec.ofNat 64 fields.sum

/-- Sum that saturates at `max`. -/
def satAdd (max a b : Nat) : Nat := if max ≤ a + b then max else a + b

/-- Counter that saturates at all ones of its width. -/
def satInc (width a : Nat) : Nat := satAdd (2 ^ width - 1) a 1

/-- Quotient rounded up. -/
def ceilDiv (a b : Nat) : Nat := (a + b - 1) / b

/-- Set or clear bit `i` of a mask. -/
def setBit (m i : Nat) : Nat := if bitOf m i then m else m + 2 ^ i
def clearBit (m i : Nat) : Nat := if bitOf m i then m - 2 ^ i else m

/-- A mask from a list of bit numbers. -/
def maskOf (l : List Nat) : Nat := l.foldl setBit 0

/-- Bits of a mask below `n`. -/
def bitsIn (n m : Nat) : List Nat := (List.range n).filter (bitOf m)

/-- A field of `width` bits read as two's complement. -/
def signed (width n : Nat) : Int :=
  if n % 2 ^ width < 2 ^ (width - 1) then (n % 2 ^ width : Nat) else (n % 2 ^ width : Nat) - (2 ^ width : Nat)

/-- An integer as a two's complement field of `width` bits. -/
def twos (width : Nat) (i : Int) : Nat := (i % (2 ^ width : Nat)).toNat

/-- Stroke numbers and SEQ wrap at these widths (R11, R348). -/
def strokeMod : Nat := 2 ^ 48
def seqMod : Nat := 2 ^ 32

/-- SEQ comparison: `a` is at or after `b` (R348). -/
def seqGe (a b : Nat) : Bool := (a + seqMod - b % seqMod) % seqMod < 2 ^ 31

/-! ### Bytes -/

/-- The low `k` bytes of a number, lowest first. -/
def le : Nat → Nat → List Byte
  | 0, _ => []
  | k + 1, n => BitVec.ofNat 8 n :: le k (n / 256)

/-- The number that bytes spell, lowest first. -/
def fromLe : List Byte → Nat
  | [] => 0
  | b :: bs => b.toNat + 256 * fromLe bs

/-- `n` zero bytes. -/
def zeros (n : Nat) : List Byte := List.replicate n 0

/-- `len` bytes from offset `off`. -/
def slice (bs : List Byte) (off len : Nat) : List Byte := (bs.drop off).take len

/-- The little-endian number in `len` bytes from offset `off`. -/
def rd (bs : List Byte) (off len : Nat) : Nat := fromLe (slice bs off len)

/-- Every byte of a range is zero. -/
def zeroAt (bs : List Byte) (off len : Nat) : Bool := (slice bs off len).all (· == 0)

/-- Bytes cut or padded with zeros to `n`. -/
def fit (n : Nat) (bs : List Byte) : List Byte := (bs ++ zeros n).take n

/-- Bytes padded with zeros to a multiple of 4 (R341). -/
def pad4 (bs : List Byte) : List Byte := bs ++ zeros ((4 - bs.length % 4) % 4)

/-- Bytes of literal numbers. -/
def bytes (l : List Nat) : List Byte := l.map (BitVec.ofNat 8)

/-! ### Checksums -/

/-- One bit of CRC-32C, reflected (polynomial 0x82F63B78). PRESUMED: log entry 12. -/
def crcStep (c : Nat) : Nat := if c % 2 == 1 then c / 2 ^^^ 0x82F63B78 else c / 2

/-- CRC-32C of bytes (R341). PRESUMED: log entry 12. -/
def crc32c (bs : List Byte) : Nat :=
  bs.foldl (fun c b => (List.range 8).foldl (fun c _ => crcStep c) (c ^^^ b.toNat)) 0xFFFFFFFF ^^^ 0xFFFFFFFF

/-- 64-bit rotate left. -/
def rotl (x k : Nat) : Nat := (x * 2 ^ k) % 2 ^ 64 + x / 2 ^ (64 - k)

/-- The four words of SipHash. -/
structure SipState where
  a : Nat
  b : Nat
  c : Nat
  d : Nat

/-- One SipHash round. PRESUMED: log entry 12. -/
def sipRound (v : SipState) : SipState :=
  let a := (v.a + v.b) % 2 ^ 64
  let b := rotl v.b 13 ^^^ a
  let a := rotl a 32
  let c := (v.c + v.d) % 2 ^ 64
  let d := rotl v.d 16 ^^^ c
  let a := (a + d) % 2 ^ 64
  let d := rotl d 21 ^^^ a
  let c := (c + b) % 2 ^ 64
  let b := rotl b 17 ^^^ c
  let c := rotl c 32
  { a := a, b := b, c := c, d := d }

/-- SipHash-2-4 of bytes under a 16-byte key: whole words, then the tail with the length in the top byte. PRESUMED: log
entry 12. -/
def sipHash (key bs : List Byte) : Nat :=
  let k0 := rd key 0 8
  let k1 := rd key 8 8
  let v0 : SipState := { a := k0 ^^^ 0x736f6d6570736575, b := k1 ^^^ 0x646f72616e646f6d,
                         c := k0 ^^^ 0x6c7967656e657261, d := k1 ^^^ 0x7465646279746573 }
  let absorb (v : SipState) (m : Nat) : SipState :=
    let w := sipRound (sipRound { v with d := v.d ^^^ m })
    { w with a := w.a ^^^ m }
  let words := (List.range (bs.length / 8)).map (fun i => rd bs (8 * i) 8)
  let tail := rd bs (8 * (bs.length / 8)) (bs.length % 8) + bs.length % 256 * 2 ^ 56
  let v := (words ++ [tail]).foldl absorb v0
  let w := sipRound (sipRound (sipRound (sipRound { v with c := v.c ^^^ 0xFF })))
  w.a ^^^ w.b ^^^ w.c ^^^ w.d

/-! ### Sparse tables -/

/-- The entry of a number, if listed. -/
def tget {α : Type} : Table α → Nat → Option α
  | [], _ => none
  | (j, x) :: t, k => if j == k then some x else tget t k

/-- The entry of a number, or the default for an unlisted one. -/
def tgetD {α : Type} (t : Table α) (k : Nat) (d : α) : α := (tget t k).getD d

/-- Write an entry at its place. -/
def tput {α : Type} : Table α → Nat → α → Table α
  | [], k, x => [(k, x)]
  | (j, y) :: t, k, x =>
    if k < j then (k, x) :: (j, y) :: t else if j == k then (k, x) :: t else (j, y) :: tput t k x

/-- Remove an entry. -/
def tdel {α : Type} (t : Table α) (k : Nat) : Table α := t.filter (fun e => !(e.1 == k))

/-- Change an entry, from the default when unlisted. -/
def tmod {α : Type} (t : Table α) (k : Nat) (d : α) (f : α → α) : Table α := tput t k (f (tgetD t k d))

/-- Change an entry only when it is listed. -/
def tadj {α : Type} (t : Table α) (k : Nat) (f : α → α) : Table α :=
  t.map (fun e => if e.1 == k then (e.1, f e.2) else e)

/-- Change every entry. -/
def tmap {α β : Type} (t : Table α) (f : Nat → α → β) : Table β := t.map (fun e => (e.1, f e.1 e.2))

/-- The numbers listed. -/
def tkeys {α : Type} (t : Table α) : List Nat := t.map Prod.fst

/-- The numbers of the listed entries that a test admits. -/
def tfind {α : Type} (t : Table α) (p : Nat → α → Bool) : List Nat := (t.filter (fun e => p e.1 e.2)).map Prod.fst

/-- The numbers of a table rise strictly. -/
def tsorted {α : Type} : Table α → Bool
  | [] => true
  | [_] => true
  | (j, _) :: (k, y) :: t => decide (j < k) && tsorted ((k, y) :: t)

/-! ### Lists -/


/-- Change element `i` of a list with a function. -/
def lmod {α : Type} (l : List α) (i : Nat) (f : α → α) : List α := l.mapIdx (fun j x => if j == i then f x else x)

/-- Element `i`, or a default. -/
def lget {α : Type} (l : List α) (i : Nat) (d : α) : α := l.getD i d

/-- A list of `n` numbers with one raised, padded with zeros. -/
def lbump (n : Nat) (l : List Nat) (i by_ : Nat) : List Nat :=
  (List.range n).map (fun j => if j == i then lget l j 0 + by_ else lget l j 0)

/-- Add without repeating. -/
def addNew (l : List Nat) (x : Nat) : List Nat := if l.contains x then l else l ++ [x]

/-- The elements without one of them. -/
def without (l : List Nat) (x : Nat) : List Nat := l.filter (fun y => !(y == x))

/-- Insert into an ascending list without repeating. -/
def insAsc : List Nat → Nat → List Nat
  | [], x => [x]
  | y :: l, x => if x < y then x :: y :: l else if x == y then y :: l else y :: insAsc l x

/-- An ascending list without repeats. -/
def asc (l : List Nat) : List Nat := l.foldl insAsc []

/-- Insert by an ascending key, after equal keys. -/
def insBy {α : Type} (key : α → Nat) : List α → α → List α
  | [], x => [x]
  | y :: l, x => if key x < key y then x :: y :: l else y :: insBy key l x

/-- A list sorted by an ascending key, stable. -/
def sortBy {α : Type} (key : α → Nat) (l : List α) : List α := l.foldl (insBy key) []

/-- The largest of a list, or 0. -/
def maxOf (l : List Nat) : Nat := l.foldl Nat.max 0

/-- The smallest of a list, or `d`. -/
def minOf (d : Nat) : List Nat → Nat
  | [] => d
  | x :: l => l.foldl Nat.min x

end Sys2Proof.Machine
end

