-- ==== Sys2Proof/Machine/Records.lean ====
section
/-!
DEFINITION. The record types (R345, R398), by the name the spec gives each, their severities, and the event-ring codes (R361).
-/
namespace Sys2Proof.Machine

/-- A record type: its area and its index in the area (R345). -/
inductive RecType where
  | strokeStep
  | strapInvalid
  | strokeConflict
  | overrun
  | overrunAbort
  | timeBaseLost
  | phaseMixed
  | phaseUndefined
  | horizonShort
  | periodMismatch
  | nodeUnmapped
  | childSilent
  | nodeAbsent
  | groundReject
  | groundReloadDenied
  | configMismatch
  | census
  | opcUnknown
  | contractSuspect
  | tallyFallback
  | residueFail
  | copyNoRate
  | captureDrop
  | copyFail
  | copyDisagree
  | duplexRefused
  | copyUnitFail
  | copyUnitTransient
  | tapProtocol
  | tapFull
  | tallyIncomplete
  | tallyFail
  | xportFail
  | stepGap
  | rollOverlap
  | replicaExpel
  | replicaSplit
  | varnish
  | restoreReject
  | goldenSuspect
  | sliceResult
  | analogFail
  | mbistRestoreFail
  | trimRecommend
  | canaryExhausted
  | deepDenied
  | returnZeroised
  | zeroiseFail
  | horizonMiss
  | varnishTainted
  | restoreTainted
  | spillFail
  | blast
  | sweep
  | faultClass
  | suspectPersists
  | craqWriteFail
  | quarantine
  | gazapra
  | hang
  | fenceError
  | fenceTimeout
  | gateEnd
  | contextSpan
  | ladder
  | ladderExhausted
  | scratchSkip
  | alarm
  | alarmLate
  | ckptTriggerForced
  | ckptRequest
  | ckptOverdue
  | linkState
  | authFail
  | linkAbsent
  | linkSlow
  | linkFaulty
  | linkHostile
  | levelBypass
  | bcastBad
  | viewDenied
  | coldStart
  | loss
  | clear
  | signedReject
  | summary
  | traceFrozen
  | tensorWatch
  | selfFault
  | clockLoss
  | domainReset
  | shed
  | witness
  | overdraw
  | epochEnergy
  | fwReject
  | lifecycle
  | provisionReject
  deriving DecidableEq, Repr

/-- TYPE of a record (R345). -/
def recCode : RecType → Nat
  | .strokeStep => 0x0101
  | .strapInvalid => 0x0102
  | .strokeConflict => 0x0103
  | .overrun => 0x0104
  | .overrunAbort => 0x0105
  | .timeBaseLost => 0x0106
  | .phaseMixed => 0x0107
  | .phaseUndefined => 0x0108
  | .horizonShort => 0x0109
  | .periodMismatch => 0x010A
  | .nodeUnmapped => 0x0201
  | .childSilent => 0x0202
  | .nodeAbsent => 0x0203
  | .groundReject => 0x0204
  | .groundReloadDenied => 0x0205
  | .configMismatch => 0x0206
  | .census => 0x0207
  | .opcUnknown => 0x0301
  | .contractSuspect => 0x0302
  | .tallyFallback => 0x0303
  | .residueFail => 0x0304
  | .copyNoRate => 0x0401
  | .captureDrop => 0x0402
  | .copyFail => 0x0403
  | .copyDisagree => 0x0404
  | .duplexRefused => 0x0405
  | .copyUnitFail => 0x0406
  | .copyUnitTransient => 0x0407
  | .tapProtocol => 0x0501
  | .tapFull => 0x0502
  | .tallyIncomplete => 0x0503
  | .tallyFail => 0x0504
  | .xportFail => 0x0505
  | .stepGap => 0x0506
  | .rollOverlap => 0x0507
  | .replicaExpel => 0x0508
  | .replicaSplit => 0x0509
  | .varnish => 0x050A
  | .restoreReject => 0x050B
  | .goldenSuspect => 0x0601
  | .sliceResult => 0x0602
  | .analogFail => 0x0603
  | .mbistRestoreFail => 0x0604
  | .trimRecommend => 0x0605
  | .canaryExhausted => 0x0606
  | .deepDenied => 0x0607
  | .returnZeroised => 0x0608
  | .zeroiseFail => 0x0609
  | .horizonMiss => 0x0701
  | .varnishTainted => 0x0702
  | .restoreTainted => 0x0703
  | .spillFail => 0x0704
  | .blast => 0x0705
  | .sweep => 0x0706
  | .faultClass => 0x0707
  | .suspectPersists => 0x0708
  | .craqWriteFail => 0x0709
  | .quarantine => 0x070A
  | .gazapra => 0x070B
  | .hang => 0x0801
  | .fenceError => 0x0802
  | .fenceTimeout => 0x0803
  | .gateEnd => 0x0804
  | .contextSpan => 0x0805
  | .ladder => 0x0806
  | .ladderExhausted => 0x0807
  | .scratchSkip => 0x0808
  | .alarm => 0x0809
  | .alarmLate => 0x080A
  | .ckptTriggerForced => 0x080B
  | .ckptRequest => 0x080C
  | .ckptOverdue => 0x080D
  | .linkState => 0x0901
  | .authFail => 0x0902
  | .linkAbsent => 0x0903
  | .linkSlow => 0x0904
  | .linkFaulty => 0x0905
  | .linkHostile => 0x0906
  | .levelBypass => 0x0907
  | .bcastBad => 0x0908
  | .viewDenied => 0x0A01
  | .coldStart => 0x0A02
  | .loss => 0x0A03
  | .clear => 0x0A04
  | .signedReject => 0x0A05
  | .summary => 0x0A06
  | .traceFrozen => 0x0A07
  | .tensorWatch => 0x0A08
  | .selfFault => 0x0B01
  | .clockLoss => 0x0B02
  | .domainReset => 0x0B03
  | .shed => 0x0B04
  | .witness => 0x0B05
  | .overdraw => 0x0B06
  | .epochEnergy => 0x0B07
  | .fwReject => 0x0B08
  | .lifecycle => 0x0B09
  | .provisionReject => 0x0B0A

/-- SEVERITY of a record type (R345, R398). SLICE_RESULT carries 3 when its verdict is FAIL. -/
def recSev : RecType → Nat
  | .strokeStep => 2
  | .strapInvalid => 2
  | .strokeConflict => 3
  | .overrun => 1
  | .overrunAbort => 2
  | .timeBaseLost => 2
  | .phaseMixed => 1
  | .phaseUndefined => 2
  | .horizonShort => 3
  | .periodMismatch => 3
  | .nodeUnmapped => 2
  | .childSilent => 2
  | .nodeAbsent => 4
  | .groundReject => 3
  | .groundReloadDenied => 2
  | .configMismatch => 3
  | .census => 0
  | .opcUnknown => 2
  | .contractSuspect => 3
  | .tallyFallback => 1
  | .residueFail => 3
  | .copyNoRate => 2
  | .captureDrop => 1
  | .copyFail => 3
  | .copyDisagree => 2
  | .duplexRefused => 1
  | .copyUnitFail => 3
  | .copyUnitTransient => 2
  | .tapProtocol => 2
  | .tapFull => 2
  | .tallyIncomplete => 2
  | .tallyFail => 3
  | .xportFail => 3
  | .stepGap => 1
  | .rollOverlap => 2
  | .replicaExpel => 3
  | .replicaSplit => 4
  | .varnish => 0
  | .restoreReject => 2
  | .goldenSuspect => 3
  | .sliceResult => 2
  | .analogFail => 3
  | .mbistRestoreFail => 4
  | .trimRecommend => 1
  | .canaryExhausted => 3
  | .deepDenied => 5
  | .returnZeroised => 1
  | .zeroiseFail => 5
  | .horizonMiss => 2
  | .varnishTainted => 4
  | .restoreTainted => 4
  | .spillFail => 2
  | .blast => 3
  | .sweep => 2
  | .faultClass => 3
  | .suspectPersists => 3
  | .craqWriteFail => 3
  | .quarantine => 4
  | .gazapra => 3
  | .hang => 3
  | .fenceError => 3
  | .fenceTimeout => 3
  | .gateEnd => 1
  | .contextSpan => 1
  | .ladder => 3
  | .ladderExhausted => 4
  | .scratchSkip => 1
  | .alarm => 4
  | .alarmLate => 3
  | .ckptTriggerForced => 1
  | .ckptRequest => 1
  | .ckptOverdue => 2
  | .linkState => 2
  | .authFail => 3
  | .linkAbsent => 2
  | .linkSlow => 2
  | .linkFaulty => 3
  | .linkHostile => 5
  | .levelBypass => 1
  | .bcastBad => 3
  | .viewDenied => 2
  | .coldStart => 0
  | .loss => 3
  | .clear => 1
  | .signedReject => 3
  | .summary => 0
  | .traceFrozen => 1
  | .tensorWatch => 0
  | .selfFault => 4
  | .clockLoss => 3
  | .domainReset => 2
  | .shed => 2
  | .witness => 2
  | .overdraw => 3
  | .epochEnergy => 0
  | .fwReject => 3
  | .lifecycle => 1
  | .provisionReject => 3

/-- The types that are folded by rate (R347). -/
def recByRate : RecType → Bool
  | .viewDenied => true
  | .nodeUnmapped => true
  | .deepDenied => true
  | .strokeStep => false
  | .strapInvalid => false
  | .strokeConflict => false
  | .overrun => false
  | .overrunAbort => false
  | .timeBaseLost => false
  | .phaseMixed => false
  | .phaseUndefined => false
  | .horizonShort => false
  | .periodMismatch => false
  | .childSilent => false
  | .nodeAbsent => false
  | .groundReject => false
  | .groundReloadDenied => false
  | .configMismatch => false
  | .census => false
  | .opcUnknown => false
  | .contractSuspect => false
  | .tallyFallback => false
  | .residueFail => false
  | .copyNoRate => false
  | .captureDrop => false
  | .copyFail => false
  | .copyDisagree => false
  | .duplexRefused => false
  | .copyUnitFail => false
  | .copyUnitTransient => false
  | .tapProtocol => false
  | .tapFull => false
  | .tallyIncomplete => false
  | .tallyFail => false
  | .xportFail => false
  | .stepGap => false
  | .rollOverlap => false
  | .replicaExpel => false
  | .replicaSplit => false
  | .varnish => false
  | .restoreReject => false
  | .goldenSuspect => false
  | .sliceResult => false
  | .analogFail => false
  | .mbistRestoreFail => false
  | .trimRecommend => false
  | .canaryExhausted => false
  | .returnZeroised => false
  | .zeroiseFail => false
  | .horizonMiss => false
  | .varnishTainted => false
  | .restoreTainted => false
  | .spillFail => false
  | .blast => false
  | .sweep => false
  | .faultClass => false
  | .suspectPersists => false
  | .craqWriteFail => false
  | .quarantine => false
  | .gazapra => false
  | .hang => false
  | .fenceError => false
  | .fenceTimeout => false
  | .gateEnd => false
  | .contextSpan => false
  | .ladder => false
  | .ladderExhausted => false
  | .scratchSkip => false
  | .alarm => false
  | .alarmLate => false
  | .ckptTriggerForced => false
  | .ckptRequest => false
  | .ckptOverdue => false
  | .linkState => false
  | .authFail => false
  | .linkAbsent => false
  | .linkSlow => false
  | .linkFaulty => false
  | .linkHostile => false
  | .levelBypass => false
  | .bcastBad => false
  | .coldStart => false
  | .loss => false
  | .clear => false
  | .signedReject => false
  | .summary => false
  | .traceFrozen => false
  | .tensorWatch => false
  | .selfFault => false
  | .clockLoss => false
  | .domainReset => false
  | .shed => false
  | .witness => false
  | .overdraw => false
  | .epochEnergy => false
  | .fwReject => false
  | .lifecycle => false
  | .provisionReject => false

/-- The event-ring codes of R361. -/
def evClockStop : Nat := 0xFF01
def evClockStart : Nat := 0xFF02
def evHoldOpen : Nat := 0xFF03
def evHoldClose : Nat := 0xFF04
def evFenceReq : Nat := 0xFF05
def evFenceDone : Nat := 0xFF06
def evResetStart : Nat := 0xFF07
def evResetDone : Nat := 0xFF08

end Sys2Proof.Machine
end

