-- ==== Sys2Proof/Machine/Ops.lean ====
section
/-!
DEFINITION. The named operations over the state that every family of commands shares: reading and changing one port, partition,
link, node or slot; the node tree; outputs; interrupts; host-slot accesses; counters.
-/
namespace Sys2Proof.Machine

open Sys2Proof

/-! ### Answers -/

/-- A command that runs. -/
def ok (s : State) : Host.Outcome State Fault Refusal := .next s

/-- A command that names a numbered unit: it runs when the block was built with that unit (R3). -/
def onUnit (what : String) (index count : Nat) (s : State) : Host.Outcome State Fault Refusal :=
  if index < count then .next s else .fault (.notBuilt what index)

/-- Run a change only when a condition holds. -/
def whenB (c : Bool) (f : State → State) (s : State) : State := if c then f s else s

/-- Run a change for a value that is there. -/
def whenSome {α : Type} (o : Option α) (f : α → State → State) (s : State) : State :=
  match o with
  | some a => f a s
  | none => s

/-- Run a change for each number of a list, in order. -/
def forEach {α : Type} (l : List α) (f : α → State → State) (s : State) : State := l.foldl (fun s x => f x s) s

/-! ### One part of the block -/

/-- Change the record store. -/
def modNvm (f : Nvm → Nvm) (s : State) : State := { s with nvm := f s.nvm }

/-- Change the life-cycle. -/
def modLife (f : Life → Life) (s : State) : State := { s with life := f s.life }

/-- Change bring-up. -/
def modBoot (f : Boot → Boot) (s : State) : State := { s with boot := f s.boot }

/-- Change the power window. -/
def modPwr (f : Pwr → Pwr) (s : State) : State := { s with pwr := f s.pwr }

/-- Change the stroke. -/
def modStk (f : Stk → Stk) (s : State) : State := { s with stk := f s.stk }

/-- Change the ground image. -/
def modGnd (f : Gnd → Gnd) (s : State) : State := { s with gnd := f s.gnd }

/-- Change the Copyist. -/
def modCpy (f : Cpy → Cpy) (s : State) : State := { s with cpy := f s.cpy }

/-- Change the digest engine. -/
def modDgt (f : Dgt → Dgt) (s : State) : State := { s with dgt := f s.dgt }

/-- Change field screening. -/
def modScr (f : Scr → Scr) (s : State) : State := { s with scr := f s.scr }

/-- Change the taint store. -/
def modTaint (f : Taint → Taint) (s : State) : State := { s with taint := f s.taint }

/-- Change recovery. -/
def modRcv (f : Rcv → Rcv) (s : State) : State := { s with rcv := f s.rcv }

/-- Change the Watch mesh. -/
def modWch (f : Wch → Wch) (s : State) : State := { s with wch := f s.wch }

/-- Change the ledger. -/
def modLdg (f : Ldg → Ldg) (s : State) : State := { s with ldg := f s.ldg }

/-! ### Ports, links, partitions, slots -/

/-- The sentinel on a port. -/
def sent (s : State) (p : Nat) : Sentinel := tgetD s.sents p {}

/-- Change the sentinel on a port. -/
def modSent (p : Nat) (f : Sentinel → Sentinel) (s : State) : State := { s with sents := tmod s.sents p {} f }

/-- The map entry of a port (R55, R80). -/
def tile (s : State) (p : Nat) : Tile := tgetD s.gnd.tiles p {}

/-- Change the map entry of a port. -/
def modTile (p : Nat) (f : Tile → Tile) (s : State) : State :=
  { s with gnd := { s.gnd with tiles := tmod s.gnd.tiles p {} f } }

/-- An assembly of the loaded tree. -/
def asm (s : State) (n : Nat) : Asm := tgetD s.gnd.tree n {}

/-- Change an assembly of the loaded tree. -/
def modAsm (n : Nat) (f : Asm → Asm) (s : State) : State :=
  { s with gnd := { s.gnd with tree := tadj s.gnd.tree n f } }

/-- Partition `k`. -/
def part (s : State) (k : Nat) : Part := tgetD s.parts k {}

/-- Change partition `k`. -/
def modPart (k : Nat) (f : Part → Part) (s : State) : State := { s with parts := tmod s.parts k {} f }

/-- The numbers of the defined partitions, ascending. -/
def validParts (s : State) : List Nat := tfind s.parts (fun _ q => q.valid)

/-- Link `l`. -/
def link (s : State) (l : Nat) : Link := tgetD s.wch.links l {}

/-- Change link `l`. -/
def modLink (l : Nat) (f : Link → Link) (s : State) : State :=
  { s with wch := { s.wch with links := tmod s.wch.links l {} f } }

/-- The links built. -/
def linkNos (s : State) : List Nat := List.range s.build.links

/-- A slot window. -/
def slot (s : State) (n : Nat) : Slot := tgetD s.slots n {}

/-- Change a slot window. -/
def modSlot (n : Nat) (f : Slot → Slot) (s : State) : State := { s with slots := tmod s.slots n {} f }

/-- The mailbox of a slot's channel. -/
def mbxNo (n c : Nat) : Nat := 2 * n + c
def mbx (s : State) (n c : Nat) : Mbx := tgetD s.mbxs (mbxNo n c) {}

/-- Change a mailbox. -/
def modMbx (n c : Nat) (f : Mbx → Mbx) (s : State) : State := { s with mbxs := tmod s.mbxs (mbxNo n c) {} f }

/-- The partitions a slot owns (R320). -/
def ownedParts (s : State) (n : Nat) : List Nat := tfind s.parts (fun _ q => q.valid && q.owner == n)

/-- The epoch with an ID. -/
def epoch? (s : State) (e : Nat) : Option Epoch := s.epochs.find? (fun x => x.id == e)

/-- Change the epoch with an ID. -/
def modEpoch (e : Nat) (f : Epoch → Epoch) (s : State) : State :=
  { s with epochs := s.epochs.map (fun x => if x.id == e then f x else x) }

/-! ### Codes of states (R273, R80, R239) -/

/-- RCV_PART_EPOCHk.STATE. -/
def psIdle : Nat := 0
def psPending : Nat := 1
def psMember : Nat := 2
def psAborting : Nat := 3
def psHeld : Nat := 4

/-- GND_TILEp.STATE. -/
def tsActive : Nat := 0
def tsSpare : Nat := 1
def tsHidden : Nat := 2
def tsFailed : Nat := 3
def tsQuarantined : Nat := 4
def tsLent : Nat := 5

/-- A partition that is MEMBER or ABORTING. -/
def inEpoch (q : Part) : Bool := q.valid && (q.state == psMember || q.state == psAborting)

/-- The epochs of which a partition is MEMBER or ABORTING, ascending by partition, without repeats. -/
def liveEpochs (s : State) : List Nat :=
  (s.parts.filter (fun e => inEpoch e.2)).foldl (fun l e => addNew l e.2.epoch) []

/-- The partitions that are MEMBER or ABORTING in an epoch. -/
def partsIn (s : State) (e : Nat) : List Nat := tfind s.parts (fun _ q => inEpoch q && q.epoch == e)

/-- Some partition is PENDING, MEMBER or ABORTING (R391). -/
def anyEpoch (s : State) : Bool :=
  s.parts.any (fun e => e.2.valid && (e.2.state == psPending || e.2.state == psMember || e.2.state == psAborting))

/-! ### The node tree -/

/-- The node of the sentinel on a port (R43). -/
def nodeOf (p : Nat) : Nat := 0x800 + p

/-- No node (R44). -/
def noNode : Nat := 0x7FF

/-- The node that aggregates a node (R409): the borrowing assembly while a port is lent. -/
def parentOf (s : State) (n : Nat) : Nat := if 0x800 ≤ n then (tile s (n - 0x800)).host else (asm s n).parent

/-- A node of the loaded tree (R45, R60). -/
def nodeUsed (s : State) (n : Nat) : Bool :=
  if 0x800 ≤ n then decide (n - 0x800 < s.build.ports) && (tget s.gnd.tiles (n - 0x800)).isSome &&
    !((tile s (n - 0x800)).state == tsHidden)
  else (tget s.gnd.tree n).isSome

/-- The assemblies above a node, nearest first (R46: at most 16). -/
def above (s : State) : Nat → Nat → List Nat
  | 0, _ => []
  | k + 1, n =>
    if (tget s.gnd.tree (parentOf s n)).isSome && !(parentOf s n == noNode) then parentOf s n :: above s k (parentOf s n) else []

/-- The assemblies above a node. -/
def ancestors (s : State) (n : Nat) : List Nat := above s 17 n

/-- The wired sentinels of an assembly (R62, ports_under). -/
def portsUnder (s : State) (a : Nat) : List Nat := tfind s.gnd.tiles (fun _ t => t.parent == a)

/-- A port that does work for its assembly: it serves a logical number (R61, R63). -/
def working (t : Tile) : Bool := t.state == tsActive || t.state == tsLent

/-- The ports an assembly aggregates (R47). -/
def aggPorts (s : State) (a : Nat) : List Nat :=
  tfind s.gnd.tiles (fun _ t => t.host == a && !(t.state == tsHidden))

/-- The wired child assemblies of an assembly. -/
def asmChildren (s : State) (a : Nat) : List Nat := tfind s.gnd.tree (fun n x => x.parent == a && !(n == a))

/-- The spares an assembly has borrowed (R63). -/
def borrowed (s : State) (a : Nat) : List Nat := tfind s.gnd.tiles (fun _ t => t.host == a && !(t.parent == a))

/-- The aggregated children of an assembly as node IDs (R47, R409). -/
def aggChildren (s : State) (a : Nat) : List Nat := asmChildren s a ++ (aggPorts s a).map nodeOf

/-- A node or one of its ancestors is a root of partition `k`. -/
def underRoots (s : State) (q : Part) (n : Nat) : Bool := (n :: ancestors s n).any (fun x => q.roots.contains x)

/-- The partition under whose root a node lies (R342, R409). -/
def partOf (s : State) (n : Nat) : Option Nat :=
  if n == noNode then none
  else (s.parts.find? (fun e => e.2.valid && underRoots s e.2 n)).map Prod.fst

/-- The node lies at or under another node. -/
def underNode (s : State) (top n : Nat) : Bool := n == top || (ancestors s n).contains top

/-- Every port at or under a node, ascending. -/
def portsBelow (s : State) (top : Nat) : List Nat :=
  tfind s.gnd.tiles (fun p t => underNode s top (nodeOf p) && !(t.state == tsHidden))

/-- Some assembly at or above a node is ABSENT (R50). -/
def isAbsent (s : State) (n : Nat) : Bool := (n :: ancestors s n).any (fun a => (asm s a).absent && decide (a < 0x800))

/-- The ports that serve a logical number of a partition. -/
def workPorts (s : State) (k : Nat) : List Nat := tfind s.gnd.tiles (fun _ t => working t && t.part == k)

/-- VACANT logical numbers of a partition, and whether it is READY: after census, with none VACANT and not HELD (R77, R80, R273). -/
def vacantIn (s : State) (k : Nat) : Nat := (part s k).count - (workPorts s k).length
def partReady (s : State) (k : Nat) : Bool := (part s k).valid && s.gnd.done && vacantIn s k == 0 && !((part s k).state == 4) && !(part s k).heldNext

/-! ### Time -/

/-- The current stroke. -/
def now (s : State) : Nat := s.stk.stroke

/-- The block ticks (GLB_STROKE_NOW.TICKING of R407). -/
def ticking (s : State) : Bool :=
  if s.stk.source == 0 then s.tcfg.enable && s.gnd.state == 3 && s.wch.chip == s.gnd.pod.master
  else s.stk.state == 2 || s.stk.state == 3

/-- A fresh number that nothing constrains. -/
def drawValue (s : State) : Nat := Config.openValue s.fresh

/-- The next fresh number will be another. -/
def bumpFresh (s : State) : State := { s with fresh := s.fresh + 1 }

/-! ### Outputs -/

/-- Drive an output. -/
def emit (o : Out) (s : State) : State := { s with outs := s.outs ++ [o] }

/-- Report to the pod fault manager (log entry 16). -/
def reportPfm (what : String) (s : State) : State := emit (.report what) s

/-- A memory-port access is issued; its completion is MEMORY_ACCESS_DONE or MEMORY_ACCESS_TIMEOUT (R427). -/
def issueMem (w : MemWork) (s : State) : State :=
  { s with mem := tput s.mem s.nextTag w, nextTag := s.nextTag + 1 }

/-- A write of bytes to host memory. -/
def memWrite (addr : Nat) (secure : Bool) (bs : List Byte) (s : State) : State := emit (.memWrite addr secure bs) s

/-! ### Interrupts and wake (R334, R336) -/

/-- SLT_IRQ_STATUS bits. -/
def irqMb0Space : Nat := 1
def irqMb1Space : Nat := 3
def irqCkpt : Nat := 4
def irqAlarm : Nat := 5
def irqEpoch : Nat := 6
def irqFail : Nat := 7
def irqQuar : Nat := 8
def irqCmd : Nat := 9
def irqRecords : Nat := 16
def irqSecurity : Nat := 17

/-- Set an interrupt source of a slot. The source raises the wake event when it is enabled and WAKE_ALL is set (R334). -/
def irqSet (n b : Nat) : State → State :=
  modSlot n (fun w => { w with irq := setBit w.irq b, wakeEvent := w.wakeEvent || (bitOf w.irqEn b && w.wakeAll) })

/-- Set an interrupt source of the slot that owns partition `k` (R336). -/
def irqPart (k b : Nat) (s : State) : State := irqSet (part s k).owner b s

/-- SLT_IRQ_STATUS as read: MB0_RX and MB1_RX follow the queues; RECORDS and SECURITY belong to slot 0 (R339). -/
def irqStatus (s : State) (n : Nat) : Nat :=
  let m := (slot s n).irq
  let m := if n == 0 then m else clearBit (clearBit m irqRecords) irqSecurity
  let m := if (mbx s n 0).toHost.isEmpty then clearBit m 0 else setBit m 0
  if (mbx s n 1).toHost.isEmpty then clearBit m 2 else setBit m 2

/-- The bits of the secure line (R336, R339). -/
def secureBits : List Nat := [2, 3, 17]

/-- HS_IRQ_S and HS_IRQ_NS of a slot (R334, R336). -/
def irqPinS (s : State) (n : Nat) : Bool :=
  (slot s n).pwrOn && secureBits.any (fun b => bitOf (irqStatus s n) b && bitOf (slot s n).irqEn b)
def irqPinNs (s : State) (n : Nat) : Bool :=
  (slot s n).pwrOn &&
    (List.range 18).any (fun b => !secureBits.contains b && bitOf (irqStatus s n) b && bitOf (slot s n).irqEn b)

/-- HS_WAKE of a slot (R334). -/
def wakePin (s : State) (n : Nat) : Bool := (slot s n).wakeEvent && !(slot s n).pwrOn

/-! ### Counters (R358) -/

/-- Count events of the running stroke in a global counter; Judge adds them for the stroke it judges. -/
def gcount (i n : Nat) (s : State) : State := { s with ldg := { s.ldg with gNow := lbump 32 s.ldg.gNow i n } }

/-- Count checks formed in Judge in a global counter. -/
def gcountJudged (i n : Nat) (s : State) : State := { s with ldg := { s.ldg with gPrev := lbump 32 s.ldg.gPrev i n } }

/-- Count events of the running stroke in a partition's counter. -/
def pcount (k i n : Nat) : State → State := modPart k (fun q => { q with cntNow := lbump 16 q.cntNow i n })

/-- Count checks formed in Judge in a partition's counter. -/
def pcountJudged (k i n : Nat) : State → State := modPart k (fun q => { q with cntPrev := lbump 16 q.cntPrev i n })

/-- Sum of two lists of counters, saturating at 64 bits. -/
def addCounts (n : Nat) (a b : List Nat) : List Nat :=
  (List.range n).map (fun i => satAdd (2 ^ 64 - 1) (lget a i 0) (lget b i 0))

/-- At a tick the counts of the running stroke become those of the stroke to be judged. -/
def countsTick (s : State) : State :=
  { s with
    ldg := { s.ldg with gPrev := addCounts 32 s.ldg.gPrev s.ldg.gNow, gNow := [] }
    parts := tmap s.parts (fun _ q => { q with cntPrev := addCounts 16 q.cntPrev q.cntNow, cntNow := [] }) }

/-- Judge updates the counters for the stroke just judged. -/
def countsJudge (s : State) : State :=
  { s with
    ldg := { s.ldg with gcnt := addCounts 32 s.ldg.gcnt s.ldg.gPrev, gPrev := [] }
    parts := tmap s.parts (fun _ q => { q with cnt := addCounts 16 q.cnt q.cntPrev, cntPrev := [] }) }

/-! ### Life-cycle (R388, R431) -/

/-- A word of OTP. -/
def otpWord (s : State) (a : Nat) : Nat := (tgetD s.life.otp a 0).toNat

/-- The life-cycle state: 0 BLANK, 1 PROVISIONED, 2 RETURN. -/
def lifeState (s : State) : Nat := if bitOf (otpWord s 0x0A) 1 then 2 else if bitOf (otpWord s 0x0A) 0 then 1 else 0

/-- DEVICE_ID (R389, R431). -/
def deviceId (s : State) : Nat := otpWord s 0 + 2 ^ 32 * otpWord s 1

/-- A 48-byte key hash of OTP (R431): twelve words. -/
def otpHash (s : State) (a : Nat) : List Byte := (List.range 12).flatMap (fun i => le 4 (otpWord s (a + i)))

/-- A key hash is one of four slots at `base` whose revocation bit in word 0x0A, from `rev` on, is clear (R57, R293, R395). -/
def keySlot (s : State) (base rev : Nat) (h : List Byte) : Option Nat :=
  (List.range 4).find? (fun i => otpHash s (base + 12 * i) == h && !(bitOf (otpWord s 0x0A) (rev + i)))

/-- The key slots of ground images and of firmware (R389, R431). -/
def groundSlot (s : State) (h : List Byte) : Option Nat := keySlot s 0x10 4 h
def firmwareSlot (s : State) (h : List Byte) : Option Nat := keySlot s 0x40 8 h

/-- A pod root hash is in a written, unrevoked slot. -/
def podRootOk (s : State) (h : List Byte) : Bool :=
  (List.range 4).any (fun i => otpHash s (0x70 + 12 * i) == h && bitOf (otpWord s 0x0A) (16 + i) && !(bitOf (otpWord s 0x0A) (12 + i)))

/-! ### Host-slot accesses -/

/-- The effective STRAP_SLOT0_SEC (R319). -/
def slot0Sec (s : State) : Bool := s.straps.slot0Sec || bitOf (tgetD s.life.otp 0x0A 0).toNat 2

/-- The access has the privileged view (R319). -/
def privileged (s : State) (a : Access) : Bool := a.slot == 0 && (!slot0Sec s || a.sec)

/-- A CONTROL reset is running (R323). -/
def controlReset (s : State) : Bool := s.pwr.running.any (fun r => r.domain == 3)

/-- A CORE reset is running. -/
def coreReset (s : State) : Bool := s.pwr.running.any (fun r => r.domain == 2)

/-- Windows that stay reachable during a CONTROL reset: GLOBAL, the slot windows and STROKE (R323). -/
def keptWindow (addr : Nat) : Bool := decide (addr < 0x110000) || (decide (0x200000 ≤ addr) && decide (addr < 0x300000))

/-- The access completes OKAY (R416). -/
def busOk (s : State) : State := { s with bus := { ack := true, err := false, rdata := 0 } }

/-- The access completes with a bus error (R402). -/
def busErr (s : State) : State := { s with bus := { ack := true, err := true, rdata := 0 } }

end Sys2Proof.Machine
end

