-- ==== Sys2Proof/Machine/Send.lean ====
section
/-!
DEFINITION. Sending over the Watch links: credits, the retry buffer, queues, routing, trees and flooding (R298 to R310).
-/
namespace Sys2Proof.Machine

open Sys2Proof

/-! ### Codes of R290 and R295 -/

/-- Link states. -/
def lsDown : Nat := 0
def lsWaitPhy : Nat := 1
def lsAlign : Nat := 2
def lsMeasure : Nat := 3
def lsAuth : Nat := 4
def lsLimited : Nat := 5
def lsUp : Nat := 6
def lsDegraded : Nat := 7
def lsQuarantined : Nat := 8
def lsAbsent : Nat := 9

/-- Classes. -/
def clAlarm : Nat := 0
def clStroke : Nat := 1
def clVerdict : Nat := 2
def clDigest : Nat := 3
def clRecord : Nat := 4
def clBulk : Nat := 5

/-- Modes. -/
def mdLink : Nat := 0
def mdRouted : Nat := 1
def mdTreeUp : Nat := 2
def mdTreeDown : Nat := 3
def mdFlood : Nat := 4
def mdDetourUp : Nat := 5
def mdDetourDown : Nat := 6

/-- A link that carries messages: LIMITED, UP or DEGRADED. -/
def linkOpen (k : Link) : Bool := k.state == lsLimited || k.state == lsUp || k.state == lsDegraded

/-- A link that trees and routing use: UP or DEGRADED. -/
def linkUsable (k : Link) : Bool := k.state == lsUp || k.state == lsDegraded

/-- What a LIMITED link carries: STROKE messages and broadcast chunks (R294). -/
def limitedCarries (f : Flit) : Bool := f.cls == clStroke || (f.cls == clBulk && f.mode == mdFlood && f.epoch == 0)

/-! ### Credits (R298, R299) -/

/-- Reserved credits of each class. -/
def reservedGrant : List Nat := [8, 8, 32, 64, 32, 64]

/-- The sum of the reserved credits is 208 of the 1,024 flits of a native receive buffer. -/
def sharedGrant (role : Nat) : Nat := if role == 3 then 32768 - 208 else 816

/-- Class `c` may send: a reserved credit, or a shared one for classes 2 to 5. -/
def hasCredit (k : Link) (c : Nat) : Bool := decide (0 < lget k.reserved c 0) || (decide (2 ≤ c) && decide (0 < k.shared))

/-- Spend one credit of class `c`. -/
def spendCredit (k : Link) (c : Nat) : Link :=
  if 0 < lget k.reserved c 0 then
    { k with reserved := lmod k.reserved c (· - 1), outstanding := lbump 6 k.outstanding c 1 }
  else
    { k with shared := k.shared - 1, borrowed := lbump 6 k.borrowed c 1, outstanding := lbump 6 k.outstanding c 1 }

/-- `n` credits of class `c` come back: they repay borrowing before they refill the reserve. -/
def returnCredit (k : Link) (c n : Nat) : Link :=
  let m := Nat.min n (lget k.outstanding c 0)
  let repaid := Nat.min m (lget k.borrowed c 0)
  { k with
    shared := k.shared + repaid
    borrowed := lmod k.borrowed c (· - repaid)
    reserved := lmod k.reserved c (· + (m - repaid))
    outstanding := lmod k.outstanding c (· - m) }

/-- The credits of a link as training forms them (R298, R312). -/
def formCredits (k : Link) : Link :=
  { k with
    reserved := reservedGrant, shared := sharedGrant k.role, borrowed := [0, 0, 0, 0, 0, 0]
    outstanding := [0, 0, 0, 0, 0, 0], returned := [0, 0, 0, 0, 0, 0], consumed := [0, 0, 0, 0, 0, 0] }

/-! ### Link transmit -/

/-- Flits of the retry buffer: 512, or the transmit ring of a tunnel (R301, R312). -/
def retryRoom (k : Link) : Nat := if k.role == 3 then 32768 else 512

/-- A class has both a queued flit and a credit (R300). -/
def classReady (k : Link) (c : Nat) : Bool := hasCredit k c && k.queue.any (fun f => f.cls == c)

/-- A class of 2 to 5 whose guaranteed flit is due: 28 flits of other classes have passed it, so that all four classes still
go within 32 (R300, DESIGN CHOICE, log 138). -/
def classOwed (k : Link) (c : Nat) : Bool := classReady k c && decide (28 ≤ lget k.passed c 0)

/-- The class to send next: an ALARM ahead of every queued flit, then a class whose guaranteed flit is due, then the
highest-priority class with a queued flit and a credit (R300). -/
def nextClass (k : Link) : Option Nat :=
  if classReady k 0 then some 0
  else match [2, 3, 4, 5].find? (classOwed k) with
    | some c => some c
    | none => (List.range 6).find? (classReady k)

/-- The counts of R300's guarantee after a flit of class `c` is chosen: a class that waits with a credit is passed once more, any
other starts again. -/
def passedBy (k : Link) (c : Nat) : List Nat :=
  (List.range 6).map (fun d => if d != c && classReady k d then lget k.passed d 0 + 1 else 0)

/-- The first queued flit of a class and the queue without it. -/
def takeClass (c : Nat) : List Flit → Option (Flit × List Flit)
  | [] => none
  | f :: q => if f.cls == c then some (f, q) else (takeClass c q).map (fun r => (r.1, f :: r.2))

/-- A link after it has put one queued flit of class `c` on the wire: the flit spends a credit and stands in the retry buffer
until an ACK covers it (R299 to R301). -/
def sentLink (k : Link) (c : Nat) (g : Flit) (q : List Flit) : Link :=
  let k1 := spendCredit k c
  { k1 with
    queue := q, passed := passedBy k c, retry := k.retry ++ [g], txSeq := (k.txSeq + 1) % 2 ^ 48
    sinceControl := k.sinceControl + 1 }

/-- Send one queued flit when a class may send and the retry buffer has room. -/
def sendNext (l : Nat) (s : State) : State :=
  let k := link s l
  if retryRoom k ≤ k.retry.length then s
  else match nextClass k with
    | none => s
    | some c => match takeClass c k.queue with
      | none => s
      | some (f, q) =>
        let g := { f with lseq := k.txSeq % 65536, ack := (k.rxSeq + 65535) % 65536 }
        let s1 := s |> modLink l (fun _ => sentLink k c g q) |> gcount 9 1 |> emit (.flit l g)
        whenB (k.role == 3) (issueMem (.tunnel l)) s1

/-- Send queued flits for as long as credits and the retry buffer allow. -/
def pump : Nat → Nat → State → State
  | 0, _, s => s
  | n + 1, l, s => pump n l (sendNext l s)

/-- Send everything a link may send. -/
def pumpLink (l : Nat) (s : State) : State := pump (link s l).queue.length l s

/-- Count a drop in WCH_ERRn (R317). -/
def modErr (l : Nat) (f : LinkErr → LinkErr) : State → State := modLink l (fun k => { k with err := f k.err })
def errUnreach (l : Nat) : State → State := modErr l (fun e => { e with unreach := satInc 4 e.unreach })
def errEpoch (l : Nat) : State → State := modErr l (fun e => { e with epoch := satInc 8 e.epoch })
def errTtl (l : Nat) : State → State := modErr l (fun e => { e with ttl := satInc 4 e.ttl })

/-- Send a message on one link. On a link that is not open it is dropped and counted (R303); on a LIMITED link only what R294
lists passes. -/
def sendOn (l : Nat) (f : Flit) (s : State) : State :=
  let k := link s l
  if !linkOpen k then errUnreach l s
  else if k.state == lsLimited && !limitedCarries f then errEpoch l s
  else s |> modLink l (fun k => { k with queue := k.queue ++ [f] }) |> pumpLink l

/-- A message that starts at this block. -/
def newFlit (s : State) (cls mode epoch : Nat) (m : Msg) : Flit :=
  { cls := cls, mode := mode, bypass := false, dest := 0, ttl := 0, src := s.wch.chip, epoch := epoch, lseq := 0, ack := 0, msg := m }

/-- TTL at the start of a routed message (R305, R317). -/
def firstTtl (s : State) : Nat := Nat.max 1 s.wch.eff.ttl

/-- The routing entry for a destination (R306). -/
def routeEntry (s : State) (dest : Nat) : Route :=
  if dest / 64 == s.wch.chip / 64 then tgetD s.wch.intra (dest % 64) {} else tgetD s.wch.cube (dest / 64) {}

/-- The link that a routing entry gives: the primary when UP, or DEGRADED with no alternate UP; otherwise the alternate (R306). -/
def routeLink (s : State) (r : Route) : Option Nat :=
  let p := link s r.primary
  let a := link s r.alt
  if r.valid && (p.state == lsUp || (p.state == lsDegraded && !(r.altValid && a.state == lsUp))) then some r.primary
  else if r.altValid && linkUsable a then some r.alt
  else none

/-- Route a flit toward its destination; an unreachable one is dropped and counted on the primary link (R306). -/
def routeFlit (f : Flit) (s : State) : State :=
  match routeLink s (routeEntry s f.dest) with
  | some l => sendOn l f s
  | none => errUnreach (routeEntry s f.dest).primary s

/-- The destination can be reached (R306, R316). -/
def reachable (s : State) (dest : Nat) : Bool := dest == s.wch.chip || (routeLink s (routeEntry s dest)).isSome

/-- Send a routed message. -/
def sendRouted (cls dest epoch : Nat) (m : Msg) (s : State) : State :=
  routeFlit { newFlit s cls mdRouted epoch m with dest := dest, ttl := firstTtl s } s

/-- Send on a tree link, or as a detour to the chip last authenticated on it (R307). -/
def sendTree (up bypass : Bool) (cls epoch l : Nat) (m : Msg) (s : State) : State :=
  let k := link s l
  let f := { newFlit s cls (if up then mdTreeUp else mdTreeDown) epoch m with bypass := bypass }
  if linkUsable k then sendOn l f s
  else routeFlit { f with mode := if up then mdDetourUp else mdDetourDown, dest := k.partner, ttl := firstTtl s } s

/-- Send to the parent of an epoch's tree (R307). -/
def sendUp (cls e : Nat) (m : Msg) (s : State) : State :=
  match epoch? s e with
  | some x => sendTree true false cls e x.parent m s
  | none => s

/-- Forward an up message unchanged in bypass (R309). -/
def bypassUp (cls e : Nat) (m : Msg) (s : State) : State :=
  match epoch? s e with
  | some x => s |> sendTree true true cls e x.parent m |> modWch (fun w => { w with bypassNow := setBit w.bypassNow (cls - 2) })
  | none => s

/-- Send to every child of an epoch's tree (R307). -/
def sendDown (cls e : Nat) (m : Msg) (s : State) : State :=
  match epoch? s e with
  | some x => forEach x.children (fun l => sendTree false false cls e l m) s
  | none => s

/-- Flood a message on every open link but one (R310). -/
def flood (except : Option Nat) (f : Flit) (s : State) : State :=
  forEach ((linkNos s).filter (fun l => linkOpen (link s l) && !(some l == except))) (fun l => sendOn l f) s

/-- This block is the root of an epoch's tree: no parent link (R270). -/
def isRoot (x : Epoch) : Bool := x.parent == 0xFF

end Sys2Proof.Machine
end

