-- ==== Sys2Proof/Machine/RecordOps.lean ====
section
/-!
DEFINITION. Writing ledger records (R340 to R350): stamping, folding, sealing, forwarding, space and loss; event rings (R361)
and trace buffers (R363, R364), which every occurrence of a record enters.
-/
namespace Sys2Proof.Machine

open Sys2Proof

/-! ### Forwarding to the pod fault manager (R316) -/

/-- The record's header bytes (R340). -/
def headerBytes (r : Rec) : List Byte :=
  le 2 r.typ ++ le 2 (32 + (pad4 r.body).length + 4) ++ le 2 r.rept ++ le 2 r.node ++ le 6 r.stroke ++ le 2 r.flags ++
  le 4 r.span ++ le 4 r.ophours ++ le 3 r.pcycle ++ le 1 r.severity ++ le 4 r.seq

/-- Every byte of a record: header, padded body and CRC-32C (R340, R341). -/
def recBytes (r : Rec) : List Byte :=
  headerBytes r ++ pad4 r.body ++ le 4 (crc32c (headerBytes r ++ pad4 r.body))

/-- LEN of a record (R341). -/
def recLen (r : Rec) : Nat := 36 + (pad4 r.body).length

/-- The fragments of an item: at most 208 bytes each (R316). -/
def fragments (rseq kind : Nat) (urgent : Bool) (bs : List Byte) : List RecFrag :=
  let n := ceilDiv bs.length 208
  (List.range n).map (fun i =>
    { rseq := rseq, frag := i, nfrag := n, kind := kind, urgent := urgent, data := slice bs (208 * i) 208 })

/-- One fragment reaches its destination block: it enters the ring at WCH_RX_BASE, or is dropped and counted (R316). -/
def rxRing (src : Nat) (f : RecFrag) (s : State) : State :=
  if s.wch.rxBase == 0 then s
  else if (s.wch.rxHead + 1) % 65536 == s.wch.rxTail then modWch (fun w => { w with rxOverflow := satInc 16 w.rxOverflow }) s
  else
    let header := bytes [clRecord + mdRouted * 8, 0x42] ++ le 3 s.wch.chip ++ le 3 src ++ zeros 8
    let payload := fit 224 (le 4 f.rseq ++ le 2 f.frag ++ le 2 f.nfrag ++ le 1 f.kind ++ le 1 (b2n f.urgent) ++
      le 2 f.data.length ++ zeros 4 ++ f.data)
    s |> memWrite (s.wch.rxBase + 256 * s.wch.rxHead) false (header ++ payload ++ zeros 16)
      |> issueMem .rxRing
      |> modWch (fun w => { w with rxHead := (w.rxHead + 1) % 65536 })
      |> irqSet 0 irqRecords

/-- Send one fragment to a chip: consumed here, or routed (R306, R316). -/
def sendFragment (dest : Nat) (f : RecFrag) (s : State) : State :=
  if dest == s.wch.chip then rxRing s.wch.chip f s else sendRouted clRecord dest 0 (.record f) s

/-- The pod fault manager end in use: the primary, or the secondary when the primary is unreachable (R316). -/
def pfmEnd (s : State) : Nat :=
  if reachable s s.gnd.chip.pfmPrimary then s.gnd.chip.pfmPrimary else s.gnd.chip.pfmSecondary

/-- Send a record to the pod fault manager (R316, R350). Before a ground image is loaded no end is known. -/
def forwardRec (r : Rec) (s : State) : State :=
  if s.gnd.state == 3 then
    forEach (fragments r.seq 1 (decide (4 ≤ r.severity)) (recBytes r)) (sendFragment (pfmEnd s)) s
  else s

/-! ### Stamping (R342, R343) -/

/-- The stroke a record is stamped with: HIGH_STROKE before the first tick (R343). -/
def stampStroke (s : State) : Nat := if s.stk.ticked then s.stk.stroke else s.ldg.highStroke

/-- The block's tick is a flywheel tick (R22). -/
def inFlywheel (s : State) : Bool := s.stk.state == 3

/-- The STRETCH flag of a node's records (R34). -/
def stretchFlag (s : State) (n : Nat) : Bool :=
  decide (0x800 ≤ n) && ((sent s (n - 0x800)).stretch || (sent s (n - 0x800)).restarted)

/-- The FLAGS field (R342). -/
def recFlags (s : State) (node : Nat) (p : Option Nat) (rate : Bool) : Nat :=
  (match p with | some k => at_ 8 6 k + 2 ^ 7 | none => 0) + atB 3 (!s.stk.ticked) + atB 2 rate +
  atB 1 (stretchFlag s node) + atB 0 (inFlywheel s)

/-- A record as it would be written now, without its SEQ. -/
def stampRec (s : State) (t : RecType) (node : Nat) (p : Option Nat) (sev : Nat) (body : List Byte) : Rec :=
  { typ := recCode t, rept := 1, node := node, stroke := stampStroke s, flags := recFlags s node p false, span := 0,
    ophours := s.boot.hours, pcycle := s.boot.cycles, severity := sev, seq := 0, body := pad4 body }

/-! ### Trace buffers (R363, R364) -/

/-- The node filter of a buffer (R363). -/
def traceNode (s : State) (b : Trace) (n : Nat) : Bool :=
  b.eff.node == noNode || n == b.eff.node || (b.eff.subtree && underNode s b.eff.node n)

/-- A buffer collects an entry (R363). -/
def traceTakes (s : State) (b : Trace) (e : TraceEntry) : Bool :=
  bitOf b.eff.sources (e.source - 1) && traceNode s b e.node && decide (b.eff.capSev ≤ e.severity)

/-- An entry matches a buffer's trigger (R364). -/
def traceMatch (s : State) (b : Trace) (e : TraceEntry) : Bool :=
  bitOf b.eff.sources (e.source - 1) && traceNode s b e.node && decide (b.eff.trigSev ≤ e.severity) &&
    (b.eff.trigType == 0 || b.eff.trigType == e.typ)

/-- Store one entry in the ring, overwriting the oldest of 2,047 (R364). -/
def traceStore (b : Trace) (e : TraceEntry) : Trace :=
  { b with ring := (e :: b.ring).take 2047, next := if b.next == 2047 then 1 else b.next + 1 }

/-- The post-trigger quota is reached: the buffer freezes with the pre-trigger entries that R364 keeps. -/
def traceFreeze (b : Trace) : Trace :=
  let pre := Nat.min (b.ring.length - b.postStored) (2047 - b.eff.post)
  { b with state := 3, report := true, ring := b.ring.take (b.postStored + pre) }

/-- A POST buffer takes one entry, or counts it once frozen (R364). -/
def tracePost (b : Trace) (e : TraceEntry) : Trace :=
  if b.state == 2 then
    let c := { traceStore b { e with flags := e.flags ||| 2 } with postStored := b.postStored + 1 }
    if c.eff.post ≤ c.postStored then traceFreeze c else c
  else { b with overflow := satInc 16 b.overflow }

/-- The trigger enters entry 0 and starts POST (R364). -/
def traceTrigger (b : Trace) (e : TraceEntry) : Trace :=
  let c := { b with state := 2, trigger := some { e with flags := e.flags ||| 1 }, postStored := 0 }
  if c.eff.post == 0 then traceFreeze c else c

/-- The trigger among entries that match in one cycle: ascending node, then ascending source (R364). -/
def traceFirst (es : List TraceEntry) : Option TraceEntry := (sortBy (fun e => e.node * 8 + e.source) es).head?

/-- Entries arrive at a buffer in one control cycle: at most 64 enter the FIFO, the rest are dropped (R363, R364; log entry 17). -/
def traceBurst (s : State) (es : List TraceEntry) (b : Trace) : Trace :=
  let taken := es.filter (traceTakes s b)
  let hits := es.filter (traceMatch s b)
  let drop (n : Nat) (b : Trace) : Trace := { b with dropped := satAdd 255 b.dropped n }
  if b.state == 1 then
    match traceFirst hits with
    | some t =>
      let rest := taken.erase t
      ((rest.take 64).foldl tracePost (traceTrigger b t)) |> drop (rest.length - 64)
    | none => ((taken.take 64).foldl traceStore b) |> drop (taken.length - 64)
  else if b.state == 2 then
    ((taken.take 64).foldl tracePost { b with lateTrig := satAdd 255 b.lateTrig hits.length }) |> drop (taken.length - 64)
  else if b.state == 3 then
    { b with overflow := satAdd 65535 b.overflow taken.length, lateTrig := satAdd 255 b.lateTrig hits.length }
  else b

/-- Entries arrive at every buffer in one control cycle. -/
def traceIn (es : List TraceEntry) (s : State) : State :=
  modLdg (fun l => { l with traces := l.traces.map (traceBurst s es) }) s

/-! ### Event rings (R361, R362) -/

/-- Enter an entry in a ring; GEN is the low 16 bits of EVENTS after it is counted (R362). -/
def ringPut (e : RingEntry) (r : Ring) : Ring :=
  let n := satInc 32 r.count
  { entries := ({ e with gen := n % 65536 } :: r.entries).take 64, count := n }

/-- Enter an entry in one node's ring. -/
def enterRing (n : Nat) (e : RingEntry) (s : State) : State :=
  if 0x800 ≤ n then modSent (n - 0x800) (fun x => { x with ring := ringPut e x.ring }) s
  else modAsm n (fun a => { a with ring := ringPut e a.ring }) s

/-- The trace entry of a ring entry. -/
def traceOfRing (e : RingEntry) : TraceEntry :=
  { stroke := e.stroke, offset := e.offset, source := 1, node := e.node, typ := e.typ, severity := e.severity,
    flags := atB 2 e.stretch + atB 3 e.flywheel, seq := 0, data := le 4 e.detail ++ zeros 8 }

/-- A node's event: its own ring and, from severity 2, the rings of every assembly above it (R47, R361). The local offset is
free (log entry 18). -/
def nodeEvent (n code sev detail : Nat) (extra : List TraceEntry) (s : State) : State :=
  if nodeUsed s n then
    let e : RingEntry := {
      gen := 0, stroke := stampStroke s, typ := code, offset := drawValue s % 2 ^ 20, node := n,
      severity := sev, stretch := stretchFlag s n, flywheel := inFlywheel s, forwarded := false, detail := detail }
    let ups := if 2 ≤ sev then ancestors s n else []
    s |> enterRing n e |> forEach ups (fun a => enterRing a { e with forwarded := true })
      |> bumpFresh
      |> traceIn (extra ++ traceOfRing e :: ups.map (fun _ => traceOfRing e))
  else traceIn extra s

/-- A non-record event of a node (R361). -/
def event (n code sev detail : Nat) : State → State := nodeEvent n code sev detail []

/-- One occurrence of a record enters its node's ring and the trace buffers (R346, R361, R363). -/
def occurrence (r : Rec) (s : State) : State :=
  nodeEvent r.node r.typ r.severity r.seq
    [{ stroke := r.stroke, offset := drawValue s % 2 ^ 20, source := 2, node := r.node, typ := r.typ, severity := r.severity,
       flags := atB 2 (bitOf r.flags 1) + atB 3 (bitOf r.flags 0), seq := r.seq, data := fit 12 r.body }] s

/-! ### Space (R349) -/

/-- LOSS records live in the 4 KiB reserve. -/
def isLoss (r : Rec) : Bool := r.typ == recCode .loss

/-- Every uncommitted record, the open one last. -/
def uncommitted (l : Ldg) : List Rec := l.buffer ++ l.openRec.toList

/-- Bytes of the buffer in use outside the reserve, and in it. -/
def bufUsed (l : Ldg) : Nat := (((uncommitted l).filter (fun r => !isLoss r)).map recLen).sum
def resUsed (l : Ldg) : Nat := (((uncommitted l).filter isLoss).map recLen).sum

/-- 1 MiB less the reserve. -/
def bufSize : Nat := 2 ^ 20 - 4096

/-- Body of a LOSS record (the table after R349). -/
def lossBody (cause sev typ n first last : Nat) : List Byte :=
  le 1 cause ++ le 1 sev ++ le 2 typ ++ le 4 n ++ le 6 first ++ le 6 last ++ zeros 4

/-- Causes of a LOSS. -/
def lossFull : Nat := 1
def lossRate : Nat := 2
def lossDisplaced : Nat := 3

/-- A record is lost: it takes no SEQ and is counted in the pending LOSS (R349). -/
def loseRec (cause : Nat) (r : Rec) (s : State) : State :=
  let d := s.ldg.loss
  let d1 : Loss :=
    if d.count == 0 then
      { count := 1, cause := cause, severity := r.severity, typ := r.typ, first := r.stroke, last := r.stroke }
    else { d with count := satAdd (2 ^ 24 - 1) d.count 1, cause := cause, severity := Nat.max d.severity r.severity,
                  last := r.stroke }
  s |> modLdg (fun l => { l with loss := d1, lost := satInc 32 l.lost, lossCause := cause }) |> gcount 2 1

/-- A displaced record as its placeholder (R349). -/
def placeholder (r : Rec) : Rec :=
  { r with typ := recCode .loss, rept := 1, node := noNode, span := 0, severity := recSev .loss,
           body := lossBody lossDisplaced r.severity r.typ 1 r.stroke r.stroke }

/-- Replace uncommitted records of severity 0 or 1, oldest first, by placeholders until `need` bytes are free; answers the
records, the bytes freed and the placeholders made. -/
def displace : List Rec → Nat → List Rec × Nat × Nat
  | [], _ => ([], 0, 0)
  | r :: rs, need =>
    if need == 0 then (r :: rs, 0, 0)
    else if r.severity ≤ 1 && !isLoss r then
      let d := displace rs (need - recLen r)
      (placeholder r :: d.1, recLen r + d.2.1, d.2.2 + 1)
    else
      let d := displace rs need
      (r :: d.1, d.2)

/-- The records left when the oldest give way until `need` bytes are free (R352). -/
def dropOldest : List Rec → Nat → List Rec
  | [], _ => []
  | r :: rs, need => if need == 0 then r :: rs else dropOldest rs (need - recLen r)

/-- Room for a record of `len` bytes and severity `sev`: the buffer as it stands then, or nothing when the record is lost
(R349). In SRAM-only mode the oldest records give way (R352). -/
def makeRoom (l : Ldg) (len sev : Nat) : Option (List Rec) :=
  if bufUsed l + len ≤ bufSize then some l.buffer
  else if l.noStore then some (dropOldest l.buffer (bufUsed l + len - bufSize))
  else if 4 ≤ sev then
    let need := bufUsed l + len - bufSize
    let d := displace l.buffer need
    if need ≤ d.2.1 && decide (resUsed l + 60 * d.2.2 ≤ 4096) then some d.1 else none
  else none

/-! ### Sealing and writing (R346, R348, R350) -/

/-- Record types that other rules send to the pod fault manager whatever their severity (R281, R283, R290, R302). -/
def alwaysSent (typ : Nat) : Bool :=
  typ == recCode .linkAbsent || typ == recCode .linkHostile || typ == recCode .gazapra || typ == recCode .ckptRequest

/-- Seal the open record: it joins the records that wait for commit, and is forwarded by severity (R346, R350). -/
def sealRec (s : State) : State :=
  match s.ldg.openRec with
  | none => s
  | some r =>
    let s1 := modLdg (fun l => { l with buffer := l.buffer ++ [r], openRec := none }) s
    whenB (decide (s.ldg.eff.fwdSev ≤ r.severity) || alwaysSent r.typ) (forwardRec r) s1

/-- A record is written: it takes the next SEQ and becomes the open record; severity 4 and 5 is sealed at once (R346, R348). -/
def writeNew (r : Rec) (s : State) : State :=
  let s1 := sealRec s
  match makeRoom s1.ldg (recLen r) r.severity with
  | none => loseRec lossFull r s1 |> occurrence { r with seq := 0 }
  | some buf =>
    let q := { r with seq := s1.ldg.next }
    let s2 := s1
      |> modLdg (fun l => { l with
          buffer := buf, openRec := some q, openSince := now s1, next := (l.next + 1) % seqMod,
          ext := if l.next + 1 == seqMod then l.ext + 1 else l.ext,
          acc := { l.acc with recs := satInc 32 l.acc.recs } })
      |> gcount 1 1
      |> occurrence q
    whenB (decide (4 ≤ r.severity)) sealRec s2

/-- The open record stands for one occurrence more (R346). -/
def foldInto (r q : Rec) (s : State) : State :=
  s |> modLdg (fun l => { l with openRec := some { q with rept := satAdd 65535 q.rept r.rept, span := r.stroke - q.stroke } })
    |> occurrence { r with seq := q.seq }

/-- A new occurrence equals the open record in TYPE, NODE and body (R346). -/
def folds (r q : Rec) : Bool := r.typ == q.typ && r.node == q.node && r.body == q.body

/-- Write or fold one occurrence (R346). -/
def writeOrFold (r : Rec) (s : State) : State :=
  match s.ldg.openRec with
  | some q => if folds r q then foldInto r q s else writeNew r s
  | none => writeNew r s

/-- The rate key of an occurrence (R347). -/
def rateKeyIs (r : Rec) (k : RateKey) : Bool :=
  k.typ == r.typ && k.node == r.node && k.body0 == (r.body.headD 0).toNat

/-- One more occurrence of a tracked key (R347). -/
def rateCount (r : Rec) (k : RateKey) : RateKey :=
  { k with count := satAdd 65535 k.count 1, first := if k.count == 0 then r.stroke else k.first, last := r.stroke, body := r.body }

/-- An occurrence of a type folded by rate (R347): counted, lost when 64 keys are tracked, or written with a new window. -/
def writeByRate (r : Rec) (s : State) : State :=
  if s.ldg.rates.any (rateKeyIs r) then
    s |> modLdg (fun l => { l with rates := l.rates.map (fun k => if rateKeyIs r k then rateCount r k else k) })
      |> occurrence { r with seq := 0 }
  else if 64 ≤ s.ldg.rates.length then loseRec lossRate r s |> occurrence { r with seq := 0 }
  else
    let key : RateKey := { typ := r.typ, node := r.node, body0 := (r.body.headD 0).toNat, opened := now s }
    s |> modLdg (fun l => { l with rates := l.rates ++ [key] }) |> writeOrFold r

/-- Write a record that concerns partition `p`, with a severity of its own. -/
def recSevPart (t : RecType) (node : Nat) (p : Option Nat) (sev : Nat) (body : List Byte) (s : State) : State :=
  let r := stampRec s t node p sev body
  if recByRate t then writeByRate r s else writeOrFold r s

/-- Write a record whose body names one partition (R342). -/
def recPart (t : RecType) (node k : Nat) (body : List Byte) : State → State := recSevPart t node (some k) (recSev t) body

/-- Write a record; PART follows its node (R342). -/
def record (t : RecType) (node : Nat) (body : List Byte) (s : State) : State :=
  recSevPart t node (partOf s node) (recSev t) body s

/-- Write a record that concerns no node. -/
def recordBlock (t : RecType) (body : List Byte) : State → State := record t noNode body

/-- A LOSS record for the pending losses, when the reserve holds it (R349). -/
def writeLoss (s : State) : State :=
  let d := s.ldg.loss
  if d.count == 0 || decide (4096 < resUsed s.ldg + 60) then s
  else
    s |> modLdg (fun l => { l with loss := {} })
      |> recordBlock .loss (lossBody d.cause d.severity d.typ d.count d.first d.last)

/-! ### Denials (R6, R7, R322, R402) -/

/-- Body of VIEW_DENIED and NODE_UNMAPPED (R322, R436). -/
def deniedBody (a : Access) (write narrow : Bool) (addr : Nat) : List Byte :=
  le 1 a.slot ++ le 1 (b2n write + 2 * b2n a.sec + 4 * b2n narrow) ++ zeros 2 ++ le 4 addr

/-- A denied access: a bus error and a VIEW_DENIED record, folded by rate (R7, R322). -/
def deny (a : Access) (write narrow : Bool) (addr : Nat) (s : State) : State :=
  s |> recordBlock .viewDenied (deniedBody a write narrow addr) |> gcount 13 1 |> busErr

/-- A write to a register that only the privileged view reaches: denied to other views, refused in a CONTROL reset outside the
windows of R323, and done otherwise (R7, R323; the order of R402). In cold reset no access completes (log entry 19). -/
def privWrite (a : Access) (addr : Nat) (f : State → State) (s : State) : State :=
  if s.boot.inReset then s
  else if !privileged s a then deny a true false addr s
  else if controlReset s && !keptWindow addr then busErr s
  else busOk (f s)

end Sys2Proof.Machine
end

