-- ==== Sys2Proof/Machine/AlarmOps.lean ====
section
/-!
DEFINITION. Partition states (R273), epochs, and the ALARM (R274 to R278): originating one, and what acting on one does before
anything leaves.
-/
namespace Sys2Proof.Machine

open Sys2Proof

/-! ### ALARM causes (R278) -/

def acVerdictFail : Nat := 0x01
def acLateFail : Nat := 0x02
def acTallyFail : Nat := 0x03
def acReplicaSplit : Nat := 0x04
def acQuarantine : Nat := 0x05
def acHang : Nat := 0x06
def acReset : Nat := 0x07
def acStrokeLost : Nat := 0x08
def acVerdictLost : Nat := 0x09
def acLifecycle : Nat := 0x0A
def acNodeAbsent : Nat := 0x0B
def acSelfFault : Nat := 0x0C
def acManual : Nat := 0x0D

/-- A received cause code that the table does not list is handled as MANUAL (R278). -/
def knownCause (c : Nat) : Nat := if 1 ≤ c && decide (c ≤ 0x0D) then c else acManual

/-! ### Partition states (R273) -/

/-- Put a partition into a state; a change sets the EPOCH interrupt of its owner, and entry into ABORTING the ALARM one (R339). -/
def setPart (k st e : Nat) (s : State) : State :=
  if (part s k).state == st && (part s k).epoch == e then s
  else
    s |> modPart k (fun q => { q with state := st, epoch := e })
      |> irqPart k irqEpoch
      |> whenB (st == psAborting) (irqPart k irqAlarm)

/-- A partition waits for an epoch or is in it. -/
def holdsEpoch (e : Nat) (q : Part) : Bool :=
  q.valid && (((q.state == psPending || q.state == psMember || q.state == psAborting) && q.epoch == e) ||
    (match q.pending with | some (f, _) => f == e | none => false))

/-- The partitions PENDING, MEMBER or ABORTING in an epoch, or queued for it. -/
def holders (s : State) (e : Nat) : List Nat := tfind s.parts (fun _ q => holdsEpoch e q)

/-- An epoch's energy is no longer counted. -/
def forgetEnergy (e : Nat) (s : State) : State := { s with energies := s.energies.filter (fun y => !(y.epoch == e)) }

/-- The EPOCH_ENERGY record of an epoch whose last partition has left; `last` is its last stroke (R386). -/
def energyRecord (last e : Nat) (s : State) : State :=
  match s.energies.find? (fun x => x.epoch == e) with
  | none => s
  | some x =>
    s |> recordBlock .epochEnergy (le 4 e ++ le 6 x.first ++ le 6 last ++ le 8 ((s.pwr.energy - x.start) / 2))
      |> forgetEnergy e

/-- Once no partition holds an epoch, its seed and keys are erased and it counts among the last 256 epochs left (R271, R276,
R277). -/
def dropEpoch (last e : Nat) (s : State) : State :=
  if (holders s e).isEmpty && (epoch? s e).isSome then
    let s1 := { s with epochs := s.epochs.filter (fun x => !(x.id == e)) }
    s1 |> modRcv (fun r => { r with left := (e :: r.left).take 256 }) |> energyRecord last e
  else s

/-- The state a partition takes when it leaves: HELD when a cause holds it, the queued JOIN's PENDING, or IDLE (R273, R279). -/
def afterLeave (k : Nat) (s : State) : State :=
  let q := part s k
  let s1 := modPart k (fun q => { q with leaveAt := none, timer := false, verifiedValid := false }) s
  if q.heldNext then
    s1 |> modPart k (fun q => { q with heldNext := false, pending := none }) |> setPart k psHeld 0
       |> whenSome q.pending (fun x => dropEpoch (now s) x.1)
  else match q.pending with
    | some (e, _) => if q.state == psPending then s1 |> modPart k (fun q => { q with pending := none }) |> setPart k psIdle 0
                     else setPart k psPending e s1
    | none => setPart k psIdle 0 s1

/-- Queued joins to an epoch are forgotten. -/
def forgetJoins (e : Nat) (s : State) : State :=
  { s with parts := tmap s.parts (fun _ q =>
    match q.pending with
    | some (f, _) => if f == e then { q with pending := none } else q
    | none => q) }

/-- Cancel the PENDING partitions of an epoch and the queued joins to it, at once (R276). -/
def cancelPending (e : Nat) (s : State) : State :=
  let waiting := tfind s.parts (fun _ q => q.valid && q.state == psPending && q.epoch == e)
  let s1 := forEach waiting afterLeave s
  let s2 := forgetJoins e s1
  let some_ := s.parts.any (fun x => match x.2.pending with | some (f, _) => f == e | none => false)
  if some_ then
    if (holders s2 e).isEmpty then dropEpoch (now s) e s2
    else modRcv (fun r => { r with left := (e :: r.left).take 256 }) s2
  else s2

/-! ### The ALARM (R274 to R276) -/

/-- Bytes 0 to 39 of an ALARM payload (R275). -/
def alarmBytes (m : AlarmMsg) : List Byte :=
  le 6 m.originStroke ++ le 6 m.abortAt ++ le 1 m.cause ++ le 1 m.reach ++ le 2 m.seq ++ le 4 m.origin ++ le 2 m.node ++
  le 1 m.part ++ zeros 1 ++ fit 16 m.detail

/-- Body of ALARM and ALARM_LATE records (R436). -/
def alarmBody (m : AlarmMsg) (role : Nat) : List Byte := alarmBytes m ++ le 1 role ++ zeros 3

/-- An ALARM is in effect for an epoch: some partition of it is ABORTING (R274). -/
def alarmInEffect (s : State) (e : Nat) : Bool :=
  s.parts.any (fun x => x.2.valid && x.2.state == psAborting && x.2.epoch == e)

/-- The epoch leaves at the earliest ABORT_AT (R276). -/
def earlier (a : Option Nat) (b : Nat) : Nat := match a with | some x => Nat.min x b | none => b

/-- What acting on an ALARM does at once: the record, RCV_ALARM, the counters, ABORTING, and the cancelled joins (R276). -/
def actOnAlarm (m : AlarmMsg) (role : Nat) (s : State) : State :=
  let mem := partsIn s m.epoch
  s |> recordBlock .alarm (alarmBody m role)
    |> modRcv (fun r => { r with alarmCause := m.cause, alarmAbort := m.abortAt })
    |> gcount 11 1
    |> forEach mem (fun k => pcount k 14 1)
    |> modEpoch m.epoch (fun x => { x with abortAt := some (earlier x.abortAt m.abortAt), acted := (m.origin, m.seq) :: x.acted })
    |> forEach mem (fun k => setPart k psAborting m.epoch)
    |> cancelPending m.epoch

/-- The key by which copies of an ALARM are dropped, with the stroke at which it was taken (R310). -/
def alarmKey (m : AlarmMsg) (at0 : Nat) : Nat × Nat × Nat × Nat := (m.epoch, m.origin, m.seq, at0)

/-- Remember an ALARM's key; of 4,096 the oldest gives way (R310). -/
def rememberAlarm (m : AlarmMsg) (s : State) : State :=
  modWch (fun w => { w with alarmKeys := (alarmKey m (now s) :: w.alarmKeys).take 4096 }) s

/-- Originate an ALARM for an epoch with a partition PENDING, MEMBER or ABORTING here, unless one is in effect (R274, R275). -/
def originate (cause e node k : Nat) (detail : List Byte) (s : State) : State :=
  match epoch? s e with
  | none => s
  | some x =>
    if alarmInEffect s e then s
    else
      let m : AlarmMsg := {
        epoch := e, originStroke := now s, abortAt := now s + 2 + s.gnd.a, cause := cause, reach := s.gnd.a,
        seq := x.alarmSeq % 65536, origin := s.wch.chip, node := node, part := k, detail := detail }
      s |> modEpoch e (fun y => { y with alarmSeq := y.alarmSeq + 1 })
        |> flood none (newFlit s clAlarm mdFlood e (.alarm m))
        |> rememberAlarm m
        |> actOnAlarm m 1

/-- Originate an ALARM for the epoch of partition `k`, when it is in one. -/
def alarmPart (cause k node : Nat) (detail : List Byte) (s : State) : State :=
  if inEpoch (part s k) then originate cause (part s k).epoch node k detail s else s

/-- Originate an ALARM for each of several epochs. -/
def alarmEpochs (cause : Nat) (es : List Nat) : State → State :=
  forEach es (fun e s => originate cause e noNode (((partsIn s e).headD 0)) (zeros 16) s)

/-- The epochs with a MEMBER partition: the heartbeat's list (R313, R376). -/
def memberEpochs (s : State) : List Nat :=
  (s.parts.filter (fun e => e.2.valid && e.2.state == psMember)).foldl (fun l e => addNew l e.2.epoch) []

/-- The epochs with a PENDING, MEMBER or ABORTING partition. -/
def allEpochs (s : State) : List Nat :=
  (s.parts.filter (fun e => e.2.valid && (e.2.state == psPending || inEpoch e.2))).foldl (fun l e => addNew l e.2.epoch) []

end Sys2Proof.Machine
end

