-- ==== Sys2Proof/Machine/D127.lean ====
section
/-!
DEFINITION. The linear digest D127 (R168 to R172, R193), its points (R170) and the stroke key (R144).
-/
namespace Sys2Proof.Machine

open Sys2Proof

/-- p = 2^127 − 1 (R168). -/
def dP : Nat := 2 ^ 127 - 1

/-- Power modulo p by squaring; exponents stay below 2^48. -/
def powGo : Nat → Nat → Nat → Nat
  | 0, _, _ => 1
  | k + 1, b, e => if e == 0 then 1 else (if e % 2 == 1 then b else 1) * powGo k (b * b % dP) (e / 2) % dP
def powP (b e : Nat) : Nat := powGo 48 (b % dP) e

/-- An integer modulo p. -/
def modP (v : Int) : Nat := (v % (dP : Int)).toNat

/-- What elements `vs` that start at index `first` add to a digest under point `r` (R172). -/
def digestAt (r first : Nat) (vs : List Int) : Nat :=
  powP r first * (vs.foldr (fun v d => (modP v + d) * r % dP) 0) % dP

/-- D127 of a vector (R168). -/
def digest (r : Nat) (vs : List Int) : Nat := digestAt r 0 vs

/-- Bytes as unsigned little-endian 64-bit words, the last padded with zeros (R169, word form). -/
def wordsOf (bs : List Byte) : List Int := (List.range (ceilDiv bs.length 8)).map (fun i => (rd bs (8 * i) 8 : Int))

/-- A point from a key, a domain and fields: the first counter whose value is neither 0 nor 1 (R170). -/
def pointGo (key msg : List Byte) : Nat → Nat → Nat
  | 0, _ => 2
  | k + 1, c =>
    let v := rd (Config.hmac key (msg ++ le 1 c)) 0 16 % 2 ^ 127 % dP
    if v ≤ 1 then pointGo key msg k (c + 1) else v
def point (key domain fields : List Byte) : Nat := pointGo key (domain ++ fields) 256 0

/-- The epoch point, the varnish point and the fixed point (R170). -/
def epochPoint (seed : List Byte) (e : Nat) : Nat := point seed (bytes [0x44, 0x57, 0x45, 0x50]) (le 4 e)
def varnishPoint (seed : List Byte) (e step k : Nat) : Nat :=
  point seed (bytes [0x44, 0x57, 0x56, 0x50]) (le 4 e ++ le 6 step ++ le 1 k)
def fixedPoint : Nat := point (zeros 48) (bytes [0x44, 0x57, 0x45, 0x50]) (le 4 0)

/-- The point of an epoch the block holds. -/
def pointOf (s : State) (e : Nat) : Nat :=
  match epoch? s e with
  | some x => epochPoint x.seed e
  | none => 2

/-- The stroke key K_s (R144). -/
def strokeKey (seed : List Byte) (e n : Nat) : List Byte :=
  (Config.hmac seed (bytes [0x44, 0x57, 0x43, 0x53] ++ le 4 e ++ le 6 n)).take 16

/-- The stroke key of an epoch the block holds. -/
def keyOf (s : State) (e n : Nat) : List Byte :=
  match epoch? s e with
  | some x => strokeKey x.seed e n
  | none => []

end Sys2Proof.Machine
end

