-- ==== Sys2Proof/Machine/CheckOps.lean ====
section
/-!
DEFINITION. What happens when a check ends: it waits for the Judge of its stroke, or ends late (R27, R228); touch summaries and
their rows (R230 to R232); the evidence of a port (R249).
-/
namespace Sys2Proof.Machine

open Sys2Proof

/-! ### Check kinds and codes (R156, R222) -/

def ckResidue : Nat := 0
def ckRecompute : Nat := 1
def ckDuplex : Nat := 2
def ckSlice : Nat := 3
def ckPeer : Nat := 4
def ckTally : Nat := 5
def ckTransport : Nat := 6
def ckReplica : Nat := 7

def vPass : Nat := 0
def vLate : Nat := 1
def vUncovered : Nat := 2
def vFail : Nat := 3

/-! ### Touch summaries (R230) -/

/-- The 64 bits of a touch summary. -/
def touchWord (t : Touch) : Nat :=
  at_ 40 24 t.buf + at_ 24 16 t.coll + at_ 8 16 t.step + atB 6 t.borrowed + atB 5 t.duplex + atB 4 t.stretch + atB 3 t.silent +
  atB 2 t.failed + atB 1 t.clean + atB 0 t.active

/-- RCV_SPILL_SIZE's effective value (R232, R251). -/
def spillSize (s : State) : Nat := Nat.min s.taint.spillSize 16

/-- Where the row of a stroke lies in the spill region (log entry 21). -/
def spillAddr (s : State) (n : Nat) : Nat := s.taint.spillBase + n % (spillSize s * 16384) * 16384

/-- A verdict marks a summary: FAILED stays, CLEAN only while FAILED is clear (R231). -/
def markTouch (failed : Bool) (t : Touch) : Touch :=
  if failed then { t with failed := true, clean := false } else if t.failed then t else { t with clean := true }

/-- Mark the retained or spilled summary of a port's stroke; with neither row the update is lost (R231). -/
def touchMark (p n : Nat) (failed : Bool) (s : State) : State :=
  match tget s.taint.rows n with
  | some _ => modTaint (fun x => { x with rows := tadj x.rows n (fun r => tmod r p {} (markTouch failed)) }) s
  | none => match tget s.taint.spilled n with
    | some row =>
      s |> modTaint (fun x => { x with spilled := tadj x.spilled n (fun r => tmod r p {} (markTouch failed)) })
        |> memWrite (spillAddr s n + 8 * p) false (le 8 (touchWord (markTouch failed (tgetD row p {}))))
        |> issueMem (.spill n)
    | none => s

/-- A check of an attributed kind updates its port's summary (R231). -/
def touchCheck (c : Chk) (s : State) : State :=
  match c.port with
  | some p =>
    if c.code == vFail then touchMark p c.stroke true s
    else if c.code ≤ vLate && 1 ≤ c.kind && c.kind ≤ 3 then touchMark p c.stroke false s
    else s
  | none => s

/-! ### Where a check lands -/

/-- The verified stroke of an epoch (R41). -/
def verifiedOf (s : State) (e : Nat) : Option Nat := (epoch? s e).bind (fun x => x.verified)

/-- A stroke at or below a verified stroke. -/
def atOrBelow (v : Option Nat) (n : Nat) : Bool := match v with | some x => decide (n ≤ x) | none => false

/-- The stroke's verdicts have been formed: a check of it that ends now ends late (R26, R27). -/
def closedFor (s : State) (n : Nat) : Bool := decide (n + 1 < now s) || (n + 1 == now s && decide (2 ≤ s.stk.phase))

/-- The node of a check (R222). -/
def chkNode (c : Chk) : Nat := match c.port with | some p => nodeOf p | none => 0

/-- A VERDICT message about one failing check of this block. -/
def failMsg (s : State) (kind : Nat) (c : Chk) : VerdictMsg :=
  { epoch := c.epoch, stroke := c.stroke, kind := kind, worst := vFail
    kinds := (List.range 8).map (fun k => if k == c.kind then vFail else vPass)
    blocks := 1, members := (match epoch? s c.epoch with | some x => x.members | none => 0)
    nfail := 1, uncovered := 0, checks := c.n, chips := [s.wch.chip] }

/-- A FAIL at or below the verified stroke: LATE_FAIL toward the root and an ALARM (R228). -/
def lateFault (c : Chk) (s : State) : State :=
  s |> sendUp clVerdict c.epoch (.verdict (failMsg s 3 c))
    |> originate acLateFail c.epoch (chkNode c) c.part (zeros 16)

/-- The earliest stroke of an epoch that holds a FAIL: verification does not reach it (R227). -/
def noteFail (e n : Nat) : State → State :=
  modEpoch e (fun x => { x with failedAt := some (match x.failedAt with | some m => Nat.min m n | none => n) })

/-- Wait for the Judge that forms the verdict. -/
def addChk (c : Chk) (s : State) : State := { s with chks := s.chks ++ [c] }

/-- A check has ended: it waits for the Judge of its stroke, or, late, is marked LATE or FAIL and published with the next
verdicts (R27, R228, R231). -/
def landCheck (c : Chk) (s : State) : State :=
  if closedFor s c.stroke then
    let d := { c with late := true, code := if c.code == vPass then vLate else c.code }
    s |> addChk d |> touchCheck d
      |> whenB (d.code == vFail) (fun s =>
          if atOrBelow (verifiedOf s d.epoch) d.stroke then lateFault d s
          else s |> sendUp clVerdict d.epoch (.verdict (failMsg s 3 d)) |> noteFail d.epoch d.stroke)
  else addChk c s

/-- The epoch in which a partition now is, or 0. -/
def epochOf (s : State) (k : Nat) : Nat := if inEpoch (part s k) then (part s k).epoch else 0

/-- A check counted at a port, in its partition's epoch. -/
def portChk (s : State) (p stroke kind code : Nat) : Chk :=
  { stroke := stroke, kind := kind, port := some p, epoch := epochOf s (tile s p).part, part := (tile s p).part, code := code }

/-- A check counted at node 0 (R222). -/
def nodeChk (e k stroke kind code : Nat) : Chk := { stroke := stroke, kind := kind, epoch := e, part := k, code := code }

/-- Keep a record body as evidence, newest first, at most eight (R249). -/
def addEvid (p : Nat) (v : Evid) : State → State := modSent p (fun x => { x with evid := (v :: x.evid).take 8 })

end Sys2Proof.Machine
end

