-- ==== Sys2Proof/Machine/Arith.lean ====
section
/-!
DEFINITION. The arithmetic contract (R81 to R106): element formats, the FP32 primitives, GEMM, output conversion, attention,
special functions, normalisation, the optimiser and the tally conversions, bit for bit.
FP32 values are their 32 bits as naturals.
-/
namespace Sys2Proof.Machine

open Sys2Proof

/-! ### Exact numbers -/

/-- A decoded number: NaN, an infinity, or ±m·2^e. -/
inductive Num where
  | nan
  | inf (neg : Bool)
  | fin (neg : Bool) (m : Nat) (e : Int)
  deriving DecidableEq, Repr

/-- An exact dyadic number n·2^e. -/
structure Dyad where
  n : Int
  e : Int
  deriving DecidableEq, Repr

/-- Exact sum. -/
def Dyad.add (a b : Dyad) : Dyad :=
  let e := min a.e b.e
  { n := a.n * (2 : Int) ^ (a.e - e).toNat + b.n * (2 : Int) ^ (b.e - e).toNat, e := e }

/-- A dyadic number as a finite one, zero being +0. -/
def Dyad.num (a : Dyad) : Num := .fin (decide (a.n < 0)) a.n.natAbs a.e

/-- A finite number's signed magnitude. -/
def sgn (neg : Bool) (m : Nat) : Int := if neg then -(m : Int) else m

/-- Exact product (R88): an infinity times a zero is NaN. -/
def mulN : Num → Num → Num
  | .nan, _ => .nan
  | _, .nan => .nan
  | .inf s, .inf t => .inf (s != t)
  | .inf s, .fin t m _ => if m == 0 then .nan else .inf (s != t)
  | .fin s m _, .inf t => if m == 0 then .nan else .inf (s != t)
  | .fin s m e, .fin t n f => .fin (s != t) (m * n) (e + f)

/-- Exact sum (R88): an exact zero is +0 unless both terms are negative. -/
def addN : Num → Num → Num
  | .nan, _ => .nan
  | _, .nan => .nan
  | .inf s, .inf t => if s == t then .inf s else .nan
  | .inf s, .fin _ _ _ => .inf s
  | .fin _ _ _, .inf t => .inf t
  | .fin s m e, .fin t n f =>
    let d := Dyad.add { n := sgn s m, e := e } { n := sgn t n, e := f }
    if d.n == 0 then .fin (s && t) 0 0 else d.num

/-- The number with the other sign. -/
def negN : Num → Num
  | .nan => .nan
  | .inf s => .inf (!s)
  | .fin s m e => .fin (!s) m e

/-- Quotient by 2^k, rounded to nearest with ties to even. -/
def rne (n k : Nat) : Nat :=
  let q := n / 2 ^ k
  let r := n % 2 ^ k
  if 2 ^ k < 2 * r || (2 * r == 2 ^ k && q % 2 == 1) then q + 1 else q

/-- Magnitude bits of m·2^e in a binary format of `mb` mantissa bits whose smallest quantum is 2^qmin: rounded once, subnormals
kept (R86), the carry running into the exponent field. -/
def magBits (mb : Nat) (qmin : Int) (m : Nat) (e : Int) : Nat :=
  if m == 0 then 0
  else
    let q := max (e + (Nat.log2 m : Int) - mb) qmin
    let n := if q ≤ e then m * 2 ^ (e - q).toNat else rne m (q - e).toNat
    (q - qmin).toNat * 2 ^ mb + n

/-! ### FP32 and BF16 -/

/-- Decode an IEEE format of `eb` exponent bits and `mb` mantissa bits. -/
def decIeee (eb mb : Nat) (b : Nat) : Num :=
  let neg := bitOf b (eb + mb)
  let ex := b / 2 ^ mb % 2 ^ eb
  let m := b % 2 ^ mb
  let qmin : Int := 2 - 2 ^ (eb - 1) - mb
  if ex == 2 ^ eb - 1 then (if m == 0 then .inf neg else .nan)
  else if ex == 0 then .fin neg m qmin
  else .fin neg (2 ^ mb + m) (qmin + ex - 1)

/-- Encode in an IEEE format: one rounding, infinity on overflow, the canonical NaN (R87, R88). -/
def encIeee (eb mb : Nat) : Num → Nat
  | .nan => (2 ^ eb - 1) * 2 ^ mb + 2 ^ (mb - 1)
  | .inf s => (if s then 2 ^ (eb + mb) else 0) + (2 ^ eb - 1) * 2 ^ mb
  | .fin s m e =>
    (if s then 2 ^ (eb + mb) else 0) + Nat.min ((2 ^ eb - 1) * 2 ^ mb) (magBits mb (2 - 2 ^ (eb - 1) - mb) m e)

/-- FP32 and BF16. -/
def dec32 : Nat → Num := decIeee 8 23
def enc32 : Num → Nat := encIeee 8 23
def decBf : Nat → Num := decIeee 8 7
def encBf : Num → Nat := encIeee 8 7

/-- The FP32 canonical NaN (R87). -/
def nan32 : Nat := 0x7FC00000

/-- FP32 constants. -/
def f32Zero : Nat := 0
def f32One : Nat := 0x3F800000
def f32NegInf : Nat := 0xFF800000
def f32Inf : Nat := 0x7F800000

/-! ### FP32 primitives (R88) -/

def fp32Add (a b : Nat) : Nat := enc32 (addN (dec32 a) (dec32 b))
def fp32Sub (a b : Nat) : Nat := enc32 (addN (dec32 a) (negN (dec32 b)))
def fp32Mul (a b : Nat) : Nat := enc32 (mulN (dec32 a) (dec32 b))

/-- Round to an integral value, ties to even. -/
def rintN : Num → Num
  | .fin s m e => if 0 ≤ e then .fin s m e else .fin s (rne m (-e).toNat) 0
  | x => x

def fp32Rint (a : Nat) : Nat := enc32 (rintN (dec32 a))

/-- p × 2^n, rounded once. -/
def fp32Scalb (p : Nat) (n : Int) : Nat :=
  match dec32 p with
  | .fin s m e => enc32 (.fin s m (e + n))
  | x => enc32 x

/-- The correctly rounded 1/x: 64 quotient bits and a sticky bit decide the rounding. -/
def rcpC (x : Nat) : Nat :=
  match dec32 x with
  | .nan => nan32
  | .inf s => enc32 (.fin s 0 0)
  | .fin s m e =>
    if m == 0 then enc32 (.inf s)
    else enc32 (.fin s (2 * (2 ^ 64 / m) + b2n (!(2 ^ 64 % m == 0))) (-e - 65))

/-- Integer square root by bits from the top. -/
def isqrtGo : Nat → Nat → Nat → Nat
  | 0, _, r => r
  | k + 1, n, r => if (r + 2 ^ k) * (r + 2 ^ k) ≤ n then isqrtGo k n (r + 2 ^ k) else isqrtGo k n r
def isqrt (n : Nat) : Nat := isqrtGo (Nat.log2 n / 2 + 1) n 0

/-- The correctly rounded square root: at least 28 root bits and a sticky bit. -/
def sqrtC (x : Nat) : Nat :=
  match dec32 x with
  | .nan => nan32
  | .inf s => if s then nan32 else f32Inf
  | .fin s m e =>
    if m == 0 then enc32 (.fin s 0 0)
    else if s then nan32
    else
      let odd := (e % 2).toNat
      let m1 := m * 2 ^ (64 + odd)
      let e1 := e - odd - 64
      let r := isqrt m1
      enc32 (.fin false (2 * r + b2n (!(r * r == m1))) (e1 / 2 - 1))

/-- Two roundings. -/
def rsqrtC (x : Nat) : Nat := rcpC (sqrtC x)

/-- Exact order of finite and infinite numbers. -/
def leN : Num → Num → Bool
  | .nan, _ => false
  | _, .nan => false
  | .inf s, .inf t => s || !t
  | .inf s, .fin _ _ _ => s
  | .fin _ _ _, .inf t => !t
  | .fin s m e, .fin t n f => decide ((Dyad.add { n := sgn t n, e := f } { n := -(sgn s m), e := e }).n ≥ 0)

/-- max, with +0 above −0 and NaN for a NaN (R87, R88). -/
def maxC (a b : Nat) : Nat :=
  match dec32 a, dec32 b with
  | .nan, _ => nan32
  | _, .nan => nan32
  | x, y => if leN x y && leN y x then (if bitOf a 31 then b else a) else if leN x y then b else a

/-- Equality of values; the two zeros are equal. -/
def eqC (a b : Nat) : Bool := leN (dec32 a) (dec32 b) && leN (dec32 b) (dec32 a)

/-! ### Element formats (R85, R152) -/

/-- Bits of one element. -/
def fmtBits (f : Nat) : Nat :=
  if f == 0 || f == 9 || f == 0xA then 32
  else if f == 1 then 16
  else if f == 4 || f == 5 then 6
  else if f == 6 then 4
  else 8

/-- A small float: mantissa bits, the exponent of the smallest quantum and the bits of the largest finite magnitude. -/
structure Small where
  mb : Nat
  qmin : Int
  top : Nat
  emax : Int

/-- The MX float element types. -/
def small? (f : Nat) : Option Small :=
  if f == 2 then some { mb := 3, qmin := -9, top := 0x7E, emax := 8 }
  else if f == 3 then some { mb := 2, qmin := -16, top := 0x7B, emax := 15 }
  else if f == 4 then some { mb := 3, qmin := -3, top := 0x1F, emax := 2 }
  else if f == 5 then some { mb := 2, qmin := -4, top := 0x1F, emax := 4 }
  else if f == 6 then some { mb := 1, qmin := -1, top := 0x7, emax := 2 }
  else none

/-- Decode an element of a format. -/
def decElem (f b : Nat) : Num :=
  if f == 0 then dec32 b
  else if f == 1 then decBf b
  else match small? f with
    | some t =>
      let w := fmtBits f
      let neg := bitOf b (w - 1)
      let mag := b % 2 ^ (w - 1)
      let ex := mag / 2 ^ t.mb
      let m := mag % 2 ^ t.mb
      if f == 2 && mag == 0x7F then .nan
      else if f == 3 && ex == 31 then (if m == 0 then .inf neg else .nan)
      else if ex == 0 then .fin neg m t.qmin
      else .fin neg (2 ^ t.mb + m) (t.qmin + ex - 1)
    | none =>
      let w := fmtBits f
      let i := signed w b
      .fin (decide (i < 0)) i.natAbs (if f == 7 then -6 else 0)

/-- An element as FP32 (exact for every format but INT32, which R94 alone uses). -/
def toF32 (f b : Nat) : Nat := if f == 0 then b else enc32 (decElem f b)

/-! ### Block sums (R90 to R93) -/

/-- The finite terms of a list, summed exactly. -/
def sumFin (l : List Num) : Dyad :=
  l.foldl (fun d x => match x with | .fin s m e => d.add { n := sgn s m, e := e } | _ => d) { n := 0, e := 0 }

/-- Special rows of R91 over the products of a block. -/
def special? (ps : List Num) : Option Nat :=
  if ps.any (fun x => x == .nan) then some nan32
  else if ps.any (fun x => x == .inf false) && ps.any (fun x => x == .inf true) then some nan32
  else if ps.any (fun x => x == .inf false) then some f32Inf
  else if ps.any (fun x => x == .inf true) then some f32NegInf
  else none

/-- GEMM_MX block sum (R90, R91). -/
def blockMx (xa xb : Nat) (ps : List (Num × Num)) : Nat :=
  let prods := ps.map (fun p => mulN p.1 p.2)
  if xa == 0xFF || xb == 0xFF then nan32
  else match special? prods with
    | some v => v
    | none =>
      let d := sumFin prods
      enc32 (Dyad.num { n := d.n, e := d.e + xa + xb - 254 })

/-- GEMM_BF16 block sum over the 64-bit window (R92). -/
def blockBf (ps : List (Num × Num)) : Nat :=
  let prods := ps.map (fun p => mulN p.1 p.2)
  match special? prods with
  | some v => v
  | none =>
    let fs := prods.filterMap (fun x => match x with | .fin _ m e => if m == 0 then none else some e | _ => none)
    match fs with
    | [] => f32Zero
    | f0 :: rest =>
      let lo := rest.foldl max f0 - 42
      let entry (x : Num) : Int := match x with
        | .fin s m e => if lo ≤ e then sgn s m * (2 : Int) ^ (e - lo).toNat else sgn s (m / 2 ^ (lo - e).toNat)
        | _ => 0
      enc32 (Dyad.num { n := (prods.map entry).sum, e := lo })

/-- One level of the pairwise tree. -/
def pairUp : List Nat → List Nat
  | a :: b :: l => fp32Add a b :: pairUp l
  | l => l

/-- tree_sum (R95). -/
def treeGo : Nat → List Nat → Nat
  | 0, l => l.headD f32Zero
  | k + 1, l => match l with
    | [] => f32Zero
    | [x] => x
    | l => treeGo k (pairUp l)
def treeSum (l : List Nat) : Nat := treeGo l.length l

/-- Consecutive runs of `n` of a list. -/
def chunks {α : Type} : Nat → Nat → List α → List (List α)
  | 0, _, _ => []
  | _ + 1, _, [] => []
  | k + 1, n, l => l.take n :: chunks k n (l.drop n)
def chunk {α : Type} (n : Nat) (l : List α) : List (List α) := chunks l.length n l

/-- A dot product in FP32 by the rules of an OPC: 1 MX with one scale pair per block, 2 BF16, 3 FP32 (R89 to R95). -/
def dot (opc fa fb : Nat) (scales : List (Nat × Nat)) (a b : List Nat) : Nat :=
  let pairs := chunk 32 (a.zip b)
  treeSum (pairs.mapIdx (fun i ps =>
    let dec := ps.map (fun p => (decElem fa p.1, decElem fb p.2))
    if opc == 1 then blockMx (lget (scales.map Prod.fst) i 127) (lget (scales.map Prod.snd) i 127) dec
    else if opc == 2 then blockBf dec
    else treeSum (ps.map (fun p => fp32Mul p.1 p.2) ++ List.replicate (32 - ps.length) f32Zero)))

/-- The exact INT8 sum with its addend, saturated to INT32 (R94). -/
def dotInt8 (a b : List Nat) (c : Option Int) : Nat :=
  let s := (a.zip b).foldl (fun n p => n + signed 8 p.1 * signed 8 p.2) (0 : Int) + c.getD 0
  twos 32 (max (-(2 ^ 31)) (min (2 ^ 31 - 1) s))

/-! ### Output conversion (R96) -/

/-- One finite magnitude times 2^(−X) in a small float, saturated. -/
def smallBits (t : Small) (w : Nat) (x : Int) : Num → Nat
  | .nan => 0
  | .inf s => (if s then 2 ^ (w - 1) else 0) + t.top
  | .fin s m e => (if s then 2 ^ (w - 1) else 0) + Nat.min t.top (magBits t.mb t.qmin m (e - x))

/-- One element times 2^(−X) in MX INT8, saturated to ±127. -/
def int8Bits (x : Int) : Num → Nat
  | .nan => 0
  | .inf s => twos 8 (sgn s 127)
  | .fin s m e =>
    let k := e - x + 6
    twos 8 (sgn s (Nat.min 127 (if 0 ≤ k then m * 2 ^ k.toNat else rne m (-k).toNat)))

/-- The scale exponent of an output block (log entry 20: an infinity counts as the largest magnitude). -/
def blockScale (emax : Int) (ns : List Num) : Int :=
  if ns.any (fun x => match x with | .inf _ => true | _ => false) then 127
  else
    let tops := ns.filterMap (fun x => match x with
      | .fin _ m e => if m == 0 then none else some (e + (Nat.log2 m : Int))
      | _ => none)
    match tops with
    | [] => -127
    | t :: ts => max (-127) (min 127 (ts.foldl max t - emax))

/-- One block of 32 results in an MX element type: its scale byte and its elements (R96). -/
def convBlock (f : Nat) (vs : List Nat) : Nat × List Nat :=
  let ns := vs.map dec32
  let isNan (x : Num) : Bool := x == .nan
  match small? f with
  | some t =>
    let w := fmtBits f
    let x := blockScale t.emax ns
    if !(f == 2 || f == 3) && ns.any isNan then (0xFF, ns.map (fun _ => 0))
    else
      let one (n : Num) : Nat := match n with
        | .nan => if f == 2 then 0x7F else 0x7E
        | .inf s => if f == 3 then (if s then 0x80 else 0) + 0x7C else smallBits t w x (.inf s)
        | n => smallBits t w x n
      ((x + 127).toNat, ns.map one)
  | none =>
    let x := blockScale 0 ns
    if ns.any isNan then (0xFF, ns.map (fun _ => 0)) else ((x + 127).toNat, ns.map (int8Bits x))

/-- A format with block scales. -/
def mxFormat (f : Nat) : Bool := (small? f).isSome || f == 7

/-- A row of FP32 results leaves the FP32 domain: elements, and the scales of its blocks. -/
def outConvert (f : Nat) (vs : List Nat) : List Nat × List Nat :=
  if f == 0 then (vs, [])
  else if f == 1 then (vs.map (fun v => encBf (dec32 v)), [])
  else
    let bs := (chunk 32 vs).map (convBlock f)
    ((bs.map Prod.snd).flatten, bs.map Prod.fst)

/-! ### Special functions (R99, R100) -/

/-- exp_c; the constants are the FP32 values nearest to the decimals of R99. -/
def expC (x : Nat) : Nat :=
  let t := fp32Mul x 0x3FB8AA3B
  if dec32 x == .nan then nan32
  else if leN (dec32 0x43000000) (dec32 t) then f32Inf
  else if !leN (dec32 0xC3160000) (dec32 t) then f32Zero
  else
    let n := fp32Rint t
    let f := fp32Sub t n
    let step (p c : Nat) : Nat := fp32Add (fp32Mul p f) c
    let p := [0x3AAEC3FF, 0x3C1D955B, 0x3D635847, 0x3E75FDF0, 0x3F317218, 0x3F800000].foldl step 0x39218489
    let k : Int := match dec32 n with
      | .fin s m e => sgn s (if 0 ≤ e then m * 2 ^ e.toNat else m / 2 ^ (-e).toNat)
      | _ => 0
    fp32Scalb p k

def sigmoidC (x : Nat) : Nat := rcpC (fp32Add f32One (expC (fp32Mul 0xBF800000 x)))
def tanhC (x : Nat) : Nat := fp32Sub (fp32Mul 0x40000000 (sigmoidC (fp32Mul 0x40000000 x))) f32One
def siluC (x : Nat) : Nat := fp32Mul x (sigmoidC x)
def geluC (x : Nat) : Nat :=
  let u := fp32Mul (fp32Mul x x) x
  let u := fp32Add x (fp32Mul u 0x3D372713)
  let t := tanhC (fp32Mul u 0x3F4C422A)
  fp32Mul (fp32Mul 0x3F000000 x) (fp32Add f32One t)

/-- ELEMENTWISE by SUBOP (R82). -/
def elementwise (sub x y : Nat) : Nat :=
  if sub == 0x01 then fp32Add x y
  else if sub == 0x02 then fp32Sub x y
  else if sub == 0x03 then fp32Mul x y
  else if sub == 0x10 then expC x
  else if sub == 0x11 then rcpC x
  else if sub == 0x12 then sqrtC x
  else if sub == 0x13 then rsqrtC x
  else if sub == 0x14 then sigmoidC x
  else if sub == 0x15 then tanhC x
  else if sub == 0x16 then siluC x
  else if sub == 0x17 then geluC x
  else x

/-! ### Attention (R97, R98) -/

/-- The running state of one query row. -/
structure AttRow where
  m : Nat := f32NegInf
  l : Nat := 0
  o : List Nat := []
  isNan : Bool := false

/-- One key tile: its scores and, per output column, its slice of V. -/
def attTile (r : AttRow) (s : List Nat) (vcols : List (List Nat)) : AttRow :=
  if s.all (fun x => x == f32NegInf) then r
  else
    let m1 := maxC r.m (s.foldl maxC f32NegInf)
    let alpha := expC (fp32Sub r.m m1)
    let p := s.map (fun x => expC (fp32Sub x m1))
    let pb := p.map (fun x => encBf (dec32 x))
    { m := m1, l := fp32Add (fp32Mul r.l alpha) (treeSum p)
      o := (r.o.zip vcols).map (fun q => fp32Add (fp32Mul q.1 alpha) (dot 2 1 1 [] pb q.2))
      isNan := r.isNan || s.any (fun x => dec32 x == .nan) }

/-- The output row. -/
def attEnd (r : AttRow) : List Nat :=
  r.o.map (fun x => if r.isNan then nan32 else if eqC r.l 0 then f32Zero else fp32Mul x (rcpC r.l))

/-- One query row over key tiles of 128 keys. -/
def attention (dv : Nat) (tiles : List (List Nat × List (List Nat))) : List Nat :=
  attEnd (tiles.foldl (fun r t => attTile r t.1 t.2) { o := List.replicate dv f32Zero })

/-! ### Normalisation and the optimiser (R101) -/

/-- RMS normalisation of a row. -/
def rmsRow (x g : List Nat) (invN eps : Nat) : List Nat :=
  let ms := fp32Mul (treeSum (x.map (fun v => fp32Mul v v))) invN
  let r := rsqrtC (fp32Add ms eps)
  (x.zip g).map (fun p => fp32Mul (fp32Mul p.1 r) p.2)

/-- Layer normalisation of a row. -/
def layerRow (x g b : List Nat) (invN eps : Nat) : List Nat :=
  let mu := fp32Mul (treeSum x) invN
  let d := x.map (fun v => fp32Sub v mu)
  let r := rsqrtC (fp32Add (fp32Mul (treeSum (d.map (fun v => fp32Mul v v))) invN) eps)
  (d.zip (g.zip b)).map (fun p => fp32Add (fp32Mul (fp32Mul p.1 r) p.2.1) p.2.2)

/-- The nine constants of ADAMW, in the order of R101. -/
structure AdamK where
  b1 : Nat
  b2 : Nat
  omb1 : Nat
  omb2 : Nat
  c1 : Nat
  c2 : Nat
  eps : Nat
  wd : Nat
  lr : Nat

/-- One ADAMW element: weight, m and v in FP32. -/
def adamw (k : AdamK) (g w m v : Nat) : Nat × Nat × Nat :=
  let m1 := fp32Add (fp32Mul k.b1 m) (fp32Mul k.omb1 g)
  let v1 := fp32Add (fp32Mul k.b2 v) (fp32Mul k.omb2 (fp32Mul g g))
  let u := fp32Mul (fp32Mul m1 k.c1) (rcpC (fp32Add (sqrtC (fp32Mul v1 k.c2)) k.eps))
  let u := fp32Add u (fp32Mul k.wd w)
  (fp32Sub w (fp32Mul k.lr u), m1, v1)

/-! ### Tally (R103 to R106) -/

/-- TALLY_QUANT of one element under block exponent `e`: the stored element, and whether it saturates (R105). -/
def tallyQuant (e : Int) (x : Nat) : Int × Bool :=
  match dec32 x with
  | .nan => (0, true)
  | .inf s => (sgn s 8191, true)
  | .fin s m f =>
    let k := f + 13 - e
    let q := if 0 ≤ k then m * 2 ^ k.toNat else rne m (-k).toNat
    if 8191 < q then (sgn s 8191, true) else (sgn s q, false)

/-- TALLY_EXPAND of a sum (R106). -/
def tallyExpand (e : Int) (sum : Int) : Nat := enc32 (Dyad.num { n := sum, e := e - 13 })

end Sys2Proof.Machine
end

