-- ==== Sys2Proof/Machine/CopyArith.lean ====
section
/-!
DEFINITION. A captured command recomputed: where its elements lie in the capture streams (R148), what its contract result is
(R81 to R106), what it costs (R138) and how it splits into pieces (R153).
-/
namespace Sys2Proof.Machine

open Sys2Proof

/-! ### Codes (R81, R82) -/

def opGemmMx : Nat := 0x01
def opGemmBf : Nat := 0x02
def opGemmFp : Nat := 0x03
def opGemmInt : Nat := 0x04
def opAttention : Nat := 0x10
def opElement : Nat := 0x20
def opNorm : Nat := 0x30
def opAdamw : Nat := 0x40
def opQuant : Nat := 0x50
def opExpand : Nat := 0x51

/-- The OPC values R81 defines. -/
def opcKnown (o : Nat) : Bool := [0x00, 0x01, 0x02, 0x03, 0x04, 0x10, 0x20, 0x30, 0x40, 0x50, 0x51].contains o

/-- The OPC and SUBOP are defined together (R81, R82). -/
def opcDefined (o sub : Nat) : Bool :=
  opcKnown o &&
    (if o == opElement then [1, 2, 3, 4, 0x10, 0x11, 0x12, 0x13, 0x14, 0x15, 0x16, 0x17].contains sub
     else if o == opNorm then [1, 2].contains sub else true)

/-- GEMM of any kind. -/
def isGemm (o : Nat) : Bool := decide (1 ≤ o) && decide (o ≤ 4)

/-- The four format codes of a command (R418). -/
def fmtA (t : TagCmd) : Nat := t.fmt % 16
def fmtB (t : TagCmd) : Nat := t.fmt / 16 % 16
def fmtC (t : TagCmd) : Nat := t.fmt / 256 % 16
def fmtR (t : TagCmd) : Nat := t.fmt / 4096 % 16

/-! ### Reading streams -/

/-- The byte presented at an offset of a stream, if any. -/
def capByte (bs : List (Nat × Nat × Byte)) (st off : Nat) : Option Byte :=
  (bs.find? (fun x => x.1 == st && x.2.1 == off)).map (fun x => x.2.2)

/-- `w` bits from bit `i` of a stream; sub-byte elements are packed from bit 0 (log entry 22). Absent bytes read as zero. -/
def streamBits (bs : List (Nat × Nat × Byte)) (st i w : Nat) : Nat :=
  fromLe ((List.range (w / 8 + 2)).map (fun j => (capByte bs st (i / 8 + j)).getD 0)) / 2 ^ (i % 8) % 2 ^ w

/-- Element `i` of a stream. -/
def elemRaw (bs : List (Nat × Nat × Byte)) (st f i : Nat) : Nat := streamBits bs st (i * fmtBits f) (fmtBits f)

/-- Element `i` of a stream as FP32. -/
def elem32 (bs : List (Nat × Nat × Byte)) (st f i : Nat) : Nat := toF32 f (elemRaw bs st f i)

/-- An FP32 vector element, or the one value of a scalar operand (R101). -/
def vec32 (bs : List (Nat × Nat × Byte)) (st i : Nat) : Nat :=
  if (capByte bs st (4 * i)).isSome then elemRaw bs st 0 i else elemRaw bs st 0 0

/-! ### Results -/

/-- One result element or scale: its index in the contract layout, its stream, its first bit there, its width and its bits. -/
structure ResElem where
  idx : Nat
  st : Nat
  bit : Nat
  w : Nat
  bits : Nat
  deriving DecidableEq, Repr

/-- A run of elements of stream 6 from index `i`. -/
def resElems (f i : Nat) (vs : List Nat) : List ResElem :=
  vs.mapIdx (fun j v => { idx := i + j, st := 6, bit := (i + j) * fmtBits f, w := fmtBits f, bits := v })

/-- A run of scales of stream 7 from index `i`. -/
def resScales (i : Nat) (vs : List Nat) : List ResElem :=
  vs.mapIdx (fun j v => { idx := i + j, st := 7, bit := (i + j) * 8, w := 8, bits := v })

/-- A converted run of FP32 results: elements from index `i`, scales from index `k`. -/
def resRun (f i k : Nat) (vs : List Nat) : List ResElem :=
  let o := outConvert f vs
  resElems f i o.1 ++ resScales k o.2

/-- One row of a GEMM over columns `j0` to `j0 + jn − 1`. -/
def gemmRow (bs : List (Nat × Nat × Byte)) (t : TagCmd) (j0 jn r : Nat) : List ResElem :=
  let nb := ceilDiv t.k 32
  let a := (List.range t.k).map (fun x => elemRaw bs 0 (fmtA t) (r * t.k + x))
  let col (c : Nat) : List Nat := (List.range t.k).map (fun x => elemRaw bs 1 (fmtB t) (c * t.k + x))
  let cs := (List.range jn).map (j0 + ·)
  if t.opc == opGemmInt then
    resElems 9 (r * t.n + j0) (cs.map (fun c =>
      dotInt8 a (col c) (if t.cPresent then some (signed 32 (elemRaw bs 2 9 (r * t.n + c))) else none)))
  else
    let one (c : Nat) : Nat :=
      let scales := (List.range nb).map (fun i => (streamBits bs 3 (8 * (r * nb + i)) 8, streamBits bs 4 (8 * (c * nb + i)) 8))
      let d := dot t.opc (fmtA t) (fmtB t) scales a (col c)
      if t.cPresent then fp32Add d (elem32 bs 2 (fmtC t) (r * t.n + c)) else d
    resRun (fmtR t) (r * t.n + j0) (r * ceilDiv t.n 32 + j0 / 32) (cs.map one)

/-- One query row of ATTENTION (R97). -/
def attnRow (bs : List (Nat × Nat × Byte)) (t : TagCmd) (r : Nat) : List ResElem :=
  let nb := ceilDiv t.k 32
  let opc := if fmtA t == 1 then opGemmBf else opGemmMx
  let q := (List.range t.k).map (fun x => elemRaw bs 0 (fmtA t) (r * t.k + x))
  let scale := elemRaw bs 5 0 0
  let score (c : Nat) : Nat :=
    if t.maskPresent && !(streamBits bs 8 (8 * (r * t.n + c)) 8 == 0) then f32NegInf
    else
      let key := (List.range t.k).map (fun x => elemRaw bs 1 (fmtB t) (c * t.k + x))
      let scales := (List.range nb).map (fun i => (streamBits bs 3 (8 * (r * nb + i)) 8, streamBits bs 4 (8 * (c * nb + i)) 8))
      fp32Mul (dot opc (fmtA t) (fmtB t) scales q key) scale
  let tiles := (chunk 128 (List.range t.n)).map (fun cs =>
    (cs.map score, (List.range t.k).map (fun d => cs.map (fun c => elemRaw bs 2 1 (c * t.k + d)))))
  resRun (fmtR t) (r * t.k) 0 (attention t.k tiles)

/-- One row of NORM (R101). -/
def normRow (bs : List (Nat × Nat × Byte)) (t : TagCmd) (r : Nat) : List ResElem :=
  let x := (List.range t.n).map (fun i => elem32 bs 0 (fmtA t) (r * t.n + i))
  let g := (List.range t.n).map (vec32 bs 1)
  let b := (List.range t.n).map (vec32 bs 2)
  let invN := elemRaw bs 5 0 0
  let eps := elemRaw bs 5 0 1
  resRun (fmtR t) (r * t.n) (r * ceilDiv t.n 32) (if t.subop == 1 then rmsRow x g invN eps else layerRow x g b invN eps)

/-- Elements of ADAMW: weights, then first moments, then second moments (log entry 22). -/
def adamElems (bs : List (Nat × Nat × Byte)) (t : TagCmd) (j0 jn : Nat) : List ResElem :=
  let c (i : Nat) : Nat := elemRaw bs 5 0 i
  let k : AdamK := { b1 := c 0, b2 := c 1, omb1 := c 2, omb2 := c 3, c1 := c 4, c2 := c 5, eps := c 6, wd := c 7, lr := c 8 }
  let one (i : Nat) : List ResElem :=
    let r := adamw k (elem32 bs 0 (fmtA t) i) (elem32 bs 1 (fmtB t) i) (elem32 bs 2 (fmtC t) i) (elem32 bs 3 (fmtC t) i)
    let wb := fmtBits (fmtB t)
    let mb := fmtBits (fmtC t)
    let cv (f v : Nat) : Nat := (outConvert f [v]).1.headD 0
    [{ idx := i, st := 6, bit := i * wb, w := wb, bits := cv (fmtB t) r.1 },
     { idx := t.m + i, st := 6, bit := t.m * wb + i * mb, w := mb, bits := cv (fmtC t) r.2.1 },
     { idx := 2 * t.m + i, st := 6, bit := t.m * (wb + mb) + i * mb, w := mb, bits := cv (fmtC t) r.2.2 }]
  (List.range jn).flatMap (fun j => one (j0 + j))

/-- The contract result of a piece: columns for a GEMM, rows for ATTENTION and NORM, elements otherwise. -/
def pieceResult (bs : List (Nat × Nat × Byte)) (t : TagCmd) (j0 jn : Nat) : List ResElem :=
  if isGemm t.opc then (List.range t.m).flatMap (gemmRow bs t j0 jn)
  else if t.opc == opAttention then (List.range jn).flatMap (fun j => attnRow bs t (j0 + j))
  else if t.opc == opNorm then (List.range jn).flatMap (fun j => normRow bs t (j0 + j))
  else if t.opc == opElement then
    resRun (fmtR t) j0 (j0 / 32) ((List.range jn).map (fun j =>
      elementwise t.subop (elem32 bs 0 (fmtA t) (j0 + j)) (elem32 bs 1 (fmtB t) (j0 + j))))
  else if t.opc == opAdamw then adamElems bs t j0 jn
  else if t.opc == opQuant then
    resElems 0xA j0 ((List.range jn).map (fun j =>
      twos 32 (tallyQuant (signed 8 (streamBits bs 1 (8 * ((j0 + j) / 64)) 8)) (elemRaw bs 0 0 (j0 + j))).1))
  else
    resElems 0 j0 ((List.range jn).map (fun j =>
      tallyExpand (signed 8 (streamBits bs 1 (8 * ((j0 + j) / 64)) 8)) (signed 32 (elemRaw bs 0 0xA (j0 + j)))))

/-- What the host wrote at an element. -/
def hostBits (bs : List (Nat × Nat × Byte)) (e : ResElem) : Nat := streamBits bs e.st e.bit e.w

/-- The values a group presents for a piece: the contract's, or those of its bytes, element by element (R155). -/
def groupValues (es : List ResElem) (r : GroupResult) : List Nat :=
  match r with
  | .contract => es.map (fun e => e.bits)
  | .ringCrc => es.map (fun e => e.bits)
  | .faulty data =>
    let start (i : Nat) : Nat := ((es.take i).map (fun e => ceilDiv e.w 8)).sum
    es.mapIdx (fun i e => rd data (start i) (ceilDiv e.w 8) % 2 ^ e.w)

/-- The elements that differ: index, host bits and group bits. -/
def diffs (bs : List (Nat × Nat × Byte)) (es : List ResElem) (vals : List Nat) : List (Nat × Nat × Nat) :=
  ((es.zip vals).map (fun p => (p.1.idx, hostBits bs p.1, p.2))).filter (fun d => !(d.2.1 == d.2.2))

/-! ### Stream lengths (R148, R421) -/

/-- The lengths in bytes that a stream of a command may have in the contract layout. -/
def streamLens (t : TagCmd) (st : Nat) : List Nat :=
  let b (f n : Nat) : Nat := ceilDiv (n * fmtBits f) 8
  let nb := ceilDiv t.k 32
  let nr := ceilDiv t.n 32
  let rows (l : List Nat) : List Nat := [l.getD st 0]
  if isGemm t.opc then
    rows [b (fmtA t) (t.m * t.k), b (fmtB t) (t.n * t.k), b (fmtC t) (t.m * t.n), t.m * nb, t.n * nb, 0,
          b (fmtR t) (t.m * t.n), t.m * nr]
  else if t.opc == opAttention then
    rows [b (fmtA t) (t.m * t.k), b (fmtB t) (t.n * t.k), 2 * t.n * t.k, t.m * nb, t.n * nb, 4, b (fmtR t) (t.m * t.k), 0,
          t.m * t.n]
  else if t.opc == opNorm then
    if st == 1 || st == 2 then [4, 4 * t.n]
    else rows [b (fmtA t) (t.m * t.n), 0, 0, 0, 0, 8, b (fmtR t) (t.m * t.n), t.m * nr]
  else if t.opc == opAdamw then
    rows [b (fmtA t) t.m, b (fmtB t) t.m, b (fmtC t) t.m, b (fmtC t) t.m, 0, 36,
          b (fmtB t) t.m + 2 * b (fmtC t) t.m]
  else if t.opc == opElement then
    rows [b (fmtA t) t.m, b (fmtB t) t.m, 0, 0, 0, 0, b (fmtR t) t.m, ceilDiv t.m 32]
  else rows [4 * t.m, ceilDiv t.m 64, 0, 0, 0, 0, 4 * t.m, 4]

/-- Values of `w` bits packed from bit 0. -/
def packBits (w : Nat) (vs : List Nat) : List Byte :=
  le (ceilDiv (w * vs.length) 8) (vs.foldr (fun v n => v + n * 2 ^ w) 0)

/-- The bytes of a stream, packed from the elements and scales of a result. -/
def packResult (st : Nat) (es : List ResElem) (vals : List Nat) : List Byte :=
  let mine := (es.zip vals).filter (fun p => p.1.st == st)
  packBits ((mine.map (fun p => p.1.w)).headD 8) (mine.map (fun p => p.2))

/-! ### Cost and pieces (R138, R153) -/

/-- FP8-equivalent FLOP of one product-add. -/
def productCost (opc fa fb : Nat) : Nat :=
  if opc == opGemmBf then 4
  else if opc == opGemmFp then 32
  else if opc == opGemmInt then 2
  else if fa == 6 && fb == 6 then 1 else 2

/-- Special-function evaluations of one ELEMENTWISE element; rsqrt_c is one of them (R138). -/
def specials (sub : Nat) : Nat :=
  if [0x10, 0x11, 0x12, 0x13].contains sub then 1 else if [0x14, 0x15, 0x16, 0x17].contains sub then 2 else 0

/-- Cost of one column, row or element (log entry 23). -/
def unitCost (t : TagCmd) : Nat :=
  if isGemm t.opc then t.m * t.k * productCost t.opc (fmtA t) (fmtB t)
  else if t.opc == opAttention then
    t.n * t.k * ((if fmtA t == 1 then 4 else 2) + 4) + t.n * (64 + 16) + 64 * (ceilDiv t.n 128 + 1)
  else if t.opc == opNorm then t.n * 16 + 64
  else if t.opc == opElement then 64 * specials t.subop + (if specials t.subop == 1 then 0 else 16)
  else if t.opc == opAdamw then 16 + 128
  else 16

/-- Units along the split and the granule (R153). -/
def splitLen (t : TagCmd) : Nat := if isGemm t.opc then t.n else t.m
def granule (t : TagCmd) : Nat :=
  if t.opc == opGemmMx || t.opc == opGemmBf then 32
  else if isGemm t.opc then 16
  else if t.opc == opAttention then 16
  else if t.opc == opNorm then 1
  else if t.opc == opElement || t.opc == opAdamw then 32
  else 64

/-- The piece limit at a stroke period in ns: 0.1 × T × 131.072 × 10^12 (R153). -/
def pieceLimit (period : Nat) : Nat := period * 131072 / 10

/-- Units of one piece. -/
def pieceUnits (period : Nat) (t : TagCmd) : Nat :=
  granule t * Nat.max 1 (pieceLimit period / Nat.max 1 (unitCost t * granule t))

/-- The pieces of a command: first unit, units and cost (R153). -/
def splitPieces (period : Nat) (t : TagCmd) : List (Nat × Nat × Nat) :=
  let u := pieceUnits period t
  (List.range (ceilDiv (splitLen t) u)).map (fun i =>
    let n := Nat.min u (splitLen t - i * u)
    (i * u, n, n * unitCost t))

end Sys2Proof.Machine
end

