-- ==== Sys2Proof/Machine/CopyOps.lean ====
section
/-!
DEFINITION. The Copyist's units, tokens, captures, pieces and sweeps (R137 to R157, R237).
-/
namespace Sys2Proof.Machine

open Sys2Proof

/-! ### Units and capacity (R137, R140, R162) -/

def cunit (s : State) (u : Nat) : CUnit := tgetD s.cpy.units u {}
def modUnit (u : Nat) (f : CUnit → CUnit) : State → State := modCpy (fun c => { c with units := tmod c.units u {} f })
def unitNos (s : State) : List Nat := List.range s.build.units
def upUnits (s : State) : List Nat := (unitNos s).filter (fun u => (cunit s u).up)

/-- Copy group of a unit; groups built. -/
def groupOf (u : Nat) : Nat := u / 8
def groupNos (s : State) : List Nat := List.range (s.build.units / 8)

/-- Units of a group that take pieces: UP and not running their canary set (R161). -/
def groupUnits (s : State) (g : Nat) : List Nat := (upUnits s).filter (fun u => groupOf u == g && !(cunit s u).running)

/-- Groups that take pieces (R162). -/
def liveGroups (s : State) : List Nat := (groupNos s).filter (fun g => !(groupUnits s g).isEmpty)

/-- U of R140: units UP and allowed by the grant. -/
def copyUnits (s : State) : Nat :=
  if s.pwr.clockLost || coreReset s then 0 else Nat.min (upUnits s).length s.pwr.unitsServed

/-- The sampling capacity of `u` units in 1/256 grain (R140); the ring must hold 256 MiB (R149). -/
def capacity (s : State) (u : Nat) : Nat :=
  if s.cpy.noCapacity || s.cpy.hostRate == 0 then 0 else 256 * 7 * 16384 * 4096 * u / (10000 * s.cpy.hostRate)

/-- A cost in FLOP, over `n` strokes, in 1/256 grain (R138 to R140): the grain is HOST_RATE × T / 4,096. -/
def grains256 (s : State) (n cost : Nat) : Nat := 256 * 4096 * cost / Nat.max 1 (n * s.cpy.hostRate * s.tcfg.period * 1000)

/-- Sampling is shed by power, or no group is UP (R150, R162). -/
def copyShed (s : State) : Bool := copyUnits s == 0

/-! ### Captures and the ring (R149 to R151) -/

/-- The strokes of a stop by request that port `p` is in, for an open capture of that port (R151). -/
def stoppedFor (s : State) (p : Nat) (c : Capture) : Nat :=
  if c.port == p && c.state == 0 && (sent s p).clkStop then now s - (sent s p).stopSince else 0

/-- The capture with identity `id`, while the ring holds it. -/
def capture? (s : State) (id : Nat) : Option Capture := tget s.cpy.captures id
def modCap (id : Nat) (f : Capture → Capture) : State → State := modCpy (fun c => { c with captures := tadj c.captures id f })

/-- Change a piece of a capture. -/
def modPiece (id i : Nat) (f : Piece → Piece) : State → State := modCap id (fun c => { c with pieces := lmod c.pieces i f })

/-- A capture that may not be overwritten: not judged, or claimed by a sweep (R151). -/
def capKept (c : Capture) : Bool := decide (c.state < 2) || c.sweep.isSome

/-- Ring bytes. -/
def ringBytes (s : State) : Nat := s.cpy.ringSize * 2 ^ 20

/-- The captures that a head at `head` has run over. -/
def overrun (s : State) (head : Nat) (c : Capture) : Bool := decide (c.ringOff + ringBytes s < head)

/-- The ring has room for `len` bytes at its head (R151). -/
def ringFree (s : State) (len : Nat) : Bool :=
  !s.cpy.captures.any (fun e => capKept e.2 && overrun s (s.cpy.ringHead + len) e.2)

/-- Ring bytes of a command: its streams and a 4 KiB header (R149). -/
def ringNeed (t : TagCmd) : Nat := t.bytes + 4096

/-- Why a drawn command cannot be captured, in the order of log entry 26; 0 when it can (R150). -/
def drawBlocked (s : State) (t : TagCmd) : Nat :=
  if copyShed s then 0x0C
  else if s.cpy.landing < s.cpy.heldLanding + 2 then 0x01
  else if !ringFree s (ringNeed t) then 0x02
  else if ringBytes s < 8 * ringNeed t then 0x03
  else 0

/-- Open a capture: two landing buffers and its ring space (R149). -/
def openCapture (p : Nat) (t : TagCmd) (directed : Bool) (s : State) : State :=
  let head := s.cpy.ringHead + ringNeed t
  modCpy (fun c => { c with
    captures := tput (c.captures.filter (fun e => capKept e.2 || !overrun s head e.2)) c.nextCap
      { port := p, tag := t, epoch := epochOf s (tile s p).part, part := (tile s p).part, accepted := now s
        ringOff := c.ringHead, landing := 2, directed := directed }
    nextCap := c.nextCap + 1, ringHead := head, heldLanding := c.heldLanding + 2 }) s

/-- A capture leaves the table: its tokens and ring space return (R150). -/
def freeCapture (id : Nat) : State → State := modCpy (fun c =>
  match tget c.captures id with
  | none => c
  | some x => { c with heldLanding := c.heldLanding - x.landing, heldStaging := c.heldStaging - x.staged,
                       heldService := c.heldService - x.served, captures := tdel c.captures id })

/-- Release the tokens that a capture's pieces hold. -/
def freeStaging (id : Nat) : State → State := modCpy (fun c =>
  match tget c.captures id with
  | none => c
  | some x => { c with
      heldStaging := c.heldStaging - x.staged, heldService := c.heldService - x.served
      captures := tadj c.captures id (fun y => { y with staged := 0, served := 0 }) })

/-- CAPTURE_DROP (R150, R436). -/
def dropRecord (p cause : Nat) (t : TagCmd) : State → State :=
  record .captureDrop (nodeOf p) (le 1 cause ++ le 1 t.opc ++ le 2 t.layer ++ le 4 t.seq)

/-- An uncovered recompute check that belongs to stroke `n` (R150). -/
def dropCheck (p cause n : Nat) (t : TagCmd) (s : State) : State :=
  s |> dropRecord p cause t
    |> landCheck { portChk s p n ckRecompute vUncovered with opc := t.opc, layer := t.layer }

/-- A capture ends without a run: its check is UNCOVERED for stroke `n`, and everything it held returns. -/
def dropCapture (id cause n : Nat) (s : State) : State :=
  match capture? s id with
  | none => s
  | some c => s |> dropCheck c.port cause n c.tag |> freeCapture id

/-- The epoch ends: a capture of it is discarded without a verdict (R150). -/
def discardCapture (id : Nat) (s : State) : State :=
  s |> freeCapture id |> modCpy (fun c => { c with discardNow := c.discardNow + 1 })

/-- The unjudged captures of a partition. -/
def openCaptures (s : State) (k : Nat) : List Nat := tfind s.cpy.captures (fun _ c => decide (c.state < 2) && c.part == k)

/-- Captures in flight of a port's context, dropped with cause FENCED (R150, R259). -/
def fenceCaptures (pick : Capture → Bool) (s : State) : State :=
  forEach (tfind s.cpy.captures (fun _ c => c.state == 0 && pick c)) (fun id s => dropCapture id 0x07 (now s) s) s

/-! ### Admission (R153, R154) -/

/-- Cost a group has in its queue: admitted pieces that have not ended. -/
def groupQueue (s : State) (g : Nat) : Nat :=
  (s.cpy.captures.map (fun e => ((e.2.pieces.filter (fun x => x.state == 1 && x.group == g)).map (fun x => x.cost)).sum)).sum

/-- FLOP a group completes from the tick to the end of Judge (70% of a stroke). -/
def groupBudget (s : State) (g : Nat) : Nat := 7 * s.tcfg.period / 10 * ((groupUnits s g).length * 16384)

/-- The live group whose queue finishes earliest: queued cost over units, lowest number first. -/
def pickGroup (s : State) : Option Nat :=
  let rate (g : Nat) : Nat := groupQueue s g * 1000 / Nat.max 1 (groupUnits s g).length
  match liveGroups s with
  | [] => none
  | g :: gs => some (gs.foldl (fun b x => if rate x < rate b then x else b) g)

/-- Staging tokens of a whole capture (log entry 24). -/
def stagingNeed (c : Capture) : Nat := ceilDiv c.tag.bytes 65536

/-- A piece of one granule above the piece limit (R153). -/
def oversize (s : State) (c : Capture) (x : Piece) : Bool := x.jn ≤ granule c.tag && decide (pieceLimit s.tcfg.period < x.cost)

/-- Admit a piece to a group: staging tokens for its capture, its cost counted (R139, R147). -/
def admitTo (id i g : Nat) (s : State) : State :=
  match capture? s id with
  | none => s
  | some c =>
    let need := if c.staged + c.served == 0 then stagingNeed c else 0
    let cost := match c.pieces[i]? with | some x => x.cost | none => 0
    s |> modCpy (fun y => { y with heldStaging := y.heldStaging + need, costNow := y.costNow + cost })
      |> modCap id (fun y => { y with staged := y.staged + need })
      |> modPiece id i (fun x => { x with state := 1, group := g, overran := false })

/-- Admit a waiting piece in Gather when a group can finish it by the end of Judge and staging has room (R154). -/
def admitPiece (id i : Nat) (s : State) : State :=
  match capture? s id, pickGroup s with
  | some c, some g =>
    match c.pieces[i]? with
    | some x =>
      let need := if c.staged + c.served == 0 then stagingNeed c else 0
      if x.state == 0 && decide (s.cpy.heldStaging + need ≤ s.cpy.staging) &&
          (oversize s c x || decide (groupQueue s g + x.cost ≤ groupBudget s g)) then admitTo id i g s
      else s
    | none => s
  | _, _ => s

/-- FLOP a group completes from the start of Publish to the end of Guard (30% of a stroke). -/
def publishGroupBudget (s : State) (g : Nat) : Nat := 3 * s.tcfg.period / 10 * ((groupUnits s g).length * 16384)

/-- Admit a waiting sweep piece in Publish, from the service pool (R237). -/
def admitService (id i : Nat) (s : State) : State :=
  match capture? s id, pickGroup s with
  | some c, some g =>
    match c.pieces[i]? with
    | some x =>
      let need := if c.staged + c.served == 0 then stagingNeed c else 0
      if x.state == 0 && decide (s.cpy.heldService + need ≤ s.cpy.service) &&
          (oversize s c x || decide (groupQueue s g + x.cost ≤ publishGroupBudget s g)) then
        s |> modCpy (fun y => { y with heldService := y.heldService + need, costNow := y.costNow + x.cost })
          |> modCap id (fun y => { y with served := y.served + need })
          |> modPiece id i (fun x => { x with state := 1, group := g, overran := false })
      else s
    | none => s
  | _, _ => s

/-- The sweep pieces that Publish admits (R237). -/
def admitPublish (s : State) : State :=
  forEach ((s.rcv.sweeps.filter (fun w => w.opened)).flatMap (fun w => w.caps)) (fun id s => match capture? s id with
    | some c => forEach ((List.range c.pieces.length).filter (fun i => (c.pieces.getD i {}).run == 1)) (admitService id) s
    | none => s) s

/-- Pieces that wait beyond the Gather of their stroke: CPY_STATUS.BACKLOG (R166). -/
def countCarried (s : State) : Nat :=
  (s.cpy.captures.map (fun e => if e.2.state == 1 && decide (e.2.last + 2 ≤ now s) then
    (e.2.pieces.filter (fun x => x.state == 0)).length else 0)).sum

/-! ### The result of a check (R155 to R157) -/

/-- Body of COPY_FAIL (R157). -/
def copyFailBody (t : TagCmd) (kind how mism first host copy diff piece : Nat) : List Byte :=
  le 1 t.opc ++ le 1 t.subop ++ le 1 kind ++ le 1 how ++ le 2 t.layer ++ le 2 t.oper ++ le 4 t.seq ++
  le 4 (Nat.min mism (2 ^ 32 - 1)) ++ le 4 first ++ le 4 host ++ le 4 copy ++ le 4 diff ++ le 4 piece ++ zeros 4

/-- A COPY_FAIL record of a port, with its stroke as the stroke of the capture, and the evidence it leaves (R157, R249). -/
def copyFail (p n kind : Nat) (t : TagCmd) (body : List Byte) (s : State) : State :=
  s |> writeOrFold { stampRec s .copyFail (nodeOf p) (partOf s (nodeOf p)) (recSev .copyFail) body with stroke := n }
    |> addEvid p { kind := kind, stroke := n, opc := t.opc, body := body }

/-- COPY_DISAGREE (R155, R165). -/
def copyDisagree (node kase first second : Nat) (t : TagCmd) (chip : Nat) : State → State :=
  record .copyDisagree node (le 1 kase ++ le 1 first ++ le 1 second ++ le 1 t.opc ++ le 4 t.seq ++ le 4 chip)

/-- Every unit of a group runs its canary set in the next Publish (R155). -/
def groupCanary (g : Nat) (s : State) : State :=
  forEach ((upUnits s).filter (fun u => groupOf u == g)) (fun u => modUnit u (fun x => { x with runNext := true })) s

/-- The verdict of a capture whose pieces are all judged. -/
def capVerdict (c : Capture) : Nat := maxOf (c.pieces.map (fun x => x.verdict))

/-- The COPY_FAIL body of a capture: totals over its failing pieces, details of the first (R157). -/
def capFailBody (c : Capture) : List Byte :=
  let bad := c.pieces.filter (fun x => x.verdict == vFail)
  let p := bad.headD {}
  copyFailBody c.tag 1 p.how (bad.map (fun x => x.differs)).sum p.firstDiff p.hostBits p.copyBits
    (bad.foldl (fun n x => n ||| x.diffOr) 0) ((c.pieces.findIdx (fun x => x.verdict == vFail)) % 2 ^ 32)

/-- The cause of an uncovered capture: that of its first uncovered piece. -/
def capCause (c : Capture) : Nat :=
  match c.pieces.find? (fun x => x.verdict == vUncovered) with | some x => x.cause | none => 0

/-! ### Sweeps (R237) -/

def modSweep (p : Nat) (f : Sweep → Sweep) : State → State :=
  modRcv (fun r => { r with sweeps := r.sweeps.map (fun w => if w.port == p then f w else w) })

/-- SWEEP record flags and body. -/
def sweepBody (w : Sweep) (flags : Nat) : List Byte :=
  le 1 flags ++ zeros 3 ++ le 6 w.f ++ le 6 (w.onset.getD w.f) ++ le 6 (w.oldest.getD w.f) ++ le 2 w.swept ++ le 2 w.failed ++
  le 2 w.unc

/-- A piece as it waits for its sweep run. -/
def freshPiece (x : Piece) : Piece := { cost := x.cost, j0 := x.j0, jn := x.jn }

/-- Start the runs of an opened sweep: the pieces of its captures wait again. -/
def startSweep (p : Nat) (s : State) : State :=
  match s.rcv.sweeps.find? (fun w => w.port == p) with
  | none => s
  | some w =>
    s |> modSweep p (fun w => { w with opened := true })
      |> forEach w.caps (fun id => modCap id (fun c => { c with sweeping := true, pieces := c.pieces.map freshPiece }))

/-- At most four sweeps are open; the oldest queued one opens next. -/
def openSweeps (s : State) : State :=
  if (s.rcv.sweeps.filter (fun w => w.opened)).length < 4 then
    match s.rcv.sweeps.find? (fun w => !w.opened) with
    | some w => startSweep w.port s
    | none => s
  else s

/-- A capture that a sweep gives up: its runs end, and its verdict stands. -/
def releaseClaim (id : Nat) (s : State) : State :=
  s |> freeStaging id
    |> modCap id (fun c => { c with
        sweep := none, sweeping := false, pieces := if c.sweeping then c.pieces.map (fun x => { x with state := 2 }) else c.pieces })

/-- A sweep ends: its SWEEP record, its claims released, the event it adds, and the radius it moves (R235, R237). -/
def endSweep (p : Nat) (epochEnd : Bool) (s : State) : State :=
  match s.rcv.sweeps.find? (fun w => w.port == p) with
  | none => s
  | some w =>
    let late := match w.onset with | some o => !(o == w.f) | none => false
    let onset := w.onset.getD w.f
    s |> record .sweep (nodeOf p) (sweepBody w (atB 0 w.atMax + atB 2 epochEnd))
      |> forEach w.caps releaseClaim
      |> modRcv (fun r => { r with
          sweeps := r.sweeps.filter (fun x => !(x.port == p))
          blasts := r.blasts.map (fun b =>
            if b.port == p && decide (w.f ≤ b.f) && decide (onset < b.a) then { b with a := onset, revise := b.written } else b) })
      |> whenB late (addChk { portChk s p onset ckRecompute vFail with n := 0, late := true, sweep := true })
      |> openSweeps

/-- A swept capture has its verdict (R231, R237). -/
def sweptCapture (id : Nat) (c : Capture) (v : Nat) (s : State) : State :=
  let s1 := s |> freeStaging id |> modCap id (fun y => { y with sweep := none, sweeping := false })
  let s2 :=
    if v == vFail then
      s1 |> copyFail c.port c.last ckRecompute c.tag (capFailBody c)
         |> landCheck { portChk s c.port c.last ckRecompute vFail with
                          epoch := c.epoch, part := c.part, sweep := true, opc := c.tag.opc, layer := c.tag.layer }
    else if v == vUncovered then s1 |> dropRecord c.port (capCause c) c.tag
    else touchMark c.port c.last false s1
  let s3 := modSweep c.port (fun w => { w with
    caps := without w.caps id, swept := w.swept + 1
    oldest := some (match w.oldest with | some o => Nat.min o c.last | none => c.last)
    failed := if v == vFail then w.failed + 1 else w.failed
    onset := if v == vFail then some (match w.onset with | some o => Nat.min o c.last | none => c.last) else w.onset
    unc := if v == vUncovered then w.unc + 1 else w.unc }) s2
  match s3.rcv.sweeps.find? (fun w => w.port == c.port) with
  | some w => if w.caps.isEmpty then endSweep c.port false s3 else s3
  | none => s3

/-- A capture whose pieces are all judged has its verdict (R151, R153). A check without an outcome gives its space back
(R150). -/
def judgeCapture (id : Nat) (s : State) : State :=
  match capture? s id with
  | none => s
  | some c =>
    if !(c.pieces.all (fun x => x.state == 2)) then s
    else
      let v := capVerdict c
      if c.sweeping then sweptCapture id c v s
      else
        let chk : Chk := { portChk s c.port c.last ckRecompute v with
          epoch := c.epoch, part := c.part, opc := c.tag.opc, layer := c.tag.layer }
        if v == vUncovered then s |> dropRecord c.port (capCause c) c.tag |> landCheck chk |> freeCapture id
        else
          s |> whenB (v == vFail) (copyFail c.port c.last ckRecompute c.tag (capFailBody c))
            |> landCheck chk
            |> freeStaging id
            |> modCap id (fun y => { y with state := 2, verdict := v, judgedAt := now s })

/-- A piece ends without a comparison (R150). -/
def endPiece (id i cause : Nat) (s : State) : State :=
  s |> modPiece id i (fun x => { x with state := 2, verdict := vUncovered, cause := cause }) |> judgeCapture id

/-! ### Confirm runs and Gather's admissions (R154, R155) -/

/-- Where a confirm run goes: another live group, or the same group rotated when two of its units are UP (R155). -/
def confirmGroup (s : State) (g : Nat) : Option (Nat × Bool) :=
  match (liveGroups s).find? (fun h => !(h == g)) with
  | some h => some (h, false)
  | none => if 2 ≤ (groupUnits s g).length then some (g, true) else none

/-- Admit a confirm run that waits, or end its piece when none is possible (R155: NO_CONFIRM). -/
def admitConfirm (id i : Nat) (s : State) : State :=
  match capture? s id with
  | none => s
  | some c => match c.pieces[i]? with
    | none => s
    | some x =>
      if !(x.state == 0 && x.run == 2) then s
      else match confirmGroup s x.firstGroup with
        | some (g, rot) => s |> admitTo id i g |> modPiece id i (fun y => { y with rotated := rot })
        | none => s |> copyDisagree (nodeOf c.port) 3 x.firstGroup 0xFF c.tag 0 |> endPiece id i 0x0D

/-- Admit every waiting piece of the captures listed, in order, of one run. -/
def admitAll (run : Nat) (ids : List Nat) (s : State) : State :=
  forEach ids (fun id s => match capture? s id with
    | some c => forEach (List.range c.pieces.length) (fun i s =>
        if (c.pieces.getD i {}).run == run then (if run == 2 then admitConfirm id i s else admitPiece id i s) else s) s
    | none => s) s

/-- Complete captures in order of completion that a test admits. -/
def readyCaps (s : State) (p : Capture → Bool) : List Nat :=
  (sortBy (fun e => e.2.last) (s.cpy.captures.filter (fun e => e.2.state == 1 && e.2.landing == 0 && p e.2))).map Prod.fst

/-- The pieces that Gather admits: carried, confirm, directed, uniform, then sweep pieces (R154, R237). A piece of stroke c is
admitted in Gather of c + 1 or c + 2 only. -/
def admitGather (s : State) : State :=
  let fresh (c : Capture) : Bool := now s == c.last + 1
  let carried (c : Capture) : Bool := now s == c.last + 2
  let sweeps := (s.rcv.sweeps.filter (fun w => w.opened)).flatMap (fun w => w.caps)
  s |> admitAll 1 (readyCaps s carried)
    |> admitAll 2 (readyCaps s (fun _ => true))
    |> admitAll 2 sweeps
    |> admitAll 1 (readyCaps s (fun c => fresh c && c.directed))
    |> admitAll 1 (readyCaps s (fun c => fresh c && !c.directed))
    |> admitAll 1 sweeps

/-- FP8-equivalent MFLOP recomputed (R358). -/
def countMflop (cost : Nat) : State → State := gcount 6 (cost / 1000000)

end Sys2Proof.Machine
end

