-- ==== Sys2Proof/Machine/PeerOps.lean ====
section
/-!
DEFINITION. Peer recompute (R163 to R165): sub-pieces, requests served, answers judged.
-/
namespace Sys2Proof.Machine

open Sys2Proof

/-- PEER_EN as it acts: shed by power, it is off (R163, R384). -/
def peerOn (s : State) : Bool := s.cpy.eff.peerEn && !s.pwr.shedPeer

/-- Epochs that a link's partner is known to share: those its heartbeats name (R313). -/
def sharedEpochs (s : State) (l : Nat) : List Nat := (link s l).hbEpochs.filter (fun e => (liveEpochs s).contains e)

/-- The trained links whose partner is in an epoch (R163). -/
def peerLinks (s : State) (e : Nat) : List Nat := (linkNos s).filter (fun l => linkUsable (link s l) && (link s l).hbEpochs.contains e)

/-- Digest of a result in word form: its elements, then its scales (R193). -/
def resultDigest (r : Nat) (es : List ResElem) (vals : List Nat) : Nat :=
  digest r (wordsOf (packResult 6 es vals) ++ wordsOf (packResult 7 es vals))

/-! ### The sub-piece (R163; log entry 25) -/

/-- Rows and columns of the sub-piece of a piece: one granule each way. -/
def subRows (t : TagCmd) : Nat := if isGemm t.opc then Nat.min t.m (granule t) else t.m
def subUnits (t : TagCmd) (x : Piece) : Nat := Nat.min x.jn (granule t)

/-- The command that the sub-piece amounts to. -/
def subTag (t : TagCmd) (x : Piece) : TagCmd :=
  if isGemm t.opc then { t with m := subRows t, n := subUnits t x } else { t with m := subUnits t x }

/-- A run of `n` elements of a stream. -/
def runOf (bs : List (Nat × Nat × Byte)) (st w i n : Nat) : List Nat := (List.range n).map (fun j => streamBits bs st ((i + j) * w) w)

/-- The streams of a sub-piece in code order, packed. -/
def subStreams (c : Capture) (x : Piece) : List (Nat × List Byte) :=
  let t := c.tag
  let bs := c.bytes
  let q := subTag t x
  let wa := fmtBits (fmtA t)
  let wb := fmtBits (fmtB t)
  let wc := fmtBits (fmtC t)
  let wr := fmtBits (fmtR t)
  let nb := ceilDiv t.k 32
  let nr := ceilDiv t.n 32
  let rowsOf (st w len : Nat) : List Nat := runOf bs st w (x.j0 * len) (q.m * len)
  let all (st : Nat) : List Nat := ((bs.filter (fun y => y.1 == st)).map (fun y => y.2.1)).foldl (fun l o => insAsc l o) []
  let whole (st : Nat) : List Byte := (all st).map (fun o => (capByte bs st o).getD 0)
  if isGemm t.opc then
    let blockRows (st w len i n : Nat) : List Nat := (List.range q.m).flatMap (fun r => runOf bs st w (r * len + i) n)
    [(0, packBits wa (runOf bs 0 wa 0 (q.m * t.k))), (1, packBits wb (runOf bs 1 wb (x.j0 * t.k) (q.n * t.k))),
     (2, if t.cPresent then packBits wc (blockRows 2 wc t.n x.j0 q.n) else []),
     (3, if t.opc == opGemmMx then packBits 8 (runOf bs 3 8 0 (q.m * nb)) else []),
     (4, if t.opc == opGemmMx then packBits 8 (runOf bs 4 8 (x.j0 * nb) (q.n * nb)) else []),
     (6, packBits wr (blockRows 6 wr t.n x.j0 q.n)),
     (7, if mxFormat (fmtR t) then packBits 8 (blockRows 7 8 nr (x.j0 / 32) (ceilDiv q.n 32)) else [])]
  else if t.opc == opAttention then
    [(0, packBits wa (rowsOf 0 wa t.k)), (1, whole 1), (2, whole 2), (3, packBits 8 (rowsOf 3 8 nb)), (4, whole 4), (5, whole 5),
     (6, packBits wr (rowsOf 6 wr t.k)), (8, if t.maskPresent then packBits 8 (rowsOf 8 8 t.n) else [])]
  else if t.opc == opNorm then
    [(0, packBits wa (rowsOf 0 wa t.n)), (1, whole 1), (2, whole 2), (5, whole 5), (6, packBits wr (rowsOf 6 wr t.n))]
  else if t.opc == opAdamw then
    [(0, packBits wa (rowsOf 0 wa 1)), (1, packBits wb (rowsOf 1 wb 1)), (2, packBits wc (rowsOf 2 wc 1)),
     (3, packBits wc (rowsOf 3 wc 1)), (5, whole 5),
     (6, packBits wb (rowsOf 6 wb 1) ++
         packBits wc ((List.range q.m).map (fun i => streamBits bs 6 (t.m * wb + (x.j0 + i) * wc) wc)) ++
         packBits wc ((List.range q.m).map (fun i => streamBits bs 6 (t.m * (wb + wc) + (x.j0 + i) * wc) wc)))]
  else
    [(0, packBits wa (rowsOf 0 wa 1)), (1, if t.opc == opElement then packBits wb (rowsOf 1 wb 1)
                                           else packBits 8 (runOf bs 1 8 (x.j0 / 64) (ceilDiv q.m 64))),
     (6, packBits (if t.opc == opElement then wr else 32) (rowsOf 6 (if t.opc == opElement then wr else 32) 1)),
     (7, if t.opc == opElement && mxFormat (fmtR t) then packBits 8 (runOf bs 7 8 (x.j0 / 32) (ceilDiv q.m 32)) else [])]

/-- The descriptor of a peer check (R152, R163). -/
def subDesc (c : Capture) (x : Piece) (i : Nat) : CopyDesc :=
  let t := subTag c.tag x
  { kind := 4, opc := t.opc, subop := if t.opc == opElement || t.opc == opNorm then t.subop else 0
    fmtAB := t.fmt % 256, fmtCD := t.fmt / 256 % 256, flags := b2n t.cPresent + 2 * b2n t.maskPresent, node := noNode
    stroke := c.last, piece := i, m := t.m, n := t.n, k := t.k, j0 := 0, jn := splitLen t, seq := t.seq, src := 0
    layer := t.layer, oper := t.oper, phase := t.phase, crcOk := true }

/-- The command of a descriptor. -/
def descTag (d : CopyDesc) : TagCmd :=
  { cslot := 0, ctx := 0, seq := d.seq, opc := d.opc, subop := d.subop, fmt := d.fmtAB + 256 * d.fmtCD, dup := false
    cPresent := bitOf d.flags 0, maskPresent := bitOf d.flags 1, collValid := false, phase := d.phase, layer := d.layer
    oper := d.oper, coll := 0, m := d.m, n := d.n, k := d.k, bytes := 0 }

/-- A command's formats are codes of R152. -/
def fmtsOk (t : TagCmd) : Bool := [fmtA t, fmtB t, fmtC t, fmtR t].all (fun f => decide (f ≤ 0xA))

/-- A peer descriptor that the Copyist accepts (R152). -/
def descOk (d : CopyDesc) : Bool :=
  d.crcOk && d.kind == 4 && !(d.opc == 0) && opcDefined d.opc d.subop && fmtsOk (descTag d) && decide (d.flags < 4) &&
  decide (1 ≤ d.m) && decide (1 ≤ d.n) && decide (1 ≤ d.k) && decide (1 ≤ d.jn)

/-- The streams of a request's data, cut by the lengths of its command. -/
def cutStreams (t : TagCmd) : List Nat → List Byte → List (Nat × Nat × Byte)
  | [], _ => []
  | st :: sts, data =>
    let len := if st == 3 || st == 4 then (if t.opc == opGemmMx || t.opc == opAttention then (streamLens t st).headD 0 else 0)
               else if st == 2 && isGemm t.opc && !t.cPresent then 0
               else if st == 7 && !mxFormat (fmtR t) then 0
               else if st == 8 && !t.maskPresent then 0
               else (streamLens t st).getLastD 0
    ((data.take len).mapIdx (fun i b => (st, i, b))) ++ cutStreams t sts (data.drop len)

/-! ### Sending (R163) -/

/-- Put a peer check on a link: the request, its chunks, and the entry that waits for the answer. -/
def peerSend (l : Nat) (o : PeerOut) (s : State) : State :=
  match capture? s o.capture with
  | none => s
  | some c => match c.pieces[o.piece]? with
    | none => s
    | some x =>
      let data := (subStreams c x).flatMap Prod.snd
      let n := ceilDiv data.length 208
      let fl (m : Msg) : Flit := newFlit s clBulk mdLink o.epoch m
      let s1 := s
        |> sendOn l (fl (.peerReq o.reqId s.wch.chip n (subDesc c x o.piece)))
        |> forEach (List.range n) (fun i =>
            sendOn l (fl (.peerData o.reqId i (i + 1 == n) (slice data (208 * i) 208))))
      modCpy (fun y => { y with
        peerOut := y.peerOut.filter (fun p => !(p.reqId == o.reqId)) ++
          [{ o with link := l, chip := (link s l).partner, sent := now s, waiting := true }]
        peerSent := satInc 16 y.peerSent }) s1

/-- The peer period of a mode in strokes; 0 is off (R141, R163). -/
def peerPeriod (mode : Nat) : Nat := if mode == 1 then 64 else if mode == 2 then 16 else if mode == 3 then 1 else 0

/-- The named mode of a phase entry: a CUSTOM entry takes the named mode with the most grains not above its own (R141). -/
def namedMode (p : PhaseEntry) : Nat :=
  if p.mode < 4 then p.mode else if 480 ≤ p.grains then 3 else if 60 ≤ p.grains then 2 else if 20 ≤ p.grains then 1 else 0

/-- The phase entry in force for a partition: its phase inside an epoch, STRAP_MODE's outside (R35, R394; log entry 27). -/
def modeGrains (m : Nat) : Nat := [1, 20, 60, 480].getD m 1
def modeEntry (s : State) (k : Nat) : PhaseEntry :=
  if inEpoch (part s k) then lget s.stk.phases (part s k).phase {}
  else { mode := s.straps.mode, valid := true, grains := modeGrains s.straps.mode }

/-- A stroke at which a partition's checks are sent (R163). -/
def peerTurn (s : State) (k : Nat) : Bool :=
  let p := peerPeriod (namedMode (modeEntry s k))
  !(p == 0) && now s % p == s.wch.chip % p

/-- The link of a new check: SipHash of the chip number and 0x03 under the stroke key (R163; log entry 25). -/
def peerLink (s : State) (e : Nat) (ls : List Nat) : Nat :=
  lget ls (sipHash (keyOf s e (now s)) (le 4 s.wch.chip ++ bytes [3]) % Nat.max 1 ls.length) 0

/-- A check that waits for its next period goes out again: to another link when it is a tie-break (R164, R165). -/
def peerAgain (s : State) : Option (PeerOut × Nat) :=
  match s.cpy.peerOut.find? (fun o => !o.waiting && peerTurn s (match capture? s o.capture with | some c => c.part | none => 0)) with
  | none => none
  | some o =>
    let ls := (peerLinks s o.epoch).filter (fun l => o.tie.isNone || !(l == o.link))
    if ls.isEmpty then none else some (o, peerLink s o.epoch ls)

/-- A piece judged PASS in this stroke, of a partition whose turn it is (log entry 25: the first). -/
def peerPiece (s : State) : Option (Nat × Capture × Nat) :=
  (s.cpy.captures.find? (fun e => e.2.state == 2 && e.2.judgedAt == now s && e.2.verdict ≤ vLate && peerTurn s e.2.part &&
    e.2.pieces.any (fun x => x.verdict == vPass))).map (fun e => (e.1, e.2, e.2.pieces.findIdx (fun x => x.verdict == vPass)))

/-- Publish: one peer check in its period stroke (R163). -/
def peerPublish (s : State) : State :=
  if !peerOn s then s
  else match peerAgain s with
    | some (o, l) => peerSend l o s
    | none => match peerPiece s with
      | none => s
      | some (id, c, i) =>
        let ls := peerLinks s c.epoch
        let x := c.pieces.getD i {}
        if ls.isEmpty || decide (2 ^ 20 < ((subStreams c x).flatMap Prod.snd).length) then s
        else
          let es := pieceResult c.bytes c.tag x.j0 (subUnits c.tag x)
          let es := if isGemm c.tag.opc then es.filter (fun e => e.st == 6 && decide (e.idx / Nat.max 1 c.tag.n < subRows c.tag) ||
            e.st == 7 && decide (e.idx / Nat.max 1 (ceilDiv c.tag.n 32) < subRows c.tag)) else es
          let o : PeerOut := {
            reqId := s.cpy.nextReq, epoch := c.epoch, stroke := c.last, capture := id, piece := i
            digest := resultDigest (pointOf s c.epoch) es (es.map (hostBits c.bytes)) }
          s |> modCpy (fun y => { y with nextReq := (y.nextReq + 1) % 2 ^ 32 }) |> peerSend (peerLink s c.epoch ls) o

/-! ### Serving (R164) -/

/-- Answer a request on its link. -/
def peerAnswer (l reqId status len dg : Nat) (s : State) : State :=
  sendOn l (newFlit s clBulk mdLink ((sharedEpochs s l).headD 0) (.peerResp reqId status len dg)) s

/-- Requests served per stroke (R166). -/
def serveMax (s : State) : Nat := Nat.min 16 s.cpy.eff.peerServeMax

/-- Admit the complete requests in Publish (R164). -/
def peerAdmit (s : State) : State :=
  match pickGroup s with
  | none => s
  | some g => modCpy (fun c => { c with peerIn := c.peerIn.map (fun p => if p.state == 1 then { p with state := 2, group := g } else p) }) s

/-- A served request ends: its entry and service tokens leave. -/
def peerDrop (i : Nat) : State → State := modCpy (fun c =>
  match c.peerIn[i]? with
  | some p => { c with heldService := c.heldService - p.tokens, peerIn := c.peerIn.eraseIdx i }
  | none => c)

/-- The served piece completes: DONE with the digest of the result (R163, R164). -/
def peerServed (i : Nat) (r : GroupResult) (s : State) : State :=
  match s.cpy.peerIn[i]? with
  | none => s
  | some p =>
    if !(p.state == 2) then s
    else
      let t := descTag p.desc
      let bs := cutStreams t [0, 1, 2, 3, 4, 5, 6, 7, 8] p.data
      let es := pieceResult bs t 0 p.desc.jn
      let vals := groupValues es r
      let len := (packResult 6 es vals).length + (packResult 7 es vals).length
      s |> modCpy (fun c => { c with peerServed := satInc 16 c.peerServed })
        |> peerAnswer p.link p.reqId 0 len (resultDigest (pointOf s ((sharedEpochs s p.link).headD 0)) es vals)
        |> peerDrop i

/-! ### Judging answers (R164, R165) -/

/-- A peer check ends: its verdict at node 0 for the stroke of its capture. -/
def peerVerdict (o : PeerOut) (code : Nat) (s : State) : State :=
  let c := capture? s o.capture
  let k := match c with | some x => x.part | none => 0
  s |> modCpy (fun y => { y with peerOut := y.peerOut.filter (fun p => !(p.reqId == o.reqId)) })
    |> landCheck { nodeChk o.epoch k o.stroke ckPeer code with opc := match c with | some x => x.tag.opc | none => 0 }

/-- UNCOVERED with cause PEER_TIMEOUT (R150, R164). -/
def peerUncovered (o : PeerOut) (s : State) : State :=
  let s1 := match capture? s o.capture with
    | some c => record .captureDrop 0 (le 1 0x10 ++ le 1 c.tag.opc ++ le 2 c.tag.layer ++ le 4 c.tag.seq) s
    | none => record .captureDrop 0 (le 1 0x10 ++ zeros 7) s
  peerVerdict o vUncovered s1

/-- A DONE answer (R165). -/
def peerDone (o : PeerOut) (dg : Nat) (s : State) : State :=
  let t : TagCmd := match capture? s o.capture with
    | some c => c.tag
    | none => descTag { kind := 4, opc := 0, subop := 0, fmtAB := 0, fmtCD := 0, flags := 0, node := 0, stroke := 0, piece := 0,
                        m := 0, n := 0, k := 0, j0 := 0, jn := 0, seq := 0, src := 0, layer := 0, oper := 0, phase := 0, crcOk := true }
  match o.tie with
  | none =>
    if dg == o.digest then peerVerdict o vLate s
    else modCpy (fun y => { y with
      peerSplit := satInc 16 y.peerSplit
      peerOut := y.peerOut.map (fun p => if p.reqId == o.reqId then { p with tie := some (o.chip, dg), waiting := false, busy := 0 } else p) }) s
  | some (chip1, d1) =>
    if dg == d1 then
      s |> writeOrFold { stampRec s .copyFail 0 none (recSev .copyFail)
             (copyFailBody t 3 0 0 0 (o.digest % 2 ^ 32) (dg % 2 ^ 32) 0 (o.piece % 2 ^ 32)) with stroke := o.stroke }
        |> peerVerdict o vFail
    else if dg == o.digest then
      s |> sendRouted clVerdict chip1 o.epoch (.verdict {
             epoch := o.epoch, stroke := o.stroke, kind := 4, worst := vPass, kinds := List.replicate 8 0, blocks := 0, members := 0,
             nfail := 0, uncovered := 0, checks := 0, chips := [chip1] })
        |> peerVerdict o vLate
    else
      s |> copyDisagree 0 4 0xFF 0xFF t o.chip |> peerUncovered o

end Sys2Proof.Machine
end

