-- ==== Sys2Proof/Machine/StepOps.lean ====
section
/-!
DEFINITION. Steps of a partition (R183), commits (R188), checkpoint requests (R281, R283), rotating priority (R337), and who may
name a partition (R194, R320).
-/
namespace Sys2Proof.Machine

open Sys2Proof

/-- Rank of requester `q` of `n` for a resource of constant `c` in a stroke (R337). -/
def rankOf (n c st q : Nat) : Nat := (q + (n - (st + c) % n)) % n

/-- The access may name partition `k`: the privileged view, or the slot that owns it (R194, R320, R321). -/
def mayPart (s : State) (a : Access) (k : Nat) : Bool := privileged s a || ((part s k).valid && (part s k).owner == a.slot)

/-- A write that names partition `k`, open to its owner: denied to others (R7, R194, R323). In cold reset no access completes
(log entry 19). -/
def ownerWrite (a : Access) (addr k : Nat) (f : State → State) (s : State) : State :=
  if s.boot.inReset then s
  else if !mayPart s a k then deny a true false addr s
  else if controlReset s && !keptWindow addr then busErr s
  else busOk (f s)

/-! ### Steps -/

/-- The step a partition is in, with the stroke of its mark. -/
def curMark (q : Part) : Option (Nat × Nat) := q.marks.head?

/-- A step number from its low `w` bits: the one nearest to the partition's current step (log entry 30). -/
def extendStep (q : Part) (w low : Nat) : Nat :=
  match curMark q with
  | none => low % 2 ^ w
  | some (t, _) =>
    let c := t / 2 ^ w * 2 ^ w + low % 2 ^ w
    if c + 2 ^ (w - 1) < t then c + 2 ^ w else if t + 2 ^ (w - 1) < c && decide (2 ^ w ≤ c) then c - 2 ^ w else c

/-- The strokes of step `t`, from its mark to the next mark: first stroke, and the stroke of the next mark. -/
def stepSpan (t : Nat) : List (Nat × Nat) → Option Nat → Option (Nat × Option Nat)
  | [], _ => none
  | (u, st) :: ms, after => if u == t then some (st, after) else stepSpan t ms (some st)

/-- The span of a step of partition `k`. -/
def spanOf (s : State) (k t : Nat) : Option (Nat × Option Nat) := stepSpan t (part s k).marks none

/-! ### Retained rows and radii (R231, R235, R236) -/

/-- The oldest stroke whose touch row is retained, on the block or spilled. -/
def oldestRow (s : State) : Nat := minOf (now s) (tkeys s.taint.rows ++ tkeys s.taint.spilled)

/-- A radius counts for partition `k` (R236). -/
def blastFor (s : State) (b : Blast) (k : Nat) : Bool :=
  if b.written then b.part == k || (b.peers && b.epoch == (part s k).epoch) else b.epoch == (part s k).epoch

/-- A radius includes a stroke of [x, y). -/
def blastHits (s : State) (b : Blast) (x y : Nat) : Bool :=
  if b.written then decide (b.a < y) && (match b.q with | some q => decide (x < q) | none => true) else decide (oldestRow s < y)

/-- The radii that include a stroke of step `t` of partition `k` (R188). -/
def blastsOf (s : State) (k t : Nat) : List Blast :=
  match spanOf s k t with
  | none => []
  | some (x, y) => s.rcv.blasts.filter (fun b => blastFor s b k && blastHits s b x (match y with | some e => e | none => now s + 1))

/-- Some radius includes a stroke of the step. -/
def stepTainted (s : State) (k t : Nat) : Bool := !(blastsOf s k t).isEmpty

/-- The low 32 bits in which messages and streams carry a step. -/
def low32 (t : Nat) : Nat := t % 2 ^ 32

/-- Step `t` of partition `k` is committed (R188). -/
def committed (s : State) (k t : Nat) : Bool :=
  let q := part s k
  match spanOf s k t with
  | some (_, some m) =>
    (atOrBelow (verifiedOf s q.epoch) (m - 1) || decide (m ≤ q.joined)) &&
      !(s.dgt.tally.any (fun x => x.part == k && x.epoch == q.epoch && x.step == low32 t && (x.own || x.sum.isSome) && !x.judged)) &&
      !(q.tallyFails.contains (low32 t)) &&
      !(s.dgt.repl.any (fun r => r.part == k && (r.waits.any (fun w => w.1 == t) || r.ready.any (fun w => w.1 == t) || r.splits.contains t))) &&
      !(s.dgt.votes.any (fun v => v.part == k && v.epoch == q.epoch && v.step == low32 t && (!v.closed || v.outcome == 2))) &&
      !(stepTainted s k t)
  | _ => false

/-! ### Checkpoint requests (R281 to R283) -/

/-- Request a checkpoint: the bit, the record, which goes to the pod fault manager, and the interrupt (R283). -/
def requestCkpt (trigger k eNew eOld : Nat) (s : State) : State :=
  s |> modRcv (fun r => { r with ckpt := setBit r.ckpt k })
    |> modPart k (fun q => { q with ckptSince := some (now s), ckptOverdue := false })
    |> recPart .ckptRequest noNode k (le 1 k ++ le 1 trigger ++ zeros 2 ++ le 4 eNew ++ le 4 eOld)
    |> irqPart k irqCkpt

/-- A step that reaches RCV_CFG.CKPT_STEPS past the last varnished one requests a checkpoint, once for each seal; the timer runs
under TREND too (R281, R282). With no varnish yet it counts from the RESTORE step, or from the first mark (log entry 30). -/
def ckptStep (k t : Nat) (s : State) : State :=
  let q := part s k
  let first := (q.marks.getLast?.map Prod.fst).getD t
  let base := match q.lastVarnish with
    | some (u, _) => u
    | none => match epoch? s q.epoch with
      | some x => if x.restore == strokeMod - 1 then first else x.restore
      | none => first
  if !(s.rcv.cfg.ckptSteps == 0) && q.state == psMember && !q.ckptDone && decide (base + s.rcv.cfg.ckptSteps ≤ t) then
    s |> requestCkpt 2 k 0 0 |> modPart k (fun q => { q with ckptDone := true })
  else s

/-! ### Bypass (R309) -/

/-- Forward an up message in bypass, with its record. Cause 1: table full; 2: late; 3: CORE reset. -/
def relayBypass (cls cause e : Nat) (m : Msg) (s : State) : State :=
  s |> bypassUp cls e m |> recordBlock .levelBypass (le 1 cls ++ le 1 cause ++ zeros 2 ++ le 4 e)

/-- A link leads to a child of an epoch's tree here. -/
def isChild (s : State) (e l : Nat) : Bool := match epoch? s e with | some x => x.children.contains l | none => false

/-- A link leads to the parent of an epoch's tree here. -/
def isParent (s : State) (e l : Nat) : Bool := match epoch? s e with | some x => x.parent == l | none => false

/-- Every child link of an epoch is in a list. -/
def allChildren (s : State) (e : Nat) (l : List Nat) : Bool :=
  match epoch? s e with | some x => x.children.all (fun c => l.contains c) | none => false

/-- This block is an epoch's root. -/
def rootOf (s : State) (e : Nat) : Bool := match epoch? s e with | some x => isRoot x | none => false

end Sys2Proof.Machine
end

