-- ==== Sys2Proof/Machine/CraqOps.lean ====
section
/-!
DEFINITION. The craquelure map (R245): one entry for each tile port (1), copy unit (2) and Watch lane (3), kept in the record store.
-/
namespace Sys2Proof.Machine

open Sys2Proof

/-- The record store takes writes: it can be read, and its last program or erase did not fail (R245, R351, R354). -/
def storeOk (s : State) : Bool := s.nvm.readable && !s.ldg.lastFail && !s.ldg.noStore

/-- The entry of a unit is this one. -/
def craqIs (u i : Nat) (e : Craq) : Bool := e.unit == u && e.index == i

/-- The entry of a unit as last given, committed or waiting. -/
def craqEntry (s : State) (u i : Nat) : Craq :=
  match s.ldg.craqTodo.find? (craqIs u i) with
  | some e => e
  | none => (s.nvm.craq.find? (craqIs u i)).getD { unit := u, index := i }

/-- Put an entry at its place in a list of entries. -/
def craqPut (e : Craq) (l : List Craq) : List Craq := l.filter (fun x => !(craqIs e.unit e.index x)) ++ [e]

/-- CRAQ_WRITE_FAIL (R436): it concerns the node of a tile port, and no node otherwise. -/
def craqFailed (e : Craq) : State → State :=
  record .craqWriteFail (if e.unit == 1 then nodeOf e.index else noNode) (le 1 e.unit ++ zeros 1 ++ le 2 e.index)

/-- Commit an entry; one that fails waits for the next stroke (R245). -/
def craqCommit (e : Craq) (s : State) : State :=
  let e := { e with seq := e.seq + 1 }
  if storeOk s then
    s |> modNvm (fun n => { n with craq := craqPut e n.craq })
      |> modLdg (fun l => { l with craqTodo := l.craqTodo.filter (fun x => !(craqIs e.unit e.index x)) })
  else s |> modLdg (fun l => { l with craqTodo := craqPut e l.craqTodo }) |> craqFailed e

/-- Change and commit the entry of a unit. -/
def craqMod (u i : Nat) (f : Craq → Craq) (s : State) : State := craqCommit (f (craqEntry s u i)) s

/-- The entries that wait are tried again in each stroke (R245). -/
def craqRetry (s : State) : State :=
  if storeOk s then
    s |> modNvm (fun n => { n with craq := s.ldg.craqTodo.foldl (fun l e => craqPut e l) n.craq })
      |> modLdg (fun l => { l with craqTodo := [] })
  else forEach s.ldg.craqTodo craqFailed s

/-- One event of a unit enters its entry (R245). -/
def craqEvent (n : Nat) (s : State) (events : Nat) (e : Craq) : Craq :=
  { e with events := Nat.min 255 events, hist := (n :: e.hist).take 4, ophours := s.boot.hours, pcycle := s.boot.cycles
           total := satInc 32 e.total }

end Sys2Proof.Machine
end

