-- ==== Sys2Proof/Machine/UnitOps.lean ====
section
/-!
DEFINITION. Canary sets on the copy units (R161, R162) and the ARITH reference digests that the Copyist computes at census (R198,
R199).
-/
namespace Sys2Proof.Machine

open Sys2Proof

/-! ### Canary sets -/

/-- A unit may run its canary set: it is not out until the next cold start. -/
def canRun (x : CUnit) : Bool := !x.perm && !x.running

/-- A unit starts its canary set with a service token (R161; log entry 24). -/
def startCanary (u : Nat) (s : State) : State :=
  let x := cunit s u
  if canRun x && decide (s.cpy.heldService < s.cpy.service) then
    s |> modUnit u (fun x => { x with running := true, runNext := false, overran := false, token := true })
      |> modCpy (fun c => { c with heldService := c.heldService + 1 })
  else s

/-- Publish starts the sets that are due (R161). -/
def startCanaries (s : State) : State :=
  forEach ((unitNos s).filter (fun u => (cunit s u).runNext)) startCanary s

/-- A set ends: the unit is free and its token returns. -/
def endCanary (u : Nat) (s : State) : State :=
  let x := cunit s u
  s |> modUnit u (fun x => { x with running := false, token := false, overran := false })
    |> whenB x.token (modCpy (fun c => { c with heldService := c.heldService - 1 }))

/-- The pieces of a group that lost a unit go to another group's queue (R154). -/
def readmit (g : Nat) (s : State) : State :=
  match (liveGroups s).find? (fun h => !(h == g)) with
  | none => s
  | some h => modCpy (fun c => { c with captures := tmap c.captures (fun _ y =>
      { y with pieces := y.pieces.map (fun x => if x.state == 1 && x.group == g then { x with group := h } else x) }) }) s

/-- A unit fails a canary: OFFLINE at once; the second failure in a row lasts until the next cold start (R162). -/
def unitFail (u kernel : Nat) (s : State) : State :=
  let x := cunit s u
  s |> record .copyUnitFail noNode (le 1 u ++ le 1 kernel ++ le 1 (b2n x.census + 2 * b2n x.failedOnce) ++ zeros 1)
    |> whenB x.failedOnce (craqMod 2 u (fun e => { e with state := 4, cause := 5, since := stampStroke s }))
    |> modUnit u (fun x => { x with up := false, perm := x.failedOnce, failedOnce := true, runNext := !x.failedOnce, census := false })
    |> whenB x.up (readmit (groupOf u))

/-- A unit passes its set: at census, or after a failure, it is UP (R162). -/
def unitPass (u : Nat) (s : State) : State :=
  let x := cunit s u
  s |> modUnit u (fun x => { x with up := true, failedOnce := false, census := false })
    |> whenB x.failedOnce (record .copyUnitTransient noNode (le 1 u ++ zeros 3))

/-! ### ARITH kernels (R198) -/

/-- One byte of the operand generator, and its next state. -/
def genByte (st : Nat) : Nat × Nat :=
  let a := st ^^^ (st / 2 ^ 12)
  let b := a ^^^ (a * 2 ^ 25 % 2 ^ 64)
  let c := b ^^^ (b / 2 ^ 27)
  (c * 0x2545F4914F6CDD1D % 2 ^ 64 / 2 ^ 56, c)

/-- `n` bytes as one number, lowest first. -/
def genRaw : Nat → Nat → Nat × Nat
  | 0, st => (0, st)
  | n + 1, st =>
    let b := genByte st
    let r := genRaw n b.2
    (b.1 + 256 * r.1, r.2)

/-- Bytes drawn for one element: FP4, FP6 and the 8-bit formats one, BF16 two, FP32 four. -/
def genLen (f : Nat) : Nat := if f == 0 then 4 else if f == 1 then 2 else 1

/-- An encoding that is NaN or infinite becomes +0. -/
def genClean (f raw : Nat) : Nat :=
  if f == 0 then (if raw / 2 ^ 23 % 256 == 255 then 0 else raw)
  else if f == 1 then (if raw / 2 ^ 7 % 256 == 255 then 0 else raw)
  else if f == 2 then (if raw % 128 == 127 then 0 else raw)
  else if f == 3 then (if raw / 4 % 32 == 31 then 0 else raw)
  else raw % 2 ^ fmtBits f

/-- `n` elements of a format, and the generator's next state. -/
def genElems (f : Nat) : Nat → Nat → List Nat × Nat
  | 0, st => ([], st)
  | n + 1, st =>
    let e := genRaw (genLen f) st
    let r := genElems f n e.2
    (genClean f e.1 :: r.1, r.2)

/-- OPC, element format and K of an ARITH pattern (R197). -/
def arithOpc (pattern : Nat) : Nat := pattern / 256 % 256
def arithFmt (pattern : Nat) : Nat := pattern / 16 % 16
def arithK (pattern : Nat) : Nat := 1024 * (pattern % 16 + 1)

/-- The result elements of an ARITH kernel: a 64 × 64 GEMM without addend, scales 0x7F. -/
def arithResult (pattern seed : Nat) : List ResElem :=
  let f := arithFmt pattern
  let k := arithK pattern
  let a := genElems f (64 * k) (0x9E3779B97F4A7C15 ^^^ seed % 2 ^ 32)
  let b := genElems f (64 * k) a.2
  let scales := List.replicate (k / 32) (0x7F, 0x7F)
  let row (r : Nat) : List Nat := (a.1.drop (r * k)).take k
  let one (r c : Nat) : Nat :=
    if arithOpc pattern == opGemmInt then dotInt8 (row r) ((b.1.drop (c * k)).take k) none
    else dot (arithOpc pattern) f f scales (row r) ((b.1.drop (c * k)).take k)
  resElems (if arithOpc pattern == opGemmInt then 9 else 0) 0
    ((List.range 64).flatMap (fun r => (List.range 64).map (one r)))

/-- Bytes 0 to 7 of the D127 digest under r₀ of values of 32 bits. -/
def arithDigest (vals : List Nat) : Nat := digest fixedPoint (wordsOf (packBits 32 vals)) % 2 ^ 64

/-! ### Reference digests (R199) -/

def modGolden (i : Nat) (f : Golden → Golden) : State → State :=
  modGnd (fun g => { g with golden := lmod g.golden i f })

/-- GOLDEN_SUSPECT (R199, R211, R436). -/
def goldenSuspect (e : Golden) (value : Nat) : State → State :=
  recordBlock .goldenSuspect (le 1 e.kind ++ le 1 e.typ ++ le 2 e.pattern ++ le 8 e.expected ++ le 8 value)

/-- Census need not wait for an entry any more. -/
def goldenDone (i : Nat) : State → State := modBoot (fun b => { b with goldenTodo := without b.goldenTodo i })

/-- A group has computed the value of an ARITH entry (R199). With no other group UP the entry stays without a reference. -/
def goldenValue (i g value : Nat) (s : State) : State :=
  match s.gnd.golden[i]? with
  | none => s
  | some e =>
    if !(e.kind == 3 && e.enabled && e.reference.isNone) then s
    else if value == e.expected then
      s |> modGolden i (fun x => { x with reference := some value, firstGroup := none }) |> goldenDone i
    else match e.firstGroup with
      | none =>
        s |> modGolden i (fun x => { x with firstGroup := some (g, value) })
          |> whenB ((liveGroups s).all (fun h => h == g)) (goldenDone i)
      | some (h, w) =>
        if h == g then modGolden i (fun x => { x with firstGroup := some (g, value) }) s
        else if w == value then
          s |> modGolden i (fun x => { x with enabled := false }) |> goldenSuspect e value |> goldenDone i
        else
          s |> modGolden i (fun x => { x with firstGroup := none })
            |> forEach ((upUnits s).filter (fun u => groupOf u == g || groupOf u == h)) (fun u => unitFail u 0xFF)
            |> goldenDone i

end Sys2Proof.Machine
end

