-- ==== Sys2Proof/Machine/HoldOps.lean ====
section
/-!
DEFINITION. Field screening (R196 to R217): the schedule of slices, the hold and its ends, on-demand requests, canaries and trims.
-/
namespace Sys2Proof.Machine

open Sys2Proof

/-! ### Which tiles, which entries, when (R196 to R201) -/

def skLbist : Nat := 1
def skMbist : Nat := 2
def skArith : Nat := 3
def skAnalog : Nat := 4
def skMargin : Nat := 5

/-- A sentinel that receives slices: ACTIVE, LENT or SPARE, and attached (R200). -/
def tested (s : State) (p : Nat) : Bool :=
  (sent s p).attached && !(sent s p).failed &&
    ((tile s p).state == tsActive || (tile s p).state == tsSpare || (tile s p).state == tsLent)

/-- The tested ports, ascending. -/
def testedPorts (s : State) : List Nat := tfind s.gnd.tiles (fun p _ => tested s p)

/-- A sentinel is suspect (R239). -/
def suspect (s : State) (p : Nat) : Bool := (sent s p).health.code == 2

/-- Seconds between slices of the named modes (R141). -/
def sliceSeconds (m : Nat) : Nat := [1200, 600, 300, 120].getD m 1200

/-- The slice period of a sentinel in strokes (R200). -/
def slicePeriod (s : State) (p : Nat) : Nat :=
  let n := sliceSeconds (namedMode (modeEntry s (tile s p).part)) * 1000000000 / Nat.max 1 s.tcfg.period
  Nat.max 1 (if suspect s p then n / Nat.max 1 s.gnd.policy.testFactor else n)

/-- The kind of GOLDEN entry that a slice kind uses (R196). -/
def entryKind (k : Nat) : Nat := if k == skMargin then skArith else k

/-- Enabled entries of a tile type for a slice kind, in the order of the image (R197). -/
def enabledEntries (s : State) (typ k : Nat) : List Nat :=
  (List.range s.gnd.golden.length).filter (fun i =>
    let e := s.gnd.golden.getD i {}
    e.enabled && e.typ == typ && e.kind == entryKind k)

/-- The entry next in rotation for a port and kind, wrapping at the end (R200). -/
def nextEntry (s : State) (p k : Nat) : Option Nat :=
  let es := enabledEntries s (tile s p).typ k
  match es.find? (fun i => decide (tgetD (sent s p).sched.nextIdx k 0 ≤ i)) with
  | some i => some i
  | none => es.head?

/-- The eight steps of the rotation (R200). -/
def rotation : List Nat := [skLbist, skArith, skMbist, skArith, skLbist, skArith, skMbist, skMargin]

/-- The next step of a port's rotation that has an entry: its place, kind and entry (R200). -/
def nextStep (s : State) (p : Nat) : Option (Nat × Nat × Nat) :=
  ((List.range 8).map (fun i => ((sent s p).sched.rot + i) % 8)).findSome? (fun r =>
    (nextEntry s p (lget rotation r 0)).map (fun e => (r, lget rotation r 0, e)))

/-- No hold may open: shed by power, Witness, SLICES_EN cleared, or BLANK and RETURN (R208, R218). -/
def holdsSuspended (s : State) : Bool :=
  s.pwr.shedSlices || s.pwr.witness || !s.scr.cfg.slicesEn || !(lifeState s == 1)

/-- A sentinel whose due stroke lies more than one period in the past (R201). -/
def sliceOverdue (s : State) (p : Nat) : Bool := tested s p && s.boot.ready && decide ((sent s p).sched.due + slicePeriod s p < now s)

/-- Change a port's schedule. -/
def modSched (p : Nat) (f : Sched → Sched) : State → State := modSent p (fun x => { x with sched := f x.sched })

/-- READY: port p is first due at the READY stroke + floor(p × period / 2,048) (R200). -/
def firstDue (s : State) (p : Nat) : State :=
  let per := slicePeriod s p
  modSched p (fun y => { y with due := now s + p * per / 2048, lastSlice := now s, period := per }) s

/-- A shorter period moves the due stroke to min(due, last slice + new period) (R200). -/
def repace (p : Nat) (s : State) : State :=
  let per := slicePeriod s p
  modSched p (fun y => { y with period := per, due := if per < y.period then Nat.min y.due (y.lastSlice + per) else y.due }) s

/-! ### Spares and witnesses (R62, R210) -/

/-- A spare that R62 admits for a type and a partition. -/
def spareFor (s : State) (typ k q : Nat) : Bool :=
  (tile s q).state == tsSpare && (tile s q).typ == typ && (tile s q).part == k && decide ((sent s q).health.code < 2) &&
    (sent s q).attached && !(sent s q).failed

/-- The spare that R62 picks for a number of assembly `home`: the same assembly first, then lending siblings. -/
def pickSpare (s : State) (home typ k : Nat) (ok : Nat → Bool) : Option Nat :=
  let own := (portsUnder s home).find? (fun q => spareFor s typ k q && ok q)
  match own with
  | some q => some q
  | none =>
    if !s.gnd.policy.lendEnable || !(asm s home).borrow || decide (4 ≤ (borrowed s home).length) then none
    else ((asmChildren s (asm s home).parent).filter (fun b => !(b == home) && (asm s b).lend)).findSome? (fun b =>
      (portsUnder s b).find? (fun q => spareFor s typ k q && ok q))

/-- The ports of a partition in the order of R62: those of the home assembly, then those of other assemblies, ascending. -/
def witnessOrder (s : State) (p : Nat) : List Nat :=
  let home := (tile s p).host
  let same := tfind s.gnd.tiles (fun q t => !(q == p) && t.typ == (tile s p).typ && t.part == (tile s p).part &&
    (sent s q).attached && !(sent s q).failed)
  same.filter (fun q => (tile s q).parent == home) ++
    sortBy (fun q => (tile s q).parent) (same.filter (fun q => !((tile s q).parent == home)))

/-- The witness: a SPARE of the same type and partition, otherwise an active tile (R210). -/
def pickWitness (s : State) (p : Nat) : Option Nat :=
  match (witnessOrder s p).find? (fun q => spareFor s (tile s p).typ (tile s p).part q) with
  | some q => some q
  | none => (witnessOrder s p).find? (fun q => working (tile s q))

/-! ### The hold (R204 to R215) -/

def modHold (f : Hold → Hold) : State → State := modScr (fun c => { c with hold := c.hold.map f })

/-- The GOLDEN entry of a hold. -/
def holdEntry (s : State) (h : Hold) : Golden := s.gnd.golden.getD h.entry {}

/-- The value that a passing run shows: the reference digest, or the MISR (R197, R198). -/
def sliceExpected (e : Golden) : Nat := if e.kind == skArith then e.reference.getD e.expected else e.expected

/-- Outcome codes (R210, R215). -/
def soPass : Nat := 1
def soTransient : Nat := 2
def soPermanent : Nat := 3
def soNoWitness : Nat := 4
def soMargin : Nat := 5
def soGolden : Nat := 6
def soUncovered : Nat := 7

/-- UNCOVERED causes (R212). -/
def scStarved : Nat := 1
def scOverbudget : Nat := 2
def scReset : Nat := 3
def scClockStop : Nat := 4
def scNoStress : Nat := 5
def scHoldLimit : Nat := 6
def scNoReference : Nat := 7

/-- Verdict of an outcome (R210, R215). -/
def outcomeVerdict (o : Nat) : Nat :=
  if o == soPass || o == soMargin then vPass else if o == soGolden || o == soUncovered then vUncovered else vFail

/-- Body of SLICE_RESULT (R212). -/
def sliceBody (s : State) (h : Hold) (outcome cause : Nat) : List Byte :=
  let e := holdEntry s h
  le 1 h.kind ++ le 1 outcome ++ le 1 (if outcome == soUncovered then cause else 0) ++
  le 1 (b2n h.heated + atB 1 (h.kind == skMargin && !h.setup) + atB 2 h.injMissed + atB 3 h.stretched) ++
  le 2 e.pattern ++ le 1 (twos 8 h.appMv) ++ le 1 h.appFreq ++ le 1 h.tempRise ++ zeros 1 ++
  le 2 (match h.witness with | some w => nodeOf w | none => noNode) ++ le 8 (sliceExpected e) ++ le 8 (h.observed.getD 0)

/-- A slice has its outcome: its verdict for the stroke of the first nominal run, the counters, and what Judge classifies. -/
def sliceResult (h : Hold) (outcome cause : Nat) (s : State) : State :=
  let n := h.firstStroke.getD (now s)
  let e := holdEntry s h
  let opc := if e.kind == skArith then arithOpc e.pattern else 0
  let v := outcomeVerdict outcome
  let out : SliceEnd := {
    port := h.port, kind := h.kind, opc := opc, outcome := outcome, stroke := n, mv := h.appMv, freq := h.appFreq
    rise := h.tempRise, body := sliceBody s h outcome cause }
  s |> landCheck { portChk s h.port n ckSlice v with opc := opc, outcome := outcome }
    |> gcount 14 1
    |> pcount (tile s h.port).part 10 1
    |> modSched h.port (fun y => { y with lastKind := h.kind, lastOutcome := outcome, lastStroke := n })
    |> modScr (fun c => { c with
        pass := if v == vPass then satInc 16 c.pass else c.pass
        fail := if v == vFail then satInc 16 c.fail else c.fail
        uncovered := if v == vUncovered then satInc 16 c.uncovered else c.uncovered
        ended := c.ended ++ [out] })

/-- A trim is recommended: 5 mV more, committed, driven and recorded (R217). -/
def recommendTrim (p : Nat) (s : State) : State :=
  let c := (sent s p).canary
  let mean := c.sum / Nat.max 1 c.readings.length
  if 30 ≤ c.trimMv then
    s |> record .canaryExhausted (nodeOf p) (le 1 c.trimMv ++ le 1 mean ++ zeros 2)
      |> modSent p (fun x => { x with
          canary := { x.canary with below := 0, exhausted := true, trimWaits := false }, sched := { x.sched with urgent := true } })
  else
    let total := Nat.min 30 (c.trimMv + 5)
    let step := total - c.trimMv
    s |> craqMod 1 p (fun e => { e with trimMv := total })
      |> modSent p (fun x => { x with
          canary := { x.canary with trimMv := total, lastTrim := some (now s), below := 0, trimWaits := false } })
      |> emit (.trim p total)
      |> modScr (fun c => { c with trimNode := nodeOf p, trimStep := step, trimTotal := total, trimCount := satInc 32 c.trimCount })
      |> record .trimRecommend (nodeOf p) (le 1 step ++ le 1 total ++ le 1 mean ++ zeros 1)

/-- The on-demand request that a hold served shows DONE (R220). -/
def requestDone (h : Hold) : State → State :=
  modScr (fun c => match h.od with | some r => if r.retest then c else { c with result := 5 } | none => c)

/-- After a slice the port is next due one period later; the rotation moves on (R200, R202). -/
def advanceSched (h : Hold) (s : State) : State :=
  let per := slicePeriod s h.port
  if !h.rotates then s
  else modSched h.port (fun y => { y with
    rot := (y.rot + 1) % 8, due := now s + per, lastSlice := now s, period := per
    nextIdx := tput y.nextIdx h.kind (h.entry + 1) }) s

/-- Lower SP_TS_REQ of the tile, of the witness and of heating neighbours; a tile that an LBIST run has clobbered gets its pulse
(R204, R207). -/
def lowerHold (h : Hold) (s : State) : State :=
  s |> forEach h.heaters (fun q => emit (.sliceFall q))
    |> whenSome h.witness (fun w s => s |> emit (.sliceFall w) |> whenB (h.kind == skLbist && h.witnessGranted) (emit (.clobPulse w)))
    |> emit (.sliceFall h.port)
    |> whenB (h.kind == skLbist && h.ran) (emit (.clobPulse h.port))

/-- The hold closes (R204 to R207): the requests fall, the schedule moves on, and a waiting trim follows (R217). -/
def closeHold (h : Hold) (outcome : Nat) (s : State) : State :=
  let from0 := h.granted.getD (now s)
  s |> lowerHold h
    |> event (nodeOf h.port) evHoldClose 0 outcome
    |> advanceSched h
    |> modSched h.port (fun y => { y with
        held := some (from0, now s), deferrals := 0, urgent := y.urgent && !(h.kind == skMargin)
        holdStress := if h.stressAt == 0 then y.holdStress else !y.holdStress })
    |> requestDone h
    |> modScr (fun c => { c with hold := none })
    |> whenB (sent s h.port).canary.trimWaits (recommendTrim h.port)

/-- The tile can be restored: it is neither in reset nor stopped, and no CONTROL reset runs (R208). -/
def canRestore (s : State) (p : Nat) : Bool := !(sent s p).inReset && !(sent s p).clkStop && !(controlReset s)

/-- The hold has its outcome: it closes once the segment is restored and conditions are nominal. -/
def endHold (outcome cause : Nat) (s : State) : State :=
  match s.scr.hold with
  | none => s
  | some h =>
    if h.dirty || !(h.awaiting == 0) then modHold (fun x => { x with ending := some (outcome, cause), stage := 5 }) s
    else s |> sliceResult h outcome cause |> closeHold h outcome

/-- What waited for the restore or for nominal conditions goes on. -/
def holdGoesOn (s : State) : State :=
  match s.scr.hold with
  | none => s
  | some h => match h.ending with
    | none => s
    | some (o, c) => if h.dirty || !(h.awaiting == 0) then s else s |> sliceResult h o c |> closeHold h o

/-- Request conditions of the power manager (R213, R430). -/
def askStress (p : Nat) (mv : Int) (freq awaiting : Nat) (s : State) : State :=
  s |> emit (.stress p mv freq) |> modHold (fun x => { x with awaiting := awaiting, stage := if awaiting == 1 then 3 else 5 })

/-- Conditions that are or may be applied. -/
def underStress (h : Hold) : Bool := h.awaiting == 1 || h.onStress

/-- End a run early: stress is released first, the outcome follows (R205, R208). -/
def abortHold (cause : Nat) (s : State) : State :=
  match s.scr.hold with
  | none => s
  | some h =>
    if h.ending.isSome then s
    else
      s |> whenB (h.awaiting == 1) (emit .stressFall)
        |> whenB (underStress h && !(h.awaiting == 2)) (askStress h.port 0 0 2)
        |> modHold (fun x => { x with march := none })
        |> endHold soUncovered cause

/-- A reset or a requested clock stop meets the hold of a tile; a witness that it takes gives no result (R208, R210). -/
def meetHold (p cause : Nat) (s : State) : State :=
  match s.scr.hold with
  | none => s
  | some h =>
    if h.port == p then abortHold cause s
    else if h.witness == some p then
      s |> modHold (fun x => { x with march := none }) |> endHold soNoWitness 0
    else s

/-- The tile is held: its verdict of the stroke is the slice outcome (R210). -/
def heldIn (s : State) (p n : Nat) : Bool :=
  (match (sent s p).sched.held with | some (a, b) => decide (a ≤ n) && decide (n ≤ b) | none => false) ||
  (match s.scr.hold with
   | some h => h.port == p && (match h.granted with | some a => decide (a ≤ n) | none => false)
   | none => false)

/-- Start a run (R206): an MBIST march first saves its segment (R209). -/
def startRun (run : Nat) (s : State) : State :=
  modHold (fun x => { x with
    run := run, stage := if run == 2 then 6 else if run == 3 then 7 else 4, ran := true, march := none, second := false
    dirty := x.kind == skMbist }) s

/-- Tiles that may heat a tested tile: its neighbours in the TILEMAP order that are SPARE or without an active context (R214). -/
def heatersFor (s : State) (p : Nat) : List Nat :=
  ((if p == 0 then [] else [p - 1]) ++ [p + 1]).filter (fun q => decide (q < s.build.ports) && (sent s q).attached &&
    !(sent s q).failed && ((tile s q).state == tsSpare ||
      (working (tile s q) && !(s.rcv.ctxs.any (fun e => e.2.ports.contains q)) && (sent s q).cmds.isEmpty)))

/-- Ask for the stress of a MARGIN slice (R213). -/
def applyStress (s : State) : State :=
  match s.scr.hold with
  | none => s
  | some h =>
    let mv : Int := if h.setup then -(s.gnd.policy.marginMv : Int) else s.gnd.policy.marginMv
    let f := if h.setup then Nat.min 8 s.scr.eff.marginFreq else 0
    s |> forEach h.heaters (fun q => emit (.sliceFall q))
      |> modHold (fun x => { x with heaters := [], askMv := mv, askFreq := f, stressAt := Nat.max 1 (now s) })
      |> askStress h.port mv f 1

/-- After the grant: heating, stress, or the run (R205, R213, R214). -/
def granted (s : State) : State :=
  match s.scr.hold with
  | none => s
  | some h =>
    let s1 := modHold (fun x => { x with granted := some (now s) }) s
    if !(h.kind == skMargin) then startRun 1 s1
    else
      let hs := if h.setup && s.scr.eff.heatEn then heatersFor s h.port else []
      if hs.isEmpty then applyStress s1
      else s1 |> forEach hs (fun q => emit (.sliceReq q 0))
              |> modHold (fun x => { x with heaters := hs, heated := true, heatAt := now s, tempAt := (sent s h.port).temp, stage := 2 })

/-- The rise of a tile's temperature since heating began, when its sensor reads (R214). -/
def riseOf (s : State) (h : Hold) : Nat :=
  if h.tempAt == 0xFF || (sent s h.port).temp == 0xFF then 0 else (sent s h.port).temp - h.tempAt

/-! ### Runs (R210, R211, R215) -/

/-- A run of the sequence has its result: the next run, or the outcome. -/
def afterRun (pass : Bool) (obs : Nat) (s : State) : State :=
  match s.scr.hold with
  | none => s
  | some h =>
    let s1 := if pass || h.observed.isSome then s else modHold (fun x => { x with observed := some obs }) s
    let s2 := if h.run == 1 then modHold (fun x => { x with firstStroke := some (now s) }) s1 else s1
    if h.run == 0 then s2 |> modHold (fun x => { x with stressedFail := !pass }) |> askStress h.port 0 0 2
    else if h.run == 1 then
      if pass then endHold (if h.stressedFail then soMargin else soPass) 0 s2 else startRun 2 s2
    else if h.run == 2 then
      if pass then endHold soTransient 0 s2
      else match pickWitness s h.port with
        | none => endHold soNoWitness 0 s2
        | some w =>
          s2 |> emit (.sliceReq w h.kind)
             |> modHold (fun x => { x with witness := some w, witnessAt := now s, witnessGranted := false, run := 3, stage := 7 })
    else if pass then endHold soPermanent 0 s2
    else
      s2 |> modGolden h.entry (fun e => { e with enabled := false })
         |> goldenSuspect (holdEntry s h) (h.observed.getD obs)
         |> endHold soGolden 0

/-- The tile that runs: the witness in the witness run. -/
def runPort (h : Hold) : Nat := if h.run == 3 then h.witness.getD h.port else h.port

/-- A run is going on. -/
def runOn (h : Hold) : Bool :=
  h.ending.isNone && h.march.isNone &&
    (h.stage == 4 || h.stage == 6 || (h.stage == 7 && h.witnessGranted))

/-- A run that reaches the budget stops (R206): UNCOVERED, or, on the witness, no witness. -/
def overBudget (s : State) : State :=
  match s.scr.hold with
  | none => s
  | some h => if h.run == 3 then endHold soNoWitness 0 s else abortHold scOverbudget s

/-! ### On-demand requests (R202, R242, R338) -/

/-- The entry that a request names: a pattern, or the next in rotation (R220). -/
def requestEntry (s : State) (r : OnDemand) : Option Nat :=
  if r.pattern == 0xFFFF then nextEntry s r.port r.kind
  else (enabledEntries s (tile s r.port).typ r.kind).find? (fun i => (s.gnd.golden.getD i {}).pattern == r.pattern)

/-- The requests that count among the four of R202. -/
def queueCount (s : State) : Nat := (s.scr.queue.filter (fun r => !r.deferred)).length

/-- One collected request: queued, or, with the queue full, RETRY or the due stroke of R242. -/
def decideRequest (r : OnDemand) (s : State) : State :=
  if queueCount s < 4 then
    modScr (fun c => { c with queue := c.queue ++ [r], result := if r.retest then c.result else 1 }) s
  else if r.retest then modSched r.port (fun y => { y with due := now s }) s
  else modScr (fun c => { c with result := 2 }) s

/-- Judge decides the requests collected for the stroke, by rank (R337, R338). -/
def decideRequests (s : State) : State :=
  let due := s.scr.waiting.filter (fun r => decide (r.issued ≤ now s))
  s |> modScr (fun c => { c with waiting := c.waiting.filter (fun r => !(decide (r.issued ≤ now s))) })
    |> forEach (sortBy (fun r => rankOf 4096 2 (now s) (nodeOf r.port)) due) decideRequest

/-- A re-test of a sentinel: ARITH, then LBIST (R242). -/
def queueRetest (p : Nat) (s : State) : State :=
  let one (k : Nat) : List OnDemand :=
    if (enabledEntries s (tile s p).typ k).isEmpty then []
    else [{ port := p, kind := k, retest := true, issued := now s }]
  modScr (fun c => { c with waiting := c.waiting ++ one skArith ++ one skLbist }) s

/-- A re-test of a sentinel is pending (R250). -/
def retestPending (s : State) (p : Nat) : Bool :=
  (s.scr.queue ++ s.scr.waiting).any (fun r => r.retest && r.port == p) ||
  (match s.scr.hold with | some h => h.port == p && (match h.od with | some r => r.retest | none => false) | none => false)

/-! ### Canary readings (R216) -/

/-- A tile is under MARGIN stress. -/
def stressed (s : State) (p : Nat) : Bool := match s.scr.hold with | some h => h.port == p && underStress h | none => false

/-- One reading enters the mean over the last 10,000 readings. -/
def takeSlack (thresh v : Nat) (c : Canary) : Canary :=
  let dropped := c.readings.drop 9999
  let rs := v :: c.readings.take 9999
  let sum := c.sum + v - dropped.sum
  let mean := sum / Nat.max 1 rs.length
  { c with
    now := v, readings := rs, sum := sum, samples := satInc 32 c.samples
    min := if c.samples == 0 then mean else Nat.min c.min mean, hourMin := Nat.min c.hourMin mean
    below := if mean < thresh then c.below + 1 else 0 }

/-- The readings of a stroke's Gather: none while stretched, stopped, or stressed (R216). -/
def canaryTick (slack : List (Nat × Nat)) (s : State) : State :=
  forEach slack (fun e s =>
    let x := sent s e.1
    if x.attached && x.canary.wired && !x.stretch && !x.clkStop && !(stressed s e.1) then
      modSent e.1 (fun x => { x with canary := takeSlack s.scr.cfg.trimThresh (e.2 % 256) x.canary }) s
    else s) s

end Sys2Proof.Machine
end

