-- ==== Sys2Proof/Machine/ContextOps.lean ====
section
/-!
DEFINITION. Contexts and the partitions they are bound to (R257, R258).
-/
namespace Sys2Proof.Machine

open Sys2Proof

def ctx (s : State) (c : Nat) : Ctx := tgetD s.rcv.ctxs c {}
def modCtx (c : Nat) (f : Ctx → Ctx) : State → State := modRcv (fun r => { r with ctxs := tmod r.ctxs c {} f })

/-- RCV_CTXc.STATE. -/
def cxUnbound : Nat := 0
def cxBound : Nat := 1
def cxTearing : Nat := 2
def cxGated : Nat := 3

/-- A sentinel names a context: the first binds it, one of another partition spans it (R257). -/
def nameContext (p c : Nat) (s : State) : State :=
  let k := (tile s p).part
  let x := ctx s c
  let bind (y : Ctx) : Ctx :=
    { y with state := if y.state == cxUnbound then cxBound else y.state, parts := addNew y.parts k, ports := addNew y.ports p }
  if x.parts.isEmpty || x.parts.contains k then modCtx c bind s
  else
    s |> record .contextSpan (nodeOf p) (le 2 c ++ le 1 (x.parts.headD 0) ++ le 1 k)
      |> modCtx c bind

/-- A partition joins or leaves an epoch: contexts are bound to it anew (R257). -/
def unbindPart (k : Nat) (s : State) : State :=
  modRcv (fun r => { r with ctxs := tmap r.ctxs (fun _ x =>
    if x.parts.contains k then
      let ps := without x.parts k
      { x with parts := ps, ports := x.ports.filter (fun p => !((tile s p).part == k))
               state := if ps.isEmpty && x.state == cxBound then cxUnbound else x.state }
    else x) }) s

end Sys2Proof.Machine
end

