-- ==== Sys2Proof/Machine/FenceOps.lean ====
section
/-!
DEFINITION. Teardowns of contexts (R257 to R262), the reset ladder (R263 to R269), and partitions that a cause holds (R273).
-/
namespace Sys2Proof.Machine

open Sys2Proof

/-! ### Held partitions (R265, R273) -/

/-- A cause makes a partition HELD: READY clears at once; a PENDING one is cancelled, one in an epoch leaves first (R273). -/
def holdPart (k : Nat) (s : State) : State :=
  let q := part s k
  if q.state == psMember || q.state == psAborting then modPart k (fun x => { x with heldNext := true }) s
  else if q.state == psPending then
    let s2 := s |> modPart k (fun x => { x with heldNext := true }) |> afterLeave k
    dropEpoch (now s) q.epoch s2
  else setPart k psHeld 0 s

/-! ### LADDER records (R266) -/

/-- OUTCOME of a LADDER record and RESULT of RCV_LADDER and RCV_FENCE. -/
def loDone : Nat := 1
def loEscalated : Nat := 2
def loMerged : Nat := 3
def loExhausted : Nat := 4
def loRequested : Nat := 5
def lrRunning : Nat := 1
def lrDone : Nat := 2
def lrEscalated : Nat := 3
def lrExhausted : Nat := 4
def lrBadArg : Nat := 5
def lrAboveMax : Nat := 6
def lrMerged : Nat := 7

/-- RESULT of a finished request from its outcome. -/
def resultOf (o : Nat) : Nat :=
  if o == loDone then lrDone else if o == loEscalated then lrEscalated else if o == loMerged then lrMerged else lrExhausted

/-- A LADDER record (R266). -/
def ladderRecord (level outcome cause sampled node part0 start stop : Nat) : State → State :=
  let body := le 1 level ++ le 1 outcome ++ le 1 cause ++ le 1 (Nat.min 255 sampled) ++ le 2 node ++ le 1 part0 ++ zeros 1 ++
    le 6 start ++ le 6 stop
  if part0 == 0xFF then record .ladder node body else recPart .ladder node part0 body

/-! ### Fence ports (R252, R259, R261) -/

def opTeardown : Nat := 1
def opTeardownPart : Nat := 2
def opGate : Nat := 3

def modFence (p : Nat) (f : Fence → Fence) : State → State := modSent p (fun x => { x with fence := f x.fence })
def modTeardown (id : Nat) (f : Teardown → Teardown) : State → State :=
  modRcv (fun r => { r with teardowns := r.teardowns.map (fun t => if t.id == id then f t else t) })
def teardown? (s : State) (id : Nat) : Option Teardown := s.rcv.teardowns.find? (fun t => t.id == id)

/-- The operation, context and context epoch that a teardown drives (R258). -/
def fenceOp (t : Teardown) : Nat := if t.whole then opTeardownPart else opTeardown
def fenceCtx (t : Teardown) : Nat := if t.whole then 0 else t.ctx
def fenceEpoch (s : State) (t : Teardown) : Nat := if t.whole then 0 else (ctx s t.ctx).cepoch

/-- A tile under a slice has no context work: its fence completes at once (R208). -/
def sliceHolds (s : State) (p : Nat) : Bool :=
  match s.scr.hold with
  | some h => (h.port == p && h.granted.isSome) || (h.witness == some p && h.witnessGranted)
  | none => false

/-- A teardown takes a port's fence: raised now, or waiting for the running request or reset there (R261). -/
def raiseFence (p : Nat) (t : Teardown) (s : State) : State :=
  if (sent s p).fence.req || (sent s p).inReset then modFence p (fun f => { f with waiting := f.waiting ++ [t.id] }) s
  else
    s |> emit (.fence (some p) (fenceOp t) (fenceCtx t) (fenceEpoch s t))
      |> modFence p (fun f => { f with
          req := true, op := fenceOp t, ctx := fenceCtx t, cepoch := fenceEpoch s t, decided := false, teardown := t.id, since := now s })
      |> event (nodeOf p) evFenceReq 0 (fenceOp t * 4096 + fenceCtx t)

/-- The fabric's fence, in the same way. -/
def raiseFabric (t : Teardown) (s : State) : State :=
  if s.rcv.fabric.req then modRcv (fun r => { r with fabric := { r.fabric with waiting := r.fabric.waiting ++ [t.id] } }) s
  else
    s |> emit (.fence none (fenceOp t) (fenceCtx t) (fenceEpoch s t))
      |> modRcv (fun r => { r with fabric := { r.fabric with
          req := true, op := fenceOp t, ctx := fenceCtx t, cepoch := fenceEpoch s t, decided := false, teardown := t.id, since := now s } })

/-- SP_FN_REQ falls. -/
def lowerFence (p : Nat) (s : State) : State :=
  s |> emit (.fenceFall (some p)) |> modFence p (fun f => { f with req := false, op := 0, decided := false })

/-- MP_FN_REQ falls. -/
def lowerFabric (s : State) : State :=
  s |> emit (.fenceFall none) |> modRcv (fun r => { r with fabric := { r.fabric with req := false, op := 0, decided := false } })

/-- A gate's request rises on a port (R284). -/
def raiseGate (p : Nat) (g : Gate) (s : State) : State :=
  s |> emit (.fence (some p) opGate g.ctx 0)
    |> modFence p (fun f => { f with req := true, op := opGate, ctx := g.ctx, cepoch := 0, decided := false, since := now s })
    |> modRcv (fun r => { r with gates := r.gates.map (fun x => if x.ctx == g.ctx then { x with waits := without x.waits p } else x) })
    |> event (nodeOf p) evFenceReq 0 (opGate * 4096 + g.ctx)

/-- What waits for a free fence port takes it: teardowns in order, then a gate. -/
def nextFence (p : Nat) (s : State) : State :=
  if (sent s p).fence.req || (sent s p).inReset then s
  else match (sent s p).fence.waiting with
    | [] => match s.rcv.gates.find? (fun g => g.waits.contains p) with
      | some g => raiseGate p g s
      | none => s
    | id :: rest =>
      let s1 := modFence p (fun f => { f with waiting := rest }) s
      match teardown? s id with | some t => raiseFence p t s1 | none => s1

/-- The next teardown that waits for the fabric takes it. -/
def nextFabric (s : State) : State :=
  if s.rcv.fabric.req then s
  else match s.rcv.fabric.waiting with
    | [] => s
    | id :: rest =>
      let s1 := modRcv (fun r => { r with fabric := { r.fabric with waiting := rest } }) s
      match teardown? s id with | some t => raiseFabric t s1 | none => s1

/-- A step gate is off: its requests fall (R284). -/
def dropGate (g : Gate) (s : State) : State :=
  let on := g.ports.filter (fun p => (sent s p).fence.req && (sent s p).fence.op == opGate && (sent s p).fence.ctx == g.ctx)
  s |> forEach on lowerFence
    |> modCtx g.ctx (fun x => { x with state := if x.state == cxGated then (if x.parts.isEmpty then cxUnbound else cxBound) else x.state })
    |> modRcv (fun r => { r with gates := r.gates.filter (fun x => !(x.ctx == g.ctx)), gateSteps := g.steps })
    |> forEach on nextFence

/-- A teardown ends a step gate, with its GATE_END record (R261). -/
def endGate (g : Gate) (s : State) : State := s |> dropGate g |> recordBlock .gateEnd (le 2 g.ctx ++ zeros 2 ++ le 4 g.steps)

/-- The gates that a test admits end. -/
def endGates (hit : Gate → Bool) (s : State) : State := forEach (s.rcv.gates.filter hit) endGate s

/-! ### Teardowns (R259 to R262) -/

/-- Contexts bound to a partition. -/
def ctxsOf (s : State) (k : Nat) : List Nat := tfind s.rcv.ctxs (fun _ x => x.parts.contains k)

/-- A sentinel that has a fence port in use: attached and in service. -/
def fencePort (s : State) (p : Nat) : Bool := (sent s p).attached && !(sent s p).failed && !((tile s p).state == tsHidden)

/-- A running teardown covers a request (R261). -/
def coversTd (t : Teardown) (whole : Bool) (c : Nat) (ps : List Nat) : Bool :=
  if t.whole then !ps.isEmpty && ps.all (fun k => t.parts.contains k)
  else !whole && t.ctx == c

/-- A context that no teardown and no reset of a tile of its own still tears down is bound again, or unbound (R258, R285). -/
def settleCtx (c : Nat) (s : State) : State :=
  let busy := s.rcv.teardowns.any (fun x => x.ctxs.contains c) || (ctx s c).ports.any (fun p => (sent s p).inReset)
  whenB (!busy) (modCtx c (fun x => { x with state := if x.parts.isEmpty then cxUnbound else cxBound })) s

/-- A teardown of which every handshake has its outcome is complete (R259, R260). -/
def finishTeardown (id outcome : Nat) (s : State) : State :=
  match teardown? s id with
  | none => s
  | some t =>
    let rest := s.rcv.teardowns.filter (fun x => !(x.id == id))
    s |> fenceCaptures (fun c => t.ctxs.contains (c.tag.ctx % 4096) && (t.parts.contains c.part || !t.whole))
      |> modRcv (fun r => { r with
          teardowns := rest, teardownsDone := satInc 16 r.teardownsDone
          fenceResult := if t.fromFence then resultOf outcome else r.fenceResult })
      |> forEach t.parts (fun k => pcount k 13 1)
      |> forEach t.ctxs settleCtx
      |> ladderRecord 1 outcome t.cause 0 noNode (t.parts.headD 0xFF) t.start (now s)

/-- Finish a teardown once nothing is outstanding. -/
def checkTeardown (id : Nat) (s : State) : State :=
  match teardown? s id with
  | some t => if t.ports.isEmpty && !t.fabric then finishTeardown id (if t.escalated then loEscalated else loDone) s else s
  | none => s

/-- A port's handshake of a teardown has its outcome. -/
def portDecided (p id : Nat) (escalated : Bool) (s : State) : State :=
  s |> modTeardown id (fun t => { t with ports := without t.ports p, escalated := t.escalated || escalated }) |> checkTeardown id

/-- Tear down a context or every context of a partition: merged into a running teardown that covers it, or started; the ALARM
of its source goes to each epoch (R258 to R262). -/
def startTeardown (whole : Bool) (c : Nat) (ps : List Nat) (cause node : Nat) (fromFence : Bool) (s : State) : State :=
  let alarm (s : State) : State :=
    forEach ps (fun k => alarmPart cause k node (if cause == acHang then le 2 c ++ zeros 14 else zeros 16)) s
  if s.rcv.teardowns.any (fun t => coversTd t whole c ps) then
    s |> alarm
      |> modRcv (fun r => { r with fenceResult := if fromFence then lrMerged else r.fenceResult })
      |> ladderRecord 1 loMerged cause 0 noNode (ps.headD 0xFF) (now s) (now s)
  else
    let cs := if whole then asc (ps.flatMap (ctxsOf s)) else [c]
    let on := if whole then asc (ps.flatMap (workPorts s) ++ cs.flatMap (fun x => (ctx s x).ports)) else asc (ctx s c).ports
    let s0 := endGates (fun g => g.ports.any (fun p => on.contains p) || cs.contains g.ctx) s
    let live := on.filter (fun p => fencePort s0 p && !(sliceHolds s0 p))
    let t : Teardown := {
      id := s.rcv.nextId, whole := whole, ctx := c, parts := ps, ctxs := cs, ports := live, fabric := true, start := now s
      cause := cause, fromFence := fromFence }
    let s1 := s0
      |> alarm
      |> forEach cs (fun x => modCtx x (fun y => { y with cepoch := (y.cepoch + 1) % 65536, state := cxTearing }))
      |> modRcv (fun r => { r with
          teardowns := r.teardowns ++ [t], nextId := r.nextId + 1, fenceResult := if fromFence then lrRunning else r.fenceResult })
    s1 |> forEach live (fun p => raiseFence p t) |> raiseFabric t

/-- Every context of one partition. -/
def teardownPart (k cause node : Nat) : State → State := startTeardown true 0 [k] cause node false

/-- Every context on a tile (R246). -/
def teardownTile (p cause : Nat) (s : State) : State :=
  forEach (tfind s.rcv.ctxs (fun _ x => x.ports.contains p)) (fun c s =>
    startTeardown false c (ctx s c).parts cause (nodeOf p) false s) s

/-! ### The ladder (R263 to R269) -/

/-- Tiles in a level's scope. -/
def ladderPorts (s : State) (level port k : Nat) : List Nat :=
  let inUse (t : Tile) : Bool := t.state == tsActive || t.state == tsSpare || t.state == tsLent
  if level == 2 then [port]
  else tfind s.gnd.tiles (fun p t => inUse t && (sent s p).attached && !(sent s p).failed && (decide (4 ≤ level) || t.part == k))

/-- A running level covers a scope (R265). -/
def covers (s : State) (x : Ladder) (level port k : Nat) : Bool :=
  x.level == 5 || (x.level == 4 && decide (level ≤ 4)) || (x.level == 3 && ((level == 3 && x.part == k) || (level == 2 && (tile s port).part == x.part))) ||
  (x.level == 2 && level == 2 && x.port == port)

/-- A scope covers a running lower level. -/
def supersedes (s : State) (level port k : Nat) (x : Ladder) : Bool :=
  decide (x.level < level) && (decide (4 ≤ level) || (level == 3 && x.level == 2 && (tile s x.port).part == k) ||
    (level == 2 && x.port == port))

def modLadder (id : Nat) (f : Ladder → Ladder) : State → State :=
  modRcv (fun r => { r with ladders := r.ladders.map (fun x => if x.id == id then f x else x) })

/-- PART and NODE of a level's record. -/
def ladderPart (x : Ladder) : Nat := if x.level == 3 then x.part else 0xFF
def ladderNode (x : Ladder) : Nat := if x.level == 2 then nodeOf x.port else noNode

/-- Partitions in a level's scope. -/
def ladderParts (s : State) (x : Ladder) : List Nat :=
  if x.level == 2 then [(tile s x.port).part] else if x.level == 3 then [x.part] else validParts s

/-- One tile's sample before its reset (R269): the entry, and the data when the tile is sampled. Its bytes are the tile's own,
which nothing here constrains. -/
def sampleTile (level p : Nat) (s : State) : State :=
  let base := s.rcv.scratchBase
  let reason := if !s.rcv.eff.sampleEn then 4 else if base == 0 then 3 else if (sent s p).clkStop then 2 else 0
  let entry (valid : Bool) (crc : Nat) : List Byte := le 6 (now s) ++ le 1 level ++ le 1 (b2n valid) ++ le 4 crc ++ zeros 4
  let entryAt := base + 2 ^ 27 + 16 * p
  if reason == 0 then
    let data := Config.draw s.fresh 65536
    s |> bumpFresh |> memWrite (base + 65536 * p) false data |> memWrite entryAt false (entry true (crc32c data)) |> issueMem (.sample p)
  else
    s |> whenB (!(base == 0)) (memWrite entryAt false (entry false 0))
      |> record .scratchSkip (nodeOf p) (le 1 level ++ le 1 reason ++ le 2 p)

/-- A tile takes samples now. -/
def samples (s : State) (p : Nat) : Bool := s.rcv.eff.sampleEn && !(s.rcv.scratchBase == 0) && !(sent s p).clkStop

/-- A reset of tiles counts as one teardown of each context on them that is not being torn down (R258). -/
def resetContexts (ps : List Nat) (s : State) : State :=
  modRcv (fun r => { r with ctxs := tmap r.ctxs (fun _ x =>
    if !(x.state == cxTearing) && x.ports.any (fun p => ps.contains p) then
      { x with cepoch := (x.cepoch + 1) % 65536, state := cxTearing } else x) }) s

/-- What a reset does to a tile as it starts (R261, R266): its gate ends, its hold aborts, its strokes are idle. -/
def resetTile (level p : Nat) (s : State) : State :=
  s |> endGates (fun g => g.ports.contains p)
    |> meetHold p scReset
    |> fenceCaptures (fun c => c.port == p)
    |> modSent p (fun x => { x with inReset := true, level := level, lastAction := now s, cmds := [] })
    |> event (nodeOf p) evResetStart 1 level

/-- Raise the request of a waiting L2 once SP_RST_ACK is low. -/
def raiseReset (x : Ladder) (s : State) : State :=
  if (sent s x.port).rstReq || (sent s x.port).rstAckHigh then modLadder x.id (fun y => { y with waiting := true }) s
  else s |> emit (.resetReq x.port) |> modSent x.port (fun y => { y with rstReq := true })
         |> modLadder x.id (fun y => { y with waiting := false })

/-- Raise PM_RST_REQ for a level, or let it wait for the port (R265). -/
def raisePm (x : Ladder) (s : State) : State :=
  if s.rcv.pmReq.isSome || s.rcv.pmAckHigh then modLadder x.id (fun y => { y with waiting := true }) s
  else
    let scope := if x.level == 3 then 1 else 2
    let k := if x.level == 3 then x.part else 0
    s |> emit (.pmReset scope k)
      |> modRcv (fun r => { r with pmReq := some x.id })
      |> modLadder x.id (fun y => { y with waiting := false })

/-- The next level that waits for PM_RST_. -/
def nextPm (s : State) : State :=
  if s.rcv.pmReq.isSome || s.rcv.pmAckHigh then s
  else match s.rcv.ladders.find? (fun x => x.waiting && !x.superseded && (x.level == 3 || x.level == 4)) with
    | some x => raisePm x s
    | none => s

/-- PM_RST_REQ falls when the level that holds it ends. -/
def dropPm (id : Nat) (s : State) : State :=
  if s.rcv.pmReq == some id then s |> emit .pmResetFall |> modRcv (fun r => { r with pmReq := none }) else s

/-- SP_RST_REQ falls. -/
def dropReset (p : Nat) (s : State) : State :=
  if (sent s p).rstReq then s |> emit (.resetFall p) |> modSent p (fun y => { y with rstReq := false }) else s

/-- A level that has begun L5 writes REQUESTED and waits for the commit (R267). -/
def startL5 (cause : Nat) (fromReg : Bool) (s : State) : State :=
  s |> ladderRecord 5 loRequested cause 0 noNode 0xFF (now s) (now s)
    |> sealRec
    |> modRcv (fun r => { r with
        ladders := r.ladders.map (fun x => { x with superseded := true }) ++
          [{ id := r.nextId, level := 5, cause := cause, fromReg := fromReg, start := now s }]
        nextId := r.nextId + 1, cycleAt := some (now s), ladderResult := if fromReg then lrRunning else r.ladderResult })

/-- L2, L3 or L4 starts: its tiles are sampled and reset, ALARMs go out, and it supersedes what it covers (R265, R266, R269). -/
def beginLevel (level port k cause : Nat) (fromReg : Bool) (s : State) : State :=
  let ps := ladderPorts s level port k
  let old := s.rcv.ladders.filter (supersedes s level port k)
  let x : Ladder := {
    id := s.rcv.nextId, level := level, port := if level == 2 then port else noNode, part := if level == 3 then k else 0xFF
    cause := cause, fromReg := fromReg, start := now s, sampled := (ps.filter (samples s)).length }
  let al := if fromReg then acManual else acReset
  let es := (ps.map (fun p => (tile s p).part)).foldl addNew []
  s |> modRcv (fun r => { r with
        ladders := r.ladders.map (fun y => if supersedes s level port k y then { y with superseded := true } else y) ++ [x]
        nextId := r.nextId + 1, resets := satInc 16 r.resets, ladderResult := if fromReg then lrRunning else r.ladderResult })
    |> forEach es (fun k => alarmPart al k (if level == 2 then nodeOf port else noNode) (zeros 16))
    |> resetContexts ps
    |> forEach ps (resetTile level)
    |> forEach ps (sampleTile level)
    |> forEach old (fun y => dropPm y.id)
    |> (if level == 2 then raiseReset x else raisePm x)

/-- Request a level: merged into a running one that covers it, or begun (R265). -/
def startLevel (level port k cause : Nat) (fromReg : Bool) (s : State) : State :=
  if s.rcv.ladders.any (fun x => !x.superseded && covers s x level port k) then
    s |> modRcv (fun r => { r with ladderResult := if fromReg then lrMerged else r.ladderResult })
      |> ladderRecord level loMerged cause 0 (if level == 2 then nodeOf port else noNode) (if level == 3 then k else 0xFF) (now s) (now s)
  else if level == 5 then startL5 cause fromReg s
  else beginLevel level port k cause fromReg s

/-- A level ends with an outcome, and with it the levels it superseded (R265). -/
def closeLevel (outcome : Nat) (x : Ladder) (s : State) : State :=
  s |> modRcv (fun r => { r with
        ladders := r.ladders.filter (fun y => !(y.id == x.id))
        ladderResult := if x.fromReg then resultOf outcome else r.ladderResult })
    |> ladderRecord x.level outcome x.cause x.sampled (ladderNode x) (ladderPart x) x.start (now s)

/-- Levels that a level has superseded. -/
def supersededBy (s : State) (x : Ladder) : List Ladder :=
  s.rcv.ladders.filter (fun y => y.superseded && supersedes s x.level x.port x.part y)

/-- A tile leaves its reset: its fence requests complete ESCALATED, and what waited for its fence port goes on (R261, R266). -/
def releaseTile (level p : Nat) (s : State) : State :=
  let f := (sent s p).fence
  let pend := (if f.req && !(f.op == opGate) then [f.teardown] else []) ++ f.waiting
  s |> modSent p (fun x => { x with inReset := false })
    |> event (nodeOf p) evResetDone 1 level
    |> whenB (f.req && !(f.op == opGate)) (lowerFence p)
    |> modFence p (fun f => { f with waiting := [] })
    |> forEach pend (fun id => portDecided p id true)
    |> forEach ((s.rcv.teardowns.filter (fun t => t.ports.contains p)).map (fun t => t.id)) (fun id => portDecided p id true)
    |> (fun s => forEach (tfind s.rcv.ctxs (fun _ x => x.state == cxTearing && x.ports.contains p)) settleCtx s)
    |> nextFence p

/-- The fabric's requests of a partition complete ESCALATED with its L3 or L4 (R260, R266). -/
def releaseFabric (parts0 : List Nat) (s : State) : State :=
  let hit := (s.rcv.teardowns.filter (fun t => t.fabric && t.parts.any (fun k => parts0.contains k))).map (fun t => t.id)
  let low := s.rcv.fabric.req && hit.contains s.rcv.fabric.teardown
  s |> whenB low lowerFabric
    |> modRcv (fun r => { r with fabric := { r.fabric with waiting := r.fabric.waiting.filter (fun i => !(hit.contains i)) } })
    |> forEach hit (fun id s => s |> modTeardown id (fun t => { t with fabric := false, escalated := true }) |> checkTeardown id)
    |> nextFabric

/-- A level completes (R264 to R266). -/
def finishLevel (id : Nat) (s : State) : State :=
  match s.rcv.ladders.find? (fun x => x.id == id) with
  | none => s
  | some x =>
    let old := supersededBy s x
    let s1 := s |> closeLevel loDone x |> forEach old (closeLevel loEscalated) |> forEach (old.filter (fun y => y.level == 2)) (fun y => dropReset y.port)
    let ps := (ladderPorts s x.level x.port x.part).filter (fun p =>
      (sent s1 p).inReset && !(s1.rcv.ladders.any (fun y => covers s1 y 2 p 0)))
    s1 |> forEach ps (releaseTile x.level)
       |> whenB (decide (3 ≤ x.level)) (releaseFabric (ladderParts s x))
       |> nextPm

/-- The next level would pass LADDER_MAX: records, HELD partitions, and tiles that stay fenced (R265). -/
def exhaust (x : Ladder) (s : State) : State :=
  let ks := ladderParts s x
  let ps := ladderPorts s x.level x.port x.part
  let dead := (s.rcv.teardowns.filter (fun t => t.ports.any (fun p => ps.contains p))).map (fun t => t.id)
  s |> closeLevel loExhausted x
    |> forEach (supersededBy s x) (closeLevel loExhausted)
    |> dropPm x.id
    |> record .ladderExhausted (ladderNode x)
        (le 1 (x.level + 1) ++ le 1 x.cause ++ le 1 (ladderPart x) ++ zeros 1 ++ le 2 (ladderNode x) ++ zeros 2)
    |> reportPfm "LADDER_EXHAUSTED"
    |> forEach dead (fun id => finishTeardown id loExhausted)
    |> forEach ks holdPart
    |> nextPm

/-- A level fails: the next one runs over the scope that failed, or the ladder is exhausted (R265). -/
def failLevel (x : Ladder) (s : State) : State :=
  let k := if x.level == 2 then (tile s x.port).part else x.part
  if s.gnd.policy.ladderMax < x.level + 1 then exhaust x s
  else s |> dropPm x.id |> startLevel (x.level + 1) x.port k x.cause false |> nextPm

/-- A level that a fence calls for (R260): L2 on a tile or L3 on a partition. Beyond LADDER_MAX the ladder is exhausted. -/
def escalate (level port k cause : Nat) (s : State) : State :=
  if s.gnd.policy.ladderMax < level then
    let x : Ladder := { id := s.rcv.nextId, level := level - 1, port := port, part := k, cause := cause, start := now s }
    let node := if level == 2 then nodeOf port else noNode
    let ps := ladderPorts s level port k
    let dead := (s.rcv.teardowns.filter (fun t => t.ports.any (fun p => ps.contains p) || (level == 3 && t.parts.contains k))).map (fun t => t.id)
    s |> record .ladderExhausted node (le 1 level ++ le 1 cause ++ le 1 k ++ zeros 1 ++ le 2 node ++ zeros 2)
      |> reportPfm "LADDER_EXHAUSTED"
      |> forEach dead (fun id => finishTeardown id loExhausted)
      |> forEach (if level == 2 then [(tile s x.port).part] else [k]) holdPart
  else startLevel level port k cause false s

end Sys2Proof.Machine
end

