-- ==== Sys2Proof/Machine/Addr.lean ====
section
/-!
DEFINITION. Addresses of the registers that have a command of their own, and of the windows (R400, R411).
-/
namespace Sys2Proof.Machine

def aSlot (n : Nat) : Nat := 0x10000 + 0x10000 * n
def aStkCfg : Nat := 0x200000
def aStkStart : Nat := 0x200008
def aStkStatus : Nat := 0x200010
def aStkSkew : Nat := 0x200020
def aGndLoad : Nat := 0x300008
def aCpyCfg : Nat := 0x400000
def aCpyStatus : Nat := 0x400008
def aCpyStore : Nat := 0x400028
def aCpyRingBase : Nat := 0x400030
def aCpyRingSize : Nat := 0x400038
def aCpyHostRate : Nat := 0x400040
def aCpyCanary : Nat := 0x400058
def aDgtCfg : Nat := 0x500000
def aDgtStatus : Nat := 0x500008
def aDgtStep : Nat := 0x500010
def aDgtCmd : Nat := 0x500018
def aDgtCmdStatus : Nat := 0x500020
def aWchCfg : Nat := 0x600000
def aWchStatus : Nat := 0x600008
def aWchRoute : Nat := 0x600010
def aWchBcast : Nat := 0x600018
def aWchRxBase : Nat := 0x600020
def aWchRxPtr : Nat := 0x600028
def aLdgCfg : Nat := 0x700000
def aLdgStatus : Nat := 0x700008
def aLdgSigned : Nat := 0x700028
def aLdgTrace (b : Nat) : Nat := 0x700040 + 8 * b
def aLdgTw (i : Nat) : Nat := 0x700100 + 8 * i
def aPwrCfg : Nat := 0x800000
def aPwrStatus : Nat := 0x800008
def aPwrReset : Nat := 0x800020
def aPwrBoot : Nat := 0x800028
def aPwrLcCmd : Nat := 0x800030
def aScrCfg : Nat := 0x900000
def aScrStatus : Nat := 0x900008
def aScrRun : Nat := 0x900010
def aScrDeep : Nat := 0x900028
def aRcvCfg : Nat := 0xA00000
def aRcvLadder : Nat := 0xA00010
def aRcvFence : Nat := 0xA00018
def aRcvJoin : Nat := 0xA00020
def aRcvAlarm : Nat := 0xA00028
def aRcvCkpt : Nat := 0xA00030
def aRcvGate : Nat := 0xA00038
def aRcvScratch : Nat := 0xA00040
def aRcvSpillBase : Nat := 0xA00800
def aRcvSpillSize : Nat := 0xA00808
def aRcvTaint : Nat := 0xA00810
def aRcvTaintCfg : Nat := 0xA00818
def aRcvQuar : Nat := 0xA00828

/-- A register of a node's block (R408). -/
def aNode (n off : Nat) : Nat := 0x1000000 + 0x1000 * n + off

end Sys2Proof.Machine
end

