-- ==== Sys2Proof/Machine/TallyOps.lean ====
section
/-!
DEFINITION. Tally digests and exponent agreement on an epoch's reduction tree (R107 to R111, R175 to R180), and transport digests
(R181).
-/
namespace Sys2Proof.Machine

open Sys2Proof

/-! ### Tally entries (R180) -/

/-- An entry of this key. -/
def tallyIs (e coll step seg : Nat) (x : Tally) : Bool := x.epoch == e && x.coll == coll && x.step == step && x.seg == seg

def tally? (s : State) (e coll step seg : Nat) : Option Tally := s.dgt.tally.find? (tallyIs e coll step seg)

/-- Change an entry. -/
def modTally (e coll step seg : Nat) (f : Tally → Tally) : State → State := modDgt (fun d =>
  { d with tally := d.tally.map (fun x => if tallyIs e coll step seg x then f x else x) })

/-- Entries in use: those not yet judged (log entry 31). -/
def tallyUsed (s : State) : Nat := (s.dgt.tally.filter (fun x => !x.judged)).length

/-- An entry can be had: it exists, or one of 1,024 is free. -/
def tallyRoom (s : State) (e coll step seg : Nat) : Bool := (tally? s e coll step seg).isSome || decide (tallyUsed s < 1024)

/-- Drop the oldest judged entry of a full list. -/
def dropJudged : List Tally → List Tally
  | [] => []
  | x :: l => if x.judged then l else x :: dropJudged l

/-- Make sure of an entry: found, or made in a free place. -/
def needTally (e coll step seg : Nat) (s : State) : State :=
  if (tally? s e coll step seg).isSome then s
  else modDgt (fun d => { d with tally :=
    (if 1024 ≤ d.tally.length then dropJudged d.tally else d.tally) ++
      [{ epoch := e, coll := coll, step := step, seg := seg, firstAt := now s }] }) s

/-! ### Exponents (R107 to R109) -/

/-- The agreed vectors of a collective's step, by first index. -/
def agreedOf (s : State) (e coll step : Nat) : List ExpAgree :=
  s.dgt.exps.filter (fun x => x.epoch == e && x.coll == coll && x.step == step && x.agreed.isSome)

/-- EXP_D: the tally-form digest of the agreed vector under the epoch point (R176). -/
def expDigest (s : State) (e coll step : Nat) : Nat :=
  ((agreedOf s e coll step).map (fun x => digestAt (pointOf s e) x.first (x.agreed.getD []))).sum % dP

/-- TALLY_FALLBACK (R109, R110). -/
def tallyFallback (cause k coll step sat : Nat) : State → State :=
  recPart .tallyFallback noNode k (le 1 cause ++ le 1 k ++ zeros 2 ++ le 4 coll ++ le 4 step ++ le 4 sat)

/-- The key of an exponent agreement. -/
def expIs (e coll step first : Nat) (x : ExpAgree) : Bool := x.epoch == e && x.coll == coll && x.step == step && x.first == first

def modExp (e coll step first : Nat) (f : ExpAgree → ExpAgree) : State → State := modDgt (fun d =>
  { d with exps := d.exps.map (fun x => if expIs e coll step first x then f x else x) })

/-- Element-wise maximum of two vectors. -/
def maxVec : List Int → List Int → List Int
  | [], b => b
  | a, [] => a
  | x :: a, y :: b => max x y :: maxVec a b

/-- Every proposal is in and combined: forward it, or, at the root, send the agreed vector (R107, R108). -/
def forwardExp (x : ExpAgree) (s : State) : State :=
  let m (kind : Nat) : Msg := .exps { epoch := x.epoch, coll := x.coll, step := x.step, first := x.first, kind := kind, exps := x.acc }
  let s1 := modExp x.epoch x.coll x.step x.first (fun y => { y with sent := true }) s
  if rootOf s x.epoch then
    s1 |> modExp x.epoch x.coll x.step x.first (fun y => { y with agreed := some x.acc }) |> sendDown clBulk x.epoch (m 2)
  else sendUp clBulk x.epoch (m 1) s1

/-- A proposal of a child, or of this block's own host when `own` (log entry 32). -/
def takeProposal (own : Bool) (l : Nat) (p : ExpMsg) (s : State) : State :=
  match s.dgt.exps.find? (expIs p.epoch p.coll p.step p.first) with
  | none =>
    if 256 ≤ (s.dgt.exps.filter (fun x => !x.sent)).length then relayBypass clBulk 1 p.epoch (.exps p) s
    else
      let x : ExpAgree := {
        epoch := p.epoch, coll := p.coll, step := p.step, first := p.first, acc := p.exps, own := own
        reported := if own then [] else [l] }
      let s1 := modDgt (fun d => { d with exps := d.exps ++ [x] }) s
      if x.own && allChildren s p.epoch x.reported then forwardExp x s1 else s1
  | some x =>
    if x.sent then (if rootOf s p.epoch then s else relayBypass clBulk 2 p.epoch (.exps p) s)
    else
      let y := { x with acc := maxVec x.acc p.exps, own := x.own || own, reported := if own then x.reported else addNew x.reported l }
      let s1 := modExp x.epoch x.coll x.step x.first (fun _ => y) s
      if y.own && allChildren s p.epoch y.reported then forwardExp y s1 else s1

/-- An agreed vector from the parent: taken and passed down, or refused when it holds −128 (R107, R109). -/
def takeAgreed (p : ExpMsg) (s : State) : State :=
  let bad := p.exps.any (fun x => x == -128)
  let x : ExpAgree := {
    epoch := p.epoch, coll := p.coll, step := p.step, first := p.first, sent := true
    agreed := if bad then none else some p.exps, incomplete := bad }
  s |> modDgt (fun d => { d with exps := d.exps.filter (fun y => !(expIs p.epoch p.coll p.step p.first y)) ++ [x] })
    |> whenB bad (tallyFallback 3 ((partsIn s p.epoch).headD 0) p.coll p.step 0)
    |> sendDown clBulk p.epoch (.exps p)

/-- A contribution without an agreed vector: the host fell back, for one of three causes (R109). -/
def checkAgreement (k e coll step : Nat) (s : State) : State :=
  if !((agreedOf s e coll step).isEmpty) then s
  else
    let bad := s.dgt.exps.any (fun x => x.epoch == e && x.coll == coll && x.step == step && x.incomplete)
    tallyFallback (if (part s k).marks.length ≤ 1 then 1 else if bad then 3 else 2) k coll step 0 s

/-! ### Judging a tally check (R178, R179) -/

/-- A tally verdict at node 0 for stroke `c`. -/
def tallyVerdict (x : Tally) (c code : Nat) (s : State) : State :=
  s |> modTally x.epoch x.coll x.step x.seg (fun y => { y with judged := true })
    |> landCheck (nodeChk x.epoch x.part c ckTally code)

/-- A tally FAIL: record, counter, and the ALARM (R178, R179). -/
def tallyFail (x : Tally) (c cause : Nat) (s : State) : State :=
  s |> recordBlock .tallyFail (le 1 cause ++ zeros 1 ++ le 2 x.seg ++ le 4 x.coll ++ le 4 x.step)
    |> modDgt (fun d => { d with tallyFail := satInc 12 d.tallyFail })
    |> modPart x.part (fun q => { q with tallyFails := addNew q.tallyFails x.step })
    |> tallyVerdict x c vFail
    |> originate acTallyFail x.epoch 0 x.part (zeros 16)

/-- The pod-wide saturation count of a collective, from the totals that have come (R110; log entry 31). -/
def collSat (s : State) (e coll step : Nat) : Nat :=
  maxOf ((s.dgt.tally.filter (fun x => x.epoch == e && x.coll == coll && x.step == step)).map (fun x =>
    match x.total with | some (_, _, sat, _) => sat | none => 0))

/-- Judge an entry that has both its sum and its total, by the first row of R178 that matches. -/
def judgeTally (e coll step seg : Nat) (s : State) : State :=
  match tally? s e coll step seg with
  | none => s
  | some x => match x.sum, x.total with
    | some (dg, c), some (td, cnt, sat, xd) =>
      if x.judged then s
      else if x.bad then tallyVerdict x c vUncovered s
      else if !(cnt == x.nContrib) then
        s |> recordBlock .tallyIncomplete (le 1 1 ++ zeros 1 ++ le 2 seg ++ le 4 coll ++ le 4 step ++ le 4 cnt ++ le 4 x.nContrib)
          |> tallyVerdict x c vUncovered
      else if !(Nat.max sat (collSat s e coll step) == 0) then
        s |> tallyFallback 4 x.part coll step (Nat.max sat (collSat s e coll step))
          |> modDgt (fun d => { d with tallyVoid := satInc 12 d.tallyVoid })
          |> modTally e coll step seg (fun y => { y with judged := true })
      else if !(xd == expDigest s e coll step) then tallyFail x c 1 s
      else if !(dg == td) then tallyFail x c 2 s
      else tallyVerdict x c vPass s
    | _, _ => s

/-! ### The tree (R176, R309) -/

/-- A message of one segment of an entry (log entry 31). -/
def tallyMsg (x : Tally) (kind dg cnt sat xd : Nat) : Msg :=
  .tally { epoch := x.epoch, kind := kind, coll := x.coll, step := x.step, first := x.seg, digests := [dg], count := cnt, sat := sat, expD := xd }

/-- The root has a total: it goes down the tree and counts here (R176). -/
def sendTotal (e coll step seg : Nat) (s : State) : State :=
  match tally? s e coll step seg with
  | none => s
  | some x =>
    let xd := expDigest s e coll step
    s |> modTally e coll step seg (fun y => { y with total := some (y.digest, y.count, y.sat, xd) })
      |> sendDown clDigest e (tallyMsg x 2 x.digest x.count x.sat xd)
      |> judgeTally e coll step seg

/-- Forward an entry: up the tree, or, at the root, as the total. -/
def forwardTally (e coll step seg : Nat) (s : State) : State :=
  match tally? s e coll step seg with
  | none => s
  | some x =>
    let s1 := modTally e coll step seg (fun y => { y with sent := true }) s
    if rootOf s e then sendTotal e coll step seg s1
    else sendUp clDigest e (tallyMsg x 1 x.digest x.count x.sat 0) s1

/-- One more contribution to an entry. -/
def addContrib (dg cnt sat : Nat) (x : Tally) : Tally :=
  { x with digest := (x.digest + dg) % dP, count := x.count + cnt, sat := satAdd (2 ^ 32 - 1) x.sat sat }

/-- A contribution reaches the root after the total: a further total goes out once COUNT is NCONTRIB (R309). -/
def lateContrib (e coll step seg dg cnt sat : Nat) (s : State) : State :=
  let s1 := modTally e coll step seg (addContrib dg cnt sat) s
  match tally? s1 e coll step seg with
  | some x => if x.count == x.nContrib then sendTotal e coll step seg s1 else s1
  | none => s1

/-- One segment of a TALLY_UP from a child (R176, R180, R309). -/
def takeUpSeg (l : Nat) (bypass : Bool) (t : TallyMsg) (i dg : Nat) (s : State) : State :=
  let seg := t.first + i
  let sat := if i == 0 then t.sat else 0
  let m : Msg := .tally { t with first := seg, digests := [dg], sat := sat }
  if !(tallyRoom s t.epoch t.coll t.step seg) then relayBypass clDigest 1 t.epoch m s
  else
    let s1 := needTally t.epoch t.coll t.step seg s
    match tally? s1 t.epoch t.coll t.step seg with
    | none => s1
    | some x =>
      if x.sent then
        if rootOf s t.epoch then lateContrib t.epoch t.coll t.step seg dg t.count sat s1
        else relayBypass clDigest 2 t.epoch m s1
      else
        let first := if x.reported.isEmpty then now s else x.firstAt
        let y := { addContrib dg t.count sat x with firstAt := first, reported := if bypass then x.reported else addNew x.reported l }
        let s2 := modTally t.epoch t.coll t.step seg (fun _ => y) s1
        if allChildren s t.epoch y.reported then forwardTally t.epoch t.coll t.step seg s2 else s2

/-- A TALLY_UP (R176); with CORE in reset it goes in bypass (R309). -/
def takeTallyUp (l : Nat) (bypass : Bool) (t : TallyMsg) (s : State) : State :=
  if coreReset s then relayBypass clDigest 3 t.epoch (.tally t) s
  else forEach (t.digests.mapIdx (fun i d => (i, d))) (fun p => takeUpSeg l bypass t p.1 p.2) s

/-- The total of one segment arrives. -/
def takeTotalSeg (t : TallyMsg) (p : Nat × Nat) (s : State) : State :=
  let seg := t.first + p.1
  if tallyRoom s t.epoch t.coll t.step seg then
    s |> needTally t.epoch t.coll t.step seg
      |> modTally t.epoch t.coll t.step seg (fun x => { x with
          sent := true, total := if x.judged then x.total else some (p.2, t.count, if p.1 == 0 then t.sat else 0, t.expD) })
      |> judgeTally t.epoch t.coll t.step seg
  else s

/-- A TALLY_TOTAL: passed down, and each received segment judged (R176, R178). -/
def takeTallyTotal (t : TallyMsg) (s : State) : State :=
  s |> sendDown clDigest t.epoch (.tally t) |> forEach (t.digests.mapIdx (fun i d => (i, d))) (takeTotalSeg t)

/-- Publish sends what has closed here: at a leaf, and contributions that closed after the entry went (R176). -/
def publishTally (s : State) : State :=
  forEach s.dgt.tally (fun x s =>
    match x.ownLate with
    | some (dg, sat) =>
      let s1 := modTally x.epoch x.coll x.step x.seg (fun y => { y with ownLate := none }) s
      if rootOf s x.epoch then lateContrib x.epoch x.coll x.step x.seg dg 1 sat s1
      else relayBypass clDigest 2 x.epoch (tallyMsg x 1 dg 1 sat 0) s1
    | none =>
      if x.own && !x.sent && allChildren s x.epoch x.reported then forwardTally x.epoch x.coll x.step x.seg s else s) s

/-- The chip's saturation count, which no port carries: a free value, with its collective's first segment (R110, R175; log entry
29). -/
def ownSat (seg : Nat) (s : State) : Nat := if seg == 0 then drawValue s % 2 ^ 32 else 0

/-- A contribution stream has closed whole (R175). -/
def closeContrib (k e coll step seg nContrib dg : Nat) (s : State) : State :=
  match tally? s e coll step seg with
  | none => s
  | some x =>
    let sat := ownSat seg s
    let s1 := bumpFresh s
    if x.sent then modTally e coll step seg (fun y => { y with own := true, part := k, nContrib := nContrib, ownLate := some (dg, sat) }) s1
    else modTally e coll step seg (fun y => { addContrib dg 1 sat y with own := true, part := k, nContrib := nContrib }) s1

/-- A sum stream has closed (R178); without an entry its check is UNCOVERED (R180). -/
def closeSum (k e coll step seg nContrib dg : Nat) (bad : Bool) (s : State) : State :=
  if (tally? s e coll step seg).isSome then
    s |> modTally e coll step seg (fun y => { y with
          part := k, nContrib := nContrib, bad := bad, sum := if y.judged then y.sum else some (dg, now s) })
      |> judgeTally e coll step seg
  else landCheck (nodeChk e k (now s) ckTally vUncovered) s

/-- Entries that nothing waits for are free after 4,096 strokes. -/
def tallyTick : State → State := fun s => modDgt (fun d => { d with
  tally := d.tally.map (fun x => if x.sum.isNone && decide (x.firstAt + 4096 ≤ now s) then { x with judged := true } else x) }) s

/-! ### Transport digests (R181) -/

/-- The key of a transport check. -/
def xportIs (rx : Bool) (coll step hostLink seq : Nat) (x : Xport) : Bool :=
  x.rx == rx && x.coll == coll && x.step == step && x.hostLink == hostLink && x.seq == seq

/-- The transport entries without one. -/
def dropXport (rx : Bool) (coll step hostLink seq : Nat) : State → State := modDgt (fun d =>
  { d with xports := d.xports.filter (fun x => !(xportIs rx coll step hostLink seq x)) })

/-- Judge a receiver's check that has its stream and its message. -/
def judgeXport (coll step hostLink seq : Nat) (s : State) : State :=
  match s.dgt.xports.find? (xportIs true coll step hostLink seq) with
  | none => s
  | some x => match x.closed, x.msg with
    | some c, some m =>
      let chk (code : Nat) : Chk := nodeChk x.epoch x.part c ckTransport code
      let s1 := dropXport true coll step hostLink seq s
      if x.bad then landCheck (chk vUncovered) s1
      else if m.digest == x.digest && m.elems == x.elems then landCheck (chk vPass) s1
      else
        s1 |> recordBlock .xportFail (le 2 hostLink ++ zeros 2 ++ le 4 m.sender ++ le 4 s.wch.chip ++ le 4 coll ++ le 4 step ++ le 4 seq)
           |> modDgt (fun d => { d with xportFail := satInc 12 d.xportFail })
           |> landCheck (chk vFail)
    | _, _ => s

/-- A transport stream has closed. -/
def closeXport (rx : Bool) (k e : Nat) (h : FtHeader) (dg n : Nat) (bad : Bool) (s : State) : State :=
  let old := s.dgt.xports.find? (xportIs rx h.ident h.step h.seg h.seq)
  let x : Xport := {
    epoch := e, part := k, coll := h.ident, step := h.step, hostLink := h.seg, seq := h.seq, rx := rx, closed := some (now s)
    digest := dg, elems := n, bad := bad, msg := old.bind (fun y => y.msg), peer := h.aux % 2 ^ 17 }
  s |> dropXport rx h.ident h.step h.seg h.seq
    |> modDgt (fun d => { d with xports := d.xports ++ [x] })
    |> whenB rx (judgeXport h.ident h.step h.seg h.seq)

/-- An XPORT message: discarded when XPORT_EN is 0, else judged or kept for its stream (R181). -/
def takeXport (m : XportMsg) (s : State) : State :=
  if !s.dgt.xportEn then s
  else if s.dgt.xports.any (xportIs true m.coll m.step m.hostLink m.seq) then
    s |> modDgt (fun d => { d with xports := d.xports.map (fun x =>
          if xportIs true m.coll m.step m.hostLink m.seq x then { x with msg := some m } else x) })
      |> judgeXport m.coll m.step m.hostLink m.seq
  else modDgt (fun d => { d with xports := d.xports ++
    [{ epoch := m.epoch, coll := m.coll, step := m.step, hostLink := m.hostLink, seq := m.seq, rx := true, msg := some m }] }) s

/-- Publish sends the sender's halves (R181). -/
def publishXport (s : State) : State :=
  forEach (s.dgt.xports.filter (fun x => !x.rx)) (fun x s =>
    s |> whenB (!x.bad) (sendRouted clDigest x.peer x.epoch (.xport {
          epoch := x.epoch, coll := x.coll, step := x.step, hostLink := x.hostLink, seq := x.seq, sender := s.wch.chip
          digest := x.digest, elems := x.elems }))
      |> dropXport false x.coll x.step x.hostLink x.seq) s

end Sys2Proof.Machine
end

