-- ==== Sys2Proof/Machine/ReplOps.lean ====
section
/-!
DEFINITION. Weight-replica digests and their votes (R182 to R186).
-/
namespace Sys2Proof.Machine

open Sys2Proof

/-- The replica digest interval in force for an entry: its own, or that of the mode (R141, R185). -/
def modeInterval (mode : Nat) : Nat := if mode == 0 then 16 else if mode == 1 then 4 else 1
def voteEvery (s : State) (r : Repl) : Nat := if r.interval == 0 then modeInterval (namedMode (modeEntry s r.part)) else r.interval

/-- Entries of a shard that a partition holds. -/
def isShard (k sh : Nat) (r : Repl) : Bool := r.part == k && r.shard == sh

/-- The entry of a group's shard, whatever the partition. -/
def isGroup (g sh : Nat) (r : Repl) : Bool := r.group == g && r.shard == sh

def modRepl (p : Repl → Bool) (f : Repl → Repl) : State → State := modDgt (fun d =>
  { d with repl := d.repl.map (fun r => if p r then f r else r) })

/-- The epoch and the verdict of a member's replica check (R186). -/
def replVerdict (r : Repl) (n code : Nat) (s : State) : State :=
  landCheck (nodeChk (epochOf s r.part) r.part n ckReplica code) s

/-! ### Streams of a shard (R183, R184) -/

/-- A SHARD_WRITE stream of the current step has closed: a SWEEP shard collects it; a whole one replaces a ROLLING digest, a
partial one makes it invalid. -/
def shardWrite (base len dg : Nat) (bad : Bool) (t : Nat) (r : Repl) : Repl :=
  if r.kind == 1 then
    let c := { r with digest := (r.digest + dg) % dP, covered := r.covered + len, bad := r.bad || bad }
    if c.covered == c.length && !c.bad && !c.done then
      { c with done := true, ready := if t % Nat.max 1 c.every == 0 && !c.expelled then c.ready ++ [(t, c.digest)] else c.ready
               waits := if t % Nat.max 1 c.every == 0 && !c.expelled then c.waits ++ [(t, c.digest, none, none)] else c.waits }
    else c
  else if base == 0 && len == r.length && !bad then { r with digest := dg, valid := true }
  else { r with valid := false }

/-- A SHARD_ROLL stream has closed: the difference of its rows enters the digest. -/
def shardRoll (dg : Nat) (bad : Bool) (r : Repl) : Repl :=
  if r.kind == 2 then { r with digest := (r.digest + dg) % dP, valid := r.valid && !bad } else r

/-- A shard's stream has closed; streams of another step leave its digest alone. -/
def closeShard (roll : Bool) (k sh step base len dg : Nat) (bad : Bool) (s : State) : State :=
  match curMark (part s k) with
  | none => s
  | some (t, _) =>
    if !(low32 t == step) then s
    else modRepl (isShard k sh) (if roll then shardRoll dg bad else shardWrite base len dg bad t) s

/-! ### Step marks (R183, R184) -/

/-- What the mark that ends step `t` in stroke `n` makes of an entry. -/
def endStep (t n : Nat) (r : Repl) : Repl :=
  let turn := t % Nat.max 1 r.every == 0 && !r.expelled
  let r1 := if r.kind == 2 && r.valid && turn then
      { r with ready := r.ready ++ [(t, r.digest)], waits := r.waits ++ [(t, r.digest, none, none)] } else r
  { r1 with waits := r1.waits.map (fun w => if w.1 == t then (w.1, w.2.1, some n, w.2.2.2) else w) }

/-- The entry has no digest of step `t` although a vote is due: its member is absent, or the shard is invalid (R184, R186). -/
def voteMissed (t : Nat) (r : Repl) : Bool :=
  t % Nat.max 1 r.every == 0 && !r.expelled && (if r.kind == 1 then !r.done else !r.valid)

/-- A vote result that came before the mark lands with it. -/
def landWaits (r : Repl) (s : State) : State :=
  forEach r.waits (fun w s => match w.2.2.1, w.2.2.2 with
    | some n, some code => replVerdict r n code s
    | _, _ => s) s

/-- Votes with both a mark and a result are over. -/
def dropWaits (r : Repl) : Repl := { r with waits := r.waits.filter (fun w => !(w.2.2.1.isSome && w.2.2.2.isSome)) }

/-- A SWEEP digest starts at zero; the interval in force is that of the mark. -/
def newStep (every : Nat) (r : Repl) : Repl :=
  if r.kind == 1 then { r with digest := 0, covered := 0, bad := false, done := false, every := every } else { r with every := every }

/-- The running step of partition `k`'s replicated shards ends: what has no vote is UNCOVERED, and what waited is landed (R183). -/
def replEnd (k : Nat) (s : State) : State :=
  match curMark (part s k) with
  | none => s
  | some (t, _) =>
    let s0 := modRepl (fun (r : Repl) => r.part == k) (endStep t (now s)) s
    let mine := s0.dgt.repl.filter (fun (r : Repl) => r.part == k)
    s0 |> forEach mine (fun r s => s |> whenB (voteMissed t r) (replVerdict r (now s) vUncovered) |> landWaits r)
       |> modRepl (fun (r : Repl) => r.part == k) dropWaits

/-- A staged table takes the place of partition `k`'s shards (R183). -/
def replSwap (k : Nat) (s : State) : State :=
  whenSome (s.dgt.staged.find? (fun (x : Nat × List Repl) => x.1 == k)) (fun x => modDgt (fun d => { d with
    repl := d.repl.filter (fun (r : Repl) => !(r.part == k)) ++ x.2, staged := d.staged.filter (fun x => !(x.1 == k)) })) s

/-- The replica entries of a partition cross a step mark. -/
def replMark (k : Nat) (s : State) : State :=
  s |> replEnd k |> replSwap k
    |> (fun s => modDgt (fun d => { d with repl := d.repl.map (fun r => if r.part == k then newStep (voteEvery s r) r else r) }) s)

/-- STEP_MARK on partition `k` (R183). -/
def stepMark (k t : Nat) (s : State) : State :=
  let q := part s k
  let gap := match q.marks.head? with | some (u, _) => !q.firstMark && !(t == u + 1) | none => false
  s |> whenB gap (recPart .stepGap noNode k (le 1 k ++ zeros 3 ++ le 6 ((q.marks.headD (0, 0)).1 + 1) ++ le 6 t))
    |> replMark k
    |> modPart k (fun q => { q with marks := (t, now s) :: q.marks, firstMark := false })
    |> ckptStep k t

/-! ### The replica table (R182) -/

/-- Entry `i` of a table in memory. -/
def replEntry (k : Nat) (bs : List Byte) (i : Nat) : Repl :=
  let o := 32 * i
  { part := k, group := rd bs o 4, shard := rd bs (o + 4) 4, n := rd bs (o + 8) 2, index := rd bs (o + 10) 2
    root := rd bs (o + 12) 4, length := rd bs (o + 16) 8, kind := rd bs (o + 24) 1, interval := rd bs (o + 25) 1 }

/-- The entry keeps the ranges of the table. -/
def replEntryOk (bs : List Byte) (i : Nat) (r : Repl) : Bool :=
  decide (2 ≤ r.n) && decide (r.n ≤ 4096) && decide (r.index < r.n) && decide (r.root < 2 ^ 17) &&
    (r.kind == 1 || r.kind == 2) && decide (r.interval ≤ 16) && zeroAt bs (32 * i + 26) 6

/-- Entries before the one whose N is zero, at most 4,096. -/
def replCount (bs : List Byte) : Nat := (List.range 4096).findIdx (fun i => rd bs (32 * i + 8) 2 == 0)

/-- The table, or the index of the first entry that breaks a rule. -/
def replTable (k others : Nat) (bs : List Byte) : Nat ⊕ List Repl :=
  let l := (List.range (replCount bs)).map (replEntry k bs)
  let bad := (l.mapIdx (fun i r => replEntryOk bs i r && decide (others + i < 4096))).findIdx (fun b => !b)
  if bad < l.length then .inl bad else .inr l

/-! ### Votes (R185, R186) -/

/-- The vote of a group's shard and step. -/
def voteIs (e g sh t : Nat) (v : Vote) : Bool := v.epoch == e && v.group == g && v.shard == sh && v.step == t

/-- A result reaches a member: its verdict lands with the mark that ended the step (R186). -/
def resultCode (outcome maj own : Nat) : Nat :=
  if outcome == 0 then vPass
  else if outcome == 1 then (if own == maj then vPass else vFail)
  else if outcome == 2 then vFail
  else vUncovered

/-- What a result makes of a member's entry. -/
def takeResultEntry (v : ShardMsg) (r : Repl) : Repl :=
  let w := r.waits.find? (fun w => low32 w.1 == v.step)
  match w with
  | none => r
  | some (t, own, _, _) =>
    { r with
      waits := r.waits.map (fun x => if x.1 == t then (x.1, x.2.1, x.2.2.1, some (resultCode v.outcome v.digest own)) else x)
      splits := if v.outcome == 2 then addNew r.splits t else r.splits
      expelled := r.expelled || (v.outcome == 1 && !(own == v.digest)) }

/-- VOTE_RESULT at a member (R186). -/
def takeResult (v : ShardMsg) (s : State) : State :=
  let mine := s.dgt.repl.filter (fun r => isGroup v.group v.shard r && r.waits.any (fun w => low32 w.1 == v.step))
  if mine.isEmpty then s
  else
    let before := (s.dgt.repl.filter (fun r => r.expelled)).length
    let s1 := modRepl (isGroup v.group v.shard) (takeResultEntry v) s
    let after := (s1.dgt.repl.filter (fun r => r.expelled)).length
    s1 |> forEach (s1.dgt.repl.filter (isGroup v.group v.shard)) landWaits
       |> modRepl (isGroup v.group v.shard) dropWaits
       |> modDgt (fun d => { d with replExpel := satAdd 4095 d.replExpel (after - before)
                                    replSplit := if v.outcome == 2 then satInc 12 d.replSplit else d.replSplit })

/-- How many reports hold a digest. -/
def holders2 (rs : List (Nat × Nat × Nat)) (dg : Nat) : Nat := (rs.filter (fun r => r.2.2 == dg)).length

/-- The outcome of a vote among `n` members, its majority digest and how many hold it (R186). -/
def voteOutcome (n : Nat) (rs : List (Nat × Nat × Nat)) : Nat × Nat × Nat :=
  let maj := rs.find? (fun r => decide (n < 2 * holders2 rs r.2.2))
  let one := rs.all (fun r => r.2.2 == (rs.headD (0, 0, 0)).2.2)
  match maj with
  | some (_, _, m) => if one && rs.length == n then (0, m, n) else (1, m, holders2 rs m)
  | none => if one then (3, 0, 0) else (2, 0, 0)

/-- The root decides a vote and sends the result to every member that reported (R186). -/
def closeVote (v : Vote) (r : Repl) (s : State) : State :=
  let n := r.n - r.gone.length
  let o := voteOutcome n v.reports
  let out := if o.1 == 1 then (v.reports.filter (fun x => !(x.2.2 == o.2.1))).map Prod.fst else []
  let m : ShardMsg := {
    epoch := v.epoch, kind := 6, group := v.group, step := v.step, member := 0xFFFF, outcome := o.1, shard := v.shard
    reporting := v.reports.length, digest := o.2.1, holding := o.2.2, src := s.wch.chip }
  s |> modDgt (fun d => { d with votes := d.votes.map (fun x =>
        if voteIs v.epoch v.group v.shard v.step x then { x with closed := true, outcome := o.1 } else x) })
    |> forEach out (fun i => recordBlock .replicaExpel (le 4 v.group ++ le 4 v.shard ++ le 4 v.step ++ le 2 i ++ zeros 2))
    |> modRepl (isGroup v.group v.shard) (fun x => { x with gone := x.gone ++ out })
    |> whenB (o.1 == 2) (recordBlock .replicaSplit (le 4 v.group ++ le 4 v.shard ++ le 4 v.step ++ le 4 v.reports.length))
    |> forEach (v.reports.filter (fun x => !(x.2.1 == s.wch.chip))) (fun x => sendRouted clDigest x.2.1 v.epoch (.shard m))
    |> takeResult m
    |> whenB (o.1 == 2) (originate acReplicaSplit v.epoch 0 v.part (zeros 16))

/-- A member's digest reaches the root (R185); late and expelled reports count for nothing. -/
def takeShard (v : ShardMsg) (s : State) : State :=
  match s.dgt.repl.find? (isGroup v.group v.shard) with
  | none => s
  | some r =>
    if r.gone.contains v.member || decide (r.n ≤ v.member) then s
    else
      let base : Vote := {
        epoch := v.epoch, part := r.part, group := v.group, shard := v.shard, step := v.step, firstAt := now s }
      let old := (s.dgt.votes.find? (voteIs v.epoch v.group v.shard v.step)).getD base
      if old.closed || old.reports.any (fun x => x.1 == v.member) then s
      else
        let w := { old with reports := old.reports ++ [(v.member, v.src, v.digest)] }
        let s1 := modDgt (fun d => { d with votes := d.votes.filter (fun x => !(voteIs v.epoch v.group v.shard v.step x)) ++ [w] }) s
        if r.n - r.gone.length ≤ w.reports.length then closeVote w r s1 else s1

/-- Publish sends the digests that are complete (R185). -/
def publishShards (s : State) : State :=
  let jobs := s.dgt.repl.flatMap (fun r => r.ready.map (fun x => (r, x)))
  let s1 := modRepl (fun _ => true) (fun r => { r with ready := [] }) s
  forEach jobs (fun j s =>
    let m : ShardMsg := {
      epoch := epochOf s j.1.part, kind := 4, group := j.1.group, step := low32 j.2.1, member := j.1.index, outcome := 0
      shard := j.1.shard, reporting := 0, digest := j.2.2, holding := 0, src := s.wch.chip }
    if j.1.root == s.wch.chip then takeShard m s else sendRouted clDigest j.1.root m.epoch (.shard m) s) s1

/-- DGT_CFG.REPL_WAIT and TALLY_WAIT as they act (R194). -/
def replWait (s : State) : Nat := Nat.max 16 s.dgt.replWait
def tallyWait (s : State) : Nat := Nat.max 8 s.dgt.tallyWait

end Sys2Proof.Machine
end

