-- ==== Sys2Proof/Machine/VarnishOps.lean ====
section
/-!
DEFINITION. DGT_CMD: the engines, varnish seals and restores (R187 to R192, R195, R338).
-/
namespace Sys2Proof.Machine

open Sys2Proof

/-! ### Status codes of DGT_CMD_STATUS (R195) -/

def dsBusy : Nat := 1
def dsDone : Nat := 2
def dsRetry : Nat := 3
def dsBadAddr : Nat := 4
def dsBadOp : Nat := 5
def dsNotCommitted : Nat := 6
def dsTainted : Nat := 7
def dsShardMissing : Nat := 8
def dsLength : Nat := 9
def dsBadBlock : Nat := 10
def dsWriteFail : Nat := 11
def dsNoCommit : Nat := 12
def dsWrongStep : Nat := 13
def dsMixed : Nat := 14
def dsCorrupt : Nat := 15

def dcmd (s : State) (n : Nat) : DgtCmd := tgetD s.dgt.cmds n {}
def modDcmd (n : Nat) (f : DgtCmd → DgtCmd) : State → State := modDgt (fun d => { d with cmds := tmod d.cmds n {} f })

/-- A command ends: its status, and the CMD interrupt of its slot (R195, R339; log entry 33). -/
def dgtFinish (n status detail : Nat) (s : State) : State :=
  s |> modDcmd n (fun c => { c with status := status, detail := detail, waiting := false, running := false })
    |> irqSet n irqCmd

/-! ### Checkpoint shards (R187) -/

def shardIs (k t sh : Nat) (read : Bool) (x : CkptShard) : Bool := x.part == k && x.step == t && x.shard == sh && x.read == read

/-- What a stream adds to its shard. -/
def addShard (k t sh len dg : Nat) (read bad mixed : Bool) : State → State := modDgt (fun d =>
  let x := (d.shards.find? (shardIs k t sh read)).getD { part := k, step := t, shard := sh, read := read }
  { d with shards := d.shards.filter (fun y => !(shardIs k t sh read y)) ++
      [{ x with covered := x.covered + len, digest := (x.digest + dg) % dP, bad := x.bad || bad, mixed := x.mixed || mixed }] })

/-! ### VARNISH (R189 to R191) -/

/-- The varnish command block: step, manifest length, record address. -/
def varnishBlock (bs : List Byte) : Option (Nat × Nat × Nat) :=
  if decide (64 ≤ bs.length) && zeroAt bs 6 2 && zeroAt bs 20 4 && zeroAt bs 32 32 then
    some (rd bs 0 6, rd bs 16 4, rd bs 24 8)
  else none

/-- The entries of a manifest: shard and length. -/
def manifestEntries (bs : List Byte) (len : Nat) : Option (List (Nat × Nat)) :=
  let n := rd bs 8 4
  if decide (len ≤ bs.length) && slice bs 0 4 == bytes [0x44, 0x57, 0x4D, 0x46] && rd bs 4 1 == 4 && zeroAt bs 5 3 && zeroAt bs 12 4 &&
      decide (16 + 16 * n ≤ len) && (List.range n).all (fun i => zeroAt bs (20 + 16 * i) 4) then
    some ((List.range n).map (fun i => (rd bs (16 + 16 * i) 4, rd bs (24 + 16 * i) 8)))
  else none

/-- The first entry without a complete, unmarked digest of its length: its index and status; or the digests. -/
def checkShards (s : State) (k t : Nat) (es : List (Nat × Nat)) : (Nat × Nat) ⊕ List (Nat × Nat × Nat) :=
  let look (e : Nat × Nat) : Option CkptShard := s.dgt.shards.find? (shardIs k t e.1 false)
  let status (e : Nat × Nat) : Nat :=
    match look e with
    | some x => if x.bad then dsShardMissing else if x.covered == e.2 + 1 then 0 else dsLength
    | none => dsShardMissing
  match (es.map status).findIdx? (fun c => !(c == 0)) with
  | some i => .inl (lget (es.map status) i 0, i)
  | none => .inr (es.map (fun e => (e.1, e.2, match look e with | some x => x.digest | none => 0)))

/-- Steps 1 and 2 of R189: the manifest is parsed and its shards are checked. -/
def startVarnish (n : Nat) (s : State) : State :=
  let c := dcmd s n
  match varnishBlock (c.blk.getD []) with
  | none => dgtFinish n dsBadBlock 0 s
  | some (t, len, rec) => match manifestEntries (c.aux.getD []) len with
    | none => dgtFinish n dsBadBlock 0 s
    | some es => match checkShards s c.part t es with
      | .inl (st, i) => dgtFinish n st i s
      | .inr ds =>
        let e := (part s c.part).epoch
        let seed := match epoch? s e with | some x => x.seed | none => []
        modDcmd n (fun y => { y with
          waiting := false, running := true, started := now s, step := t, recAddr := rec, entries := ds
          manifestH := (Config.sha384 ((c.aux.getD []).take len)).take 16, point := varnishPoint seed e t c.part }) s

/-- The varnish record up to its CRC (R190). -/
def varnishBytes (s : State) (c : DgtCmd) : List Byte :=
  let body := bytes [0x44, 0x57, 0x56, 0x52, 4] ++ le 1 c.part ++ zeros 2 ++ le 8 c.step ++ le 4 (part s c.part).epoch ++
    le 4 s.wch.chip ++ le 6 (now s) ++ zeros 10 ++ le 16 c.point ++ fit 16 c.manifestH ++ fit 16 s.gnd.configDigest ++
    c.entries.flatMap (fun e => le 4 e.1 ++ zeros 4 ++ le 8 e.2.1 ++ le 16 e.2.2)
  body ++ le 4 (crc32c body)

/-- Steps 4 and 5 of R189: the record goes out with COMMIT last, then the ledger record. -/
def sealVarnish (n : Nat) (writeOk : Bool) (s : State) : State :=
  let c := dcmd s n
  let bs := varnishBytes s c
  let s1 := s |> memWrite c.recAddr false bs |> emit (.memWriteLast (c.recAddr + bs.length) (le 4 0x56524E53))
  if !writeOk then dgtFinish n dsWriteFail 0 s1
  else
    s1 |> recPart .varnish noNode c.part (le 6 c.step ++ le 1 c.part ++ zeros 1 ++ le 4 c.entries.length ++ fit 16 c.manifestH)
       |> modPart c.part (fun q => { q with
            lastVarnish := some (c.step, now s), sealed := addNew q.sealed c.step, ckptSince := none, ckptDone := false, ckptOverdue := false })
       |> modRcv (fun r => { r with ckpt := clearBit r.ckpt c.part })
       |> dgtFinish n dsDone 0

/-! ### RESTORE (R192) -/

/-- The restore command block: step and record address. -/
def restoreBlock (bs : List Byte) : Option (Nat × Nat) :=
  if decide (64 ≤ bs.length) && zeroAt bs 6 2 && zeroAt bs 16 48 then some (rd bs 0 6, rd bs 8 8) else none

/-- Magic and format of a varnish record (R190). -/
def recordHead (bs : List Byte) : Bool := slice bs 0 4 == bytes [0x44, 0x57, 0x56, 0x52] && rd bs 4 1 == 4

/-- A record of `n` shards ends here: its CRC and COMMIT are right (R190, R191). -/
def recordEnds (bs : List Byte) (n : Nat) : Bool :=
  let end_ := 88 + 32 * n
  decide (end_ + 8 ≤ bs.length) && rd bs (end_ + 4) 4 == 0x56524E53 && rd bs end_ 4 == crc32c (bs.take end_)

/-- Shards of a whole record: nothing in a record or a command block states their number, so the record ends at its first right CRC
and COMMIT (log entry 41). -/
def recordShards (bs : List Byte) : Option Nat :=
  if recordHead bs then (List.range (bs.length / 32)).find? (recordEnds bs) else none

/-- A restore ends without DONE: RESTORE_REJECT (R192). -/
def rejectRestore (n status detail : Nat) (s : State) : State :=
  let c := dcmd s n
  s |> recPart .restoreReject noNode c.part (le 1 status ++ le 1 c.part ++ zeros 2 ++ le 4 detail ++ le 6 c.step ++ zeros 2)
    |> dgtFinish n status detail

/-- A restore is DONE: the next mark is a first mark (R183); a tainted step also writes RESTORE_TAINTED (R228). -/
def doneRestore (n : Nat) (s : State) : State :=
  let c := dcmd s n
  let taint := s.rcv.tainted.find? (fun x => x.1 == c.part && x.2.1 == c.step)
  let s1 := match taint with
    | some (_, _, f, a) =>
      recPart .restoreTainted noNode c.part (le 6 c.step ++ le 1 c.part ++ zeros 1 ++ le 6 f ++ le 6 a) s
    | none => s
  s1 |> modPart c.part (fun q => { q with firstMark := true }) |> dgtFinish n dsDone 0

/-- The step named by the epoch that a partition has joined or waits for. -/
def restoreStep (s : State) (k : Nat) : Option Nat :=
  if inEpoch (part s k) || (part s k).state == psPending then (epoch? s (part s k).epoch).map (fun x => x.restore) else none

/-- Rows 1 and 2 of R192, then the shards are awaited. -/
def startRestore (n : Nat) (s : State) : State :=
  let c := dcmd s n
  match restoreBlock (c.blk.getD []) with
  | none => dgtFinish n dsBadBlock 0 s
  | some (t, _) =>
    let bs := c.aux.getD []
    let s1 := modDcmd n (fun y => { y with step := t }) s
    match recordShards bs with
    | none => rejectRestore n dsNoCommit 0 s1
    | some nshard =>
    if !(rd bs 8 8 == t) || !(restoreStep s c.part == some t) then rejectRestore n dsWrongStep 0 s1
    else
      let es := (List.range nshard).map (fun i => (rd bs (88 + 32 * i) 4, rd bs (96 + 32 * i) 8, rd bs (104 + 32 * i) 16))
      let s2 := s1
        |> modDgt (fun d => { d with shards := d.shards.filter (fun x => !(x.part == c.part && x.read)) })
        |> modDcmd n (fun y => { y with
            waiting := false, running := true, started := now s, entries := es, verified := [], point := rd bs 40 16 })
      if es.isEmpty then doneRestore n s2 else s2

/-- The slot whose RESTORE of a partition and step is running. -/
def restoreSlot (s : State) (k low : Nat) : Option Nat :=
  (s.dgt.cmds.find? (fun e => e.2.running && e.2.op == 2 && e.2.part == k && low32 e.2.step == low)).map Prod.fst

/-- A shard has been read so far: rows 3, 4 and 6 of R192. -/
def checkRead (n sh : Nat) (s : State) : State :=
  let c := dcmd s n
  match c.entries.findIdx? (fun e => e.1 == sh), s.dgt.shards.find? (shardIs c.part c.step sh true) with
  | some i, some x =>
    let e := c.entries.getD i (0, 0, 0)
    if x.mixed then rejectRestore n dsMixed i s
    else if x.bad || decide (e.2.1 + 1 < x.covered) then rejectRestore n dsCorrupt i s
    else if x.covered == e.2.1 + 1 then
      if x.digest == e.2.2 then
        let s1 := modDcmd n (fun y => { y with verified := addNew y.verified i }) s
        if (addNew c.verified i).length == c.entries.length then doneRestore n s1 else s1
      else rejectRestore n dsCorrupt i s
    else s
  | _, _ => s

/-- The first entry not yet verified. -/
def unread (c : DgtCmd) : Nat := ((List.range c.entries.length).find? (fun i => !(c.verified.contains i))).getD 0

/-! ### The command register (R195) -/

/-- REPL_LOAD (R182): the table is staged for the next step mark, or refused. -/
def replLoad (n k : Nat) (table : MemRead) (s : State) : State :=
  match table with
  | none => dgtFinish n dsBadBlock 0 s
  | some bs =>
    match replTable k (s.dgt.repl.filter (fun r => !(r.part == k))).length bs with
    | .inl i => dgtFinish n dsBadBlock i s
    | .inr l => s |> modDgt (fun d => { d with staged := d.staged.filter (fun x => !(x.1 == k)) ++ [(k, l)] }) |> dgtFinish n dsDone 0

/-- A write of DGT_CMD with what its reads returned (R194, R195). -/
def dgtGo (a : Access) (v : Word) (blk aux : MemRead) : State → State :=
  ownerWrite a aDgtCmd (fld v 55 50) (fun s =>
    let op := fld v 62 59
    if !(fbit v 63) then s
    else if (dcmd s a.slot).status == dsBusy then modDcmd a.slot (fun c => { c with retrySeen := true }) s
    else
      let s1 := modDcmd a.slot (fun c => { c with op := op, part := fld v 55 50, detail := 0, step := 0, entries := [], verified := [] }) s
      if !(fld v 5 0 == 0) then dgtFinish a.slot dsBadAddr 0 s1
      else if op == 1 || op == 2 then
        modDcmd a.slot (fun c => { c with status := dsBusy, waiting := true, blk := blk, aux := aux }) s1
      else if op == 3 then replLoad a.slot (fld v 55 50) blk s1
      else dgtFinish a.slot dsBadOp 0 s1)

/-- Judge divides the four engines among the slots that wait (R195, R338). -/
def dgtArbitrate (s : State) : State :=
  let free := 4 - (s.dgt.cmds.filter (fun e => e.2.running)).length
  let asks := sortBy (rankOf 16 1 (now s)) (tfind s.dgt.cmds (fun _ c => c.waiting))
  s |> forEach (asks.take free) (fun n s => if (dcmd s n).op == 1 then startVarnish n s else startRestore n s)
    |> forEach (asks.drop free) (fun n => dgtFinish n dsRetry 0)

/-- A VARNISH that waits ends when its step is inside a radius (R189). -/
def taintedVarnish (s : State) : State :=
  forEach (tfind s.dgt.cmds (fun _ c => c.running && c.op == 1 && stepTainted s c.part c.step)) (fun n => dgtFinish n dsTainted 0) s

end Sys2Proof.Machine
end

