-- ==== Sys2Proof/Machine/LeaveOps.lean ====
section
/-!
DEFINITION. How partitions leave an epoch (R277, R278), and ALARMs as blocks act on them (R276, R310).
-/
namespace Sys2Proof.Machine

open Sys2Proof

/-! ### Leaving (R271, R273, R277) -/

/-- Sweeps of a partition's sentinels end with their epoch-ended flag (R237). -/
def endSweeps (k : Nat) (s : State) : State :=
  forEach ((s.rcv.sweeps.filter (fun w => w.part == k)).map (fun w => w.port)) (fun p => endSweep p true) s

/-- What a partition's epoch leaves behind in the Copyist: captures, pieces, duplex and peer checks (R150). -/
def dropCopies (k : Nat) (s : State) : State :=
  let peers := s.cpy.peerOut.filter (fun o => match capture? s o.capture with | some c => !(c.part == k) | none => true)
  s |> modCpy (fun c => { c with peerOut := peers, duplexes := tmap c.duplexes (fun _ d =>
        if (tile s d.port).part == k then { d with closed := true } else d) })
    |> forEach (openCaptures s k) discardCapture

/-- What it leaves behind in the digest engine: streams, tallies, transport halves, votes, shards (R174, R177, R277). -/
def dropDigests (k e : Nat) (s : State) : State :=
  let alone := (partsIn s e).all (fun j => j == k)
  modDgt (fun d => { d with
    streams := d.streams.filter (fun x => !(x.hdr.part == k))
    tally := d.tally.filter (fun x => !(x.epoch == e && (x.part == k || alone)))
    exps := d.exps.filter (fun x => !(alone && x.epoch == e))
    xports := d.xports.filter (fun x => !(x.epoch == e && x.part == k))
    votes := d.votes.filter (fun v => !(v.epoch == e && v.part == k))
    shards := d.shards.filter (fun x => !(x.part == k))
    repl := d.repl.map (fun r => if r.part == k then { r with ready := [], waits := [], splits := [] } else r) }) s

/-- A VARNISH that waits ends NOT_COMMITTED, a RESTORE that runs ends WRONG_STEP (R277). -/
def endCommands (k : Nat) (s : State) : State :=
  let mine (op : Nat) : List Nat := tfind s.dgt.cmds (fun _ c => c.part == k && c.op == op && (c.running || c.waiting))
  s |> forEach (mine 1) (fun n => dgtFinish n dsNotCommitted 0) |> forEach (mine 2) (fun n => rejectRestore n dsWrongStep 0)

/-- The radii of a partition's sentinels end with its stay in the epoch (R235). -/
def endRadii (k e : Nat) (s : State) : State :=
  modRcv (fun r => { r with blasts := r.blasts.map (fun b =>
    if b.part == k && b.epoch == e && b.q.isNone then { b with q := some (now s) } else b) }) s

/-- One partition leaves its epoch: everything of that epoch is discarded, and the partition becomes IDLE, HELD or PENDING. -/
def leavePart (k : Nat) (s : State) : State :=
  let e := (part s k).epoch
  s |> endSweeps k
    |> dropCopies k
    |> dropDigests k e
    |> endCommands k
    |> endRadii k e
    |> unbindPart k
    |> modPart k (fun q => { q with marks := [], firstMark := true, tallyFails := [], sealed := [], phase := 0, phaseNext := [] })
    |> afterLeave k
    |> dropEpoch (now s - 1) e

/-- One partition leaves with a teardown of its tiles (R277). -/
def abortPart (k : Nat) (s : State) : State := s |> teardownPart k s.rcv.alarmCause noNode |> leavePart k

/-- Every partition of an epoch leaves now. -/
def abortEpoch (e : Nat) (s : State) : State :=
  s |> forEach (partsIn s e) abortPart |> modEpoch e (fun x => { x with abortAt := none })

/-- A cause that leaves every epoch at once: an ALARM for each, then every partition leaves (R273, R278). -/
def leaveAll (cause : Nat) (s : State) : State :=
  s |> alarmEpochs cause (allEpochs s) |> forEach (allEpochs s) cancelPending |> forEach (liveEpochs s) abortEpoch

/-! ### Receiving an ALARM (R276, R278, R310) -/

/-- The key of an ALARM is in the table: it stays for 128 strokes (R310). -/
def alarmKnown (s : State) (m : AlarmMsg) : Bool :=
  s.wch.alarmKeys.any (fun x => x.1 == m.epoch && x.2.1 == m.origin && x.2.2.1 == m.seq && decide (now s ≤ x.2.2.2 + 128))

/-- Act on a received ALARM: the record, ABORTING, and, when ABORT_AT is not ahead, leaving at once with ALARM_LATE (R276). -/
def obeyAlarm (m : AlarmMsg) (s : State) : State :=
  let again := (epoch? s m.epoch).any (fun x => x.acted.contains (m.origin, m.seq))
  let role := if again then 3 else 2
  let m := { m with cause := knownCause m.cause }
  let s1 := actOnAlarm m role s
  if m.abortAt ≤ now s then s1 |> recordBlock .alarmLate (alarmBody m role) |> abortEpoch m.epoch else s1

/-- The epoch has a partition PENDING, MEMBER or ABORTING here. -/
def epochHere (s : State) (e : Nat) : Bool := s.parts.any (fun x => x.2.valid && (x.2.state == psPending || inEpoch x.2) && x.2.epoch == e)

/-- A flooded ALARM arrives: one of epoch 0 is counted, an old one or a copy is dropped; any other goes on to every other link,
and the block acts once (R276, R304, R310). -/
def takeAlarm (l : Nat) (f : Flit) (m : AlarmMsg) (s : State) : State :=
  if m.epoch == 0 then modLink l (fun k => { k with err := { k.err with epoch := satInc 8 k.err.epoch } }) s
  else if m.originStroke + 128 < now s || alarmKnown s m then s
  else s |> rememberAlarm m |> flood (some l) f |> whenB (epochHere s m.epoch) (obeyAlarm m)

end Sys2Proof.Machine
end

