-- ==== Sys2Proof/Machine/VerdictOps.lean ====
section
/-!
DEFINITION. Verdicts of a stroke and their way to the root (R223 to R228), the taint store and blast radii (R230 to R237).
-/
namespace Sys2Proof.Machine

open Sys2Proof

/-! ### Combining (R225 to R227, R309) -/

/-- No verdict yet. -/
def noVerdict (e n members : Nat) : VerdictMsg :=
  { epoch := e, stroke := n, kind := 1, worst := vPass, kinds := List.replicate 8 vPass, blocks := 0, members := members
    nfail := 0, uncovered := 0, checks := 0, chips := [] }

/-- Two verdicts as one: the highest codes, the sums, and up to 48 failing chips (R226). -/
def combine (a b : VerdictMsg) : VerdictMsg :=
  { a with
    worst := Nat.max a.worst b.worst
    kinds := (List.range 8).map (fun k => Nat.max (lget a.kinds k 0) (lget b.kinds k 0))
    blocks := a.blocks + b.blocks, nfail := a.nfail + b.nfail
    uncovered := satAdd (2 ^ 32 - 1) a.uncovered b.uncovered, checks := satAdd (2 ^ 32 - 1) a.checks b.checks
    chips := (a.chips ++ b.chips).take 48 }

def relayIs (e n : Nat) (r : VRelay) : Bool := r.epoch == e && r.stroke == n
def relay? (s : State) (e n : Nat) : Option VRelay := s.rcv.relays.find? (relayIs e n)
def modRelay (e n : Nat) (f : VRelay → VRelay) : State → State :=
  modRcv (fun r => { r with relays := r.relays.map (fun x => if relayIs e n x then f x else x) })

/-- Combinations in progress: those not sent yet. -/
def relaysOpen (s : State) : Nat := (s.rcv.relays.filter (fun r => !r.sent)).length

/-- The combination of a stroke exists. -/
def needRelay (e n : Nat) (s : State) : State :=
  match relay? s e n, epoch? s e with
  | none, some x => modRcv (fun r => { r with relays := r.relays ++ [{ epoch := e, stroke := n, acc := noVerdict e n x.members }] }) s
  | _, _ => s

/-- The horizon H as it counts: at least 3 (R38). -/
def horizon (s : State) : Nat := Nat.max 3 s.gnd.h

/-! ### Verification (R41, R227) -/

/-- A complete DOWN without FAIL is held for a stroke. -/
def downOk (s : State) (e n : Nat) : Bool :=
  match relay? s e n with
  | some r => match r.down with | some d => d.blocks == d.members && !(d.worst == vFail) | none => false
  | none => false

/-- The first stroke not yet pod-verified. -/
def nextVerify (x : Epoch) : Nat := match x.verified with | some v => v + 1 | none => x.first

/-- Verify strokes in order for as long as their DOWN messages allow. -/
def verifyRun : Nat → Nat → State → State
  | 0, _, s => s
  | k + 1, e, s =>
    match epoch? s e with
    | none => s
    | some x =>
      let n := nextVerify x
      if downOk s e n && (match x.failedAt with | some f => decide (n < f) | none => true) then
        verifyRun k e (s
          |> modEpoch e (fun y => { y with verified := some n })
          |> forEach (partsIn s e) (fun j => modPart j (fun q => { q with verifiedValid := q.verifiedValid || decide (q.joined ≤ n) }))
          |> modRcv (fun r => { r with relays := r.relays.filter (fun y => !(relayIs e n y && y.sent)) }))
      else s

/-- A DOWN message is taken (R227): a FAIL holds verification below it for the rest of the epoch. -/
def takeDown (v : VerdictMsg) (s : State) : State :=
  s |> needRelay v.epoch v.stroke
    |> modRelay v.epoch v.stroke (fun r => { r with down := some v })
    |> whenB (v.worst == vFail) (noteFail v.epoch v.stroke)
    |> verifyRun 128 v.epoch

/-- A combination leaves: up to the parent, or, at the root, down to the children and here (R226). -/
def forwardRelay (e n : Nat) (s : State) : State :=
  match relay? s e n, epoch? s e with
  | some r, some x =>
    let s1 := modRelay e n (fun y => { y with sent := true }) s
    if isRoot x then
      let d := { r.acc with kind := 2 }
      s1 |> sendDown clVerdict e (.verdict d) |> takeDown d
    else sendUp clVerdict e (.verdict r.acc) s1
  | _, _ => s

/-- Forward once this block's own verdict is in and every child has reported. -/
def relayReady (e n : Nat) (s : State) : State :=
  match relay? s e n with
  | some r => if r.own && !r.sent && allChildren s e r.reported && decide (2 ≤ s.stk.phase || n + 1 < now s) then forwardRelay e n s else s
  | none => s

/-- A verdict joins a combination; after the combination has left, the root sends a further DOWN until the tick of s + 2H, and a
relay forwards in bypass (R309). -/
def takeUp (l : Nat) (bypass : Bool) (v : VerdictMsg) (s : State) : State :=
  let e := v.epoch
  let s1 := if (relay? s e v.stroke).isNone && decide (256 ≤ relaysOpen s) then s else needRelay e v.stroke s
  if coreReset s then relayBypass clVerdict 3 e (.verdict v) s
  else match relay? s1 e v.stroke with
  | none => relayBypass clVerdict 1 e (.verdict v) s1
  | some r =>
    let join (x : VRelay) : VRelay := { x with acc := combine x.acc v, reported := if bypass then x.reported else addNew x.reported l }
    if !r.sent then s1 |> modRelay e v.stroke join |> relayReady e v.stroke
    else if rootOf s e then
      if now s < v.stroke + 2 * horizon s then s1 |> modRelay e v.stroke join |> forwardRelay e v.stroke else s1
    else relayBypass clVerdict 2 e (.verdict v) s1

/-! ### The checks that Judge takes (R223, R224, R34, R49, R50) -/

/-- A port was SILENT in the stroke that Judge judges. -/
def silentPort (s : State) (p : Nat) : Bool := (sent s p).silent

/-- What a check counts as: UNCOVERED on a SILENT port's stroke and below an ABSENT assembly (R34, R50). -/
def effective (s : State) (c : Chk) : Chk :=
  match c.port with
  | none => c
  | some p =>
    if isAbsent s (nodeOf p) || (silentPort s p && c.stroke + 1 == now s && !c.late && !c.sweep) then { c with code := vUncovered }
    else c

/-- A SILENT or ABSENT port's stroke counts one UNCOVERED check at least (R34). -/
def silentChecks (s : State) (cs : List Chk) : List Chk :=
  (tfind s.gnd.tiles (fun p t => working t && (sent s p).attached && (silentPort s p || isAbsent s (nodeOf p)) &&
    !(cs.any (fun c => c.port == some p && c.stroke + 1 == now s)))).map (fun p => portChk s p (now s - 1) ckResidue vUncovered)

/-- A check of a spare enters no verdict but its own (R61, R223). -/
def rolledUp (s : State) (c : Chk) : Bool := match c.port with | some p => working (tile s p) || (tile s p).state == tsQuarantined | none => true

/-- This block's epoch verdict for a stroke (R224, R225). -/
def ownVerdict (s : State) (x : Epoch) (n : Nat) (cs : List Chk) : VerdictMsg :=
  let mine := cs.filter (fun c => c.epoch == x.id && c.stroke == n && !c.late && rolledUp s c)
  let worst := maxOf (mine.map (fun c => c.code))
  { noVerdict x.id n x.members with
    worst := worst
    kinds := (List.range 8).map (fun k => maxOf ((mine.filter (fun c => c.kind == k)).map (fun c => c.code)))
    blocks := 1, nfail := b2n (worst == vFail)
    uncovered := satAdd (2 ^ 32 - 1) 0 (((mine.filter (fun c => c.code == vUncovered)).map (fun c => c.n)).sum)
    checks := satAdd (2 ^ 32 - 1) 0 ((mine.map (fun c => c.n)).sum)
    chips := if worst == vFail then [s.wch.chip] else [] }

/-- An epoch's own verdict enters its combination, and a FAIL tells the owners (R224, R339). -/
def formVerdict (cs : List Chk) (x : Epoch) (s : State) : State :=
  let n := now s - 1
  if now s == 0 || decide (n < x.first) || (partsIn s x.id).isEmpty then s
  else
    let v := ownVerdict s x n cs
    s |> needRelay x.id n
      |> modRelay x.id n (fun r => { r with own := true, acc := combine r.acc v })
      |> whenB (v.worst == vFail) (fun s => forEach (partsIn s x.id) (fun k => irqPart k irqFail) s)

/-! ### Counters (R166, R358, R360) -/

/-- One check enters the counters of the stroke just judged. -/
def countChk (c : Chk) (s : State) : State :=
  let copy := c.kind == ckRecompute || c.kind == ckDuplex || c.kind == ckPeer
  s |> gcountJudged 3 c.n
    |> whenB (c.code == vFail) (gcountJudged 4 c.n)
    |> whenB (c.code == vUncovered) (gcountJudged 5 c.n)
    |> whenB (decide (c.kind ≤ 3)) (fun s => s |> pcountJudged c.part 5 c.n |> pcountJudged c.part (6 + c.code) c.n)
    |> modLdg (fun l => { l with acc := { l.acc with
        checks := satAdd (2 ^ 32 - 1) l.acc.checks c.n
        fail := satAdd (2 ^ 32 - 1) l.acc.fail (if c.code == vFail then c.n else 0)
        unc := satAdd (2 ^ 32 - 1) l.acc.unc (if c.code == vUncovered then c.n else 0)
        late := satAdd (2 ^ 32 - 1) l.acc.late (if c.code == vLate then c.n else 0) } })
    |> whenB copy (modCpy (fun y => { y with
        cFail := y.cFail + if c.code == vFail then c.n else 0
        cLate := y.cLate + if c.code == vLate then c.n else 0
        cUnc := y.cUnc + if c.code == vUncovered then c.n else 0
        cPass := y.cPass + if c.code == vPass then c.n else 0 }))

/-! ### CONTRACT_SUSPECT (R84) -/

/-- Active tiles of a type. -/
def activeOf (s : State) (typ : Nat) : List Nat := tfind s.gnd.tiles (fun _ t => working t && t.typ == typ)

/-- One tile's FAIL for an OPC; over a quarter of the type's active tiles, the record, once (R84). -/
def suspectOpc (c : Chk) (s : State) : State :=
  match c.port with
  | none => s
  | some p =>
    let typ := (tile s p).typ
    let seen := s.rcv.fails84.contains (c.stroke, c.opc, typ, p)
    let s1 := whenB (!seen) (modRcv (fun r => { r with fails84 := r.fails84 ++ [(c.stroke, c.opc, typ, p)] })) s
    let n := (s1.rcv.fails84.filter (fun x => x.1 == c.stroke && x.2.1 == c.opc && x.2.2.1 == typ)).length
    let m := (activeOf s typ).length
    if m < 4 * n && !(s.rcv.suspects84.contains (c.stroke, c.opc, typ)) then
      s1 |> modRcv (fun r => { r with suspects84 := r.suspects84 ++ [(c.stroke, c.opc, typ)] })
         |> recordBlock .contractSuspect (le 1 c.opc ++ le 1 typ ++ le 2 c.layer ++ le 2 n ++ le 2 m)
    else s1

/-- FAILs of a stroke and type do not advance classification (R84, R240). -/
def contractSuspect (s : State) (p n : Nat) : Bool := s.rcv.suspects84.any (fun x => x.1 == n && x.2.2 == (tile s p).typ)

/-! ### Radii and sweeps (R233 to R237) -/

/-- The latest stroke before f whose summary of a port is CLEAN, on the block or spilled (R235). -/
def lastClean (s : State) (p f : Nat) : Option Nat :=
  let on (t : Table (Table Touch)) : List Nat := tfind t (fun n row => decide (n < f) && (tgetD row p {}).clean)
  match on s.taint.rows ++ on s.taint.spilled with
  | [] => none
  | l => some (maxOf l)

/-- A new radius for a FAIL (R235). -/
def newBlast (s : State) (c : Chk) (p : Nat) : Blast :=
  let old := oldestRow s
  let q := if c.kind == ckSlice || !(inEpoch (part s c.part)) || c.epoch == 0 then some (c.stroke + 1) else none
  let b : Blast := { port := p, part := c.part, epoch := c.epoch, kind := c.kind, f := c.stroke, q := q }
  if c.kind == ckResidue then { b with a := c.stroke }
  else match lastClean s p c.stroke with
    | some m => { b with a := m + 1 }
    | none => { b with a := Nat.min old c.stroke, truncated := true }

/-- RCV_TAINT_CFG.MAX as it acts. -/
def sweepMax (s : State) : Nat := Nat.max 1 s.taint.max

/-- The captures of a port that a sweep for stroke f claims, newest first (R237). -/
def sweepCaps (s : State) (p f : Nat) : List Nat :=
  (sortBy (fun e => 2 ^ 48 - e.2.last % 2 ^ 48) (s.cpy.captures.filter (fun e =>
    e.2.port == p && e.2.state == 2 && e.2.sweep.isNone && decide (f ≤ e.2.last + s.taint.span) && decide (e.2.last < f)))).map Prod.fst

/-- Open, queue, extend or drop a sweep (R237). -/
def needSweep (p k e f : Nat) (s : State) : State :=
  let room := match s.rcv.sweeps.find? (fun w => w.port == p) with
    | some w => sweepMax s - (w.caps.length + w.swept)
    | none => sweepMax s
  let all := sweepCaps s p f
  let caps := all.take room
  let claim (s : State) : State := forEach caps (fun id => modCap id (fun c => { c with sweep := some p })) s
  if !s.taint.sweepEn then s
  else match s.rcv.sweeps.find? (fun w => w.port == p) with
    | some w =>
      s |> claim |> modSweep p (fun y => { y with caps := y.caps ++ caps, atMax := y.atMax || decide (room < all.length) })
        |> whenB w.opened (fun s => forEach caps (fun id => modCap id (fun c => { c with sweeping := true, pieces := c.pieces.map freshPiece })) s)
    | none =>
      let w : Sweep := { port := p, part := k, epoch := e, f := f, blast := f, caps := caps, atMax := decide (room < all.length) }
      if 68 ≤ s.rcv.sweeps.length then s |> record .sweep (nodeOf p) (sweepBody { w with caps := [] } 2)
      else if caps.isEmpty then s |> record .sweep (nodeOf p) (sweepBody w 0)
      else s |> claim |> modRcv (fun r => { r with sweeps := r.sweeps ++ [w] }) |> openSweeps

/-- A FAIL of an attributed kind on a tile in work: its radius and its sweep; a failing swept capture belongs to a radius that is
open already (R233, R237). -/
def faultRadius (c : Chk) (s : State) : State :=
  match c.port with
  | none => s
  | some p =>
    if (tile s p).state == tsSpare || c.sweep || decide (3 < c.kind) then s
    else
      s |> modRcv (fun r => { r with blasts := r.blasts ++ [newBlast s c p] })
        |> needSweep p c.part c.epoch c.stroke

/-- The ALARM of a FAIL: residue, recompute and duplex FAILs of a tile in work (R234). -/
def faultAlarm (c : Chk) (s : State) : State :=
  match c.port with
  | some p =>
    if decide (c.kind ≤ 2) && !((tile s p).state == tsSpare) && decide (1 ≤ c.n) && !(c.epoch == 0) then
      originate acVerdictFail c.epoch (nodeOf p) c.part (zeros 16) s
    else s
  | none => s

/-! ### BLAST records (R236) -/

/-- The rows of a radius that show its port active. -/
def blastRows (s : State) (b : Blast) (q : Nat) : List (Nat × Touch) :=
  let of (t : Table (Table Touch)) : List (Nat × Touch) :=
    t.filterMap (fun e => if decide (b.a ≤ e.1) && decide (e.1 < q) && (tgetD e.2 b.port {}).active then some (e.1, tgetD e.2 b.port {}) else none)
  let on := of s.taint.rows
  sortBy Prod.fst (on ++ (of s.taint.spilled).filter (fun x => !(on.any (fun y => y.1 == x.1))))

/-- Some row of the radius is not retained. -/
def blastShort (s : State) (b : Blast) : Bool :=
  b.truncated || decide (b.a < oldestRow s) || s.taint.lostRows.any (fun n => decide (b.a ≤ n))

/-- Body of BLAST (R236). -/
def blastBody (b : Blast) (q first last buf coll active : Nat) : List Byte :=
  le 1 b.kind ++ le 1 (b2n b.truncated + atB 1 b.revise + atB 2 (!(coll == 0))) ++ le 2 b.part ++ le 6 b.f ++ le 6 b.a ++ le 6 q ++
  le 6 first ++ le 6 last ++ le 3 buf ++ zeros 1 ++ le 2 coll ++ le 4 active

/-- Steps with a varnish record that a written radius reaches (R228). -/
def taintSealed (b : Blast) (s : State) : State :=
  forEach (validParts s) (fun k s =>
    forEach (part s k).sealed (fun t s =>
      let hit := match spanOf s k t with
        | some (x, y) => blastFor s b k && blastHits s b x (match y with | some e => e | none => now s + 1)
        | none => false
      if !hit || s.rcv.tainted.any (fun x => x.1 == k && x.2.1 == t && x.2.2.1 == b.f) then s
      else
        s |> recPart .varnishTainted noNode k (le 6 t ++ le 1 k ++ zeros 1 ++ le 6 b.f ++ le 6 b.a)
          |> reportPfm "VARNISH_TAINTED"
          |> modRcv (fun r => { r with tainted := r.tainted ++ [(k, t, b.f, b.a)] })) s) s

/-- Firmware writes the BLAST record of radius `i`, or its revision (R236). -/
def writeBlast (i : Nat) (s : State) : State :=
  match s.rcv.blasts[i]? with
  | none => s
  | some b =>
    let q := b.q.getD (now s)
    let rows := blastRows s b q
    let buf := rows.foldl (fun n x => n ||| x.2.buf) 0
    let coll := rows.foldl (fun n x => n ||| x.2.coll) 0
    let step (t : Touch) : Nat := extendStep (part s b.part) 16 t.step
    let first := match rows.head? with | some x => step x.2 | none => 0
    let last := match rows.getLast? with | some x => step x.2 | none => 0
    let b1 := { b with truncated := blastShort s b, peers := !(coll == 0) }
    let done := { b1 with written := true, revise := false }
    let keep := (liveEpochs s).contains b.epoch || s.rcv.sweeps.any (fun w => w.port == b.port && w.f == b.f)
    s |> recPart .blast (nodeOf b.port) b.part (blastBody b1 q first last buf coll rows.length)
      |> modRcv (fun r => { r with
          blastA := b.a
          blasts := if keep then lmod r.blasts i (fun _ => done) else r.blasts.eraseIdx i })
      |> taintSealed done

/-! ### The taint store (R230 to R232) -/

/-- SPILL_FAIL: the row is lost (R232). -/
def spillFailed (n : Nat) (s : State) : State :=
  s |> modTaint (fun x => { x with spillErr := true, lostRows := addNew x.lostRows n, spilled := tdel x.spilled n })
    |> recordBlock .spillFail (le 6 n ++ zeros 2)

/-- Strokes that the spill region holds. -/
def spillSpan (s : State) : Nat := spillSize s * 16384

/-- The spill of row n would overwrite a row that a radius not yet written needs (R232). -/
def spillBlocked (s : State) (n : Nat) : Bool :=
  decide (spillSpan s ≤ n) && (tget s.taint.spilled (n - spillSpan s)).isSome &&
    s.rcv.blasts.any (fun b => !b.written && decide (b.a ≤ n - spillSpan s))

/-- The 16 KiB row of a stroke (R232). -/
def rowBytes (s : State) (row : Table Touch) : List Byte :=
  (List.range 2048).flatMap (fun p =>
    let t := tile s p
    if decide (s.build.ports ≤ p) || t.state == tsHidden || t.state == tsQuarantined then zeros 8
    else le 8 (touchWord (tgetD row p {})))

/-- Copy one row to the spill ring. -/
def spillRow (n : Nat) (s : State) : State :=
  match tget s.taint.rows n with
  | none => s
  | some row =>
    s |> memWrite (spillAddr s n) false (rowBytes s row)
      |> issueMem (.spill n)
      |> modTaint (fun x => { x with
          spilled := tput (if spillSpan s ≤ n then tdel x.spilled (n - spillSpan s) else x.spilled) n row
          waiting := without x.waiting n })

/-- Publish spills the rows that wait, in order, until one must pause (R232). -/
def spillAll : List Nat → State → State
  | [], s => modTaint (fun x => { x with paused := false }) s
  | n :: ns, s =>
    if spillBlocked s n then
      modTaint (fun x => { x with paused := true, pausedSince := if x.paused then x.pausedSince else now s }) s
    else spillAll ns (spillRow n s)

/-- After 256 strokes of waiting the oldest pending computation closes as TRUNCATED (R232). -/
def spillWait (s : State) : State :=
  if s.taint.paused && decide (s.taint.pausedSince + 256 ≤ now s) then
    match s.rcv.blasts.findIdx? (fun b => !b.written) with
    | some i => s |> modRcv (fun r => { r with blasts := lmod r.blasts i (fun b => { b with truncated := true }) }) |> writeBlast i
                  |> modTaint (fun x => { x with pausedSince := now s })
    | none => s
  else s

/-- Publish: the rows of strokes before the last go to the spill region (R232). -/
def publishSpill (s : State) : State :=
  if spillSize s == 0 then s else s |> spillWait |> (fun s => spillAll (s.taint.waiting.filter (fun n => decide (n + 2 ≤ now s))) s)

/-- The step field of a summary: the low 16 bits of the partition's step at the start of the stroke (R230). -/
def touchStep (s : State) (p : Nat) : Nat := match curMark (part s (tile s p).part) with | some (t, _) => t % 65536 | none => 0

/-- The summary that a sentinel begins at a tick. -/
def freshTouch (s : State) (p : Nat) : Touch :=
  { step := touchStep s p, borrowed := !((tile s p).host == (tile s p).parent), stretch := (sent s p).stretch }

/-- The tick stores the summaries of the stroke that ended, and the sentinels begin new ones (R231, R420). -/
def storeTouches (ended : Nat) (s : State) : State :=
  let row : Table Touch := s.sents.filterMap (fun e =>
    let t := (tile s e.1).state
    if !e.2.attached || t == tsHidden || t == tsQuarantined then none
    else
      let y := e.2.touch
      some (e.1, { y with silent := e.2.silent, stretch := y.stretch || e.2.stretch, clean := false, failed := false }))
  let live := s.taint.rows.filter (fun e => decide (ended < e.1 + 256) || s.taint.waiting.contains e.1)
  { s with
    taint := { s.taint with rows := tput live ended row, waiting := if spillSize s == 0 then [] else s.taint.waiting ++ [ended] }
    sents := tmap s.sents (fun p x => { x with touch := (x.cmds.foldl (fun t c => touchRunOf c.2.tag t) (freshTouch s p)) }) }
where
  /-- A command still running touches the new stroke too. -/
  touchRunOf (t : TagCmd) (x : Touch) : Touch :=
    { x with buf := setBit x.buf (t.layer % 24), coll := if t.collValid then setBit x.coll (t.coll % 16) else x.coll
             duplex := x.duplex || t.dup }

end Sys2Proof.Machine
end

