-- ==== Sys2Proof/Machine/HealthOps.lean ====
section
/-!
DEFINITION. Health and classification (R239 to R243), quarantine and substitution (R244 to R248), and the CBOR item of GAZAPRA
(R249).
-/
namespace Sys2Proof.Machine

open Sys2Proof

/-! ### CBOR, core deterministic (R249) -/

/-- A CBOR head: major type and argument in the shortest form, highest byte first. -/
def cborHead (major n : Nat) : List Byte :=
  let be (k : Nat) : List Byte := (le k n).reverse
  if n < 24 then bytes [major * 32 + n]
  else if n < 2 ^ 8 then bytes [major * 32 + 24] ++ be 1
  else if n < 2 ^ 16 then bytes [major * 32 + 25] ++ be 2
  else if n < 2 ^ 32 then bytes [major * 32 + 26] ++ be 4
  else bytes [major * 32 + 27] ++ be 8

def cborUint (n : Nat) : List Byte := cborHead 0 n
def cborInt (i : Int) : List Byte := if 0 ≤ i then cborHead 0 i.toNat else cborHead 1 (-i - 1).toNat
def cborBytes (bs : List Byte) : List Byte := cborHead 2 bs.length ++ bs
def cborArray (l : List (List Byte)) : List Byte := cborHead 4 l.length ++ l.flatten
def cborMap (l : List (Nat × List Byte)) : List Byte := cborHead 5 l.length ++ l.flatMap (fun e => cborUint e.1 ++ e.2)

/-! ### GAZAPRA (R249) -/

/-- GLB_BUILD_PARAMS (R407). -/
def buildParams (s : State) : Word :=
  let b := s.build
  word [at_ 48 16 b.licensee, at_ 36 4 b.links, at_ 32 4 b.mports, at_ 27 5 b.taps, at_ 21 6 b.units, at_ 0 12 b.ports]

/-- The 1-second mean of a port's canary (R216). -/
def canaryMean (s : State) (p : Nat) : Nat := (sent s p).canary.sum / Nat.max 1 (sent s p).canary.readings.length

/-- One piece of evidence. -/
def cborEvid (v : Evid) : List Byte := cborMap [(1, cborUint v.kind), (2, cborUint v.stroke), (3, cborUint v.opc), (4, cborBytes v.body)]

/-- The latest radius of a port with what its sweep has found so far; zeros where there is none (log entry 36). -/
def cborRadius (s : State) (p : Nat) : List Byte :=
  let b := (s.rcv.blasts.filter (fun b => b.port == p)).getLast?
  let w := s.rcv.sweeps.find? (fun w => w.port == p)
  cborMap [
    (1, cborUint (match b with | some x => x.a | none => 0)), (2, cborUint (match b with | some x => x.q.getD 0 | none => 0)),
    (3, cborUint (match w with | some x => x.swept | none => 0)), (4, cborUint (match w with | some x => x.failed | none => 0)),
    (5, cborUint (match w with | some x => x.onset.getD 0 | none => 0))]

/-- The item of a transition of port `p` to health `code`, with the conditions of the slice that led to it. -/
def gazapraItem (s : State) (p code : Nat) (mv : Int) (freq rise : Nat) : List Byte :=
  let t := tile s p
  let unit := [(1, cborUint 1), (2, cborUint p), (3, cborUint t.typ)] ++ (if working t then [(4, cborUint t.logical)] else [])
  cborMap [
    (1, cborUint 4), (2, cborBytes (le 8 (deviceId s))), (3, cborBytes (le 8 (buildParams s).toNat)),
    (4, cborBytes (fit 16 s.gnd.configDigest)), (5, cborMap unit), (6, cborUint (now s)), (7, cborUint s.boot.hours),
    (8, cborUint code), (9, cborArray ((sent s p).evid.map cborEvid)),
    (10, cborMap [(1, cborInt mv), (2, cborUint freq), (3, cborUint rise), (4, cborUint (canaryMean s p)),
                  (5, cborUint (sent s p).canary.trimMv)]),
    (11, cborRadius s p)]

/-- The GAZAPRA record; it goes to the pod fault manager too (R249). -/
def gazapra (p code : Nat) (mv : Int) (freq rise : Nat) (s : State) : State :=
  record .gazapra (nodeOf p) (pad4 (gazapraItem s p code mv freq rise)) s

/-! ### Events (R240, R243) -/

/-- Causes of a transition (R245). -/
def hcEvents : Nat := 1
def hcMargin : Nat := 2
def hcNoWitness : Nat := 3
def hcCanary : Nat := 4
def hcPermanent : Nat := 5
def hcManual : Nat := 6
def hcRelease : Nat := 7
def hcTime : Nat := 8

def modHealth (p : Nat) (f : Health → Health) : State → State := modSent p (fun x => { x with health := f x.health })

/-- Events of a port inside the window at Judge of the current stroke (R240). -/
def windowEvents (s : State) (p : Nat) : List Nat :=
  (sent s p).health.events.filter (fun n => decide (now s + 1 ≤ n + s.gnd.policy.suspectWindow) && decide (n ≤ now s))

/-- One event of a stroke: kept once, counted, and committed to the craquelure map (R240, R245). -/
def addEvent (p n : Nat) (s : State) : State :=
  if (sent s p).health.events.contains n then s
  else
    let s1 := modHealth p (fun h => { h with events := n :: h.events, total := satInc 32 h.total, passes := 0, lastEvent := n }) s
    s1 |> craqMod 1 p (craqEvent n s (windowEvents s1 p).length)
       |> gcountJudged 15 1
       |> pcountJudged (tile s p).part 11 1

/-- A check is an event of its port: a residue or recompute FAIL outside a hold and outside R84, a failing slice, or the extra
event of a sweep or of duplex events (R84, R210, R237, R240, R243). -/
def isEvent (s : State) (c : Chk) (p : Nat) : Bool :=
  c.code == vFail &&
    (if c.n == 0 then true
     else if c.kind == ckSlice then true
     else decide (c.kind ≤ 1) && !c.sweep && !(contractSuspect s p c.stroke) && !(heldIn s p c.stroke))

/-- A recompute FAIL of either tile of a pair is the event; what watched the pair ends (R243). -/
def clearWatch (p : Nat) (s : State) : State :=
  let others := (sent s p).health.dupWatch.map Prod.snd
  s |> modHealth p (fun h => { h with dupWatch := [] })
    |> forEach others (fun q => modHealth q (fun h => { h with dupWatch := h.dupWatch.filter (fun x => !(x.2 == p)) }))

/-- What a check does to its port's event count; answers whether it was an event. -/
def noteChk (c : Chk) (s : State) : State :=
  match c.port with
  | none => s
  | some p =>
    let s1 := if c.kind == ckRecompute && c.code == vFail && decide (1 ≤ c.n) then clearWatch p s else s
    let s2 := if c.kind == ckDuplex && c.code == vFail && decide (1 ≤ c.n) then
        modHealth p (fun h => { h with dupWatch := h.dupWatch ++ [(c.stroke, c.partner)] }) s1 else s1
    if isEvent s2 c p then addEvent p c.stroke s2 else s2

/-- The directed period has ended without a recompute FAIL: duplex events, and an event for each with an earlier duplex event of
another partner in the window (R243). -/
def duplexEvents (p : Nat) (s : State) : State :=
  let h := (sent s p).health
  let s1 := modHealth p (fun h => { h with dupWatch := [] }) s
  forEach h.dupWatch (fun x s =>
    let near := (sent s p).health.dupEvents.any (fun e => !(e.partner == x.2) && decide (e.stroke ≤ x.1) &&
      decide (now s + 1 ≤ e.stroke + s.gnd.policy.suspectWindow))
    s |> modHealth p (fun h => { h with dupEvents := { stroke := x.1, partner := x.2 } :: h.dupEvents })
      |> whenB near (addChk { portChk s p x.1 ckDuplex vFail with n := 0, late := true, sweep := true })) s1

/-! ### Quarantine (R244, R246, R247) -/

/-- The logical number of a port becomes VACANT, and its owner is told. -/
def vacate (p : Nat) (manual : Bool) (s : State) : State :=
  let t := tile s p
  s |> modGnd (fun g => { g with vacancies := g.vacancies ++ [{ port := p, home := t.host, logical := t.logical, since := now s, manual := manual }] })
    |> modTile p (fun x => { x with state := tsQuarantined, host := x.parent })

/-- A sentinel becomes QUARANTINED (R246). -/
def quarantine (p cause : Nat) (s : State) : State :=
  let t := tile s p
  let work := working t
  s |> teardownTile p acQuarantine
    |> whenB work (alarmPart acQuarantine t.part (nodeOf p) (zeros 16))
    |> craqMod 1 p (fun e => { e with state := 4, cause := cause, since := stampStroke s })
    |> record .quarantine (nodeOf p) (le 1 cause ++ le 1 t.state ++ le 2 (if work then t.logical else 0xFFFF) ++ le 1 t.part ++ zeros 3)
    |> modHealth p (fun h => { h with code := 4, since := now s, cause := cause })
    |> (if work then vacate p (cause == hcManual) else modTile p (fun x => { x with state := tsQuarantined }))
    |> irqPart t.part irqQuar

/-- No spare fills a number (R247). -/
def noSpare (v : Vacancy) (s : State) : State :=
  s |> modGnd (fun g => { g with vacancies := g.vacancies.filter (fun x => !(x.port == v.port)) })
    |> reportPfm "NO_SPARE"

/-- A spare is chosen: it takes over at the next tick, and the quarantined port's entry names it (R246). -/
def substitute (v : Vacancy) (q : Nat) (s : State) : State :=
  s |> modGnd (fun g => { g with vacancies := g.vacancies.filter (fun x => !(x.port == v.port)) })
    |> craqMod 1 v.port (fun e => { e with subst := q })
    |> modRcv (fun r => { r with substs := r.substs ++ [{ port := v.port, spare := q, home := v.home, logical := v.logical, tick := now s + 1 }] })

/-- One vacancy's selection; a spare that another has taken in this decision leaves it waiting (R64). -/
def fillVacancy (v : Vacancy) (s : State) : State :=
  let typ := (tile s v.port).typ
  let k := (tile s v.port).part
  let taken (n : Nat) (q : Nat) : Bool := s.rcv.substs.any (fun x => x.spare == q && decide (n ≤ x.tick))
  match pickSpare s v.home typ k (fun q => !(s.rcv.substs.any (fun x => x.spare == q && !(x.tick == now s + 1)))) with
  | none => noSpare v s
  | some q =>
    if taken (now s + 1) q then whenB v.manual (modRcv (fun r => { r with quarResult := 4 })) s
    else substitute v q s

/-- Judge of the stroke after a quarantine chooses spares by rotating priority (R64, R246, R337). -/
def fillVacancies (s : State) : State :=
  forEach (sortBy (fun v => rankOf 2048 0 (now s) v.logical) (s.gnd.vacancies.filter (fun v => decide (v.since < now s)))) fillVacancy s

/-- A substitution takes effect (R246): the spare serves the number, LENT when wired elsewhere. -/
def applySubst (x : Subst) (s : State) : State :=
  modTile x.spare (fun t => { t with
    logical := x.logical, host := x.home, state := if t.parent == x.home then tsActive else tsLent }) s

/-- The tick of q + 2. -/
def substTick (s : State) : State :=
  let due := s.rcv.substs.filter (fun x => decide (x.tick ≤ now s))
  s |> modRcv (fun r => { r with substs := r.substs.filter (fun x => !(decide (x.tick ≤ now s))) }) |> forEach due applySubst

/-! ### Classification (R241, R242) -/

/-- A change of health: FAULT_CLASS, and the craquelure entry, committed first (R241, R245). -/
def toHealth (p code cause : Nat) (s : State) : State :=
  let old := (sent s p).health.code
  if old == code then s
  else
    s |> craqMod 1 p (fun e => { e with state := code, cause := cause, since := stampStroke s, events := Nat.min 255 (windowEvents s p).length })
      |> modHealth p (fun h => { h with code := code, since := now s, cause := cause, persists := h.persists && code == 2 })
      |> record .faultClass (nodeOf p) (le 1 old ++ le 1 code ++ le 1 cause ++ le 1 (Nat.min 255 (windowEvents s p).length))

/-- To SUSPECT, with its GAZAPRA record; the slice period shortens (R200, R241, R249). -/
def toSuspect (p cause : Nat) (o : SliceEnd) (s : State) : State :=
  if decide (2 ≤ (sent s p).health.code) then s
  else s |> toHealth p 2 cause |> gazapra p 2 o.mv o.freq o.rise |> repace p

/-- A sentinel becomes QUARANTINED: the records of the transition, then what R246 orders (R241, R244, R246, R249). -/
def quarantineFor (w : QuarWait) (s : State) : State :=
  let old := (sent s w.port).health.code
  if old == 4 then s
  else
    s |> record .faultClass (nodeOf w.port) (le 1 old ++ le 1 4 ++ le 1 w.cause ++ le 1 (Nat.min 255 (windowEvents s w.port).length))
      |> gazapra w.port 4 w.slice.mv w.slice.freq w.slice.rise
      |> quarantine w.port w.cause

/-- A hold is open on the port, for itself or as a witness. -/
def holdOn (s : State) (p : Nat) : Bool :=
  match s.scr.hold with
  | some h => h.port == p || h.witness == some p
  | none => false

/-- A quarantine that meets an open hold of its port waits until the run has its outcome (R208). -/
def quarantineOrWait (w : QuarWait) (s : State) : State :=
  if holdOn s w.port then modRcv (fun r => { r with quarWaits := r.quarWaits.filter (fun x => !(x.port == w.port)) ++ [w] }) s
  else quarantineFor w s

/-- To QUARANTINED after FAIL_PERMANENT (R241). -/
def toQuarantined (p : Nat) (o : SliceEnd) : State → State := quarantineOrWait { port := p, cause := hcPermanent, slice := o }

/-- Quarantines whose hold has closed. -/
def quarantineWaiting (s : State) : State :=
  let go := s.rcv.quarWaits.filter (fun w => !(holdOn s w.port))
  s |> modRcv (fun r => { r with quarWaits := r.quarWaits.filter (fun w => holdOn s w.port) }) |> forEach go quarantineFor

/-- A slice outcome as Judge takes it: its record, its evidence, and what R241 makes of it. -/
def classifySlice (o : SliceEnd) (s : State) : State :=
  let node := nodeOf o.port
  let fail := outcomeVerdict o.outcome == vFail
  s |> whenB (!(o.outcome == soPass)) (fun s =>
        recSevPart .sliceResult node (partOf s node) (if fail then 3 else recSev .sliceResult) o.body s)
    |> whenB fail (addEvid o.port { kind := ckSlice, stroke := o.stroke, opc := o.opc, body := o.body })
    |> whenB (o.outcome == soPass) (modHealth o.port (fun h => { h with passes := h.passes + 1 }))

/-- The transitions of one port in the order of R241; `ev` says that Judge has counted an event of it, `os` are its slices. -/
def classify (p : Nat) (ev : Bool) (os : List SliceEnd) (s : State) : State :=
  let find (k : Nat) : Option SliceEnd := os.find? (fun o => o.outcome == k)
  let was := (sent s p).health.code
  let n := (windowEvents s p).length
  let limit := Nat.max 1 s.gnd.policy.suspectEvents
  if was == 4 then s
  else match find soPermanent with
    | some o => toQuarantined p o s
    | none =>
      s |> whenB (decide (limit ≤ n)) (toSuspect p hcEvents (os.headD {}))
        |> whenSome (find soMargin) (toSuspect p hcMargin)
        |> whenSome (find soNoWitness) (toSuspect p hcNoWitness)
        |> whenB (sent s p).canary.exhausted (fun s =>
            s |> toSuspect p hcCanary {} |> modSent p (fun x => { x with canary := { x.canary with exhausted := false } }))
        |> whenB (ev && was == 0) (fun s => whenB ((sent s p).health.code == 0) (toHealth p 1 hcEvents) s)
        |> whenB (ev && decide (was ≤ 1)) (queueRetest p)
        |> (fun s => whenB ((sent s p).health.code == 2 && !(sent s p).health.persists && decide (2 * limit ≤ n)) (fun s =>
            s |> modHealth p (fun h => { h with persists := true })
              |> record .suspectPersists (nodeOf p) (le 1 (Nat.min 255 n) ++ zeros 3)
              |> reportPfm "SUSPECT_PERSISTS") s)
        |> whenB (was == 1 && n == 0) (fun s => whenB ((sent s p).health.code == 1) (toHealth p 0 hcTime) s)
        |> whenB (was == 2 && n == 0 && decide (8 ≤ (sent s p).health.passes)) (fun s => s |> toHealth p 0 hcTime |> repace p)

/-- Ports that Judge has to look at: those with news, and those whose window may have emptied. -/
def classifyPorts (s : State) (cs : List Chk) (os : List SliceEnd) : List Nat :=
  tfind s.sents (fun p x => x.attached && (cs.any (fun c => c.port == some p && c.code == vFail) || os.any (fun o => o.port == p) ||
    x.canary.exhausted || x.health.code == 1 || x.health.code == 2))

/-- Judge classifies the sentinels (R241). -/
def classifyAll (cs : List Chk) (s : State) : State :=
  let os := s.scr.ended
  let before (p : Nat) : Nat := (sent s p).health.total
  let s1 := s |> modScr (fun c => { c with ended := [] }) |> forEach cs noteChk |> forEach os classifySlice
  s1 |> quarantineWaiting
     |> forEach (classifyPorts s1 cs os) (fun p s => classify p (decide (before p < (sent s p).health.total)) (os.filter (fun o => o.port == p)) s)

end Sys2Proof.Machine
end

