-- ==== Sys2Proof/Machine/WatchOps.lean ====
section
/-!
DEFINITION. A Watch link: its states and failures (R287 to R291, R302, R303), measurement and the horizon check (R38, R40, R292),
authentication (R293, R294, R296), and its sequence, acknowledgement and replay (R296, R297, R301).
-/
namespace Sys2Proof.Machine

open Sys2Proof

/-! ### Time limits -/

/-- `n` strokes have passed since stroke `from0`; before the block ticks, a limit in strokes is the command's own. -/
def strokesPassed (s : State) (from0 n : Nat) : Bool := !(ticking s) || decide (from0 + n ≤ now s)

/-- Missed heartbeats that make a partner silent: HB_MISS, and on a tunnel what its delay asks for (R302, R312, R317). -/
def hbLimit (s : State) (l : Nat) : Nat :=
  let n := Nat.max 4 s.wch.eff.hbMiss
  let k := link s l
  if k.role == 3 then Nat.max n (2 * ceilDiv (2 * tgetD s.stk.linkDelay l 0) (Nat.max 1 s.tcfg.period) + 2) else n

/-! ### Which links train (R288, R289, R388) -/

/-- The role of a link of the loaded image; UNUSED where it names none. -/
def chipLink (s : State) (l : Nat) : ChipLink := s.gnd.chip.links.getD l {}

/-- The block holds its link certificate (R289, R388). -/
def hasCert (s : State) : Bool := lifeState s == 1 && s.life.keys.isSome

/-- A link is enabled: straps, WCH_CFG.LINK_EN, a certificate, and a role once an image is loaded. -/
def linkEnabled (s : State) (l : Nat) : Bool :=
  decide (l < s.build.links) && bitOf s.straps.links l && bitOf s.wch.eff.linkEn l && hasCert s &&
    (!(s.gnd.state == 3) || !((chipLink s l).role == 0))

/-- The link is a tunnel (R288). -/
def isTunnel (s : State) (l : Nat) : Bool := s.gnd.state == 3 && (chipLink s l).role == 3

/-- WL_EN of a lane (R428). -/
def laneEnable (s : State) (lane : Nat) : Bool :=
  let k := link s (lane / 2)
  linkEnabled s (lane / 2) && !(isTunnel s (lane / 2)) && !(k.state == lsDown) && !(k.state == lsQuarantined) && !(bitOf k.lanesBad (lane % 2))

/-- Lanes of a link that are not quarantined. -/
def goodLanes (k : Link) : List Nat := [0, 1].filter (fun i => !(bitOf k.lanesBad i))

/-! ### Causes (R317, R436) -/

def lcNone : Nat := 0
def lcAbsent : Nat := 1
def lcSilent : Nat := 2
def lcSlow : Nat := 3
def lcFaulty : Nat := 4
def lcHostile : Nat := 5
def lcAuth : Nat := 6
def lcNoLane : Nat := 7

/-! ### State changes (R290, R303) -/

/-- A LINK_STATE record (R290). -/
def linkRecord (l : Nat) (s : State) : State :=
  let k := link s l
  recordBlock .linkState (le 1 l ++ le 1 k.state ++ le 1 k.cause ++ zeros 1 ++ le 4 k.partner) s

/-- A link that leaves UP, DEGRADED or LIMITED loses what is queued and unacknowledged (R303). -/
def dropQueues (k : Link) : Link :=
  let n := if linkOpen k then k.queue.length + k.retry.length else 0
  { k with queue := [], retry := [], err := { k.err with lost := satAdd 255 k.err.lost n } }

/-- A lane enters the craquelure map as quarantined (R302). -/
def craqLane (lane : Nat) (s : State) : State :=
  craqMod 3 lane (fun e => { e with state := 4, cause := 5, since := stampStroke s }) s

/-- The link is QUARANTINED until the next cold reset (R290, R302). -/
def toQuarantine (l cause : Nat) (s : State) : State :=
  s |> craqLane (2 * l)
    |> craqLane (2 * l + 1)
    |> modLink l (fun k => { dropQueues k with state := lsQuarantined, cause := cause })
    |> linkRecord l

/-- Training starts or restarts at WAIT_PHY; with no lane left the link is QUARANTINED. A tunnel has no lane to wait for. -/
def toWait (l cause : Nat) (s : State) : State :=
  let k := link s l
  if (goodLanes k).isEmpty then toQuarantine l lcNoLane s
  else
    let s1 := s
      |> modLink l (fun k => { dropQueues k with
          state := lsWaitPhy, cause := cause, lanes := [], width := 0, fallback := false, trains := satInc 16 k.trains
          since := now s, good := 0, rtts := [], shake := { fails := k.shake.fails }, crcWin := [] })
      |> linkRecord l
    if isTunnel s l then modLink l (fun k => { k with state := lsAlign, width := 1 }) s1 else s1

/-- The link is not enabled any more. -/
def toDown (l : Nat) : State → State :=
  modLink l (fun k => { dropQueues k with state := lsDown, width := 0, lanes := [] })

/-- Links that are enabled start, others stop (R288 to R290). -/
def syncLinks (s : State) : State :=
  forEach (linkNos s) (fun l s =>
    let k := link s l
    if k.state == lsDown then whenB (linkEnabled s l) (toWait l lcNone) s
    else if k.state == lsQuarantined || linkEnabled s l then s
    else toDown l s) s

/-- Failures of the link's lanes end it on one lane, or altogether (R302). -/
def faulty (l cause : Nat) (s : State) : State :=
  let k := link s l
  let total := k.crcWin.sum
  let worst := if lget k.crcWin 0 0 < lget k.crcWin 1 0 then 1 else 0
  if k.width == 2 && decide (0 < total) && decide (3 * total ≤ 4 * lget k.crcWin worst 0) then
    s |> recordBlock .linkFaulty (le 1 l ++ le 1 (2 * l + worst) ++ le 1 cause ++ zeros 1 ++ le 4 total)
      |> craqLane (2 * l + worst)
      |> modLink l (fun k => { k with lanesBad := setBit k.lanesBad worst })
      |> toWait l lcFaulty
  else
    s |> recordBlock .linkFaulty (le 1 l ++ le 1 0xFF ++ le 1 cause ++ zeros 1 ++ le 4 total) |> toQuarantine l lcFaulty

/-- A lane that an ANALOG slice reports failed leaves its link (R203, R291). -/
def laneFailed (lane : Nat) (s : State) : State :=
  let l := lane / 2
  let s1 := s |> craqLane lane |> modLink l (fun k => { k with lanesBad := setBit k.lanesBad (lane % 2) })
  if (link s l).state == lsQuarantined || (link s l).state == lsDown then s1 else toWait l lcFaulty s1

/-! ### Measurement (R38, R40, R292) -/

/-- The agreement delay of R38 in ns, with a hop term and a cross term. -/
def agreeDelay (p : PodSec) (hop cross : Nat) : Nat :=
  let skew := if p.cross == 0 && p.tunnelEnd == 0 then 50 else 200
  hop * (p.hopsUp + p.hopsDown) + 5 * (p.fibreUp + p.fibreDown) + cross + 2 * skew + 160

/-- D_cross of R38 in ns. -/
def crossDelay (p : PodSec) : Nat := 5 * p.cross + p.tunnelEnd

/-- H before its bounds (R38). -/
def horizonOf (p : PodSec) (d : Nat) : Nat := 2 + ceilDiv d (Nat.max 1 p.period)

/-- The largest measured delay among links of the given roles. -/
def maxDelay (s : State) (roles : List Nat) : Nat :=
  maxOf (((linkNos s).filter (fun l => (link s l).measured && roles.contains (chipLink s l).role)).map (fun l => tgetD s.stk.linkDelay l 0))

/-- The loaded H against the measured delays (R40). -/
def checkHorizon (s : State) : State :=
  if !(s.gnd.state == 3) then s
  else
    let d := agreeDelay s.gnd.pod (Nat.max 1500 (maxDelay s [1, 2])) (Nat.max (crossDelay s.gnd.pod) (maxDelay s [3]))
    let h := Nat.max 3 (horizonOf s.gnd.pod d)
    if s.gnd.h < h then
      s |> modGnd (fun g => { g with short := true })
        |> recordBlock .horizonShort (le 1 s.gnd.h ++ le 1 (Nat.min 255 h) ++ zeros 2 ++ le 4 (ceilDiv d 100))
        |> reportPfm "HORIZON_SHORT"
    else modGnd (fun g => { g with short := false }) s

/-! ### Authentication (R293, R294) -/

/-- A HELLO as the transcript holds it (log entry 37). -/
def helloBytes (h : Hello) : List Byte :=
  le 1 h.major ++ le 1 h.minor ++ le 3 h.chip ++ le 8 h.device ++ le 1 h.lanes ++ le 1 h.role ++ le 1 h.linkIdx ++ fit 32 h.nonce

/-- Own chip number: of the ground image once loaded, before it of the link certificate (R289). -/
def ownChip (s : State) : Nat :=
  if s.gnd.state == 3 then s.wch.chip
  else match s.life.keys.bind (fun k => Config.certChain k.certChain) with | some c => c.chip | none => s.wch.chip

/-- This block's HELLO on a link. -/
def ownHello (s : State) (l : Nat) (nonce : List Byte) : Hello :=
  { major := 4, minor := 2, chip := ownChip s, device := deviceId s, lanes := maskOf (link s l).lanes
    role := if s.gnd.state == 3 then (chipLink s l).role else 0xFF, linkIdx := l, nonce := nonce }

def modShake (l : Nat) (f : Shake → Shake) : State → State := modLink l (fun k => { k with shake := f k.shake })

/-- AUTH begins with this block's HELLO. -/
def enterAuth (l : Nat) (s : State) : State :=
  let bs := helloBytes (ownHello s l (Config.draw s.fresh 32))
  s |> bumpFresh
    |> modLink l (fun k => { k with state := lsAuth, shake := { fails := k.shake.fails, ownHello := bs } })
    |> emit (.control l 16 bs)

/-- A handshake failure: AUTH_FAIL, and after three in a row QUARANTINED (R294, R436). -/
def authFail (l cause chip : Nat) (s : State) : State :=
  let n := (link s l).shake.fails + 1
  s |> modShake l (fun x => { x with fails := n })
    |> recordBlock .authFail (le 1 l ++ le 1 cause ++ le 1 n ++ zeros 1 ++ le 4 chip)
    |> (if 3 ≤ n then toQuarantine l lcAuth else toWait l lcAuth)

/-- The partner that a link must have (R288, R289). -/
def expectedPartner (s : State) (l : Nat) : Nat := if s.gnd.state == 3 then (chipLink s l).partner else 0x1FFFF

/-- The certificate's fragments (R293). -/
def sendCert (l : Nat) (s : State) : State :=
  let c := ((s.life.keys.getD {}).certChain)
  forEach (List.range (ceilDiv c.length 208)) (fun i => emit (.control l 17 (slice c (208 * i) 208))) s

/-- HELLO of the partner: versions, chip number and lanes (R291, R293, R294). -/
def takeHello (l : Nat) (h : Hello) (s : State) : State :=
  let k := link s l
  if !(k.state == lsAuth && k.shake.step == 0) then s
  else if !(h.major == 4) then authFail l 1 h.chip s
  else if h.chip == ownChip s then authFail l 5 h.chip s
  else if !(expectedPartner s l == 0x1FFFF || expectedPartner s l == h.chip) then authFail l 6 h.chip s
  else
    let w := (k.lanes.filter (fun i => bitOf h.lanes i)).length
    s |> modLink l (fun k => { k with width := if isTunnel s l then 1 else w })
      |> modShake l (fun x => { x with
          step := 1, major := h.major, chip := h.chip, device := h.device, lanes := h.lanes, role := h.role, hello := helloBytes h })
      |> sendCert l

/-- The chain in a certificate, when it ends in a pod root of OTP and names the partner (R293, R294). -/
def partnerCert (s : State) (x : Shake) (data : List Byte) : Option Config.Cert :=
  match Config.certChain data with
  | some c => if podRootOk s c.rootHash && c.chip == x.chip && c.device == x.device then some c else none
  | none => none

/-- A certificate fragment; the last one is checked, and this block sends its share. -/
def takeCert (l frag nfrag : Nat) (data : List Byte) (s : State) : State :=
  let k := link s l
  let x := k.shake
  if !(k.state == lsAuth && x.step == 1 && frag == x.frags) then s
  else
    let all := x.cert ++ data
    if frag + 1 < nfrag then modShake l (fun x => { x with cert := all, frags := frag + 1 }) s
    else if (partnerCert s x all).isNone then authFail l 2 x.chip s
    else
      let own := Config.publicKey (Config.draw s.fresh 48)
      s |> modShake l (fun x => { x with cert := all, frags := frag + 1, step := 2, secret := s.fresh, ownShare := own })
        |> bumpFresh
        |> emit (.control l 18 own)

/-- Two parts of the transcript, the lower chip's first. -/
def lowFirst (s : State) (x : Shake) (own theirs : List Byte) : List Byte := if ownChip s < x.chip then own ++ theirs else theirs ++ own

/-- The transcript of steps 1 to 3. -/
def transcript3 (s : State) (x : Shake) : List Byte :=
  lowFirst s x (x.ownHello ++ (s.life.keys.getD {}).certChain ++ x.ownShare) (x.hello ++ x.cert ++ x.share)

/-- This block's PROOF. -/
def ownProof (s : State) (x : Shake) : List Byte := Config.ecdsaSign (s.life.keys.getD {}).linkScalar (transcript3 s x)

/-- The transcript of steps 1 to 4. -/
def transcript4 (s : State) (x : Shake) : List Byte := transcript3 s x ++ lowFirst s x (ownProof s x) x.proof

/-- One key of the session (R293). -/
def sessionKey (s : State) (x : Shake) (info : Nat) : List Byte :=
  Config.hkdf (Config.ecdhX (Config.draw x.secret 48) x.share) (Config.sha384 (transcript3 s x)) (le 1 info)

/-- The finished MAC of DONE. -/
def finishedMac (s : State) (x : Shake) : List Byte := (Config.hmac (sessionKey s x 3) (transcript4 s x)).take 32

/-- SHARE: this block answers with its PROOF. -/
def takeShare (l : Nat) (key : List Byte) (s : State) : State :=
  let k := link s l
  if !(k.state == lsAuth && k.shake.step == 2) then s
  else
    let s1 := modShake l (fun x => { x with share := key, step := 3 }) s
    emit (.control l 19 (ownProof s1 (link s1 l).shake)) s1

/-- PROOF: verified under the certificate's key; this block answers with DONE. -/
def takeProof (l : Nat) (sig : List Byte) (s : State) : State :=
  let k := link s l
  let x := k.shake
  if !(k.state == lsAuth && x.step == 3) then s
  else if !((partnerCert s x x.cert).any (fun c => Config.ecdsaOk c.key sig (transcript3 s x))) then authFail l 3 x.chip s
  else
    let s1 := modShake l (fun x => { x with proof := sig, step := 4 }) s
    emit (.control l 20 (finishedMac s1 (link s1 l).shake)) s1

/-- The handshake is complete: UP, or LIMITED before an image is loaded; credits and sequences start anew (R290, R294, R298). -/
def linkReady (l : Nat) (s : State) : State :=
  let x := (link s l).shake
  let low := decide (ownChip s < x.chip)
  modLink l (fun k => { formCredits k with
    state := if s.gnd.state == 3 then lsUp else lsLimited, cause := lcNone, partner := x.chip
    shake := { x with fails := 0, step := 5 }
    txKey := sessionKey s x (if low then 1 else 2), rxKey := sessionKey s x (if low then 2 else 1), txKeyGen := 0, rxKeyGen := 0
    rekeyAt := none, txSeq := 0, rxSeq := 0, txSince := 0, replays := 0, sinceControl := 0, nackAt := none
    queue := [], passed := [], retry := [], hbMissed := 0, hbSeen := true, hbRtts := [], hbEpochs := [], slowAt := now s, crcWin := [] }) s

/-- DONE: the MAC, and the protected round trips within 10 ns of the measured ones (R293, R296). -/
def takeDone (l : Nat) (mac : List Byte) (protectedRtt : Nat) (s : State) : State :=
  let k := link s l
  let x := k.shake
  let rtt := minOf 0 k.rtts
  if !(k.state == lsAuth && x.step == 4) then s
  else if !(mac == finishedMac s x) then authFail l 4 x.chip s
  else if rtt + 10 < protectedRtt || protectedRtt + 10 < rtt then authFail l 8 x.chip s
  else linkReady l s

/-- A LIMITED link when the image reaches LOADED (R289): a role without native lanes ends it, an unexpected partner fails it, any other
passes to UP. -/
def linkLoaded (l : Nat) (s : State) : State :=
  let k := link s l
  let c := chipLink s l
  let s1 := modLink l (fun k => { k with role := c.role, expected := c.partner, asym := c.asym }) s
  if !(k.state == lsLimited) then s1
  else if c.role == 0 || c.role == 3 then toDown l s1
  else if !(c.partner == 0x1FFFF || c.partner == k.partner) then authFail l 6 k.partner s1
  else modLink l (fun k => { k with state := lsUp, shared := k.shared }) s1

/-- Every link at LOADED; links that did not train start (R289). -/
def linksLoaded (s : State) : State := s |> forEach (linkNos s) linkLoaded |> syncLinks |> checkHorizon

/-! ### Echoes (R292, R297) -/

/-- An ECHO that this block sends. -/
def sendEcho (l at0 echoed : Nat) (s : State) : State :=
  s |> emit (.control l 3 (le 8 at0 ++ le 8 echoed ++ le 4 (drawValue s))) |> bumpFresh

/-- Sixteen good control flits in a row at the agreed width end ALIGN (R290). -/
def goodControl (l now0 : Nat) (s : State) : State :=
  let k := link s l
  if !(k.state == lsAlign) then s
  else
    let s1 := modLink l (fun k => { k with good := k.good + 1 }) s
    if 16 ≤ k.good + 1 && !(k.width == 0) then s1 |> modLink l (fun k => { k with state := lsMeasure, rtts := [] }) |> sendEcho l now0 0
    else s1

/-- MEASURE completes: the one-way delay, the horizon check, and AUTH (R40, R292). -/
def measured (l : Nat) (s : State) : State :=
  s |> modStk (fun x => { x with linkDelay := tput x.linkDelay l (minOf 0 (link s l).rtts / 2) })
    |> modLink l (fun k => { k with measured := true })
    |> checkHorizon
    |> enterAuth l

/-- An ECHO control flit (R292): in MEASURE it is one of 64 round trips. -/
def takeEcho (l sendTime echoed residence now0 : Nat) (s : State) : State :=
  let k := link s l
  if k.state == lsMeasure then
    let s1 := if echoed == 0 then s else modLink l (fun k => { k with rtts := k.rtts ++ [now0 - echoed - residence] }) s
    if 64 ≤ (link s1 l).rtts.length then measured l s1 else sendEcho l now0 sendTime s1
  else if k.state == lsAlign then goodControl l now0 s
  else if k.state == lsDown || k.state == lsWaitPhy || k.state == lsQuarantined || k.state == lsAbsent then s
  else sendEcho l now0 sendTime s

/-! ### Acknowledgement and replay (R301) -/

/-- How many unacknowledged flits an ACK of the low 16 bits `a` covers. -/
def ackCount (k : Link) (a : Nat) : Nat :=
  match k.retry.head? with
  | none => 0
  | some f => let n := (a + 65536 - f.lseq) % 65536 + 1
              if n ≤ k.retry.length then n else 0

/-- An ACK covers flits: they leave the retry buffer, and what waits may go (R301). -/
def takeAck (l a : Nat) (s : State) : State :=
  let n := ackCount (link s l) a
  if n == 0 then s
  else s |> modLink l (fun k => { k with retry := k.retry.drop n, replays := 0 }) |> pumpLink l

/-- Replay every unacknowledged flit in order; after 16 replays without progress the link retrains (R301). -/
def replay (l : Nat) (s : State) : State :=
  let k := link s l
  if k.retry.isEmpty then s
  else if 16 ≤ k.replays + 1 then s |> modErr l (fun e => { e with retry := satInc 12 e.retry }) |> toWait l lcNone
  else
    s |> modLink l (fun k => { k with replays := k.replays + 1, err := { k.err with retry := satInc 12 k.err.retry } })
      |> forEach k.retry (fun f => emit (.flit l f))

/-- A NACK of the expected LSEQ, at most once per microsecond (R297, R301). -/
def sendNack (l now0 : Nat) (s : State) : State :=
  let k := link s l
  if (match k.nackAt with | some t => decide (now0 < t + 1000) | none => false) then s
  else
    s |> emit (.control l 2 (le 2 k.rxSeq ++ ((List.range 6).flatMap (fun c => le 2 (lget k.consumed c 0)))))
      |> modLink l (fun k => { k with nackAt := some now0 })

/-- Credits come back, counted since training (R297, R299). -/
def takeCredits (l : Nat) (returned : List Nat) (s : State) : State :=
  s |> modLink l (fun k =>
        let k1 := (List.range 6).foldl (fun k c => returnCredit k c ((lget returned c 0 + 65536 - lget k.returned c 0 % 65536) % 65536)) k
        { k1 with returned := (List.range 6).map (fun c => lget returned c 0 % 65536) })
    |> pumpLink l

/-- A CREDIT control flit as this block sends it (R297). -/
def sendControl (l : Nat) (s : State) : State :=
  let k := link s l
  s |> emit (.control l 1 ((List.range 6).flatMap (fun c => le 2 (lget k.consumed c 0)))) |> modLink l (fun k => { k with sinceControl := 0 })

/-- The next key of a direction (R296). -/
def nextKey (k : List Byte) : List Byte := Config.hkdf k [] (bytes [6])

/-- The receiving key changes once its first LSEQ has come (R296). -/
def rekeyIn (k : Link) : Link :=
  match k.rekeyAt with
  | some n => if n ≤ k.rxSeq then { k with rxKey := nextKey k.rxKey, rxKeyGen := k.rxKeyGen + 1, rekeyAt := none } else k
  | none => k

end Sys2Proof.Machine
end

