-- ==== Sys2Proof/Machine/Analog.lean ====
section
/-!
DEFINITION. ANALOG slices on their own engine (R203, R429) and the deep test engine (R218).
-/
namespace Sys2Proof.Machine

open Sys2Proof

/-- The entry and its target: 0 a Watch lane, 1 a host PHY (R197). -/
def analogEntry (s : State) (i : Nat) : Golden := s.gnd.golden.getD i {}
def analogTarget (s : State) (i : Nat) : Nat := bitsOf (analogEntry s i).pattern 15 8
def analogIndex (s : State) (i : Nat) : Nat := bitsOf (analogEntry s i).pattern 7 0

/-- Seconds of the strictest mode among the partitions in an epoch, or of STRAP_MODE's (R203). -/
def analogSeconds (s : State) : Nat :=
  let ks := tfind s.parts (fun _ q => inEpoch q)
  minOf (sliceSeconds s.straps.mode) (ks.map (fun k => sliceSeconds (namedMode (modeEntry s k))))

/-- An ANALOG entry's period in strokes. -/
def analogPeriod (s : State) : Nat := Nat.max 1 (analogSeconds s * 1000000000 / Nat.max 1 s.tcfg.period)

/-- The entry may run now: at census, on demand, or one period after its last run. -/
def analogReady (s : State) (i : Nat) : Bool :=
  decide (i < s.gnd.golden.length) && (analogEntry s i).kind == skAnalog && (analogEntry s i).enabled && s.scr.cfg.analogEn &&
    s.scr.analog.isNone && lifeState s == 1 &&
    (s.boot.analogTodo.contains i || s.scr.analogTodo.contains i || decide (tgetD s.scr.analogLast i 0 + analogPeriod s ≤ now s))

/-- Loop-back runs on a lane that is untrained or quarantined. -/
def loopbackLane (s : State) (lane : Nat) : Bool :=
  let k := link s (lane / 2)
  !(k.lanes.contains (lane % 2)) || bitOf k.lanesBad (lane % 2) || k.state == lsQuarantined

/-- The access to a register of the target; 4 writes zero to the loop-back register. -/
def analogAccess (i reg : Nat) (s : State) : State :=
  let order := (analogEntry s i).seed % 256
  let data := if reg == 2 then 1 + 256 * (order % 32) else 0
  s |> emit (.testPort (analogTarget s i) (analogIndex s i) (if reg == 4 then 2 else reg) (reg == 2 || reg == 4) data)
    |> modScr (fun c => { c with analog := c.analog.map (fun x => { x with reg := reg }) })

/-- The engine takes an entry. -/
def startAnalog (i : Nat) (s : State) : State :=
  let loop := analogTarget s i == 0 && loopbackLane s (analogIndex s i)
  s |> modScr (fun c => { c with analog := some { entry := i, loopback := loop } }) |> analogAccess i (if loop then 2 else 0)

/-- ANALOG_DUE (R203). -/
def execAnalogDue (entry : Nat) (s : State) : Host.Outcome State Fault Refusal :=
  ok (if analogReady s entry then startAnalog entry s else s)

/-- The minima and the maximum of the entry hold (R197). -/
def analogPass (s : State) (x : Analog) : Bool :=
  let e := (analogEntry s x.entry).expected
  decide (bitsOf e 15 0 ≤ x.height) && decide (bitsOf e 31 16 ≤ x.width) && (!x.loopback || decide (x.errs ≤ bitsOf e 63 32))

/-- A target fails (R203): a lane goes to its link, a host PHY to the pod fault manager. -/
def analogFailed (x : Analog) (s : State) : State :=
  let t := analogTarget s x.entry
  let i := analogIndex s x.entry
  s |> recordBlock .analogFail (le 1 t ++ le 1 i ++ le 2 x.height ++ le 2 x.width ++ zeros 2 ++ le 4 x.errs)
    |> (if t == 0 then whenB (decide (i < 2 * s.build.links)) (laneFailed i) else reportPfm "ANALOG_FAIL")

/-- The engine is free again; census and a request need not wait for the entry any more. -/
def endAnalog (x : Analog) (pass : Bool) (s : State) : State :=
  s |> modScr (fun c => { c with
        analog := none, analogLast := tput c.analogLast x.entry (now s), analogTodo := without c.analogTodo x.entry
        result := if c.runEntry == some x.entry then 5 else c.result
        runEntry := if c.runEntry == some x.entry then none else c.runEntry
        pass := if pass then satInc 16 c.pass else c.pass, fail := if pass then c.fail else satInc 16 c.fail })
    |> modBoot (fun b => { b with analogTodo := without b.analogTodo x.entry })
    |> gcount 14 1
    |> whenB (!pass) (analogFailed x)

/-- One access of the engine has its answer. -/
def analogStep (x : Analog) (d : Nat) (s : State) : State :=
  let keep (y : Analog) : State := modScr (fun c => { c with analog := some y }) s
  match x.reg with
  | 2 => analogAccess x.entry 0 s
  | 0 => analogAccess x.entry 1 (keep { x with height := d % 65536 })
  | 1 => let y := { x with width := d % 65536 }
         if x.loopback then analogAccess x.entry 3 (keep y) else endAnalog y (analogPass s y) s
  | 3 => analogAccess x.entry 4 (keep { x with errs := d })
  | _ => endAnalog x (analogPass s x) s

/-- TEST_PORT_ACK (R203, R429). -/
def execTestPortAck (rdata : Nat) (s : State) : Host.Outcome State Fault Refusal :=
  ok <| match s.scr.analog with | some x => analogStep x rdata s | none => s

/-- TEST_PORT_TIMEOUT (R429): the target fails its slice. -/
def execTestPortTimeout (s : State) : Host.Outcome State Fault Refusal :=
  ok <| match s.scr.analog with | some x => endAnalog x false s | none => s

/-- DEEP_TEST_ACCESS (R218): ignored but where scan is granted. -/
def execDeepTestAccess (s : State) : Host.Outcome State Fault Refusal :=
  ok <| if !(lifeState s == 1) && s.life.scanOk then s
    else s |> modLife (fun x => { x with denied := true }) |> recordBlock .deepDenied (le 1 1 ++ zeros 3)

end Sys2Proof.Machine
end

