-- ==== Sys2Proof/Machine/HangOps.lean ====
section
/-!
DEFINITION. Progress counters and hangs (R253 to R256).
-/
namespace Sys2Proof.Machine

open Sys2Proof

/-- One of the four progress counters of a port. -/
def prog (s : State) (p n : Nat) : Prog := lget (sent s p).prog n {}

/-- Change one of the four progress counters of a port. -/
def modProg (p n : Nat) (f : Prog → Prog) : State → State :=
  modSent p (fun x => { x with prog := (List.range 4).map (fun i => if i == n then f (lget x.prog i {}) else lget x.prog i {}) })

/-- The counter's context is held by a gate with no released command outstanding (R255). -/
def gateHolds (s : State) (p c : Nat) : Bool :=
  s.rcv.gates.any (fun g => g.ctx == c && g.ports.contains p && !(g.waits.contains p) && !(g.stepping.contains p))

/-- The stroke that ends is counted for a counter (R255): the sentinel was not idle, held, in reset or gated. -/
def countedStroke (s : State) (p n ended : Nat) : Bool :=
  let x := sent s p
  !x.idle && !x.inReset && !(heldIn s p ended) && !(gateHolds s p (prog s p n).ctx)

/-- One counter at the end of a stroke: a move re-arms it, a counted stroke lengthens or ends its run (R255). -/
def progEnd (counted : Bool) (c : Prog) : Prog :=
  let c1 := { c with moved := false, actNow := c.act, actLast := c.actNow || c.act }
  if c.moved then { c1 with run := 0, hung := false }
  else if !counted then c1
  else if c.actNow || c.act then { c1 with run := c.run + 1 }
  else { c1 with run := 0 }

/-- What the children of an assembly show of counter `i` in the stroke that ends: some child has an active context on it, and every
such child advanced (R47). -/
def asmMoves (s : State) (i : Nat) : Nat → Nat → Bool × Bool
  | 0, _ => (false, true)
  | fuel + 1, a =>
    let ports := ((aggPorts s a).filter (fun p => working (tile s p))).map (fun p =>
      let c := prog s p i
      (c.act || c.actNow, c.moved))
    let asms := (asmChildren s a).map (fun b => (fun r : Bool × Bool => (r.1, r.1 && r.2)) (asmMoves s i fuel b))
    let act := (ports ++ asms).filter (fun r => r.1)
    (!act.isEmpty, act.all (fun r => r.2))

/-- An assembly's counter at the end of a stroke: it advances by one when every active child advanced (R47, R255). -/
def asmProg (s : State) (a i : Nat) (c : Prog) : Prog :=
  let r := asmMoves s i 17 a
  let step := r.1 && r.2
  progEnd r.1 { c with act := r.1, actNow := false, moved := step, count := if step then (c.count + 1) % 2 ^ 32 else c.count }

/-- The tick ends the stroke for every counter. -/
def progTick (ended : Nat) (s : State) : State :=
  { s with
    sents := tmap s.sents (fun p x =>
      { x with prog := x.prog.mapIdx (fun n c => progEnd (countedStroke s p n ended) c) })
    gnd := { s.gnd with tree := tmap s.gnd.tree (fun a x =>
      { x with prog := (List.range 4).map (fun i => asmProg s a i (lget x.prog i {})) }) } }

/-- The counters that Judge finds hung: port, number and counter. -/
def hungProgs (s : State) : List (Nat × Nat × Prog) :=
  s.sents.flatMap (fun e =>
    ((List.range e.2.prog.length).zip e.2.prog).filterMap (fun c =>
      if e.2.attached && !c.2.hung && decide (s.gnd.policy.hangW ≤ c.2.run) && decide (1 ≤ c.2.run) then some (e.1, c.1, c.2) else none))

/-- A HANG record (R256). -/
def hangRecord (p n : Nat) (c : Prog) (s : State) : State :=
  s |> record .hang (nodeOf p) (le 1 n ++ zeros 1 ++ le 2 c.ctx ++ le 6 c.lastMove ++ zeros 2)
    |> modProg p n (fun c => { c with hung := true })
    |> modRcv (fun r => { r with hangs := satInc 16 r.hangs })
    |> pcountJudged (tile s p).part 12 1

/-- Judge: records, then one teardown for each context of the hung counters (R256). -/
def judgeHangs (s : State) : State :=
  let hs := hungProgs s
  let cs := hs.foldl (fun (l : List (Nat × Nat)) h => if l.any (fun x => x.1 == h.2.2.ctx) then l else l ++ [(h.2.2.ctx, h.1)]) []
  s |> forEach hs (fun h => hangRecord h.1 h.2.1 h.2.2)
    |> forEach cs (fun c s => startTeardown false c.1 (ctx s c.1).parts acHang (nodeOf c.2) false s)

end Sys2Proof.Machine
end

