-- ==== Sys2Proof/Machine/JoinOps.lean ====
section
/-!
DEFINITION. RCV_JOIN: the command block, its checks in order, and what an accepted JOIN or LEAVE does (R270 to R273, R279, R280).
-/
namespace Sys2Proof.Machine

open Sys2Proof

/-! ### Results of RCV_JOIN (R285) -/

def jrDone : Nat := 1
def jrBadBlock : Nat := 2
def jrBadSig : Nat := 3
def jrConfig : Nat := 4
def jrNotReady : Nat := 5
def jrBusy : Nat := 6
def jrLateStart : Nat := 7
def jrReused : Nat := 8
def jrUnwrap : Nat := 9
def jrNotMember : Nat := 10
def jrPending : Nat := 11

/-- A command block (R270); `seed` is the unwrapped seed of a JOIN, when its tag is valid. -/
structure JoinBlk where
  leave : Bool
  epoch : Nat
  members : Nat
  parts : List Nat
  stroke : Nat
  parent : Nat
  children : List Nat
  restore : Nat
  config : List Byte
  seed : Option (List Byte)
  sigOk : Bool

/-- The link fields of a JOIN name links that the block has. -/
def joinLinksOk (s : State) (parent children : Nat) : Bool :=
  (parent == 0xFF || decide (parent < s.build.links)) && decide (children < 2 ^ s.build.links)

/-- The block in memory, or nothing when order 1 of R271 fails: MAGIC, FMT, OP, the fields' ranges, zero bytes, and PARTS that name
defined partitions. -/
def joinBlk (s : State) (bs : List Byte) : Option JoinBlk :=
  let op := rd bs 5 1
  let ks := bitsIn 64 (rd bs 16 8)
  let leave := op == 2
  let keys := s.life.keys.getD {}
  let signed0 := slice bs 0 128
  if decide (224 ≤ bs.length) && slice bs 0 4 == bytes [0x44, 0x57, 0x4A, 0x4E] && rd bs 4 1 == 4 && (op == 1 || op == 2) &&
      zeroAt bs 6 2 && !(rd bs 8 4 == 0) && decide (1 ≤ rd bs 12 4) && decide (rd bs 12 4 ≤ 131072) &&
      !ks.isEmpty && ks.all (fun k => (part s k).valid) && zeroAt bs 38 2 && zeroAt bs 116 12 &&
      (if leave then zeroAt bs 56 60 else joinLinksOk s (rd bs 30 1) (rd bs 31 1)) then
    some {
      leave := leave, epoch := rd bs 8 4, members := rd bs 12 4, parts := ks, stroke := rd bs 24 6, parent := rd bs 30 1
      children := bitsIn 8 (rd bs 31 1), restore := rd bs 32 6, config := slice bs 40 16
      seed := if s.life.keys.isNone then none else Config.gcmOpen keys.joinKey (slice bs 56 12) (slice bs 0 56) (slice bs 68 32) (slice bs 100 16)
      sigOk := s.life.keys.isSome && Config.ecdsaOk keys.ledgerKey (slice bs 128 96) signed0 }
  else none

/-- The block as a whole may not join (R271, order 5). -/
def blockNotReady (s : State) : Bool :=
  !(ticking s) || !(s.gnd.state == 3) || s.gnd.short || s.stk.conflictMaster || s.stk.conflictPin || s.stk.mismatch

/-- Order 5 of R271. -/
def joinNotReady (s : State) (b : JoinBlk) : Bool :=
  blockNotReady s || (!b.leave && b.parts.any (fun k => !(partReady s k) || (part s k).state == psHeld))

/-- The stroke at whose tick a partition leaves its epoch, when one is set (R276, R279). -/
def leavesAt (s : State) (q : Part) : Option Nat :=
  let ab := if q.state == psAborting then (epoch? s q.epoch).bind (fun x => x.abortAt) else none
  match ab, q.leaveAt with
  | some x, some y => some (Nat.min x y)
  | some x, none => some x
  | none, y => y

/-- A partition holds a gated context. -/
def partGated (s : State) (k : Nat) : Bool := s.rcv.ctxs.any (fun e => e.2.state == cxGated && e.2.parts.contains k)

/-- A partition cannot take a JOIN at a stroke (R271, order 8; R279). -/
def partBusy (s : State) (st k : Nat) : Bool :=
  let q := part s k
  partGated s k || q.pending.isSome || q.state == psPending ||
    (inEpoch q && (match leavesAt s q with | some x => decide (st ≤ x) | none => true))

/-- A JOIN of an epoch that the block holds does not match the first one (R272). -/
def joinDiffers (s : State) (b : JoinBlk) : Bool :=
  match epoch? s b.epoch with
  | none => false
  | some x =>
    (holders s b.epoch).all (fun k => (part s k).state == psAborting && (part s k).epoch == b.epoch) ||
      !(x.members == b.members && x.parent == b.parent && x.children == b.children && x.restore == b.restore && x.config == b.config &&
        b.seed == some x.seed) || decide (b.stroke < x.first)

/-- The first failure among orders 1 to 8 of R271, or PENDING. -/
def joinCheck (s : State) (addr : Nat) (blk : MemRead) : Nat × Option JoinBlk :=
  if !(addr % 64 == 0) then (jrBadBlock, none)
  else match blk.bind (joinBlk s) with
    | none => (jrBadBlock, none)
    | some b =>
      if !b.sigOk then (jrBadSig, none)
      else if !(b.config == fit 16 s.gnd.configDigest) then (jrConfig, none)
      else if !b.leave && b.seed.isNone then (jrUnwrap, none)
      else if joinNotReady s b then (jrNotReady, none)
      else if s.rcv.left.contains b.epoch then (jrReused, none)
      else if b.stroke < now s + 2 then (jrLateStart, none)
      else if b.leave then
        if b.parts.all (fun k => (part s k).epoch == b.epoch && (inEpoch (part s k) || (part s k).state == psPending)) then (jrPending, some b)
        else (jrNotMember, none)
      else if b.parts.any (partBusy s b.stroke) || joinDiffers s b then (jrBusy, none)
      else (jrPending, some b)

/-- The block keeps what a JOIN says of its epoch; the first JOIN sets the first stroke (R271, R272). -/
def noteEpoch (b : JoinBlk) (s : State) : State :=
  if (epoch? s b.epoch).isSome then s
  else
    { s with epochs := s.epochs ++ [{
        id := b.epoch, members := b.members, parent := b.parent, children := b.children, restore := b.restore, config := b.config
        seed := b.seed.getD [], first := b.stroke }] }

/-- A named partition becomes PENDING, or is queued until it has left (R271, R279). -/
def admitPart (b : JoinBlk) (k : Nat) (s : State) : State :=
  let s1 := modPart k (fun q => { q with pending := some (b.epoch, b.stroke) }) s
  if inEpoch (part s k) then s1 else setPart k psPending b.epoch s1

/-- An accepted command (R271). -/
def joinAccept (b : JoinBlk) (s : State) : State :=
  let s1 := if b.leave then
      forEach b.parts (fun k => modPart k (fun q => { q with leaveAt := some (earlier q.leaveAt b.stroke) })) s
    else s |> noteEpoch b |> forEach b.parts (admitPart b)
  modRcv (fun r => { r with joinDone := some b.stroke }) s1

/-- A write of RCV_JOIN: ADDR, and with GO the command at it (R271). -/
def joinWrite (v : Word) (blk : MemRead) (s : State) : State :=
  let s1 := modRcv (fun r => { r with joinAddr := fld v 47 0 / 64 * 64 }) s
  if !(fbit v 63) then s1
  else
    let c := joinCheck s1 (fld v 47 0) blk
    let s2 := modRcv (fun r => { r with joinResult := c.1, joinDone := none }) s1
    match c.2 with
    | some b => joinAccept b s2
    | none => s2

/-- RCV_JOIN reads DONE from the tick of the command's STROKE (R271). -/
def joinTick (s : State) : State :=
  match s.rcv.joinDone with
  | some n => if n ≤ now s then modRcv (fun r => { r with joinDone := none, joinResult := jrDone }) s else s
  | none => s

/-! ### At the tick of STROKE (R271, R280) -/

/-- The first partition of an epoch begins its energy, and an epoch of more than 1,024 blocks under TREND takes TIMER (R280,
R386). -/
def beginEpoch (k e : Nat) (s : State) : State :=
  if s.energies.any (fun x => x.epoch == e) then s
  else
    let big := match epoch? s e with | some x => decide (1024 < x.members) | none => false
    let s1 := { s with energies := s.energies ++ [{ epoch := e, first := now s, start := s.pwr.energy }] }
    whenB (big && s.gnd.policy.ckptTrigger == 0)
      (recPart .ckptTriggerForced noNode k (le 4 e ++ le 4 (match epoch? s e with | some x => x.members | none => 0) ++ le 1 k ++ zeros 3)) s1

/-- The trigger in effect for an epoch's partitions is TIMER (R280). -/
def timerFor (s : State) (e : Nat) : Bool :=
  s.gnd.policy.ckptTrigger == 1 || (match epoch? s e with | some x => decide (1024 < x.members) | none => false)

/-- Contexts that a partition's counters name bind anew (R257). -/
def rebindPart (k : Nat) (s : State) : State :=
  s |> unbindPart k
    |> forEach (workPorts s k) (fun p s => forEach (((sent s p).prog.filter (fun c => c.act)).map (fun c => c.ctx)) (nameContext p) s)

/-- A PENDING partition becomes MEMBER (R35, R271, R272). -/
def joinPart (k e t : Nat) (s : State) : State :=
  s |> modPart k (fun q => { q with
        pending := none, joined := t, phase := 0, phaseNext := [], marks := [], firstMark := true, verifiedValid := false
        lastVarnish := none, sealed := [], ckptOverdue := false, ckptDone := false, timer := timerFor s e, tallyFails := [] })
    |> beginEpoch k e
    |> setPart k psMember e
    |> rebindPart k

end Sys2Proof.Machine
end

