-- ==== Sys2Proof/Machine/Copyist.lean ====
section
/-!
DEFINITION. The Copyist's commands (R137 to R167): command tags, tap beats, completions, pieces, canaries, the copy store and peer
recompute.
-/
namespace Sys2Proof.Machine

open Sys2Proof

/-! ### Command tags (R144, R230, R418, R420) -/

/-- A sentinel that takes commands: attached, in service and not HIDDEN. -/
def sentinelOn (s : State) (p : Nat) : Bool :=
  (sent s p).attached && !(sent s p).failed && !((tile s p).state == tsHidden)

/-- Directed sampling: a suspect sentinel, or one of a duplex pair that disagreed (R146, R160). -/
def directedNow (s : State) (p : Nat) : Bool := (sent s p).health.code == 2 || decide (now s < (sent s p).samp.directedUntil)

/-- A reused command slot closes the earlier command; its capture in progress is INCOMPLETE (R420). -/
def closeSlot (p c : Nat) (s : State) : State :=
  match tget (sent s p).cmds c with
  | none => s
  | some x =>
    let s1 := modSent p (fun y => { y with cmds := tdel y.cmds c }) s
    match x.capture with
    | none => s1
    | some id => match capture? s1 id with
      | some k => if k.state == 0 then dropCapture id 0x05 (now s1) s1 else s1
      | none => s1

/-- What a command leaves in the touch summary of a stroke in which it runs (R230). -/
def touchRun (t : TagCmd) (x : Touch) : Touch :=
  { x with buf := setBit x.buf (t.layer % 24), coll := if t.collValid then setBit x.coll (t.coll % 16) else x.coll
           duplex := x.duplex || t.dup }

/-- A command is accepted or completed in the stroke. -/
def touchActive (t : TagCmd) (x : Touch) : Touch := { touchRun t x with active := true }

/-- The command as Dwehal takes it: an undefined OPC or SUBOP counts as OPC 0x00 (R83). -/
def takenCmd (t : TagCmd) : TagCmd := if opcDefined t.opc t.subop then t else { t with opc := 0 }

/-- The command enters its slot and its stroke's summary, counters and phases (R35, R230, R257, R358). -/
def enterCmd (p : Nat) (t : TagCmd) (rsp partner : Nat) (cap dup : Option Nat) (s : State) : State :=
  s |> modSent p (fun x => { x with
        cmds := tput x.cmds t.cslot { tag := takenCmd t, stroke := now s, resp := rsp, partner := partner, capture := cap, dupIdx := dup }
        phases := insAsc x.phases (t.phase % 16)
        touch := touchActive t x.touch })
    |> nameContext p (t.ctx % 4096)
    |> pcount (tile s p).part 1 1
    |> whenB (!((takenCmd t).opc == 0)) (pcount (tile s p).part 2 1)
    |> emit (.tagResponse p rsp partner)

/-- The draw of a command (R144). -/
def drawOf (s : State) (p : Nat) (t : TagCmd) : Nat :=
  sipHash (keyOf s (epochOf s (tile s p).part) (now s)) (le 2 (tile s p).logical ++ le 4 t.seq) % 2 ^ 32

/-- A drawn command that can be captured is captured; one that cannot is UNCOVERED (R149, R150). -/
def copySampled (p : Nat) (t : TagCmd) (s : State) : State :=
  let s1 := s |> modSent p (fun x => { x with samp := { x.samp with sampled := satInc 16 x.samp.sampled } })
              |> pcount (tile s p).part 3 1
  if drawBlocked s t == 0 then s1 |> openCapture p t (directedNow s p) |> enterCmd p t 1 0 (some s.cpy.nextCap) none
  else s1 |> dropCheck p (drawBlocked s t) (now s) t |> enterCmd p t 0 0 none none

/-- A duplexed command: the host runs it again on the partner (R158). -/
def duplexed (p q : Nat) (t : TagCmd) (s : State) : State :=
  s |> modSent p (fun x => { x with samp := { x.samp with duplexed := satInc 16 x.samp.duplexed } })
    |> pcount (tile s p).part 4 1
    |> modCpy (fun c => { c with
        duplexes := tput c.duplexes c.nextDup
          { port := p, partner := q, seq := t.seq, epoch := epochOf s (tile s p).part, tag := t }
        nextDup := c.nextDup + 1 })
    |> enterCmd p t 2 (tile s q).logical none (some s.cpy.nextDup)

/-- The open duplex check whose duplicate this command is (R158). -/
def dupOf (s : State) (p : Nat) (t : TagCmd) : Option Nat :=
  (s.cpy.duplexes.find? (fun e => !e.2.closed && e.2.partner == p && e.2.seq == t.seq && e.2.dupDone.isNone)).map Prod.fst

/-- A tag is accepted: drawn, duplexed, a duplicate, or none (R144, R420). -/
def acceptTag (p : Nat) (t : TagCmd) (s : State) : State :=
  let u := drawOf s p t
  let x := (sent s p).samp
  if t.dup then enterCmd p t 0 0 none (dupOf s p t) s
  else if (takenCmd t).opc == 0 || !(inEpoch (part s (tile s p).part)) then enterCmd p t 0 0 none none s
  else if u < x.thetaC then copySampled p t s
  else if u < x.thetaC + x.thetaD then
    match x.partner with
    | some q => duplexed p q t s
    | none => enterCmd p t 0 0 none none s
  else enterCmd p t 0 0 none none s

/-- COMMAND_TAG (R83, R144, R420). -/
def execCommandTag (port : Nat) (t : TagCmd) (s : State) : Host.Outcome State Fault Refusal :=
  onUnit "port" port s.build.ports <|
    if sentinelOn s port then
      s |> closeSlot port t.cslot
        |> whenB (!(opcDefined t.opc t.subop) && !(t.opc == 0))
            (record .opcUnknown (nodeOf port) (le 1 t.opc ++ le 1 t.subop ++ zeros 2))
        |> acceptTag port t
    else s

/-! ### Tap beats (R148, R421) -/

/-- The bytes of a beat with their places. -/
def beatBytes (b : TapBeat) : List (Nat × Nat × Byte) := (b.data.take b.bytes).mapIdx (fun i x => (b.stream, b.offset + i, x))

/-- A beat that keeps the rules of R421: whole unless it ends its stream. -/
def beatOk (t : TagCmd) (b : TapBeat) : Bool :=
  decide (1 ≤ b.bytes) && decide (b.bytes ≤ 64) && b.offset % 64 == 0 &&
    (b.bytes == 64 || (streamLens t b.stream).contains (b.offset + b.bytes))

/-- A byte presented again with another value (R150). -/
def beatDiffers (old new : List (Nat × Nat × Byte)) : Bool :=
  new.any (fun x => match capByte old x.1 x.2.1 with | some y => !(y == x.2.2) | none => false)

/-- Each byte is kept once. -/
def addBeat (old new : List (Nat × Nat × Byte)) : List (Nat × Nat × Byte) :=
  old ++ new.filter (fun x => (capByte old x.1 x.2.1).isNone)

/-- A capture holds every byte its tag declared, and its descriptor is one the Copyist accepts (R150, R152). -/
def captureWhole (s : State) (c : Capture) : Bool :=
  decide (c.tag.bytes ≤ c.bytes.length) && fmtsOk c.tag && decide (1 ≤ c.tag.m) && decide (1 ≤ c.tag.n) && decide (1 ≤ c.tag.k) &&
    !(splitPieces s.tcfg.period c.tag).isEmpty

/-- The LAST beat closes a capture (R150, R151). -/
def captureLast (id : Nat) (s : State) : State :=
  match capture? s id with
  | none => s
  | some c =>
    if c.diverge then
      s |> copyFail c.port (now s) ckRecompute c.tag (copyFailBody c.tag 1 4 0 0 0 0 0 0)
        |> landCheck { portChk s c.port (now s) ckRecompute vFail with
                         epoch := c.epoch, part := c.part, opc := c.tag.opc, layer := c.tag.layer }
        |> freeCapture id
    else if !(captureWhole s c) then dropCapture id 0x05 (now s) s
    else
      s |> modCap id (fun y => { y with
            state := 1, last := now s
            pieces := (splitPieces s.tcfg.period c.tag).map (fun q => { j0 := q.1, jn := q.2.1, cost := q.2.2 }) })
        |> gcount 7 (c.bytes.length / 1024)
        |> issueMem (.capture id)

/-- A beat of a captured command; one that overflows the tap FIFO aborts the capture (R150). -/
def captureBeat (id : Nat) (b : TapBeat) (s : State) : State :=
  match capture? s id with
  | none => s
  | some c =>
    if !(c.state == 0) then s
    else if b.overflow then dropCapture id 0x04 (now s) s
    else
      let new := if beatOk c.tag b then beatBytes b else []
      s |> modCap id (fun y => { y with bytes := addBeat y.bytes new, diverge := y.diverge || beatDiffers y.bytes new })
        |> whenB b.last (captureLast id)

/-- A result beat of a duplexed command or of its duplicate: streams 6 and 7 (R421). -/
def duplexBeat (idx : Nat) (dup : Bool) (b : TapBeat) : State → State := modCpy (fun c => { c with
  duplexes := tadj c.duplexes idx (fun d =>
    if !(b.stream == 6 || b.stream == 7) || !(beatOk d.tag b) then d
    else if dup then { d with dupBytes := addBeat d.dupBytes (beatBytes b) }
    else { d with ownBytes := addBeat d.ownBytes (beatBytes b) }) })

/-- TAP_BEAT (R148, R421): a beat of a slot that is neither captured nor duplexed is ignored. -/
def execTapBeat (port : Nat) (b : TapBeat) (s : State) : Host.Outcome State Fault Refusal :=
  onUnit "port" port s.build.ports <|
    match tget (sent s port).cmds b.cslot with
    | none => s
    | some x => match x.capture, x.dupIdx with
      | some id, _ => captureBeat id b s
      | none, some i => duplexBeat i x.tag.dup b s
      | none, none => s

/-! ### Completion and duplex checks (R159, R160) -/

/-- The result streams of one side of a duplex check, in contract layout. -/
def resultStream (bs : List (Nat × Nat × Byte)) (st : Nat) : List Byte :=
  (List.range (maxOf ((bs.filter (fun x => x.1 == st)).map (fun x => x.2.1 + 1)))).map (fun o => (capByte bs st o).getD 0)

/-- The digest of one side (R193). -/
def duplexDigest (s : State) (e : Nat) (bs : List (Nat × Nat × Byte)) : Nat :=
  digest (pointOf s e) (wordsOf (resultStream bs 6) ++ wordsOf (resultStream bs 7))

/-- Close a duplex check. -/
def closeDuplex (idx : Nat) : State → State := modCpy (fun c => { c with
  duplexes := tadj c.duplexes idx (fun d => { d with closed := true }) })

/-- A duplex verdict of one sentinel. -/
def duplexChk (s : State) (d : Duplex) (p q n code : Nat) : Chk :=
  { portChk s p n ckDuplex code with epoch := d.epoch, part := (tile s d.port).part, partner := q, opc := d.tag.opc
                                     layer := d.tag.layer }

/-- Directed sampling for 10,000 strokes (R160). -/
def directFor (p : Nat) (s : State) : State :=
  modSent p (fun x => { x with samp := { x.samp with directedUntil := now s + 10000 } }) s

/-- Both results have completed: PASS for both, or FAIL for both (R159, R160). -/
def judgeDuplex (idx : Nat) (s : State) : State :=
  match tget s.cpy.duplexes idx with
  | none => s
  | some d =>
    let a := duplexDigest s d.epoch d.ownBytes
    let b := duplexDigest s d.epoch d.dupBytes
    if d.closed || d.ownDone.isNone || d.dupDone.isNone then s
    else if a == b then
      s |> closeDuplex idx |> landCheck (duplexChk s d d.port d.partner (now s) vPass)
        |> landCheck (duplexChk s d d.partner d.port (now s) vPass)
    else
      let fail (p x y : Nat) (s : State) : State :=
        copyFail p (now s) ckDuplex d.tag (copyFailBody d.tag 2 0 0 0 (x % 2 ^ 32) (y % 2 ^ 32) 0 0) s
      s |> closeDuplex idx |> fail d.port a b |> fail d.partner b a |> directFor d.port |> directFor d.partner
        |> landCheck (duplexChk s d d.port d.partner (now s) vFail)
        |> landCheck (duplexChk s d d.partner d.port (now s) vFail)

/-- One side has completed. -/
def duplexDone (idx : Nat) (dup : Bool) (s : State) : State :=
  s |> modCpy (fun c => { c with duplexes := tadj c.duplexes idx (fun d =>
        if dup then { d with dupDone := some (d.dupDone.getD (now s)) } else { d with ownDone := some (d.ownDone.getD (now s)) }) })
    |> judgeDuplex idx

/-- CMD_DONE (R159, R420): the slot is free; a duplex check may be complete. -/
def execCmdDone (port cslot : Nat) (s : State) : Host.Outcome State Fault Refusal :=
  onUnit "port" port s.build.ports <|
    match tget (sent s port).cmds cslot with
    | none => s
    | some x =>
      let s1 := modSent port (fun y => { y with cmds := tdel y.cmds cslot, touch := touchActive x.tag y.touch }) s
      match x.dupIdx with
      | some i => duplexDone i x.tag.dup s1
      | none => s1

/-- A duplex check ends without a comparison: UNCOVERED at both sentinels for stroke `n` (R150, R159). -/
def duplexUncovered (idx n : Nat) (s : State) : State :=
  match tget s.cpy.duplexes idx with
  | none => s
  | some d =>
    s |> closeDuplex idx |> dropRecord d.port 0x0F d.tag |> dropRecord d.partner 0x0F d.tag
      |> landCheck (duplexChk s d d.port d.partner n vUncovered)
      |> landCheck (duplexChk s d d.partner d.port n vUncovered)

/-- DUPLEX_REFUSE (R159, R420). -/
def execDuplexRefuse (port cslot : Nat) (s : State) : Host.Outcome State Fault Refusal :=
  onUnit "port" port s.build.ports <|
    match tget (sent s port).cmds cslot with
    | none => s
    | some x => match x.dupIdx with
      | none => s
      | some i =>
        let shut := match tget s.cpy.duplexes i with | some d => d.closed | none => true
        if x.tag.dup || shut then s
        else
          s |> record .duplexRefused (nodeOf port) (le 2 x.partner ++ zeros 2 ++ le 4 x.tag.seq)
            |> duplexUncovered i (now s)

/-- DUPLEX_MISSING (R159): one result completed in stroke o, the other not by the end of stroke o + 4. -/
def execDuplexMissing (idx : Nat) (s : State) : Host.Outcome State Fault Refusal :=
  ok <| match tget s.cpy.duplexes idx with
    | none => s
    | some d => match d.ownDone, d.dupDone with
      | some o, none => if !d.closed && decide (o + 5 ≤ now s) then duplexUncovered idx (o + 4) s else s
      | none, some o => if !d.closed && decide (o + 5 ≤ now s) then duplexUncovered idx (o + 4) s else s
      | _, _ => s

/-- CAPTURE_TOO_LONG (R150): no LAST within 4,096 strokes, strokes stopped by request not counted. -/
def execCaptureTooLong (cap : Nat) (s : State) : Host.Outcome State Fault Refusal :=
  ok <| match capture? s cap with
    | none => s
    | some c => if c.state == 0 && decide (c.accepted + 4096 + c.stopped + stoppedFor s c.port c ≤ now s) then dropCapture cap 0x08 (now s) s else s

/-! ### Pieces (R153 to R155) -/

/-- The details of a mismatch (R157). -/
def noteDiffs (d : List (Nat × Nat × Nat)) (how : Nat) (x : Piece) : Piece :=
  let f := d.headD (0, 0, 0)
  { x with differs := d.length, firstDiff := f.1, hostBits := f.2.1, copyBits := f.2.2
           diffOr := d.foldl (fun n e => n ||| (e.2.1 ^^^ e.2.2)) 0, how := how }

/-- A piece has its verdict. -/
def pieceVerdict (id i code : Nat) (s : State) : State :=
  s |> modPiece id i (fun x => { x with state := 2, verdict := code }) |> judgeCapture id

/-- A first run that mismatches: the confirm run is admitted at once, or, in Publish and Guard, in the next Gather (R154, R155). -/
def startConfirm (id i g : Nat) (vals : List Nat) (s : State) : State :=
  s |> modPiece id i (fun x => { x with state := 0, run := 2, mismatch := true, firstRun := vals, firstGroup := g })
    |> whenB (decide (s.stk.phase ≤ 1)) (admitConfirm id i)

/-- A confirm run ends (R155). -/
def confirmDone (id i : Nat) (c : Capture) (x : Piece) (vals : List Nat) (d : List (Nat × Nat × Nat)) (s : State) : State :=
  if vals == x.firstRun then
    s |> modPiece id i (noteDiffs d (if x.rotated then 2 else 1)) |> pieceVerdict id i vFail
  else if d.isEmpty then
    s |> copyDisagree (nodeOf c.port) 1 x.firstGroup x.group c.tag 0
      |> groupCanary x.firstGroup
      |> modCpy (fun y => { y with disagreeNow := y.disagreeNow + 1 })
      |> pieceVerdict id i vPass
  else
    s |> copyDisagree (nodeOf c.port) 2 x.firstGroup x.group c.tag 0
      |> groupCanary x.firstGroup
      |> groupCanary x.group
      |> endPiece id i 0x0E

/-- A run of a piece ends on its group (R155). -/
def pieceRun (id i : Nat) (r : GroupResult) (s : State) : State :=
  match capture? s id with
  | none => s
  | some c => match c.pieces[i]? with
    | none => s
    | some x =>
      if !(x.state == 1) then s
      else if r == .ringCrc then endPiece id i 0x09 s
      else
        let es := pieceResult c.bytes c.tag x.j0 x.jn
        let vals := groupValues es r
        let d := diffs c.bytes es vals
        let s1 := countMflop x.cost s
        if x.run == 2 then confirmDone id i c x vals d s1
        else if d.isEmpty then pieceVerdict id i vPass s1
        else startConfirm id i x.group vals s1

/-- The value a group gives for an ARITH entry. -/
def goldenRun (e g : Nat) (r : GroupResult) (s : State) : State :=
  match s.gnd.golden[e]? with
  | none => s
  | some x => match r with
    | .contract => goldenValue e g (arithDigest ((arithResult x.pattern x.seed).map (fun y => y.bits))) s
    | .faulty bs => goldenValue e g (digest fixedPoint (wordsOf bs) % 2 ^ 64) s
    | .ringCrc => s

/-- PIECE_COMPLETE (R155, R164, R199). `cap` numbers a capture; 2^40 + i is the request served at place i; 2^41 + e is the
reference run of GOLDEN entry e, on copy group `piece`. -/
def execPieceComplete (cap piece : Nat) (r : GroupResult) (s : State) : Host.Outcome State Fault Refusal :=
  ok <| if cap < 2 ^ 40 then pieceRun cap piece r s
        else if cap < 2 ^ 41 then peerServed (cap - 2 ^ 40) r s
        else if (liveGroups s).contains piece then goldenRun (cap - 2 ^ 41) piece r s
        else s

/-- BACKLOG_DROP (R154): a piece that neither Gather admitted is dropped from the start of the third. -/
def execBacklogDrop (cap piece : Nat) (s : State) : Host.Outcome State Fault Refusal :=
  ok <| match capture? s cap with
    | none => s
    | some c => match c.pieces[piece]? with
      | none => s
      | some x =>
        if c.state == 1 && x.state == 0 && x.run == 1 && decide (c.last + 3 ≤ now s) then endPiece cap piece 0x0A s else s

/-! ### Canaries (R161, R162) -/

/-- CPY_CFG.CANARY_PERIOD as it acts (R166). -/
def canaryPeriod (s : State) : Nat := Nat.max 16 s.cpy.eff.canaryPeriod

/-- CANARY_DUE (R161): the set runs in the next Publish. -/
def execCanaryDue (unit : Nat) (s : State) : Host.Outcome State Fault Refusal :=
  onUnit "copy unit" unit s.build.units <|
    if (cunit s unit).up && decide ((cunit s unit).due ≤ now s) then
      modUnit unit (fun x => { x with runNext := true, due := now s + canaryPeriod s }) s
    else s

/-- CANARY_COMPLETE (R162): the set of a unit ends, with the first kernel that failed. -/
def execCanaryComplete (unit : Nat) (failKernel : Option Nat) (s : State) : Host.Outcome State Fault Refusal :=
  onUnit "copy unit" unit s.build.units <|
    if (cunit s unit).running then
      let s1 := s |> endCanary unit |> modCpy (fun c => { c with canaryRuns := satInc 16 c.canaryRuns })
                  |> modBoot (fun b => { b with canaryTodo := without b.canaryTodo unit })
      match failKernel with
      | none => unitPass unit s1
      | some k => s1 |> modCpy (fun c => { c with canaryFails := satInc 16 c.canaryFails }) |> unitFail unit k
    else s

/-- CANARY_RUN (R166): a write of CPY_CANARY with RUN set. -/
def execCanaryRun (a : Access) (v : Word) (s : State) : Host.Outcome State Fault Refusal :=
  ok <| privWrite a aCpyCanary
    (whenB (fbit v 63) (fun s => forEach (upUnits s) (fun u => modUnit u (fun x => { x with runNext := true })) s)) s

/-! ### Copy store and CPY_CFG (R139, R166, R405) -/

/-- Buffers built: 64 for each copy unit (R139). -/
def bufferCount (s : State) : Nat := 64 * s.build.units

/-- A division of the tokens that R139 admits. -/
def poolsOk (s : State) (l g v : Nat) : Bool :=
  l + g + v == bufferCount s && decide (s.cpy.heldLanding ≤ l) && decide (s.cpy.heldStaging ≤ g) && decide (s.cpy.heldService ≤ v)

/-- CPY_STORE_WRITE (R139). -/
def execCpyStoreWrite (a : Access) (v : Word) (s : State) : Host.Outcome State Fault Refusal :=
  ok <| privWrite a aCpyStore (fun s =>
    if s.cpy.lock then s
    else if poolsOk s (fld v 63 52) (fld v 51 40) (fld v 39 28) then
      modCpy (fun c => { c with landing := fld v 63 52, staging := fld v 51 40, service := fld v 39 28 }) s
    else modCpy (fun c => { c with cfgErr := true }) s) s

/-- The RW fields of CPY_CFG. -/
def cpyCfgOf (v : Word) : CpyCfg :=
  { peerServeMax := fld v 39 32, canaryPeriod := fld v 31 16, dirShare := fld v 15 12, dpxEn := fbit v 8, peerEn := fbit v 7 }

/-- A write of CPY_CFG: the RW fields, and LOCK, which stays set (R166, R405). -/
def writeCpyCfg (v : Word) : State → State := modCpy (fun c => { c with cfg := cpyCfgOf v, lock := c.lock || fbit v 63 })

/-- CPY_LOCK (R140, R405). -/
def execCpyLock (a : Access) (v : Word) (s : State) : Host.Outcome State Fault Refusal :=
  ok <| privWrite a aCpyCfg (writeCpyCfg v) s

/-! ### Peer recompute (R163 to R165) -/

/-- Service tokens of a request (log entry 24). -/
def peerTokens (chunks : Nat) : Nat := ceilDiv (208 * chunks) 65536

/-- A request arrives (R164). -/
def takePeerReq (l reqId origin chunks : Nat) (d : CopyDesc) (s : State) : State :=
  if !(descOk d) || chunks == 0 || decide (5042 < chunks) then peerAnswer l reqId 2 0 0 s
  else if !(peerOn s) || decide (serveMax s ≤ s.cpy.served) || decide (s.cpy.service < s.cpy.heldService + peerTokens chunks) then
    s |> modCpy (fun c => { c with peerBusy := satInc 16 c.peerBusy }) |> peerAnswer l reqId 1 0 0
  else modCpy (fun c => { c with
    served := c.served + 1, heldService := c.heldService + peerTokens chunks
    peerIn := c.peerIn ++ [{ reqId := reqId, origin := origin, link := l, chunks := chunks, desc := d, tokens := peerTokens chunks }] }) s

/-- PEER_REQ (R164). -/
def execPeerReq (link reqId origin chunks : Nat) (d : CopyDesc) (s : State) : Host.Outcome State Fault Refusal :=
  onUnit "link" link s.build.links (takePeerReq link reqId origin chunks d s)

/-- The next chunk of a request's data; the last one completes it, and in Publish it is admitted (R163, R164). -/
def takePeerData (l reqId chunk : Nat) (last : Bool) (data : List Byte) (s : State) : State :=
  s |> modCpy (fun c => { c with peerIn := c.peerIn.map (fun p =>
        if p.reqId == reqId && p.link == l && p.state == 0 && p.got == chunk && (last == (chunk + 1 == p.chunks)) then
          { p with got := chunk + 1, data := p.data ++ data.take 208, state := if last then 1 else 0 }
        else p) })
    |> whenB (s.stk.phase == 2) peerAdmit

/-- PEER_DATA (R163). -/
def execPeerData (link reqId chunk : Nat) (last : Bool) (data : List Byte) (s : State) : Host.Outcome State Fault Refusal :=
  onUnit "link" link s.build.links (takePeerData link reqId chunk last data s)

/-- An answer to a peer check (R164, R165): DONE is judged; the third BUSY ends it; anything else waits for the limit. -/
def takePeerResp (l reqId status dg : Nat) (s : State) : State :=
  match s.cpy.peerOut.find? (fun o => o.reqId == reqId && o.link == l && o.waiting) with
  | none => s
  | some o =>
    if status == 0 then peerDone o dg s
    else if status == 1 then
      if 2 ≤ o.busy then peerUncovered o s
      else modCpy (fun c => { c with peerOut := c.peerOut.map (fun p =>
        if p.reqId == reqId then { p with busy := p.busy + 1, waiting := false } else p) }) s
    else s

/-- PEER_RESP (R164, R165). -/
def execPeerResp (link reqId status _bytes digest : Nat) (s : State) : Host.Outcome State Fault Refusal :=
  onUnit "link" link s.build.links (takePeerResp link reqId status digest s)

/-- PEER_TIMEOUT (R164): no DONE within 16 strokes of the send. -/
def execPeerTimeout (reqId : Nat) (s : State) : Host.Outcome State Fault Refusal :=
  ok <| match s.cpy.peerOut.find? (fun o => o.reqId == reqId) with
    | none => s
    | some o => if o.waiting && decide (o.sent + 16 ≤ now s) then peerUncovered o s else s

/-- A VERDICT that names this block's Copyist suspect: its canary set runs in the next Publish (R165). -/
def takeSuspect (v : VerdictMsg) (s : State) : State :=
  if v.kind == 4 && v.chips.contains s.wch.chip then forEach (groupNos s) groupCanary s else s

/-- COPY_SUSPECT (R165). -/
def execCopySuspect (link : Nat) (v : VerdictMsg) (s : State) : Host.Outcome State Fault Refusal :=
  onUnit "link" link s.build.links (takeSuspect v s)

end Sys2Proof.Machine
end

