-- ==== Sys2Proof/Machine/StrokeOps.lean ====
section
/-!
DEFINITION. Where ticks come from: markers (R15 to R23), flywheel and lost followers (R22), the pin pair (R16, R24, R25), heartbeats
(R75, R313), and STK_CFG (R9, R10, R12).
-/
namespace Sys2Proof.Machine

open Sys2Proof

/-! ### Codes of R22 -/

def skIdle : Nat := 0
def skAcquire : Nat := 1
def skLocked : Nat := 2
def skFlywheel : Nat := 3
def skLost : Nat := 4

/-! ### Time of ticks -/

/-- The period measured over the last 64 ticks, or PERIOD (R22). -/
def measuredPeriod (s : State) : Nat :=
  if s.stk.periods.isEmpty then Nat.max 1 s.tcfg.period else Nat.max 1 (s.stk.periods.sum / s.stk.periods.length)

/-- The number that the block's own counter gives to a tick at time `t`. -/
def ownAt (s : State) (t : Nat) : Nat :=
  let p := Nat.max 1 s.tcfg.period
  if s.stk.tickTime ≤ t then now s + (2 * (t - s.stk.tickTime) + p) / (2 * p)
  else now s - (2 * (s.stk.tickTime - t) + p) / (2 * p)

/-- A tick is scheduled; one number is scheduled once. -/
def schedule (n t : Nat) : State → State :=
  modStk (fun x => { x with sched := insBy Prod.snd (x.sched.filter (fun e => !(e.1 == n))) (n, t) })

/-- How late a pin-sourced block's own tick is: 1% of PERIOD (R24). -/
def ownDelay (s : State) : Nat := if s.stk.source == 2 then s.tcfg.period / 100 else 0

/-- The tick that the block's own counter gives next. -/
def scheduleOwn (s : State) : State :=
  s |> schedule (now s + 1) (s.stk.nextTick + ownDelay s) |> modStk (fun x => { x with flyTick := true })

/-- STROKE_STEP (R12, R23, R25). -/
def strokeStep (old new cause l : Nat) : State → State :=
  recordBlock .strokeStep (le 6 old ++ le 6 new ++ le 1 cause ++ le 1 l ++ zeros 2)

/-- Entering LOST: only the own counter gives ticks, an ALARM for every epoch, and every epoch is left (R22, R23, R278). -/
def enterLost (s : State) : State :=
  s |> modStk (fun x => { x with state := skLost, valid4 := 0, edgeRun := 0 }) |> leaveAll acStrokeLost

/-- What a tick does to the follower's state (R22): a flywheel tick counts, and the 9th in a row is LOST's; any other tick locks. -/
def followTick (fly : Bool) (s : State) : State :=
  let x := s.stk
  if x.source == 0 || !(x.state == skLocked || x.state == skFlywheel) then s
  else if !fly then modStk (fun y => { y with state := skLocked, flyRun := 0 }) s
  else if x.state == skLocked then modStk (fun y => { y with state := skFlywheel, flyRun := 1, missed := satInc 16 y.missed }) s
  else if 8 ≤ x.flyRun then s |> modStk (fun y => { y with flyRun := 9 }) |> enterLost
  else modStk (fun y => { y with flyRun := y.flyRun + 1, missed := satInc 16 y.missed }) s

/-! ### Markers (R15, R17 to R22) -/

/-- One more discarded marker (R15, R19). -/
def foreignMarker : State → State := modStk (fun x => { x with foreign := satInc 16 x.foreign })

/-- Parent and backup markers of one stroke give the skew (R20). -/
def noteSkew (onParent : Bool) (n t : Nat) (s : State) : State :=
  let x := s.stk
  let p := if onParent then some (n, t) else x.parentSeen
  let b := if onParent then x.backupSeen else some (n, t)
  let d : Option Int := match p, b with
    | some (i, a), some (j, c) => if i == j && i == n && !(x.parentSeen == p && x.backupSeen == b) then some ((c : Int) - (a : Int)) else none
    | _, _ => none
  modStk (fun y => { y with
    parentSeen := p, backupSeen := b, skewLast := d.getD y.skewLast
    skewMax := match d with | some e => Nat.min 65535 (Nat.max y.skewMax e.natAbs) | none => y.skewMax }) s

/-- The marker supplies a tick: it is remembered and goes on to the other links (R19, R20, R310). FLAGS speaks of this block's tick (R17). -/
def supply (l : Nat) (m : Marker) (t residence : Nat) (s : State) : State :=
  let d := tgetD s.stk.linkDelay l 0
  let fwd := { m with hops := m.hops + 1, acc := m.acc + d + residence, flags := if s.stk.state == skFlywheel then 1 else 0 }
  s |> schedule m.num t
    |> modStk (fun x => { x with seen := ((m.num, l) :: x.seen).take 64, lastNum := some m.num })
    |> flood (some l) { newFlit s clStroke mdFlood 0 (.marker fwd) with src := m.master }

/-- A number that differs from the expected one (R22, R24): the next tick is the own counter's, and the state is LOST. -/
def mismatched (s : State) : State := s |> modStk (fun x => { x with sched := [] }) |> scheduleOwn |> enterLost

/-- A first valid marker of its number, by the follower's state (R22, R23). -/
def followMarker (l : Nat) (m : Marker) (t residence : Nat) (s : State) : State :=
  let x := s.stk
  if x.state == skAcquire then
    let run := if x.lastNum == some (m.num - 1) && decide (0 < m.num) then x.valid4 + 1 else 1
    s |> supply l m t residence
      |> modStk (fun y => { y with valid4 := run, state := if 4 ≤ run then skLocked else skAcquire, flyRun := 0 })
  else if x.state == skLost then
    let own := ownAt s t
    s |> whenB (!(own == m.num)) (strokeStep own m.num 2 l)
      |> modStk (fun y => { y with state := skAcquire, valid4 := 1, sched := [], flyTick := false })
      |> supply l m t residence
  else if x.state == skLocked || x.state == skFlywheel then
    if m.num == ownAt s t then
      supply l m t residence s
    else s |> mismatched
  else s

/-- A STROKE marker arrives at time `now0` in ns; any block counts those of another master, and a late one counts as missing (R15, R18
to R20). -/
def takeMarker (l : Nat) (m : Marker) (now0 residence : Nat) (s : State) : State :=
  let g := s.gnd
  let onParent := l == g.chip.parentLink
  let lead := m.lead * s.tcfg.period
  let back := m.acc + tgetD s.stk.linkDelay l 0
  if !(g.state == 3 && m.master == g.pod.master) || (s.stk.source == 1 && decide (255 ≤ m.hops)) then foreignMarker s
  else if !(s.stk.source == 1) || !(onParent || g.chip.backups.contains l) || s.stk.state == skIdle || decide (lead < back) then s
  else
    let t := now0 + lead - back
    let s1 := noteSkew onParent m.num t s
    if s.stk.seen.any (fun e => e.1 == m.num) then s1 else followMarker l m t residence s1

/-- A tick time passes without a marker, or, at the pins, without an edge (R16, R22, R24): the own counter gives the tick, and the
state follows at that tick. -/
def missTick (s : State) : State :=
  let x := s.stk
  if x.source == 0 || x.sched.any (fun e => e.1 == now s + 1) then s
  else if x.state == skLocked || x.state == skFlywheel || x.state == skLost then scheduleOwn s
  else modStk (fun y => { y with valid4 := 0, edgeRun := 0, nextTick := y.nextTick + s.tcfg.period }) s

/-! ### The pin pair (R16, R24, R25) -/

/-- The lock condition of R25. -/
def pinLocks (s : State) : Bool :=
  let trained := (linkNos s).any (fun l => linkOpen (link s l))
  !s.stk.conflictPin && decide (4 ≤ s.stk.edgeRun) &&
    (if s.stk.neighbours.isEmpty then !trained && decide (s.stk.enabledAt + s.wch.eff.trainWait ≤ now s)
     else s.stk.neighbours.all (fun n => decide (4 ≤ n.agree)))

/-- A pin-sourced block in ACQUIRE locks once it may. -/
def pinTryLock (s : State) : State :=
  if s.stk.source == 2 && s.stk.state == skAcquire && pinLocks s then modStk (fun x => { x with state := skLocked, flyRun := 0 }) s else s

/-- A rising edge at time `now0` (R16): within 1% of the expected time it is the next tick; an earlier one is a runt. -/
def takeEdge (now0 : Nat) (s : State) : State :=
  let x := s.stk
  let slack := s.tcfg.period / 100
  if !(x.source == 2) || x.state == skIdle then s
  else if !x.ticked then
    s |> schedule s.tcfg.start now0 |> modStk (fun y => { y with edgeRun := 1, nextTick := now0 + s.tcfg.period })
  else if now0 + slack < x.nextTick then modStk (fun y => { y with runt := satInc 16 y.runt }) s
  else if x.nextTick + slack < now0 then s
  else
    s |> schedule (now s + 1) now0
      |> modStk (fun y => { y with
          edgeRun := y.edgeRun + 1, state := if y.state == skLost then skAcquire else y.state })
      |> pinTryLock

/-- One neighbour's heartbeat against the block's own number for the same tick (R25). -/
def mapNeighbour (l num own : Nat) (s : State) : State :=
  let old := (s.stk.neighbours.find? (fun n => n.link == l)).getD { link := l }
  let agree := if num == own then (if old.since == now s && 0 < old.agree then old.agree else old.agree + 1) else 0
  let ns := s.stk.neighbours.filter (fun n => !(n.link == l)) ++ [{ link := l, agree := agree, since := now s, low := old.low && decide (num < own) }]
  modStk (fun x => { x with neighbours := ns, conflictPin := ns.any (fun n => n.low) }) s

/-- A larger number is adopted (R25). -/
def adoptNumber (l num own : Nat) (s : State) : State :=
  let d := num - own
  s |> strokeStep own num 3 l
    |> modStk (fun x => { x with
        stroke := x.stroke + d, sched := x.sched.map (fun e => (e.1 + d, e.2))
        neighbours := x.neighbours.map (fun n => { n with agree := 0, low := false }), conflictPin := false })

/-- A locked neighbour is numbered lower (R25): no lock, and a STROKE_CONFLICT in each 1,024 strokes. -/
def lowNeighbour (l num own chip : Nat) (s : State) : State :=
  let due := !s.stk.conflictPin || decide (s.stk.conflictAt + 1024 ≤ now s)
  s |> modStk (fun x => { x with
        neighbours := x.neighbours.map (fun n => if n.link == l then { n with low := true } else n), conflictPin := true
        conflictAt := if due then now s else x.conflictAt })
    |> whenB due (recordBlock .strokeConflict (le 1 2 ++ le 1 l ++ zeros 2 ++ le 4 chip ++ le 6 own ++ le 6 num))

/-- The state that a neighbour's heartbeat reports (R313). -/
def heartState (h : Heart) : Nat := bitsOf h.flags 7 5

/-- What a heartbeat tells a pin-sourced block (R24, R25). -/
def pinHeart (l : Nat) (h : Heart) (now0 : Nat) (s : State) : State :=
  let own := ownAt s (now0 - tgetD s.stk.linkDelay l 0 - h.txOffset)
  let st := s.stk.state
  let solid := heartState h == skLocked || heartState h == skFlywheel
  if !(s.stk.source == 2) || !s.stk.ticked then s
  else if st == skAcquire || st == skLost then
    if own < h.num then s |> adoptNumber l h.num own |> mapNeighbour l h.num h.num
    else
      s |> mapNeighbour l h.num own
        |> whenB (st == skAcquire && decide (h.num < own) && heartState h == skLocked) (lowNeighbour l h.num own h.chip)
        |> pinTryLock
  else if (st == skLocked || st == skFlywheel) && solid && !(h.num == own) then mismatched s
  else s

/-! ### Heartbeats (R75, R163, R302, R312, R313) -/

/-- The configuration digest as messages carry it: zeros before load. -/
def digestBytes (s : State) : List Byte := fit 16 s.gnd.configDigest

/-- A partner's digest differs (R75): at most one record in 1,024 strokes. -/
def configDiffers (l : Nat) (h : Heart) (s : State) : State :=
  let due := match (link s l).mismatchAt with | some n => decide (n + 1024 ≤ now s) | none => true
  s |> modLink l (fun k => { k with cfgMismatch := true, mismatchAt := if due then some (now s) else k.mismatchAt })
    |> whenB due (recordBlock .configMismatch (le 1 l ++ zeros 3 ++ le 4 (link s l).partner ++ fit 16 h.config))

/-- A tunnel's delay from the echo of this block's own heartbeat (R312). -/
def tunnelDelay (l : Nat) (h : Heart) (now0 : Nat) (s : State) : State :=
  let k := link s l
  match k.hbTx.find? (fun e => e.1 == h.echoStroke) with
  | some (n, off) =>
    let sentAt := s.stk.tickTime + off - (now s - n) * s.tcfg.period
    let rtts := ((now0 - sentAt - h.echoHold) :: k.hbRtts).take 64
    s |> modLink l (fun k => { k with hbRtts := rtts })
      |> modStk (fun x => { x with linkDelay := tput x.linkDelay l (minOf 0 rtts / 2) })
  | none => s

/-- A heartbeat is taken: liveness, epochs, digest, delay and numbering. -/
def takeHeart (l : Nat) (h : Heart) (now0 : Nat) (s : State) : State :=
  if !(linkOpen (link s l)) then s
  else
    s |> modLink l (fun k => { k with
          hbSeen := true, hbMissed := 0, hbStroke := h.num, hbEpochs := h.epochs.take 12 })
      |> whenB (!(fit 16 h.config == digestBytes s)) (configDiffers l h)
      |> whenB (isTunnel s l) (tunnelDelay l h now0)
      |> pinHeart l h now0

/-- FLAGS of this block's heartbeats (R313). -/
def heartFlags (s : State) (l : Nat) : Nat :=
  atB 0 s.boot.ready + atB 1 (s.wch.warden == 1) + atB 2 (s.wch.warden == 2) + atB 3 ((link s l).state == lsLimited) +
  atB 4 (decide (12 < (memberEpochs s).length)) + at_ 5 3 s.stk.state

/-- The heartbeat of one link in Publish; its send time and hold are the link's own (log entry 38). -/
def sendHeart (l : Nat) (s : State) : State :=
  let k := link s l
  let off := drawValue s % 2 ^ 32
  let hold := Config.openValue (s.fresh + 1) % 2 ^ 32
  let h : Heart := {
    num := now s, chip := s.wch.chip, flags := heartFlags s l, link := l, config := digestBytes s, epochs := (memberEpochs s).take 12
    txOffset := off, echoStroke := k.hbStroke, echoHold := hold }
  s |> bumpFresh |> bumpFresh
    |> modLink l (fun k => { k with hbTx := ((now s, off) :: k.hbTx).take 64 })
    |> sendOn l (newFlit s clStroke mdLink 0 (.heartbeat h))

/-- One heartbeat on every open link (R313). -/
def sendHearts (s : State) : State := forEach ((linkNos s).filter (fun l => linkOpen (link s l))) sendHeart s

/-- The master sends the marker of the stroke LEAD ahead (R15, R17). -/
def sendMarker (s : State) : State :=
  let m : Marker := { num := (now s + s.tcfg.lead) % strokeMod, master := s.wch.chip, hops := 0, flags := 0, acc := 0, lead := s.tcfg.lead }
  whenB (s.stk.source == 0 && ticking s) (flood none (newFlit s clStroke mdFlood 0 (.marker m))) s

/-! ### STK_CFG (R9, R10, R12, R15, R42) -/

/-- A PERIOD and a LEAD that R9 admits. -/
def periodOk (n : Nat) : Bool := decide (50000 ≤ n) && decide (n ≤ 400000)
def leadOk (n : Nat) : Bool := decide (1 ≤ n) && decide (n ≤ 15)

/-- PERIOD and LEAD of a write, unless LOCK was set before it. -/
def writeRate (v : Word) (s : State) : State :=
  if s.tcfg.lock then s
  else
    let p := fld v 19 0
    let n := fld v 31 28
    { s with
      tcfg := { s.tcfg with period := if periodOk p then p else s.tcfg.period, lead := if leadOk n then n else s.tcfg.lead }
      stk := { s.stk with cfgErr := s.stk.cfgErr || !(periodOk p) || !(leadOk n) } }

/-- PERIOD_MISMATCH: the condition holds until the next cold reset (R10). -/
def periodMismatch (cause : Nat) (s : State) : State :=
  s |> modStk (fun x => { x with mismatch := true, cfgErr := true })
    |> recordBlock .periodMismatch (le 1 cause ++ le 1 s.tcfg.lead ++ le 1 s.gnd.pod.lead ++ zeros 1 ++ le 4 s.tcfg.period ++ le 4 s.gnd.pod.period)

/-- Locked PERIOD and LEAD against the POD section of a loaded image. -/
def compareRate (s : State) : State :=
  whenB (s.tcfg.lock && s.gnd.state == 3 && !(s.tcfg.period == s.gnd.pod.period && s.tcfg.lead == s.gnd.pod.lead)) (periodMismatch 1) s

/-- LOCK of a write, and the comparison it causes. -/
def writeLock (v : Word) (s : State) : State :=
  if fbit v 63 && !s.tcfg.lock then compareRate { s with tcfg := { s.tcfg with lock := true } } else s

/-- STROKE_CONFLICT of a master that the image does not name (R15). -/
def masterConflict (s : State) : State :=
  s |> modStk (fun x => { x with conflictMaster := true, conflictAt := now s })
    |> recordBlock .strokeConflict (le 1 1 ++ le 1 0xFF ++ zeros 2 ++ le 4 s.gnd.pod.master ++ zeros 12)

/-- The start value is not above the ledger's highest stroke (R12). -/
def startCheck (s : State) : State :=
  whenB (s.ldg.hasStrokes && decide (s.tcfg.start ≤ s.ldg.highStroke)) (strokeStep s.ldg.highStroke s.tcfg.start 1 0xFF) s

/-- An enabled master ticks, once the image names it (R15, R24). -/
def masterStart (s : State) : State :=
  if !(s.stk.source == 0 && s.tcfg.enable && s.gnd.state == 3) then s
  else if s.wch.chip == s.gnd.pod.master then s |> modStk (fun x => { x with state := skLocked }) |> startCheck
  else masterConflict s

/-- ENABLE of a write starts ticking or acquisition (R12, R22, R25). -/
def writeEnable (v : Word) (s : State) : State :=
  if !(fbit v 32) || s.tcfg.enable then s
  else
    let s1 := { s with tcfg := { s.tcfg with enable := true }, stk := { s.stk with enabledAt := now s } }
    if s.stk.source == 0 then masterStart s1
    else s1 |> modStk (fun x => { x with state := skAcquire }) |> whenB (s.stk.source == 2) startCheck

/-- A write of STK_CFG. -/
def writeStkCfg (v : Word) (s : State) : State := s |> writeRate v |> writeLock v |> writeEnable v

end Sys2Proof.Machine
end

