-- ==== Sys2Proof/Machine/Digests.lean ====
section
/-!
DEFINITION. The digest engine's commands (R168 to R195) and tensor watch (R366 to R368).
-/
namespace Sys2Proof.Machine

open Sys2Proof

/-! ### Streams (R173, R174) -/

def strIs (tap stream : Nat) (x : Stream) : Bool := x.tap == tap && x.hdr.stream == stream

def stream? (s : State) (tap stream : Nat) : Option Stream := s.dgt.streams.find? (strIs tap stream)

/-- TAP_PROTOCOL, with PROTO when a beat or header was dropped (R174, R195). -/
def tapProtocol (tap stream case_ purpose : Nat) (dropped : Bool) (s : State) : State :=
  s |> whenB dropped (modDgt (fun d => { d with proto := true }))
    |> recordBlock .tapProtocol (le 1 tap ++ le 1 stream ++ le 1 case_ ++ le 1 purpose)

/-- The two headers have the same key (R173). -/
def sameKey (a b : FtHeader) : Bool :=
  a.purpose == b.purpose && a.part == b.part && a.ident == b.ident && a.step == b.step && a.seg == b.seg &&
    (!(a.purpose == 3 || a.purpose == 4) || (a.aux == b.aux && a.seq == b.seq))

/-- A header of a transport stream. -/
def isXport (h : FtHeader) : Bool := h.purpose == 3 || h.purpose == 4

/-- A tally-form stream (R173). -/
def tallyForm (h : FtHeader) : Bool := h.purpose == 1 || h.purpose == 2

/-- The point of a stream (R170, R187, R192, R193). -/
def streamPoint (s : State) (h : FtHeader) : Nat :=
  let q := part s h.part
  let seed := match epoch? s q.epoch with | some x => x.seed | none => []
  if h.purpose == 7 then varnishPoint seed q.epoch (extendStep q 32 h.step) h.part
  else if h.purpose == 8 then (match restoreSlot s h.part h.step with | some n => (dcmd s n).point | none => pointOf s q.epoch)
  else if h.purpose == 9 && s.dgt.twFixed then fixedPoint
  else pointOf s q.epoch

/-! ### Tensor watch (R366 to R368) -/

/-- The entry that watches a stream: the lowest that matches; none while tensor watch is shed (R366, R384). -/
def twMatch (s : State) (h : FtHeader) : Option (Nat × TwEntry) :=
  if s.pwr.shedTw then none
  else s.ldg.twEff.find? (fun e => e.2.en && e.2.part == h.part && e.2.layer == h.ident / 2 ^ 16 && e.2.oper == h.ident % 2 ^ 16 &&
    h.step % 2 ^ e.2.every == 0)

/-- The statistics of a watched stream, empty. -/
def twOpen (s : State) (h : FtHeader) : Option TwStats :=
  (twMatch s h).map (fun e => { idx := e.1, fmt := e.2.format, expLo := signed 8 e.2.expLo })

/-- FP32 bits in the order of their values, −0 below +0. -/
def ordKey (b : Nat) : Nat := if b < 2 ^ 31 then 2 ^ 31 + b else 2 ^ 32 - 1 - b

/-- The bin of a finite element (R367). -/
def twBin (lo : Int) (m : Nat) (e : Int) : Nat :=
  if m == 0 then 0
  else
    let x := (Nat.log2 m : Int) + e
    if x < lo then 1 else if lo + 28 < x then 31 else (x - lo).toNat + 2

/-- One element enters the statistics. -/
def twElem (t : TwStats) (b : Nat) : TwStats :=
  match dec32 b with
  | .nan => { t with count := t.count + 1, nan := satInc 32 t.nan }
  | .inf _ => { t with count := t.count + 1, inf := satInc 32 t.inf }
  | .fin neg m e =>
    let bin := twBin t.expLo m e
    { t with
      count := t.count + 1, finite := t.finite + 1, sum := t.sum + sgn neg (m * 2 ^ (e + 149).toNat)
      min := some (match t.min with | some x => if ordKey b < ordKey x then b else x | none => b)
      max := some (match t.max with | some x => if ordKey x < ordKey b then b else x | none => b)
      hist := (List.range 32).map (fun j => if j == bin then satInc 32 (lget t.hist j 0) else lget t.hist j 0) }

/-- The elements of a 64-bit word in an entry's format, as FP32. -/
def twElems (fmt : Nat) (w : Nat) : List Nat :=
  (List.range (64 / fmtBits fmt)).map (fun i => toF32 fmt (w / 2 ^ (i * fmtBits fmt) % 2 ^ fmtBits fmt))

/-- MEAN: the exact sum over the count, rounded once (R367). -/
def twMean (t : TwStats) : Nat :=
  if t.finite == 0 then nan32
  else
    let n := t.sum.natAbs * 2 ^ 64
    enc32 (.fin (decide (t.sum < 0)) (2 * (n / t.finite) + b2n (!(n % t.finite == 0))) (-149 - 65))

/-- Body of TENSOR_WATCH (R368). -/
def twBody (x : Stream) (t : TwStats) (fixed : Bool) : List Byte :=
  let h := x.hdr
  le 2 (h.ident / 2 ^ 16) ++ le 2 h.ident ++ le 1 h.part ++ le 1 t.fmt ++ le 1 (b2n fixed + 2 * b2n x.bad + 4 * b2n (t.finite == 0)) ++
  zeros 1 ++ le 4 h.step ++ le 4 t.nan ++ le 8 t.count ++ le 4 t.inf ++ le 4 (t.min.getD nan32) ++ le 4 (t.max.getD nan32) ++
  le 4 (twMean t) ++ le 16 x.digest ++ (List.range 32).flatMap (fun j => le 4 (lget t.hist j 0))

/-- Publish writes the records of the watched streams that have closed (R368). -/
def publishTw (s : State) : State :=
  let s1 := modDgt (fun d => { d with twClosed := [] }) s
  forEach s.dgt.twClosed (fun x s => match x.tw with
    | some t =>
      s |> recPart .tensorWatch noNode x.hdr.part (twBody x t (x.point == fixedPoint)) |> pcount x.hdr.part 15 1
    | none => s) s1

/-! ### Closing -/

/-- What a stream that closes leaves behind, by its purpose. A read stream that is incomplete or marked bad counts as not read
(DEDUCED, log 139). -/
def closeWork (x : Stream) (s : State) : State :=
  let h := x.hdr
  if h.purpose == 1 then whenB (!x.bad) (closeContrib h.part x.epoch h.ident h.step h.seg h.aux x.digest) s
  else if h.purpose == 2 then closeSum h.part x.epoch h.ident h.step h.seg h.aux x.digest x.bad s
  else if isXport h then closeXport (h.purpose == 4) h.part x.epoch h x.digest x.got x.bad s
  else if h.purpose == 5 then closeShard false h.part h.ident h.step h.base h.length x.digest x.bad s
  else if h.purpose == 6 then closeShard true h.part h.ident h.step h.base h.length x.digest x.bad s
  else if h.purpose == 7 then
    addShard h.part (extendStep (part s h.part) 32 h.step) h.ident x.got x.digest false x.bad false s
  else if h.purpose == 8 then
    match restoreSlot s h.part h.step with
    | some n =>
      if x.bad && !x.mixed then s
      else s |> addShard h.part (dcmd s n).step h.ident x.got x.digest true false x.mixed |> checkRead n h.ident
    | none => s
  else whenB x.tw.isSome (modDgt (fun d => { d with twClosed := d.twClosed ++ [x] })) s

/-- A stream closes; `whole` says that LENGTH elements have arrived (R173, R174). -/
def closeStream (x : Stream) (whole : Bool) (s : State) : State :=
  s |> modDgt (fun d => { d with streams := d.streams.filter (fun y => !(strIs x.tap x.hdr.stream y)) })
    |> closeWork { x with bad := x.bad || !whole }

/-! ### TAP_HEADER (R173 to R175, R180, R181, R184) -/

/-- An earlier open stream of the number closes incomplete. -/
def closeOpen (tap stream : Nat) (s : State) : State :=
  match stream? s tap stream with
  | some x => s |> tapProtocol tap stream 1 x.hdr.purpose false |> closeStream x false
  | none => s

/-- Two SHARD_ROLL streams of a shard with overlapping rows are open at once: the digest is invalid (R184). -/
def rollOverlap (h : FtHeader) (s : State) : State :=
  let rows (x : FtHeader) : Nat := x.length / 2
  let clash := s.dgt.streams.any (fun x => x.hdr.purpose == 6 && x.hdr.part == h.part && x.hdr.ident == h.ident &&
    decide (h.base < x.hdr.base + rows x.hdr) && decide (x.hdr.base < h.base + rows h))
  if h.purpose == 6 && clash then
    s |> forEach (s.dgt.repl.filter (isShard h.part h.ident)) (fun r =>
          recordBlock .rollOverlap (le 4 r.group ++ le 4 r.shard ++ le 5 h.base ++ zeros 3))
      |> modRepl (isShard h.part h.ident) (fun r => { r with valid := false })
  else s

/-- A header that is accepted opens its stream. -/
def openStream (tap : Nat) (h : FtHeader) (s : State) : State :=
  let e := (part s h.part).epoch
  let room := !(tallyForm h) || tallyRoom s e h.ident h.step h.seg
  let tw := if h.purpose == 9 then twOpen s h else none
  let s1 := s
    |> whenB (h.purpose == 1) (checkAgreement h.part e h.ident h.step)
    |> whenB (tallyForm h && room) (needTally e h.ident h.step h.seg)
    |> whenB (!room) (modDgt (fun d => { d with tableFull := true }))
    |> whenB (h.purpose == 9 && tw.isNone) (gcount 12 1)
    |> rollOverlap h
  modDgt (fun d => { d with streams := d.streams ++
    [{ tap := tap, hdr := h, epoch := e, opened := now s, point := streamPoint s h, bad := !room, tw := tw }] }) s1

/-- What a refused header of a partition in its epoch leaves UNCOVERED (R174): with no stream free, the check that its stream would
have made; a ROLLING shard whose new rows are not digested is invalid (DEDUCED, log 139). -/
def refusedCheck (full : Bool) (h : FtHeader) (s : State) : State :=
  let e := (part s h.part).epoch
  if full && h.purpose == 2 then landCheck (nodeChk e h.part (now s) ckTally vUncovered) s
  else if full && h.purpose == 4 then landCheck (nodeChk e h.part (now s) ckTransport vUncovered) s
  else if h.purpose == 5 || h.purpose == 6 then
    modRepl (fun r => isShard h.part h.ident r && r.kind == 2) (fun r => { r with valid := false }) s
  else s

/-- A header beat, by the rows of R174; one whose FT_STREAM differs is refused (R425), and one of a transport stream is ignored while
XPORT_EN is 0 (R181). -/
def takeHeader (tap : Nat) (h : FtHeader) (s : State) : State :=
  if !(h.ftStream == h.stream) then tapProtocol tap h.stream 6 h.purpose true s
  else if isXport h && !s.dgt.xportEn then s
  else
    let s1 := closeOpen tap h.stream s
    if h.purpose == 0 || decide (9 < h.purpose) || !(inEpoch (part s h.part)) || h.length == 0 then
      tapProtocol tap h.stream 6 h.purpose true s1
    else if 256 ≤ (s1.dgt.streams.filter (fun x => x.tap == tap)).length then
      s1 |> modDgt (fun d => { d with tapFull := true }) |> recordBlock .tapFull (le 1 tap ++ zeros 3) |> refusedCheck true h
    else if s1.dgt.streams.any (fun x => sameKey x.hdr h) then
      s1 |> tapProtocol tap h.stream 5 h.purpose true |> refusedCheck false h
    else openStream tap h s1

/-- TAP_HEADER (R173). With CORE in reset the taps are deaf. -/
def execTapHeader (tap : Nat) (h : FtHeader) (s : State) : Host.Outcome State Fault Refusal :=
  onUnit "fabric tap" tap s.build.taps (whenB (!(coreReset s)) (takeHeader tap h) s)

/-! ### TAP_DATA (R172, R174, R175, R183) -/

/-- The elements of a beat in the form of its stream (R169). -/
def beatElems (h : FtHeader) (count : Nat) (data : List Byte) : List Int :=
  if tallyForm h then (List.range count).map (fun i => signed 32 (rd data (4 * i) 4))
  else (List.range count).map (fun i => (rd data (8 * i) 8 : Int))

/-- What the elements from stream index `off` add to the digest; a rolling update subtracts its old rows (R183). -/
def beatDigest (x : Stream) (off : Nat) (vs : List Int) : Nat :=
  let h := x.hdr
  if h.purpose == 6 then
    let half := h.length / 2
    let old := (vs.take (half - off)).map (fun v => -v)
    (digestAt x.point (h.base + off) old + digestAt x.point (h.base + (Nat.max off half - half)) (vs.drop (half - off))) % dP
  else digestAt x.point (h.base + off) vs

/-- Element 0 of a checkpoint shard must be the step (R187, R192). -/
def wrongStep (s : State) (h : FtHeader) (off : Nat) (vs : List Int) : Bool :=
  (h.purpose == 7 || h.purpose == 8) && h.base + off == 0 &&
    !(vs.headD 0 == ((if h.purpose == 8 then (match restoreSlot s h.part h.step with | some n => (dcmd s n).step | none => h.step)
                      else extendStep (part s h.part) 32 h.step) : Nat))

/-- A beat of an open stream. -/
def takeBeat (x : Stream) (off count : Nat) (data : List Byte) (s : State) : State :=
  let h := x.hdr
  let excess := decide ((if tallyForm h then 32 else 16) < count) || decide (h.length < off + count)
  let n := if (if tallyForm h then 32 else 16) < count then 0 else Nat.min count (h.length - off)
  let vs := beatElems h n data
  let wrong := wrongStep s h off vs
  let y := { x with
    got := x.got + n, digest := (x.digest + beatDigest x off vs) % dP, bad := x.bad || excess || (wrong && h.purpose == 7)
    mixed := x.mixed || (wrong && h.purpose == 8)
    tw := x.tw.map (fun t => (vs.flatMap (fun v => twElems t.fmt v.toNat)).foldl twElem t) }
  let s1 := s
    |> whenB excess (tapProtocol x.tap h.stream 3 h.purpose true)
    |> modDgt (fun d => { d with streams := d.streams.map (fun z => if strIs x.tap h.stream z then y else z) })
  if h.length ≤ y.got then closeStream y true s1 else s1

/-- Fabric-tap bytes count in KiB (R358). -/
def countTap (n : Nat) (s : State) : State :=
  s |> gcount 8 ((s.dgt.tapBytes + n) / 1024) |> modDgt (fun d => { d with tapBytes := (s.dgt.tapBytes + n) % 1024 })

/-- TAP_DATA (R174): a beat of a stream that is not open is dropped. -/
def execTapData (tap stream offset count : Nat) (data : List Byte) (s : State) : Host.Outcome State Fault Refusal :=
  onUnit "fabric tap" tap s.build.taps <|
    if coreReset s then s
    else match stream? s tap stream with
      | some x => s |> countTap data.length |> takeBeat x offset count data
      | none => s |> countTap data.length |> tapProtocol tap stream 2 0 true

/-- STREAM_TIMEOUT (R174). -/
def execStreamTimeout (tap stream : Nat) (s : State) : Host.Outcome State Fault Refusal :=
  onUnit "fabric tap" tap s.build.taps <|
    match stream? s tap stream with
    | some x =>
      if x.opened + 4096 ≤ now s then s |> tapProtocol tap stream 7 x.hdr.purpose false |> closeStream x false else s
    | none => s

/-! ### Tally and exponent messages -/

/-- A partition is MEMBER or ABORTING in an epoch (R304). -/
def memberOf (s : State) (e : Nat) : Bool := !(partsIn s e).isEmpty

/-- A tree message counts only in an epoch of this block and from the link its direction allows; another is dropped and counted in
EPOCH (R304, R307). -/
def fromTree (up : Bool) (e l : Nat) (f : State → State) (s : State) : State :=
  if memberOf s e && (if up then isChild s e l else isParent s e l) then f s else errEpoch l s

/-- TALLY_UP (R176). -/
def execTallyUp (link : Nat) (t : TallyMsg) (s : State) : Host.Outcome State Fault Refusal :=
  onUnit "link" link s.build.links (fromTree true t.epoch link (takeTallyUp link false t) s)

/-- TALLY_RELAY_TIMEOUT (R176): TALLY_WAIT strokes after the first child reported. -/
def execTallyRelayTimeout (coll step seg : Nat) (s : State) : Host.Outcome State Fault Refusal :=
  ok <| match s.dgt.tally.find? (fun x => x.coll == coll && x.step == step && x.seg == seg && !x.sent && !x.reported.isEmpty) with
    | some x => if x.firstAt + tallyWait s ≤ now s then forwardTally x.epoch coll step seg s else s
    | none => s

/-- TALLY_TOTAL (R176, R178). -/
def execTallyTotal (link : Nat) (t : TallyMsg) (s : State) : Host.Outcome State Fault Refusal :=
  onUnit "link" link s.build.links (fromTree false t.epoch link (takeTallyTotal t) s)

/-- TALLY_TOTAL_TIMEOUT (R179): no total within 4,096 strokes of the sum. -/
def execTallyTotalTimeout (coll step seg : Nat) (s : State) : Host.Outcome State Fault Refusal :=
  ok <| match s.dgt.tally.find? (fun x => x.coll == coll && x.step == step && x.seg == seg && x.total.isNone && x.sum.isSome && !x.judged) with
    | some x => match x.sum with
      | some (_, c) =>
        if c + 4096 ≤ now s then
          s |> recordBlock .tallyIncomplete (le 1 2 ++ zeros 1 ++ le 2 seg ++ le 4 coll ++ le 4 step ++ zeros 4 ++ le 4 x.nContrib)
            |> tallyVerdict x c vUncovered
        else s
      | none => s
    | none => s

/-- EXPONENT_PROPOSAL (R108): from a child, or, on the link number one past the last, from this block's own host (log entry 32). -/
def execExponentProposal (link : Nat) (e : ExpMsg) (s : State) : Host.Outcome State Fault Refusal :=
  onUnit "link" link (s.build.links + 1) <|
    if link == s.build.links then whenB (epoch? s e.epoch).isSome (takeProposal true link e) s
    else if coreReset s then fromTree true e.epoch link (relayBypass clBulk 3 e.epoch (.exps e)) s
    else fromTree true e.epoch link (takeProposal false link e) s

/-- EXPONENT_AGREED (R107). -/
def execExponentAgreed (link : Nat) (e : ExpMsg) (s : State) : Host.Outcome State Fault Refusal :=
  onUnit "link" link s.build.links (fromTree false e.epoch link (takeAgreed e) s)

/-! ### Transport -/

/-- XPORT (R181). -/
def execXport (x : XportMsg) (s : State) : Host.Outcome State Fault Refusal :=
  ok (whenB (memberOf s x.epoch) (takeXport x) s)

/-- XPORT_TIMEOUT (R181): no message within 16 strokes of the stream's close. -/
def execXportTimeout (coll step hostLink seq : Nat) (s : State) : Host.Outcome State Fault Refusal :=
  ok <| match s.dgt.xports.find? (xportIs true coll step hostLink seq) with
    | some x => match x.closed, x.msg with
      | some c, none =>
        if c + 16 ≤ now s then
          s |> dropXport true coll step hostLink seq |> landCheck (nodeChk x.epoch x.part c ckTransport vUncovered)
        else s
      | _, _ => s
    | none => s

/-! ### Steps, varnish, restore, replicas -/

/-- STEP_MARK: a write of DGT_STEP (R183, R194). -/
def execStepMark (a : Access) (v : Word) (s : State) : Host.Outcome State Fault Refusal :=
  ok <| ownerWrite a aDgtStep (fld v 53 48) (stepMark (fld v 53 48) (fld v 47 0)) s

/-- VARNISH (R189, R195): a DGT_CMD write with its command block and manifest. -/
def execVarnish (a : Access) (v : Word) (blk manifest : MemRead) (s : State) : Host.Outcome State Fault Refusal :=
  ok (dgtGo a v blk manifest s)

/-- VARNISH_COMMITTED (R189): the awaited step commits and the record is written. -/
def execVarnishCommitted (slot : Nat) (writeOk : Bool) (s : State) : Host.Outcome State Fault Refusal :=
  onUnit "slot" slot 16 <|
    let c := dcmd s slot
    if c.running && c.op == 1 then
      if stepTainted s c.part c.step then dgtFinish slot dsTainted 0 s
      else if committed s c.part c.step then sealVarnish slot writeOk s
      else s
    else s

/-- VARNISH_TIMEOUT (R189): 10,000 strokes without commit. -/
def execVarnishTimeout (slot : Nat) (s : State) : Host.Outcome State Fault Refusal :=
  onUnit "slot" slot 16 <|
    let c := dcmd s slot
    if c.running && c.op == 1 && decide (c.started + 10000 ≤ now s) then dgtFinish slot dsNotCommitted 0 s else s

/-- RESTORE (R192, R195): a DGT_CMD write with its command block and the varnish record. -/
def execRestore (a : Access) (v : Word) (blk rec : MemRead) (s : State) : Host.Outcome State Fault Refusal :=
  ok (dgtGo a v blk rec s)

/-- RESTORE_SHARD_TIMEOUT (R192): a listed shard not read within 10^6 strokes. -/
def execRestoreShardTimeout (slot : Nat) (s : State) : Host.Outcome State Fault Refusal :=
  onUnit "slot" slot 16 <|
    let c := dcmd s slot
    if c.running && c.op == 2 && decide (c.started + 1000000 ≤ now s) then rejectRestore slot dsShardMissing (unread c) s else s

/-- REPL_LOAD (R182, R195): a DGT_CMD write with the table it names. -/
def execReplLoad (a : Access) (v : Word) (table : MemRead) (s : State) : Host.Outcome State Fault Refusal :=
  ok (dgtGo a v table none s)

/-! ### Votes -/

/-- SHARD (R185): a member's digest at the root. -/
def execShard (v : ShardMsg) (s : State) : Host.Outcome State Fault Refusal :=
  ok (whenB (memberOf s v.epoch) (takeShard v) s)

/-- VOTE_TIMEOUT (R185): REPL_WAIT strokes after the first report. -/
def execVoteTimeout (group shard step : Nat) (s : State) : Host.Outcome State Fault Refusal :=
  ok <| match s.dgt.votes.find? (fun v => v.group == group && v.shard == shard && v.step == step && !v.closed) with
    | some v => match s.dgt.repl.find? (isGroup group shard) with
      | some r => if v.firstAt + replWait s ≤ now s then closeVote v r s else s
      | none => s
    | none => s

/-- VOTE_RESULT (R186). -/
def execVoteResult (v : ShardMsg) (s : State) : Host.Outcome State Fault Refusal :=
  ok (whenB (memberOf s v.epoch) (takeResult v) s)

end Sys2Proof.Machine
end

