-- ==== Sys2Proof/Machine/Verdicts.lean ====
section
/-!
DEFINITION. The commands of verdicts, taint and quarantine (R222 to R250).
-/
namespace Sys2Proof.Machine

open Sys2Proof

/-- VERDICT_UP (R226, R309). -/
def execVerdictUp (link : Nat) (bypass : Bool) (v : VerdictMsg) (s : State) : Host.Outcome State Fault Refusal :=
  onUnit "link" link s.build.links (fromTree true v.epoch link (takeUp link bypass v) s)

/-- VERDICT_RELAY_TIMEOUT (R226): at the tick of s + H the relay forwards what it holds. -/
def execVerdictRelayTimeout (epoch stroke : Nat) (s : State) : Host.Outcome State Fault Refusal :=
  ok <| match relay? s epoch stroke with
    | some r => if !r.sent && decide (stroke + horizon s ≤ now s) then forwardRelay epoch stroke s else s
    | none => s

/-- VERDICT_DOWN (R227): taken and passed to the children. -/
def execVerdictDown (link : Nat) (v : VerdictMsg) (s : State) : Host.Outcome State Fault Refusal :=
  onUnit "link" link s.build.links
    (fromTree false v.epoch link (fun s => s |> sendDown clVerdict v.epoch (.verdict v) |> takeDown v) s)

/-- A complete DOWN for a stroke is held, or the stroke is verified already (R227). -/
def downComplete (s : State) (e n : Nat) : Bool :=
  atOrBelow (verifiedOf s e) n ||
    (match relay? s e n with
     | some r => (match r.down with | some d => d.blocks == d.members | none => false)
     | none => false)

/-- BLOCKS of the latest DOWN for a stroke. -/
def downBlocks (s : State) (e n : Nat) : Nat :=
  match relay? s e n with | some r => (match r.down with | some d => d.blocks | none => 0) | none => 0

/-- HORIZON_MISS (R227): no complete DOWN by the tick of s + H. -/
def execHorizonMiss (epoch stroke : Nat) (s : State) : Host.Outcome State Fault Refusal :=
  ok <| match epoch? s epoch with
    | none => s
    | some x =>
      if (partsIn s epoch).isEmpty || decide (stroke < x.first) || decide (now s < stroke + horizon s) || downComplete s epoch stroke ||
          x.missWritten.contains stroke then s
      else
        s |> modEpoch epoch (fun y => { y with missWritten := (stroke :: y.missWritten).take 256 })
          |> recordBlock .horizonMiss (le 4 epoch ++ le 6 stroke ++ zeros 2 ++ le 4 (downBlocks s epoch stroke))

/-- VERDICT_LOST (R227): no complete DOWN by the tick of s + 2H. -/
def execVerdictLost (epoch stroke : Nat) (s : State) : Host.Outcome State Fault Refusal :=
  ok <| match epoch? s epoch with
    | none => s
    | some x =>
      if (partsIn s epoch).isEmpty || decide (stroke < x.first) || decide (now s < stroke + 2 * horizon s) ||
          downComplete s epoch stroke || x.lostRaised.contains stroke then s
      else
        s |> modEpoch epoch (fun y => { y with lostRaised := (stroke :: y.lostRaised).take 256 })
          |> originate acVerdictLost epoch noNode ((partsIn s epoch).headD 0) (zeros 16)

/-- A late fault of another block: on toward the root; a stroke not yet verified is held there (R227, R228). -/
def takeLateFail (v : VerdictMsg) (s : State) : State :=
  s |> whenB (!(rootOf s v.epoch)) (sendUp clVerdict v.epoch (.verdict v))
    |> whenB (!(atOrBelow (verifiedOf s v.epoch) v.stroke)) (noteFail v.epoch v.stroke)

/-- LATE_FAIL (R228). -/
def execLateFail (link : Nat) (v : VerdictMsg) (s : State) : Host.Outcome State Fault Refusal :=
  onUnit "link" link s.build.links (fromTree true v.epoch link (takeLateFail v) s)

/-- The end of a radius is known: the partition has left, or firmware's 1,000 strokes are over (R235, R236). -/
def radiusEnded (s : State) (b : Blast) : Bool := b.q.isSome || decide (b.f + 1000 ≤ now s)

/-- BLAST_RECORD (R236): firmware finishes radius `idx`, or its revision after a sweep. -/
def execBlastRecord (idx : Nat) (revised : Bool) (s : State) : Host.Outcome State Fault Refusal :=
  ok <| match s.rcv.blasts[idx]? with
    | some b => if radiusEnded s b && (if revised then b.written && b.revise else !b.written) then writeBlast idx s else s
    | none => s

/-- A GO write of RCV_QUAR (R244, R250). -/
def quarRequest (v : Word) (s : State) : State :=
  let node := fld v 55 44
  let p := node - 0x800
  let st := (tile s p).state
  let inUse := decide (0x800 ≤ node) && nodeUsed s node && (st == tsActive || st == tsLent || st == tsSpare)
  if !(fbit v 63) then s
  else if !(fld v 62 60 == 1) then modRcv (fun r => { r with quarResult := 3 }) s
  else if !inUse then modRcv (fun r => { r with quarResult := 2 }) s
  else s |> modRcv (fun r => { r with quarResult := 1 }) |> quarantineOrWait { port := p, cause := hcManual }

/-- QUARANTINE (R244). -/
def execQuarantine (a : Access) (v : Word) (s : State) : Host.Outcome State Fault Refusal :=
  ok <| privWrite a aRcvQuar (quarRequest v) s

/-- DUPLEX_DIRECTED_EXPIRY (R243): the directed period after a duplex FAIL has ended. -/
def execDuplexDirectedExpiry (port : Nat) (s : State) : Host.Outcome State Fault Refusal :=
  onUnit "port" port s.build.ports <|
    if (sent s port).samp.directedUntil ≤ now s && !(sent s port).health.dupWatch.isEmpty then duplexEvents port s else s

end Sys2Proof.Machine
end

