-- ==== Sys2Proof/Machine/MeshOps.lean ====
section
/-!
DEFINITION. What the block does with messages of the mesh: broadcast items (R314, R315), the cube census (R78, R308), and the
delivery of a received flit (R294, R295, R302, R304 to R307, R310, R316).
-/
namespace Sys2Proof.Machine

open Sys2Proof

/-! ### Broadcast (R314, R315) -/

/-- The fields of chunk 0 (R314). -/
structure ChunkHead where
  typ : Nat
  item : Nat
  target : Nat
  length : Nat
  chunks : Nat
  next : List Byte

/-- Chunk 0, when its layout is right and its signature verifies under an unrevoked firmware key (R314, R315). -/
def chunkHead (s : State) (bs : List Byte) : Option ChunkHead :=
  let n := rd bs 24 4
  let len := rd bs 16 8
  if bs.length == 4096 && slice bs 0 4 == bytes [0x44, 0x57, 0x42, 0x43] && rd bs 4 1 == 4 && (rd bs 5 1 == 1 || rd bs 5 1 == 2) &&
      zeroAt bs 6 2 && !(rd bs 8 4 == 0) && decide (rd bs 12 4 < 2 ^ 17) && decide (len ≤ 4095 * 4048) && decide (2 ≤ n) &&
      decide (n ≤ 4096) && n == 1 + ceilDiv len 4048 && zeroAt bs 28 36 && zeroAt bs 304 3792 &&
      (firmwareSlot s (Config.sha384 (slice bs 112 96))).isSome &&
      Config.ecdsaOk (slice bs 112 96) (slice bs 208 96) (slice bs 0 208) then
    some { typ := rd bs 5 1, item := rd bs 8 4, target := rd bs 12 4, length := len, chunks := n, next := slice bs 64 48 }
  else none

/-- The hash of the chunk after a chunk. -/
def nextHash (bs : List Byte) : List Byte := slice bs 4048 48

/-- Flood one chunk as its 20 flits (R314). -/
def floodChunk (except : Option Nat) (src item idx : Nat) (bs : List Byte) (s : State) : State :=
  forEach (List.range 20) (fun i s =>
    flood except { newFlit s clBulk mdFlood 0 (.chunk item idx i (slice bs (208 * i) 208)) with src := src } s) s

/-- One more copy dropped. -/
def dropChunk : State → State := modWch (fun w => { w with dropChunks := w.dropChunks + 1 })

/-- BCAST_BAD (R315). -/
def chunkBad (l item idx : Nat) : State → State := recordBlock .bcastBad (le 1 l ++ zeros 1 ++ le 2 idx ++ le 4 item)

/-- The block follows a new item: it assembles one addressed to it for as long as it is not READY. -/
def openItem (h : ChunkHead) (s : State) : State :=
  modWch (fun w => { w with items := w.items ++
    [{ item := h.item, typ := h.typ, target := h.target, length := h.length, chunks := h.chunks, got := 1, next := h.next, lastAt := now s }] }) s

/-- An item of this block that bring-up may use (R315). -/
def ownItem (s : State) (x : Bcast) : Bool := (x.target == 0x1FFFF || x.target == ownChip s) && !s.boot.ready

/-- The last chunk of an item has come: the item is remembered, and one of this block is complete (R315). -/
def endItem (x : Bcast) (s : State) : State :=
  modWch (fun w => { w with
    items := w.items.filter (fun y => !(y.item == x.item)), doneItems := (x.item :: w.doneItems).take 16
    assembled := if ownItem s x then w.assembled ++ [(x.typ, x.data.take x.length)] else w.assembled }) s

/-- The next chunk of an item in progress is accepted. -/
def nextChunk (x : Bcast) (bs : List Byte) (s : State) : State :=
  let y := { x with
    got := x.got + 1, next := nextHash bs, lastAt := now s
    data := if ownItem s x then x.data ++ bs.take 4048 else x.data }
  let s1 := modWch (fun w => { w with items := w.items.map (fun z => if z.item == x.item then y else z) }) s
  whenB (y.got == y.chunks) (endItem y) s1

/-- A complete chunk arrives on link `l` (R315). -/
def takeChunk (l src item idx : Nat) (bs : List Byte) (s : State) : State :=
  if s.wch.doneItems.contains item then dropChunk s
  else match s.wch.items.find? (fun x => x.item == item) with
    | none =>
      if !(idx == 0) then s
      else match chunkHead s bs with
        | some h =>
          if !(h.item == item) then chunkBad l item idx s
          else if 4 ≤ s.wch.items.length then s
          else s |> openItem h |> floodChunk (some l) src item idx bs
        | none => chunkBad l item idx s
    | some x =>
      if idx < x.got then dropChunk s
      else if x.got < idx then s
      else if Config.sha384 bs == x.next && (!(idx + 1 == x.chunks) || zeroAt bs 4048 48) then
        s |> nextChunk x bs |> floodChunk (some l) src item idx bs
      else chunkBad l item idx s

/-- One fragment of a chunk (R314): fragments of a chunk come in order on a link. -/
def takeFrag (l src item idx g : Nat) (data : List Byte) (s : State) : State :=
  let old := (s.wch.frags.find? (fun b => b.link == l && b.item == item)).getD {}
  let rest := s.wch.frags.filter (fun b => !(b.link == l && b.item == item))
  let b : ChunkBuf :=
    if g == 0 then { link := l, item := item, index := idx, got := 1, data := data }
    else { old with got := old.got + 1, data := old.data ++ data }
  let good := g == 0 || (old.link == l && old.item == item && old.index == idx && old.got == g)
  if !good then modWch (fun w => { w with frags := rest }) s
  else if g == 19 then s |> modWch (fun w => { w with frags := rest }) |> takeChunk l src item idx b.data
  else modWch (fun w => { w with frags := rest ++ [b] }) s

/-- An item in host memory: its chunks, each of which follows from the one before it (R314). -/
def itemChunks (s : State) (bs : List Byte) : Option (ChunkHead × List (List Byte)) :=
  match chunkHead s (bs.take 4096) with
  | none => none
  | some h =>
    let cs := (List.range h.chunks).map (fun i => slice bs (4096 * i) 4096)
    let linked := (List.range (h.chunks - 1)).all (fun i =>
      lget cs (i + 1) [] |> fun c => Config.sha384 c == (if i == 0 then h.next else nextHash (lget cs i [])))
    if bs.length == 4096 * h.chunks && linked && zeroAt (lget cs (h.chunks - 1) []) 4048 48 then some (h, cs) else none

/-- RESULT of WCH_BCAST (R317). -/
def bcResult (r : Nat) : State → State := modWch (fun w => { w with bcastResult := r })

/-- A write of WCH_BCAST (R315, R317). -/
def writeBcast (v : Word) (item : MemRead) (s : State) : State :=
  let s1 := modWch (fun w => { w with bcastAddr := fld v 47 0 }) s
  if !(fbit v 63) then s1
  else if !(fld v 11 0 == 0) then bcResult 4 s1
  else match item.bind (itemChunks s1) with
    | none => bcResult 4 s1
    | some (h, cs) =>
      if 4 ≤ s.wch.items.length then bcResult 3 s1
      else
        s1 |> modWch (fun w => { w with doneItems := (h.item :: w.doneItems).take 16 })
           |> forEach (cs.mapIdx (fun i c => (i, c))) (fun p => floodChunk none s.wch.chip h.item p.1 p.2)
           |> bcResult 2

/-! ### The cube census (R78, R308) -/

/-- A RECORD message for a chip: consumed here, or routed. -/
def takeAsFragment (src kind : Nat) (s : State) : State :=
  s |> rxRing src { rseq := drawValue s % 2 ^ 32, frag := 0, nfrag := 1, kind := kind, urgent := false, data := fit 208 (Config.draw s.fresh 208) }
    |> bumpFresh

/-- A cube census arrives: a copy at the deputy, or the report at the pod fault manager's end (R308, R316). -/
def takeCubeCensus (src : Nat) (s : State) : State :=
  s |> takeAsFragment src 3 |> whenB (s.wch.warden == 2) (modWch (fun w => { w with cubeCopy := true }))

/-- The digest that more than half of the reports hold. -/
def majorityDigest (cs : List CensusSummary) : Option (List Byte) :=
  (cs.find? (fun c => decide (cs.length < 2 * (cs.filter (fun d => d.digest == c.digest)).length))).map (fun c => c.digest)

/-- The cube census over the reports that have come (R78). -/
def cubeCensus (s : State) : Msg :=
  let cs := s.wch.censusGot
  let cube := (List.range 64).map (fun i => s.wch.chip / 64 * 64 + i)
  .cubeCensus cube ((cs.filter (fun c => !(majorityDigest cs == some c.digest))).map (fun c => c.chip))
    (cube.filter (fun c => !(cs.any (fun x => x.chip == c)))) ((cs.filter (fun c => !c.ready)).map (fun c => c.chip))

/-- Send a RECORD message to a chip. -/
def sendRec (dest : Nat) (m : Msg) (local_ : State → State) (s : State) : State :=
  if dest == s.wch.chip then local_ s else sendRouted clRecord dest 0 m s

/-- Report the cube census to the pod fault manager; the warden copies it to the deputy (R308). -/
def sendCube (s : State) : State :=
  let m := cubeCensus s
  s |> modWch (fun w => { w with cubeSent := true })
    |> sendRec (pfmEnd s) m (takeCubeCensus s.wch.chip)
    |> whenB (s.wch.warden == 1 && !(s.gnd.chip.deputy == 0x1FFFF)) (sendRec s.gnd.chip.deputy m (takeCubeCensus s.wch.chip))

/-- A CENSUS summary reaches the warden or the deputy; with all 64 the warden reports (R78, R308). -/
def takeCensus (c : CensusSummary) (s : State) : State :=
  if !(s.wch.warden == 1 || s.wch.warden == 2) || !(c.chip / 64 == s.wch.chip / 64) then s
  else
    let got := s.wch.censusGot.filter (fun x => !(x.chip == c.chip)) ++ [c]
    s |> takeAsFragment c.chip 2
      |> modWch (fun w => { w with censusGot := got, censusAt := some (w.censusAt.getD (now s)) })
      |> whenB (s.wch.warden == 1 && decide (64 ≤ got.length) && !s.wch.cubeSent) sendCube

/-- Every block sends its summary to the warden and to the deputy (R308). -/
def sendCensus (s : State) : State :=
  let c : CensusSummary := { chip := s.wch.chip, digest := digestBytes s, ready := s.boot.ready }
  forEach ([s.gnd.chip.warden, s.gnd.chip.deputy].filter (fun d => !(d == 0x1FFFF))) (fun d => sendRec d (.census c) (takeCensus c)) s

/-! ### Delivery (R304 to R307) -/

/-- A VERDICT by its kind (R225 to R228, R165). -/
def takeVerdict (l : Nat) (bypass : Bool) (v : VerdictMsg) (s : State) : State :=
  match v.kind with
  | 1 => fromTree true v.epoch l (takeUp l bypass v) s
  | 2 => fromTree false v.epoch l (fun s => s |> sendDown clVerdict v.epoch (.verdict v) |> takeDown v) s
  | 3 => fromTree true v.epoch l (takeLateFail v) s
  | _ => takeSuspect v s

/-- A tally message by its kind (R176). -/
def takeTally (l : Nat) (bypass : Bool) (t : TallyMsg) : State → State :=
  if t.kind == 1 then fromTree true t.epoch l (takeTallyUp l bypass t) else fromTree false t.epoch l (takeTallyTotal t)

/-- An exponent message by its kind (R107). -/
def takeExps (l : Nat) (e : ExpMsg) (s : State) : State :=
  if e.kind == 2 then fromTree false e.epoch l (takeAgreed e) s
  else if coreReset s then fromTree true e.epoch l (relayBypass clBulk 3 e.epoch (.exps e)) s
  else fromTree true e.epoch l (takeProposal false l e) s

/-- A message is acted on, as arriving on link `l`; a marker's residence is a free value (log entry 38). -/
def deliver (l : Nat) (f : Flit) (now0 : Nat) (s : State) : State :=
  match f.msg with
  | .alarm m => takeAlarm l f m s
  | .marker m => s |> takeMarker l m now0 (drawValue s % 2 ^ 32) |> bumpFresh
  | .heartbeat h => takeHeart l h now0 s
  | .verdict v => takeVerdict l f.bypass v s
  | .tally t => takeTally l f.bypass t s
  | .xport x => takeXport x s
  | .shard v => if v.kind == 6 then takeResult v s else takeShard v s
  | .exps e => takeExps l e s
  | .peerReq r o c d => takePeerReq l r o c d s
  | .peerData r c last data => takePeerData l r c last data s
  | .peerResp r st _ dg => takePeerResp l r st dg s
  | .chunk i n g data => takeFrag l f.src i n g data s
  | .record r => rxRing f.src r s
  | .census c => takeCensus c s
  | .cubeCensus _ _ _ _ => takeCubeCensus f.src s

/-- The link whose authenticated partner is a chip (R307). -/
def linkOfPartner (s : State) (c : Nat) : Option Nat :=
  (linkNos s).find? (fun l => (link s l).partner == c && !((link s l).state == lsDown))

/-- A message that an epoch's rule refuses (R304): class with epoch 0, or an epoch of which no partition is MEMBER or ABORTING. -/
def epochRefused (s : State) (f : Flit) : Bool :=
  if f.epoch == 0 then !(f.cls == clStroke || f.cls == clRecord || (f.cls == clBulk && f.mode == mdFlood))
  else !(f.cls == clAlarm) && !(memberOf s f.epoch)

/-- A message that goes on (R304 to R306). -/
def transit (s : State) (f : Flit) : Bool :=
  (f.mode == mdRouted || f.mode == mdDetourUp || f.mode == mdDetourDown) && !(f.dest == s.wch.chip)

/-- An accepted flit: refused, sent on, or delivered (R294, R295, R304 to R307). -/
def acceptFlit (l : Nat) (f : Flit) (now0 : Nat) (s : State) : State :=
  if decide (6 ≤ f.cls) || f.mode == 7 || ((link s l).state == lsLimited && !(limitedCarries f)) then errEpoch l s
  else if transit s f then
    if f.epoch == 0 && !(f.cls == clRecord) then errEpoch l s
    else if f.ttl == 0 then errTtl l s
    else routeFlit { f with ttl := f.ttl - 1 } s
  else if epochRefused s f then errEpoch l s
  else if f.mode == mdDetourUp || f.mode == mdDetourDown then
    match linkOfPartner s f.src with
    | some j => deliver j f now0 s
    | none => errEpoch l s
  else deliver l f now0 s

/-- The tag of a flit fails: the link is QUARANTINED at once (R302, R296). -/
def hostile (l : Nat) (f : Flit) (s : State) : State :=
  s |> modErr l (fun e => { e with tag := satInc 4 e.tag })
    |> recordBlock .linkHostile (le 1 l ++ le 1 f.cls ++ le 2 f.lseq ++ le 4 (link s l).partner)
    |> toQuarantine l lcHostile
    |> irqSet 0 irqSecurity

/-- A flit fails its CRC on a lane: counted, and asked for again (R301, R302). -/
def crcFailed (l lane now0 : Nat) (s : State) : State :=
  s |> modLink l (fun k => { k with err := { k.err with crc := satInc 16 k.err.crc }, crcWin := lbump 2 k.crcWin lane 1 })
    |> sendNack l now0

/-- A data flit arrives (R296, R301): checked, taken in order, acknowledged and acted on. -/
def takeFlit (l lane : Nat) (crcOk tagOk : Bool) (f : Flit) (now0 : Nat) (s : State) : State :=
  let k := link s l
  if !(linkOpen k) then s
  else if !crcOk then crcFailed l lane now0 s
  else if !tagOk then hostile l f s
  else if !(f.lseq == k.rxSeq % 65536) then sendNack l now0 s
  else
    s |> gcount 10 1
      |> modLink l (fun k => rekeyIn { k with rxSeq := (k.rxSeq + 1) % 2 ^ 48, consumed := lmod k.consumed f.cls (fun n => (n + 1) % 65536) })
      |> takeAck l f.ack
      |> acceptFlit l f now0

end Sys2Proof.Machine
end

