-- ==== Sys2Proof/Machine/Flags.lean ====
section
/-!
DEFINITION. Every status, flag, configuration and counter register as it reads (R42, R80, R136, R166, R167, R194, R220, R221, R250,
R251, R285, R286, R317, R339, R370, R371, R399, R407, R409). A register is read whole; reserved fields and write-only fields read zero.
-/
namespace Sys2Proof.Machine

open Sys2Proof

/-- The index of an offset in an array of registers. -/
def arr (base step count off : Nat) : Option Nat :=
  if base ≤ off && (off - base) % step == 0 && decide ((off - base) / step < count) then some ((off - base) / step) else none

/-- A count in a field of `width` bits that saturates. -/
def atSat (lo width v : Nat) : Nat := at_ lo width (Nat.min v (2 ^ width - 1))

/-! ### GLOBAL (R407) -/

/-- Every enabled link is UP, DEGRADED, QUARANTINED or ABSENT, or step 5 need not wait any more (R397). -/
def linksDone (s : State) : Bool :=
  s.boot.linksSettled ||
    (linkNos s).all (fun l => !(linkEnabled s l) || linkUsable (link s l) || (link s l).state == lsQuarantined || (link s l).state == lsAbsent)

/-- The bring-up step of R397: steps 5 and 6 run together, and 6 shows once the links have settled. -/
def stageNow (s : State) : Nat := if s.boot.stage == 5 && linksDone s then 6 else s.boot.stage

/-- The valid partition with the largest grain budget, the lowest first (R407). -/
def strictPart (s : State) : Option Nat :=
  let top := maxOf ((validParts s).map (fun k => (modeEntry s k).grains))
  (validParts s).find? (fun k => (modeEntry s k).grains == top)

/-- GLB_MODE's entry. -/
def strictEntry (s : State) : PhaseEntry :=
  match strictPart s with
  | some k => modeEntry s k
  | none => { mode := s.straps.mode, valid := true, grains := modeGrains s.straps.mode }

/-- GLB_LIFECYCLE: word 0x0A of OTP with the state of R388. -/
def readLifecycle (s : State) : Word :=
  let w := otpWord s 0x0A
  word [at_ 16 4 (bitsOf w 19 16), at_ 12 4 (bitsOf w 15 12), at_ 8 4 (bitsOf w 11 8), at_ 4 4 (bitsOf w 7 4), atB 3 (bitOf w 2),
    lifeState s]

/-- The GLOBAL window. -/
def readGlobal (s : State) (off : Nat) : Word :=
  let dg := fit 16 s.gnd.configDigest
  match off with
  | 0x00 => word [at_ 48 16 0x4E48, at_ 32 16 0xD4A1]
  | 0x08 => word [0x040200]
  | 0x10 => buildParams s
  | 0x18 => word [at_ 8 8 s.straps.links, atB 6 s.straps.slot0Sec, at_ 4 2 s.straps.mode, at_ 2 2 s.straps.boot, at_ 0 2 s.straps.strokeSrc]
  | 0x20 => readLifecycle s
  | 0x28 => word [rd dg 0 8]
  | 0x30 => word [rd dg 8 8]
  | 0x38 => word [atB 63 (ticking s), at_ 60 3 s.stk.state, if ticking s then at_ 58 2 s.stk.phase else 0, at_ 0 48 s.stk.stroke]
  | 0x40 => word [atB 63 s.gnd.short, at_ 16 24 s.gnd.dAgree, at_ 8 8 s.gnd.a, at_ 0 6 s.gnd.h]
  | 0x48 => word [at_ 61 3 (strictEntry s).mode, atB 60 (s.sents.any (fun e => e.2.rl.dualActive)), at_ 58 2 s.straps.mode,
      at_ 0 13 (strictEntry s).grains]
  | 0x50 => word [at_ 43 21 s.cpy.budget.b, atSat 22 21 s.cpy.budget.cs, at_ 0 16 s.cpy.budget.stroke]
  | 0x58 => word [atB 63 (s.boot.ready && !(controlReset s)), at_ 59 4 (stageNow s), atB 58 (s.parts.any (fun e => e.2.valid && e.2.state == psHeld)),
      at_ 0 48 s.boot.readyStroke]
  | 0x60 => word [deviceId s]
  | _ => 0

/-! ### STROKE (R42) -/

/-- The lowest verified stroke over the live epochs, when each has one. -/
def lowestVerified (s : State) : Option Nat :=
  let vs := (liveEpochs s).map (verifiedOf s)
  if vs.isEmpty || vs.any (fun v => v.isNone) then none else some (minOf 0 (vs.filterMap id))

/-- A stroke with VALID. -/
def strokeWord : Option Nat → Word
  | some n => word [atB 63 true, at_ 0 48 n]
  | none => 0

/-- STK_PART_VERIFIEDk. -/
def partVerified (s : State) (k : Nat) : Option Nat :=
  let q := part s k
  if inEpoch q && q.verifiedValid then verifiedOf s q.epoch else none

/-- The STROKE window. -/
def readStroke (s : State) (off : Nat) : Word :=
  match off with
  | 0x00 => word [atB 63 s.tcfg.lock, atB 32 s.tcfg.enable, at_ 28 4 s.tcfg.lead, at_ 0 20 s.tcfg.period]
  | 0x08 => word [at_ 0 48 s.tcfg.start]
  | 0x10 => word [at_ 62 2 s.stk.source, at_ 59 3 s.stk.state, at_ 55 4 s.stk.flyRun, at_ 52 3 s.stk.parent, atB 51 s.stk.cfgErr]
  | 0x18 => word [at_ 48 16 s.stk.overrun, at_ 32 16 s.stk.foreign, at_ 16 16 s.stk.runt, at_ 0 16 s.stk.missed]
  | 0x20 => word [at_ 16 16 s.stk.skewMax, at_ 0 16 (twos 16 s.stk.skewLast)]
  | 0x28 => strokeWord (lowestVerified s)
  | _ =>
    match arr 0x40 8 s.build.links off, arr 0x80 8 4 off, arr 0x100 8 16 off, arr 0x200 8 64 off with
    | some n, _, _, _ => word [atB 63 (link s n).measured, at_ 0 24 (tgetD s.stk.linkDelay n 0)]
    | _, some k, _, _ => word ((List.range 16).map (fun j => at_ (4 * j) 4 (part s (16 * k + j)).phase))
    | _, _, some n, _ => (fun e : PhaseEntry => word [at_ 61 3 e.mode, atB 60 e.valid, at_ 0 13 e.grains]) (lget s.stk.phases n {})
    | _, _, _, some k => strokeWord (partVerified s k)
    | _, _, _, _ => 0

/-! ### GROUND (R80) -/

/-- Ports of the loaded map in a state. -/
def portsIn (s : State) (p : Tile → Bool) : Nat := (s.gnd.tiles.filter (fun e => p e.2)).length

/-- GND_PARTk. -/
def readPart (s : State) (k : Nat) : Word :=
  let q := part s k
  if !q.valid then 0
  else word [atB 63 true, atB 62 (partReady s k), at_ 58 4 q.owner, at_ 36 12 (vacantIn s k), at_ 24 12 q.count, at_ 0 11 q.first]

/-- GND_TILEp. -/
def readTile (s : State) (p : Nat) : Word :=
  match tget s.gnd.tiles p with
  | none => 0
  | some t => word [at_ 24 12 t.host, at_ 21 3 t.state, at_ 18 3 t.typ, at_ 12 6 t.part, if working t then at_ 0 11 t.logical else 0]

/-- VACANT logical numbers of every partition. -/
def vacantAll (s : State) : Nat := ((validParts s).map (vacantIn s)).sum

/-- The GROUND window. -/
def readGround (s : State) (off : Nat) : Word :=
  let g := s.gnd
  match off with
  | 0x00 => word [at_ 61 3 g.state, at_ 58 3 g.source, at_ 50 8 g.err, at_ 48 2 g.keySlot, at_ 32 16 g.attempts, at_ 0 32 g.serial]
  | 0x08 => word [at_ 0 48 g.addr]
  | 0x10 =>
    if !g.done then 0
    else word [atB 63 true, at_ 48 12 (vacantAll s), at_ 36 12 (portsIn s (fun t => t.state == tsFailed)),
      at_ 24 12 (portsIn s (fun t => t.state == tsHidden || t.state == tsQuarantined)), at_ 12 12 (portsIn s (fun t => t.state == tsSpare)),
      at_ 0 12 (portsIn s working)]
  | _ =>
    match arr 0x200 8 64 off, arr 0x4000 8 s.build.ports off with
    | some k, _ => readPart s k
    | _, some p => readTile s p
    | _, _ => 0

/-! ### COPYIST (R166, R167) -/

/-- CPY_STATUS.STATE. -/
def copyState (s : State) : Nat :=
  if !s.boot.ready then 0 else if (liveGroups s).isEmpty || s.pwr.clockLost || coreReset s then 4 else if s.pwr.witness then 3
  else if (upUnits s).length < s.build.units then 2 else 1

/-- The COPYIST window. -/
def readCopyist (s : State) (off : Nat) : Word :=
  let c := s.cpy
  match off with
  | 0x00 => word [atB 63 c.lock, at_ 32 8 c.cfg.peerServeMax, at_ 16 16 c.cfg.canaryPeriod, at_ 12 4 c.cfg.dirShare, atB 8 c.cfg.dpxEn,
      atB 7 c.cfg.peerEn]
  | 0x08 => word [at_ 61 3 (copyState s), at_ 57 4 (maskOf (liveGroups s)), atB 48 c.cfgErr, at_ 32 16 c.backlog,
      atSat 16 16 (c.captures.filter (fun e => e.2.state == 0)).length, atSat 0 16 c.budget.cs]
  | 0x10 => word [atSat 48 16 (c.budget.b / 32), atSat 32 16 (c.budget.gc / 32), atSat 16 16 (c.budget.gd / 32), atSat 0 16 (c.budget.gu / 32)]
  | 0x18 => word [atSat 40 24 (grains256 s 1 c.lastCost), atSat 24 16 (grains256 s (32 * Nat.max 1 c.costs.length) c.costs.sum), at_ 15 9 c.budget.f,
      atSat 0 8 (c.budget.dir / 256)]
  | 0x20 => word [at_ 32 32 (maskOf ((unitNos s).filter (fun u => (cunit s u).perm))), at_ 0 32 (maskOf (upUnits s))]
  | 0x28 => word [at_ 52 12 c.landing, at_ 40 12 c.staging, at_ 28 12 c.service,
      at_ 16 12 (c.landing + c.staging + c.service - (c.heldLanding + c.heldStaging + c.heldService))]
  | 0x30 => word [at_ 0 48 c.ringBase]
  | 0x38 => word [at_ 0 16 c.ringSize]
  | 0x40 => word [at_ 0 16 c.hostRate]
  | 0x48 => word [atSat 52 12 c.cFail, atSat 40 12 c.cLate, atSat 28 12 c.cUnc, atSat 16 12 c.cPass, atSat 8 8 c.disagree, atSat 0 8 c.discarded]
  | 0x50 => word [at_ 48 16 c.peerSent, at_ 32 16 c.peerServed, at_ 16 16 c.peerBusy, at_ 0 16 c.peerSplit]
  | 0x58 => word [at_ 16 16 c.canaryRuns, at_ 0 16 c.canaryFails]
  | _ => 0

/-! ### DIGEST (R194) -/

/-- Tally checks that await a total. -/
def tallyPending (s : State) : List Tally := s.dgt.tally.filter (fun x => x.sum.isSome && x.total.isNone && !x.judged)

/-- The DIGEST window as slot `n` reads it. -/
def readDigest (s : State) (n off : Nat) : Word :=
  let d := s.dgt
  match off with
  | 0x00 => word [at_ 38 10 d.tallyWait, at_ 24 14 d.replWait, atB 2 d.twFixed, atB 1 d.xportEn]
  | 0x08 => word [at_ 48 16 (2 ^ s.build.taps - 1), atSat 35 13 d.streams.length, atSat 24 11 d.tally.length, atSat 11 13 d.repl.length, atB 2 d.proto,
      atB 1 d.tableFull, atB 0 d.tapFull]
  | 0x20 => (fun c : DgtCmd => word [at_ 60 4 c.op, at_ 56 4 c.status, at_ 50 6 c.part, atB 49 c.retrySeen, at_ 0 32 c.detail]) (tgetD d.cmds n {})
  | 0x28 => word [atSat 52 12 (tallyPending s).length, at_ 0 48 (minOf 0 ((tallyPending s).filterMap (fun x => x.sum.map Prod.snd)))]
  | 0x30 => word [at_ 52 12 d.tallyFail, at_ 40 12 d.tallyVoid, at_ 28 12 d.xportFail, at_ 16 12 d.replExpel, at_ 4 12 d.replSplit]
  | _ => 0

/-! ### WATCH (R317) -/

/-- Links that a test admits, as a mask. -/
def linkMask (s : State) (p : Link → Bool) : Nat := maskOf ((linkNos s).filter (fun l => p (link s l)))

/-- WCH_LINKn. -/
def readLink (s : State) (l : Nat) : Word :=
  let k := link s l
  word [at_ 60 4 k.state, at_ 58 2 k.width, at_ 56 2 k.lanesBad, at_ 54 2 (if s.gnd.state == 3 then (chipLink s l).role else 0), atB 53 k.fallback,
    atB 52 k.cfgMismatch, at_ 48 4 k.cause, at_ 31 17 k.partner, at_ 0 16 k.trains]

/-- WCH_ERRn. -/
def readErr (s : State) (l : Nat) : Word :=
  let e := (link s l).err
  word [at_ 48 16 e.crc, at_ 36 12 e.retry, at_ 32 4 e.tag, at_ 24 8 e.creditTo, at_ 16 8 e.epoch, at_ 12 4 e.ttl, at_ 8 4 e.unreach, at_ 0 8 e.lost]

/-- The WATCH window. -/
def readWatch (s : State) (off : Nat) : Word :=
  let w := s.wch
  match off with
  | 0x00 => word [atB 63 w.lock, at_ 48 8 w.cfg.crcMax, at_ 40 8 w.cfg.creditWait, at_ 32 8 w.cfg.hbMiss, at_ 16 16 w.cfg.trainWait, at_ 8 8 w.cfg.ttl,
      at_ 0 8 w.cfg.linkEn]
  | 0x08 => word [at_ 56 8 (linkMask s linkUsable), at_ 48 8 (linkMask s (fun k => k.state == lsLimited)),
      at_ 40 8 (linkMask s (fun k => k.state == lsQuarantined)), at_ 36 4 w.bypass, at_ 34 2 w.warden, at_ 0 17 w.chip]
  | 0x10 => word [atB 62 w.selTable, at_ 51 11 w.selIndex, atB 19 w.sel.valid, at_ 16 3 w.sel.primary, atB 15 w.sel.altValid, at_ 12 3 w.sel.alt]
  | 0x18 => word [at_ 60 3 w.bcastResult, at_ 0 48 w.bcastAddr]
  | 0x20 => word [at_ 0 48 w.rxBase]
  | 0x28 => word [at_ 48 16 w.rxOverflow, at_ 16 16 w.rxTail, at_ 0 16 w.rxHead]
  | _ =>
    match arr 0x100 16 s.build.links off, arr 0x108 16 s.build.links off, arr 0x200 8 s.build.links off with
    | some l, _, _ => readLink s l
    | _, some l, _ => readErr s l
    | _, _, some l => word [atB 63 (isTunnel s l), at_ 0 48 (link s l).tunnelBase]
    | _, _, _ => 0

/-! ### LEDGER (R370) -/

/-- The trace entry in place `i` of a buffer: place 0 holds the trigger, the others the ring (R364). -/
def traceAt (b : Trace) (i : Nat) : Option TraceEntry :=
  if i == 0 then b.trigger
  else
    let newest := if b.next == 1 then 2047 else b.next - 1
    b.ring[(newest + 2047 - i) % 2047]?

/-- The 32 bytes of a trace entry (R363). -/
def traceBytes (e : TraceEntry) : List Byte :=
  le 6 e.stroke ++ le 3 e.offset ++ le 1 e.source ++ le 2 e.node ++ le 2 e.typ ++ le 1 e.severity ++ le 1 e.flags ++ le 4 e.seq ++ fit 12 e.data

/-- Trace buffer `b`. -/
def trace (s : State) (b : Nat) : Trace := lget s.ldg.traces b {}

/-- LDG_TRACEb_CFG. -/
def readTraceCfg (b : Trace) : Word :=
  word [atB 61 b.cfg.subtree, at_ 58 3 b.cfg.sources, at_ 55 3 b.cfg.capSev, at_ 52 3 b.cfg.trigSev, at_ 40 12 b.cfg.node, at_ 24 16 b.cfg.trigType, at_ 13 11 b.cfg.post]

/-- LDG_TRACEb_STATUS. -/
def readTraceStatus (b : Trace) : Word :=
  word [at_ 62 2 b.state, at_ 51 11 b.ring.length, at_ 40 11 (if b.ring.isEmpty then 0 else (b.next + 2046 - b.ring.length) % 2047 + 1),
    at_ 16 16 b.overflow, at_ 8 8 b.dropped, at_ 0 8 b.lateTrig]

/-- LDG_TWi. -/
def readTw (x : TwEntry) : Word :=
  word [atB 63 x.en, at_ 56 6 x.part, at_ 52 4 x.format, at_ 44 8 x.expLo, at_ 40 4 x.every, at_ 16 16 x.layer, at_ 0 16 x.oper]

/-- The LEDGER window. -/
def readLedger (s : State) (off : Nat) : Word :=
  let l := s.ldg
  match off with
  | 0x00 => word [at_ 53 3 l.cfg.fwdSev, at_ 32 16 l.cfg.summary, at_ 16 16 l.cfg.rateWindow, at_ 0 16 l.cfg.sealAt]
  | 0x08 => word [atB 63 l.nvmErr, atB 62 l.noStore, atB 61 l.clearing, atB 60 l.twErr, atSat 49 11 ((bufUsed l + resUsed l) / 1024), at_ 0 48 l.highStroke]
  | 0x10 => word [at_ 32 32 l.next, at_ 0 32 l.committed]
  | 0x18 => word [at_ 48 16 s.nvm.sizeMiB, at_ 46 2 s.nvm.kind, atSat 32 8 (s.nvm.units.filter (fun u => u.bad)).length, at_ 0 32 l.oldest]
  | 0x20 => word [at_ 32 32 l.lost, at_ 24 8 l.lossCause, at_ 0 24 l.loss.count]
  | 0x28 => word [at_ 59 4 l.signedResult, at_ 0 48 l.signedAddr]
  | _ =>
    match arr 0x40 8 4 off, arr 0x60 8 4 off, arr 0x100 8 64 off, arr 0x1000 8 32 off, arr 0x2000 8 1024 off, arr 0x10000 8 32768 off with
    | some b, _, _, _, _, _ => readTraceCfg (trace s b)
    | _, some b, _, _, _, _ => readTraceStatus (trace s b)
    | _, _, some i, _, _, _ => readTw (tgetD l.tw i {})
    | _, _, _, some i, _, _ => word [if i < 16 then at_ 0 64 (lget l.gcnt i 0) else 0]
    | _, _, _, _, some j, _ => word [at_ 0 64 (lget (part s (j / 16)).cnt (j % 16) 0)]
    | _, _, _, _, _, some w =>
      (match traceAt (trace s (w / 8192)) (w % 8192 / 4) with | some e => word [rd (traceBytes e) (8 * (w % 4)) 8] | none => 0)
    | _, _, _, _, _, _ => 0

/-! ### POWER (R399) -/

/-- SHED: bit 1 is set when any copy unit is unserved (R384). -/
def shedBits (s : State) : Nat :=
  atB 0 s.pwr.shedPeer + atB 1 (decide (s.pwr.unitsServed < (upUnits s).length)) + atB 2 s.pwr.shedSlices + atB 3 s.pwr.shedTw

/-- The mean of the last 500 estimates (R382). -/
def estMean (s : State) : Nat := s.pwr.ests.sum / Nat.max 1 s.pwr.ests.length

/-- The POWER window. -/
def readPower (s : State) (off : Nat) : Word :=
  let p := s.pwr
  match off with
  | 0x00 => word [atB 63 p.lock, at_ 48 8 p.ramp, at_ 40 8 p.restore, at_ 0 4 p.forceShed]
  | 0x08 => word [atB 63 p.witness, atB 62 p.overdraw, atB 61 p.gating, atB 60 p.grantSeen, at_ 56 4 (shedBits s), at_ 50 6 p.unitsServed, at_ 32 16 p.selfFaults]
  | 0x10 => word [at_ 54 10 p.grant, at_ 44 10 p.est, at_ 34 10 (estMean s), at_ 24 10 p.peak]
  | 0x18 => word [atSat 0 64 (p.energy / 2)]
  | 0x20 => word [at_ 48 8 p.last, at_ 32 16 p.coreResets, at_ 16 16 p.controlResets]
  | 0x28 => word [at_ 59 4 (stageNow s), at_ 56 3 s.boot.source, at_ 48 8 s.boot.err, at_ 0 48 s.boot.addr]
  | 0x30 => word [at_ 56 4 s.life.result, at_ 0 48 s.life.addr]
  | _ => 0

/-! ### SCREEN (R220, R221) -/

/-- The SCREEN window. -/
def readScreen (s : State) (off : Nat) : Word :=
  let c := s.scr
  match off with
  | 0x00 => word [at_ 48 8 c.cfg.trimThresh, atB 47 c.cfg.trimEn, atB 46 c.cfg.analogEn, atB 45 c.cfg.heatEn, atB 44 c.cfg.slicesEn, at_ 40 4 c.cfg.marginFreq,
      at_ 32 8 c.cfg.heatDelta, at_ 16 16 c.cfg.heatMax, at_ 8 8 c.cfg.grantWait, at_ 0 8 c.cfg.stressWait]
  | 0x08 =>
    let shed := [atB 43 (s.pwr.shedSlices || s.pwr.witness), atSat 40 3 (queueCount s), atSat 16 16 ((testedPorts s).filter (sliceOverdue s)).length]
    match c.hold with
    | none => word shed
    | some h => word ([atB 63 true, at_ 60 3 h.kind, at_ 56 4 h.stage, at_ 44 12 (nodeOf h.port),
        atSat 0 16 (match h.granted with | some n => now s - n | none => 0)] ++ shed)
  | 0x10 => word [at_ 56 4 c.result]
  | 0x18 => word [at_ 48 16 c.pass, at_ 32 16 c.fail, at_ 16 16 c.uncovered, at_ 0 16 c.deferred]
  | 0x20 => word [at_ 48 12 c.trimNode, at_ 40 8 c.trimStep, at_ 32 8 c.trimTotal, at_ 0 32 c.trimCount]
  | 0x28 => word [atB 63 s.life.scanOk, atB 62 s.life.zeroised, atB 61 s.life.zeroiseFail, atB 60 s.life.denied, at_ 56 4 s.life.attempts]
  | _ => 0

/-! ### RECOVERY (R251, R285) -/

/-- RCV_CTXc. -/
def readCtx (s : State) (c : Nat) : Word :=
  let x := ctx s c
  word [at_ 62 2 x.state, at_ 50 6 (x.parts.headD 0), at_ 0 16 x.cepoch]

/-- RCV_PART_EPOCHk. -/
def readPartEpoch (s : State) (k : Nat) : Word :=
  let q := part s k
  word [at_ 61 3 q.state, atB 60 q.timer, at_ 0 32 q.epoch]

/-- The RECOVERY window. -/
def readRecovery (s : State) (off : Nat) : Word :=
  let r := s.rcv
  match off with
  | 0x00 => word [atB 63 r.lock, atB 48 r.cfg.sampleEn, at_ 44 4 r.cfg.trendMin, at_ 32 12 r.cfg.scrOffset, at_ 0 32 r.cfg.ckptSteps]
  | 0x08 => word [at_ 61 3 s.gnd.policy.ladderMax, at_ 60 1 s.gnd.policy.ckptTrigger, at_ 52 8 s.gnd.a, at_ 48 4 (maxOf (r.ladders.map (fun x => x.level))),
      at_ 32 10 s.gnd.policy.hangW, atSat 0 16 r.teardowns.length]
  | 0x10 => word [at_ 56 4 r.ladderResult]
  | 0x18 => word [at_ 57 4 r.fenceResult]
  | 0x20 => word [at_ 59 4 r.joinResult, at_ 0 48 r.joinAddr]
  | 0x28 => word [at_ 49 8 r.alarmCause, at_ 0 48 r.alarmAbort]
  | 0x30 => word [at_ 0 64 r.ckpt]
  | 0x38 => word [at_ 57 4 r.gateResult, at_ 0 32 r.gateSteps]
  | 0x40 => word [at_ 0 48 r.scratchBase]
  | 0x48 => word [at_ 48 16 r.hangs, at_ 32 16 r.teardownsDone, at_ 16 16 r.resets, at_ 0 16 r.late]
  | 0x800 => word [at_ 0 48 s.taint.spillBase]
  | 0x808 => word [at_ 0 5 s.taint.spillSize]
  | 0x810 => word [atB 63 s.taint.spillErr, atB 62 s.taint.paused, at_ 0 48 (oldestRow s)]
  | 0x818 => word [atB 63 s.taint.lock, atB 32 s.taint.sweepEn, at_ 16 16 s.taint.span, at_ 0 16 s.taint.max]
  | 0x820 => word [atSat 56 8 (r.blasts.filter (fun b => !b.written)).length, atSat 48 6 r.sweeps.length, at_ 0 48 r.blastA]
  | 0x828 => word [at_ 56 4 r.quarResult]
  | _ =>
    match arr 0x100 8 64 off, arr 0x8000 8 4096 off with
    | some k, _ => readPartEpoch s k
    | _, some c => readCtx s c
    | _, _ => 0

/-! ### Host slots (R339) -/

/-- One mailbox channel's registers, at offsets from its base. -/
def readMbx (s : State) (n c off : Nat) : Word :=
  let m := mbx s n c
  match off with
  | 0x00 => word [at_ 0 48 m.ptr]
  | 0x10 => (match m.toHost.head? with | some x => word [at_ 6 42 (x.ptr / 64), 1] | none => 0)
  | 0x18 =>
    (match m.toHost.head? with
     | some x => (match x.answer with | some (st, k) => word [at_ 60 4 st, at_ 32 28 k, at_ 0 32 x.tag] | none => 0)
     | none => 0)
  | 0x28 => word [at_ 61 3 m.toBlock.length, at_ 58 3 m.inService.length, at_ 55 3 m.toHost.length, atB 54 m.underflow, atB 53 m.flushing,
      at_ 16 16 m.fullErrs, at_ 0 16 m.posted]
  | _ => 0

/-- The window of slot `n`, as access `a` reads it. -/
def readSlot (s : State) (a : Access) (n off : Nat) : Word :=
  let w := slot s n
  match off with
  | 0x00 => word [at_ 60 4 n, atB 59 (privileged s a), atB 58 a.sec, atB 57 (slot0Sec s)]
  | 0x08 => word [maskOf (ownedParts s n)]
  | 0x10 => word [at_ 0 18 (irqStatus s n)]
  | 0x18 => word [atB 63 w.wakeAll, at_ 0 18 w.irqEn]
  | _ =>
    match arr 0x40 8 2 off, arr 0x400 8 64 off with
    | some c, _ => word [at_ 48 16 (lget w.apSize c 0), at_ 20 28 (lget w.apBase c 0)]
    | _, some k => readPart s k
    | _, _ => if 0x100 ≤ off && off < 0x200 then readMbx s n 0 (off - 0x100) else if 0x200 ≤ off && off < 0x300 then readMbx s n 1 (off - 0x200) else 0

/-! ### Node blocks (R47, R136, R167, R221, R250, R286, R371, R408 to R410) -/

/-- The ports that a node stands for: its own, or, for an assembly, those it aggregates. -/
def nodeAgg (s : State) : Nat → Nat → List Nat
  | 0, _ => []
  | fuel + 1, n => if 0x800 ≤ n then [n - 0x800] else (aggPorts s n) ++ (asmChildren s n).flatMap (nodeAgg s fuel)

/-- The aggregated descendants of a node, ascending. -/
def nodePorts0 (s : State) (n : Nat) : List Nat := asc (nodeAgg s 17 n)

/-- NOD_ID (R409). -/
def readNodeId (s : State) (n : Nat) : Word :=
  let k := partOf s n
  word [at_ 52 12 (parentOf s n), atB 51 (decide (n < 0x800)), if n < 0x800 then at_ 46 5 (aggChildren s n).length else 0, atB 45 k.isSome, at_ 39 6 (k.getD 0)]

/-- The checks of the judged stroke that count at a node (R47, R222, R223). -/
def nodeChecks (s : State) (n : Nat) : List Chk :=
  if 0x800 ≤ n then s.judged.filter (fun c => c.port == some (n - 0x800))
  else
    let ps := nodePorts0 s n
    s.judged.filter (fun c => match c.port with | some p => ps.contains p && working (tile s p) | none => n == 0)

/-- NOD_VERDICT. -/
def readVerdict (s : State) (n : Nat) : Word :=
  let cs := nodeChecks s n
  let worst := (List.range 8).map (fun k => at_ (2 * k) 2 (maxOf ((cs.filter (fun c => c.kind == k)).map (fun c => c.code))))
  word ([at_ 48 16 s.judgedStroke, atSat 32 16 ((cs.filter (fun c => c.code == vFail)).map (fun c => c.n)).sum, atSat 16 16 (cs.map (fun c => c.n)).sum] ++ worst)

/-- Health of a port as it reads: a sentinel without a verdict in the stroke judged reads SILENT, unless it is worse (R239). -/
def portHealth (s : State) (p : Nat) : Nat := Nat.max (sent s p).health.code (if (sent s p).silent then 3 else 0)

/-- A sweep of a port is open or queued. -/
def sweepOpen (s : State) (p : Nat) : Bool := s.rcv.sweeps.any (fun w => w.port == p)

/-- NOD_HEALTH. -/
def readHealth (s : State) (n : Nat) : Word :=
  let ps := nodePorts0 s n
  let code := if n < 0x800 && (asm s n).absent then 5 else maxOf (ps.map (portHealth s))
  word [at_ 61 3 code, atSat 57 4 (maxOf (ps.map (fun p => (windowEvents s p).length))), atB 56 (ps.any (retestPending s)), atB 55 (ps.any (sweepOpen s)),
    at_ 0 48 (maxOf (ps.map (fun p => (sent s p).health.since)))]

/-- The residue registers of a node (R136). -/
def readRl (s : State) (n off : Nat) : Word :=
  let xs := (nodePorts0 s n).map (fun p => (p, (sent s p).rl))
  let satSum (w : Nat) (f : Rl → Nat) : Nat := Nat.min (2 ^ w - 1) ((xs.map (fun x => f x.2)).sum)
  match off with
  | 0x200 => word [atB 1 (if n < 0x800 then (asm s n).forceDual else (match (sent s (n - 0x800)).rl.forceDualNext with | some b => b | none => (sent s (n - 0x800)).rl.forceDual))]
  | 0x208 => word [atB 63 (xs.any (fun x => x.2.dualActive)), atB 62 (xs.any (fun x => x.2.injSeen)), atB 61 (xs.any (fun x => x.2.injMissed)), atB 60 (xs.any (fun x => x.2.dropped)),
      at_ 56 4 (if xs.isEmpty then 0 else xs.foldl (fun m x => m &&& x.2.channels) 15)]
  | 0x210 => word [satSum 64 (fun x => x.checks)]
  | 0x218 => word [at_ 32 32 (satSum 32 (fun x => x.failStrokes)), at_ 0 32 (satSum 32 (fun x => x.fails))]
  | 0x220 => word [satSum 64 (fun x => x.skips)]
  | 0x228 =>
    let ls := xs.filterMap (fun x => x.2.last)
    (match ls.find? (fun l => l.stroke == maxOf (ls.map (fun l => l.stroke))) with
     | some l => word [at_ 48 16 l.stroke, at_ 40 8 l.opc, at_ 38 2 l.kind, atB 37 l.f127, atB 36 l.f31, at_ 24 12 l.pred, at_ 12 12 l.obs, at_ 0 12 l.lane]
     | none => 0)
  | _ => 0

/-- NOD_CPY (R167). -/
def readNodeCpy (s : State) (n : Nat) : Word :=
  let ps := nodePorts0 s n
  word [atSat 43 21 ((ps.map (fun p => (sent s p).samp.alloc)).sum), atB 42 (ps.any (directedNow s)), atSat 16 16 ((ps.map (fun p => (sent s p).samp.sampledLast)).sum),
    atSat 0 16 ((ps.map (fun p => (sent s p).samp.duplexedLast)).sum)]

/-- The port among a node's whose last completed slice is the latest. -/
def lastSlicePort (s : State) (ps : List Nat) : Option Nat :=
  let done := ps.filter (fun p => !((sent s p).sched.lastKind == 0))
  done.find? (fun p => (sent s p).sched.lastStroke == maxOf (done.map (fun q => (sent s q).sched.lastStroke)))

/-- NOD_SCR, NOD_CANARY and NOD_SCR_DUE (R221). -/
def readNodeScr (s : State) (n : Nat) : Word :=
  let ps := nodePorts0 s n
  let y : Sched := match lastSlicePort s ps with | some p => (sent s p).sched | none => {}
  word [atB 63 (ps.any (suspect s)), atB 62 (ps.any (sliceOverdue s)), if n < 0x800 then 0 else at_ 59 3 (sent s (n - 0x800)).sched.rot,
    at_ 56 3 y.lastKind, at_ 52 4 y.lastOutcome, at_ 0 48 y.lastStroke]
def readNodeCanary (s : State) (n : Nat) : Word :=
  let ps := (nodePorts0 s n).filter (fun p => decide (0 < (sent s p).canary.samples))
  let least (f : Nat → Nat) : Nat := minOf 0 (ps.map f)
  word [at_ 56 8 (least (fun p => (sent s p).canary.now)), at_ 48 8 (least (canaryMean s)), at_ 40 8 (least (fun p => (sent s p).canary.min)),
    at_ 32 8 (maxOf ((nodePorts0 s n).map (fun p => (sent s p).canary.trimMv))), atSat 0 32 ((ps.map (fun p => (sent s p).canary.samples)).sum)]
def readNodeDue (s : State) (n : Nat) : Word := word [at_ 0 48 (minOf 0 (((nodePorts0 s n).filter (tested s)).map (fun p => (sent s p).sched.due)))]

/-- NOD_PROGn (R286). -/
def readProg (s : State) (n i : Nat) : Word :=
  if n < 0x800 then
    let c := lget (asm s n).prog i {}
    word [atB 51 c.actLast, atB 50 (decide (s.gnd.policy.hangW ≤ c.run) && decide (0 < c.run)), at_ 0 32 c.count]
  else
    let c := prog s (n - 0x800) i
    word [at_ 52 12 c.ctx, atB 51 c.actLast, atB 50 c.hung, at_ 0 32 c.count]

/-- A gate is on at a port (R284, R286). -/
def gatedPort (s : State) (p : Nat) : Bool := (sent s p).fence.req && (sent s p).fence.op == 3

/-- NOD_RCV (R286). -/
def readNodeRcv (s : State) (n : Nat) : Word :=
  let ps := nodePorts0 s n
  word [atB 63 (ps.any (fun p => (sent s p).fence.req && !(gatedPort s p))), atB 62 (ps.any (gatedPort s)), atB 61 (ps.any (fun p => (sent s p).inReset)),
    at_ 58 3 (maxOf (ps.map (fun p => (sent s p).level))), atSat 32 16 ((ps.map (fun p => (sent s p).late)).sum),
    at_ 0 32 (maxOf (ps.map (fun p => (sent s p).lastAction)))]

/-- The event ring of a node. -/
def nodeRing (s : State) (n : Nat) : Ring := if 0x800 ≤ n then (sent s (n - 0x800)).ring else (asm s n).ring

/-- NOD_RING (R371): entry i of the ring holds event number i modulo 64. -/
def readRing (s : State) (n : Nat) : Word :=
  let r := nodeRing s n
  word [at_ 58 6 (if r.entries.isEmpty then 0 else (r.count + 63) % 64), at_ 50 7 r.entries.length, at_ 0 32 r.count]

/-- NOD_EVi_Ww (R362, R371). -/
def readEvent (s : State) (n i w : Nat) : Word :=
  let r := nodeRing s n
  match r.entries[(r.count + 63 - i) % 64]? with
  | none => 0
  | some e =>
    match w with
    | 0 => word [at_ 48 16 e.gen, at_ 0 48 e.stroke]
    | 1 => word [at_ 48 16 e.gen, at_ 32 16 e.typ, at_ 12 20 e.offset, at_ 0 12 e.node]
    | _ => word [at_ 48 16 e.gen, at_ 45 3 e.severity, atB 44 e.stretch, atB 43 e.flywheel, atB 42 e.forwarded, at_ 0 32 e.detail]

/-- A node block; an ABSENT assembly shows NOD_ID and NOD_HEALTH only (R408, R410). -/
def readNode (s : State) (n off : Nat) : Word :=
  if off == 0 then readNodeId s n
  else if off == 0x108 then readHealth s n
  else if n < 0x800 && (asm s n).absent then 0
  else if off == 0x100 then readVerdict s n
  else if 0x200 ≤ off && off ≤ 0x228 then readRl s n off
  else if off == 0x300 then readNodeCpy s n
  else if off == 0x400 then readNodeScr s n
  else if off == 0x408 then readNodeCanary s n
  else if off == 0x410 then readNodeDue s n
  else if off == 0x520 then readNodeRcv s n
  else if off == 0x600 then readRing s n
  else match arr 0x500 8 4 off, arr 0x800 8 192 off with
    | some i, _ => readProg s n i
    | _, some j => readEvent s n (j / 3) (j % 3)
    | _, _ => 0

/-- What a register reads as, at an address and for an access that its view admits (R400, R401, R411). -/
def readReg (s : State) (a : Access) (addr : Nat) : Word :=
  if addr < 0x10000 then readGlobal s addr
  else if addr < 0x110000 then readSlot s a ((addr - 0x10000) / 0x10000) (addr % 0x10000)
  else if addr < 0x200000 then 0
  else if addr < 0x300000 then readStroke s (addr - 0x200000)
  else if addr < 0x400000 then readGround s (addr - 0x300000)
  else if addr < 0x500000 then readCopyist s (addr - 0x400000)
  else if addr < 0x600000 then readDigest s a.slot (addr - 0x500000)
  else if addr < 0x700000 then readWatch s (addr - 0x600000)
  else if addr < 0x800000 then readLedger s (addr - 0x700000)
  else if addr < 0x900000 then readPower s (addr - 0x800000)
  else if addr < 0xA00000 then readScreen s (addr - 0x900000)
  else if addr == 0xA00030 && !(privileged s a) then readRecovery s 0x30 &&& word [maskOf (ownedParts s a.slot)]
  else if addr < 0xB00000 then readRecovery s (addr - 0xA00000)
  else if addr < 0x1000000 then 0
  else readNode s ((addr - 0x1000000) / 0x1000) (addr % 0x1000)

end Sys2Proof.Machine
end

