-- ==== Sys2Proof/Machine/Slots.lean ====
section
/-!
DEFINITION. Host slots: mailboxes, services, doorbells and wake (R318 to R339).
-/
namespace Sys2Proof.Machine

open Sys2Proof

/-! ### Access to a slot's own window (R321) -/

/-- A write to a register of slot window `n` that only its own slot has; `secure` ones need HS_SEC in a tenant view. -/
def ownWrite (a : Access) (n : Nat) (secure : Bool) (addr : Nat) (f : State → State) (s : State) : State :=
  if s.boot.inReset then s
  else if !(a.slot == n) || (secure && !a.sec && !(privileged s a)) then deny a true false addr s
  else busOk (f s)

/-- Address of a mailbox register. -/
def aMbx (n c off : Nat) : Nat := aSlot n + 0x100 + 0x100 * c + off

/-! ### Services (R326 to R328) -/

/-- SERVICE of a tag. -/
def serviceOf (tag : Nat) : Nat := tag / 2 ^ 24 % 256

def svEcho : Nat := 1
def svLedger : Nat := 2
def svCounters : Nat := 3
def svParts : Nat := 4

/-- STATUS of a response. -/
def msOk : Nat := 0
def msBadAddr : Nat := 1
def msBadLen : Nat := 2
def msUnsupported : Nat := 3
def msBusy : Nat := 4
def msTruncated : Nat := 5
def msReset : Nat := 6

/-- A channel's notices have the privileged view (R319). -/
def chanPriv (s : State) (n c : Nat) : Bool := privileged s { slot := n, sec := c == 1 }

/-- The partitions that a channel's view includes (R359). -/
def chanParts (s : State) (n c : Nat) : List Nat := if chanPriv s n c then validParts s else ownedParts s n

/-- Length of the counter snapshot (R359). -/
def snapshotLen (s : State) (n c : Nat) : Nat := 64 + (if chanPriv s n c then 256 else 0) + 128 * (chanParts s n c).length

/-- The least LEN of a service (R328). -/
def minLen (s : State) (n c svc : Nat) : Nat :=
  if svc == svLedger then 64 else if svc == svCounters then snapshotLen s n c else if svc == svParts then 16 * (ownedParts s n).length else 0

/-- The buffer lies in the channel's aperture (R327). -/
def inAperture (s : State) (n c : Nat) (x : Notice) : Bool :=
  let base := lget (slot s n).apBase c 0 * 2 ^ 20
  let size := lget (slot s n).apSize c 0 * 2 ^ 20
  x.ptr % 64 == 0 && !(size == 0) && decide (base ≤ x.ptr) && decide (x.ptr + x.len ≤ base + size)

/-- What firmware finds wrong with a notice before it touches memory (R327, R328). -/
def noticeFault (s : State) (n c : Nat) (x : Notice) : Option Nat :=
  let svc := serviceOf x.tag
  if !(inAperture s n c x) then some msBadAddr
  else if decide (2 ^ 20 < x.len) || decide (x.len < minLen s n c svc) then some msBadLen
  else if svc == 0 || decide (4 < svc) then some msUnsupported
  else none

/-! ### Responses (R326, R329, R331, R334) -/

/-- An answered notice of a channel that leaves IN_SERVICE: one whose response is discarded, or one that TO_HOST has room for. -/
def leaver (m : Mbx) : Option Nat := m.inService.findIdx? (fun x => x.answer.isSome && (x.discard || decide (m.toHost.length < 4)))

/-- One notice leaves IN_SERVICE; FLUSHING ends when none is left. -/
def settleOne (m : Mbx) : Mbx :=
  match leaver m with
  | none => m
  | some i =>
    let rest := m.inService.eraseIdx i
    let moved := (m.inService[i]?).toList.filter (fun x => !x.discard)
    { m with inService := rest, toHost := m.toHost ++ moved, flushing := m.flushing && !rest.isEmpty }

/-- Every answered notice that may leave does so. -/
def settle (m : Mbx) : Mbx := settleOne (settleOne (settleOne (settleOne m)))

/-- Settle a channel; a notice that enters TO_HOST raises the slot's wake event (R334). -/
def settleChan (n c : Nat) (s : State) : State :=
  let s1 := modMbx n c settle s
  whenB (decide ((mbx s n c).toHost.length < (mbx s1 n c).toHost.length)) (modSlot n (fun w => { w with wakeEvent := true })) s1

/-- Answer one notice in service. -/
def answerNotice (n c i st len : Nat) (s : State) : State :=
  s |> modMbx n c (fun m => { m with inService := lmod m.inService i (fun x => { x with answer := some (x.answer.getD (st, len)) }) })
    |> settleChan n c

/-- The notice that a service command completes: taken, not answered, and of that service. -/
def inServiceOf (s : State) (n c i svc : Nat) : Option Notice :=
  ((mbx s n c).inService[i]?).filter (fun x => x.answer.isNone && serviceOf x.tag == svc)

/-- Write a response's data, unless a flush discards it (R331), and answer. -/
def answerWith (n c i st : Nat) (x : Notice) (bs : List Byte) (s : State) : State :=
  s |> whenB (!x.discard && !bs.isEmpty) (fun s => s |> memWrite x.ptr (c == 1) bs |> issueMem .mailbox)
    |> answerNotice n c i st bs.length

/-- Publish: firmware takes notices in order, while IN_SERVICE has room and at most 4 in the stroke (R327, R329). -/
def takeNotice (n c : Nat) (s : State) : State :=
  let m := mbx s n c
  match m.toBlock with
  | [] => s
  | x :: rest =>
    if 4 ≤ m.inService.length then s
    else
      let y := { x with taken := now s, answer := (noticeFault s n c x).map (fun st => (st, 0)) }
      s |> modMbx n c (fun m => { m with toBlock := rest, inService := m.inService ++ [y] })
        |> whenB (decide (4 ≤ m.toBlock.length)) (irqSet n (if c == 0 then irqMb0Space else irqMb1Space))

/-- Publish takes the notices of one channel. -/
def takeNotices (n c : Nat) (s : State) : State :=
  s |> takeNotice n c |> takeNotice n c |> takeNotice n c |> takeNotice n c |> settleChan n c

/-- Publish takes the notices of every channel and clears the doorbell words that firmware has read (R329, R333). -/
def publishMailboxes (s : State) : State :=
  if controlReset s then s
  else s |> forEach (List.range 16) (fun n s => s |> takeNotices n 0 |> takeNotices n 1 |> modSlot n (fun w => { w with bell := 0 }))

/-- After a CONTROL reset hardware answers every notice in service with RESET (R331). -/
def resetNotices (s : State) : State :=
  forEach (tkeys s.mbxs) (fun j s =>
    s |> modMbx (j / 2) (j % 2) (fun m => { m with inService := m.inService.map (fun x => { x with answer := some (x.answer.getD (msReset, 0)) }) })
      |> settleChan (j / 2) (j % 2)) s

/-! ### Commands of the mailboxes (R325, R330, R331, R333) -/

/-- A POST commits a notice from PTR; a full or flushing channel refuses it with a bus error (R325). -/
def postNotice (n c : Nat) (v : Word) (s : State) : State :=
  let m := mbx s n c
  if 4 ≤ m.toBlock.length || m.flushing then s |> modMbx n c (fun m => { m with fullErrs := satInc 16 m.fullErrs }) |> busErr
  else
    modMbx n c (fun m => { m with
      toBlock := m.toBlock ++ [{ ptr := m.ptr, len := fld v 63 32, tag := fld v 31 0 }], posted := satInc 16 m.posted }) s

/-- MAILBOX_POST (R325). -/
def execMailboxPost (a : Access) (window chan : Nat) (v : Word) (s : State) : Host.Outcome State Fault Refusal :=
  let addr := aMbx window chan 0x08
  ok <|
    if s.boot.inReset then s
    else if !(a.slot == window) || (chan == 1 && !a.sec && !(privileged s a)) then deny a true false addr s
    else postNotice window chan v (busOk s)

/-- POP frees the oldest response; an empty TO_HOST sets UNDERFLOW (R330). -/
def popNotice (n c : Nat) (s : State) : State :=
  if (mbx s n c).toHost.isEmpty then modMbx n c (fun m => { m with underflow := true }) s
  else s |> modMbx n c (fun m => { m with toHost := m.toHost.tail }) |> settleChan n c

/-- POP (R330). -/
def execPop (a : Access) (window chan : Nat) (s : State) : Host.Outcome State Fault Refusal :=
  ok (ownWrite a window (chan == 1) (aMbx window chan 0x20) (popNotice window chan) s)

/-- FLUSH discards what waits and what came back; notices in service complete silently (R331). -/
def flushChan (n c : Nat) (s : State) : State :=
  s |> whenB (decide (4 ≤ (mbx s n c).toBlock.length)) (irqSet n (if c == 0 then irqMb0Space else irqMb1Space))
    |> modMbx n c (fun m => settle { m with
        toBlock := [], toHost := [], inService := m.inService.map (fun x => { x with discard := true }), flushing := !m.inService.isEmpty })

/-- FLUSH (R331). -/
def execFlush (a : Access) (window chan : Nat) (s : State) : Host.Outcome State Fault Refusal :=
  ok (ownWrite a window (chan == 1) (aMbx window chan 0x20) (flushChan window chan) s)

/-- Bits ORed into the pending doorbell word (R333). -/
def ringBell (n : Nat) (v : Word) : State → State := modSlot n (fun w => { w with bell := w.bell ||| fld v 15 0 })

/-- DOORBELL (R333). -/
def execDoorbell (a : Access) (window : Nat) (v : Word) (s : State) : Host.Outcome State Fault Refusal :=
  ok (ownWrite a window false (aSlot window + 0x20) (ringBell window v) s)

/-! ### Services (R328, R357, R359) -/

/-- MAILBOX_ECHO (R328). -/
def execMailboxEcho (slot chan idx : Nat) (s : State) : Host.Outcome State Fault Refusal :=
  ok <| match inServiceOf s slot chan idx svEcho with
    | some x => answerWith slot chan idx msOk x [] s
    | none => s

/-- The sealed records, in SEQ order: those of the store, then those that wait for commit (R352, R357). -/
def sealedRecs (s : State) : List Rec :=
  ((sortBy (fun u => u.firstSeq) (s.nvm.units.filter (fun u => u.written))).flatMap (fun u => u.recs)) ++ s.ldg.buffer

/-- A view admits a record (R357). -/
def recAdmitted (s : State) (n c : Nat) (r : Rec) : Bool :=
  chanPriv s n c || (bitOf r.flags 7 && (ownedParts s n).contains (bitsOf r.flags 13 8))

/-- Whole records that fit in `room` bytes, and whether any are left over (R328). -/
def fitRecs (room : Nat) : List Rec → List Byte × Bool
  | [] => ([], false)
  | r :: rs => if recLen r ≤ room then (fun x : List Byte × Bool => (recBytes r ++ x.1, x.2)) (fitRecs (room - recLen r) rs) else ([], true)

/-- LEDGER_READ (R357): FROM_SEQ is in bytes 0 to 3 of the request. -/
def execLedgerRead (slot chan idx : Nat) (req : MemRead) (s : State) : Host.Outcome State Fault Refusal :=
  ok <| match inServiceOf s slot chan idx svLedger, req with
    | some x, some bs =>
      let from0 := rd bs 0 4
      let rs := (sealedRecs s).filter (fun r => recAdmitted s slot chan r && seqGe r.seq from0)
      let r := fitRecs x.len rs
      answerWith slot chan idx (if r.2 then msTruncated else msOk) x r.1 s
    | _, _ => s

/-- The counter snapshot (R359). -/
def snapshot (s : State) (n c : Nat) : List Byte :=
  let ks := chanParts s n c
  let priv := chanPriv s n c
  bytes [0x44, 0x57, 0x43, 0x53, 4, n, b2n priv, ks.length] ++ le 6 s.judgedStroke ++ zeros 2 ++ le 8 (maskOf ks) ++ zeros 40 ++
    (if priv then (List.range 32).flatMap (fun i => le 8 (if i < 16 then lget s.ldg.gcnt i 0 else 0)) else []) ++
    ks.flatMap (fun k => (List.range 16).flatMap (fun j => le 8 (lget (part s k).cnt j 0)))

/-- COUNTERS (R359). -/
def execCounters (slot chan idx : Nat) (s : State) : Host.Outcome State Fault Refusal :=
  ok <| match inServiceOf s slot chan idx svCounters with
    | some x => answerWith slot chan idx msOk x (snapshot s slot chan) s
    | none => s

/-- PART_STATE (R328). -/
def execPartState (slot chan idx : Nat) (s : State) : Host.Outcome State Fault Refusal :=
  ok <| match inServiceOf s slot chan idx svParts with
    | some x => answerWith slot chan idx msOk x
        ((ownedParts s slot).flatMap (fun k => le 8 (readPart s k).toNat ++ le 8 (readPartEpoch s k).toNat)) s
    | none => s

/-- SERVICE_BUSY (R328): not completed within 1,000 strokes of being taken. -/
def execServiceBusy (slot chan idx : Nat) (s : State) : Host.Outcome State Fault Refusal :=
  ok <| match (mbx s slot chan).inService[idx]? with
    | some x => if x.answer.isNone && decide (x.taken + 1000 ≤ now s) then answerNotice slot chan idx msBusy 0 s else s
    | none => s

/-! ### Power of a slot's domain (R334) -/

/-- SLOT_POWER_ON (R334): HS_WAKE falls, and the interrupt lines are released. -/
def execSlotPowerOn (slot : Nat) (s : State) : Host.Outcome State Fault Refusal :=
  ok (modSlot slot (fun w => { w with pwrOn := true, wakeEvent := false }) s)

/-- SLOT_POWER_OFF (R334): the interrupt lines are held low. -/
def execSlotPowerOff (slot : Nat) (s : State) : Host.Outcome State Fault Refusal :=
  ok (modSlot slot (fun w => { w with pwrOn := false }) s)

end Sys2Proof.Machine
end

