-- ==== Sys2Proof/Machine/Ledger.lean ====
section
/-!
DEFINITION. The ledger's own commands: sealing, rate windows, commits and erases in the record store, signed commands, summaries,
trace buffers and tensor watch (R344 to R371).
-/
namespace Sys2Proof.Machine

open Sys2Proof

/-! ### Sealing and rate windows (R346, R347) -/

/-- The open record has been open for SEAL strokes. -/
def sealDue (s : State) : Bool := s.ldg.openRec.isSome && decide (s.ldg.openSince + Nat.max 1 s.ldg.eff.sealAt ≤ now s)

/-- SEAL_TIMEOUT: the open record is sealed. -/
def execSealTimeout (s : State) : Host.Outcome State Fault Refusal := ok (whenB (sealDue s) sealRec s)

/-- The record type of a code. -/
def typeOf (code : Nat) : RecType :=
  if code == recCode .nodeUnmapped then .nodeUnmapped else if code == recCode .deepDenied then .deepDenied else .viewDenied

/-- The record that ends a window with counted occurrences. -/
def rateRec (s : State) (k : RateKey) : Rec :=
  { typ := k.typ, rept := k.count, node := k.node, stroke := k.first, flags := recFlags s k.node (partOf s k.node) true,
    span := k.last - k.first, ophours := s.boot.hours, pcycle := s.boot.cycles, severity := recSev (typeOf k.typ), seq := 0, body := k.body }

/-- A rate window ends. -/
def endWindow (k : RateKey) (s : State) : State :=
  s |> modLdg (fun l => { l with rates := l.rates.filter (fun x => !(x == k)) })
    |> whenB (decide (0 < k.count)) (writeNew (rateRec s k))

/-- RATE_WINDOW. -/
def execRateWindow (idx : Nat) (s : State) : Host.Outcome State Fault Refusal :=
  match s.ldg.rates[idx]? with
  | some k => ok (whenB (decide (k.opened + Nat.max 16 s.ldg.eff.rateWindow ≤ now s)) (endWindow k) s)
  | none => ok s

/-! ### The record store (R351 to R354) -/

/-- Ledger units of the store: those past the first 17 MiB and 64 KiB. -/
def unitCount (s : State) : Nat := s.nvm.sizeMiB * 16 - 273

/-- A unit of the store; one that is not listed has never been written. -/
def lunit (s : State) (i : Nat) : LUnit := (s.nvm.units.find? (fun u => u.idx == i)).getD { idx := i }

/-- Change a unit. -/
def modLUnit (i : Nat) (f : LUnit → LUnit) (s : State) : State :=
  modNvm (fun n => { n with units := insBy (fun u => u.idx) (n.units.filter (fun u => !(u.idx == i))) (f (lunit s i)) }) s

/-- Bytes in use in a unit: the header and its records. -/
def unitUsed (u : LUnit) : Nat := 64 + (u.recs.map recLen).sum

/-- The newest written unit. -/
def newestUnit (s : State) : Option LUnit :=
  let ws := s.nvm.units.filter (fun u => u.written && !u.bad)
  ws.find? (fun u => u.firstSeq == maxOf (ws.map (fun x => x.firstSeq)))

/-- The good units after unit `i`, in the order in which they are used. -/
def unitsAfter (s : State) (i : Nat) : List Nat :=
  ((List.range (unitCount s)).map (fun j => (i + 1 + j) % unitCount s)).filter (fun j => !(lunit s j).bad)

/-- The units ahead of the newest. -/
def unitsAhead (s : State) : List Nat :=
  match newestUnit s with
  | some u => (unitsAfter s u.idx).filter (fun j => !(j == u.idx))
  | none => unitsAfter s (unitCount s - 1)

/-- A CLEAR record starts a unit (R356). -/
def startsUnit (r : Rec) : Bool := r.typ == recCode .clear

/-- Where a record is programmed: a unit, and whether it starts there. Nothing while no erased unit is ready. -/
def programPlace (s : State) (r : Rec) : Option (Nat × Bool) :=
  let fresh := match (unitsAhead s).head? with
    | some j => if (lunit s j).written then none else some (j, true)
    | none => none
  match newestUnit s with
  | some u => if !u.torn && !(startsUnit r) && decide (unitUsed u + recLen r ≤ 65536) then some (u.idx, false) else fresh
  | none => fresh

/-- The 64-bit extension of a SEQ that has been given (R348). -/
def fullSeq (s : State) (seq : Nat) : Nat := s.ldg.ext * seqMod + s.ldg.next - (s.ldg.next + seqMod - seq) % seqMod

/-- LDG_STORE.OLDEST. -/
def refreshOldest (s : State) : State :=
  let ws := s.nvm.units.filter (fun u => u.written)
  modLdg (fun l => { l with oldest := minOf 0 (ws.map (fun u => u.firstSeq)) % seqMod }) s

/-- A program or an erase on a unit failed; the third failure makes the unit bad, and with no unit left the store is gone (R354). -/
def unitFailed (i : Nat) (s : State) : State :=
  let s1 := s |> modLdg (fun l => { l with nvmErr := true, lastFail := true })
    |> modLUnit i (fun u => { u with fails := u.fails + 1, bad := u.bad || decide (2 ≤ u.fails) })
  whenB ((List.range (unitCount s)).all (fun j => (lunit s1 j).bad)) (modLdg (fun l => { l with noStore := true })) s1

/-- The CLEAR record is in the store: the other written units are to be erased (R356). -/
def clearCommitted (i : Nat) (s : State) : State :=
  let others := (s.nvm.units.filter (fun u => u.written && !(u.idx == i))).map (fun u => u.idx)
  s |> modNvm (fun n => { n with clearPending := true })
    |> modLdg (fun l => { l with clearing := true, clearTodo := others })

/-- No unit is left to erase: the clear is done (R356). -/
def clearDone (s : State) : State :=
  if s.nvm.clearPending && s.ldg.clearing && s.ldg.clearTodo.isEmpty then
    s |> modNvm (fun n => { n with clearPending := false })
      |> modLdg (fun l => { l with clearing := false, signedResult := 2 })
  else s

/-- A record is programmed into a unit. -/
def programmed (i : Nat) (fresh : Bool) (r : Rec) (s : State) : State :=
  let put (u : LUnit) : LUnit :=
    if fresh then { u with written := true, torn := false, firstSeq := fullSeq s r.seq, recs := [r] } else { u with recs := u.recs ++ [r] }
  s |> modLUnit i put
    |> modLdg (fun l => { l with
        buffer := l.buffer.drop 1, committed := r.seq, highStroke := Nat.max l.highStroke (r.stroke + r.span), hasStrokes := true, lastFail := false })
    |> refreshOldest
    |> whenB (startsUnit r) (clearCommitted i)
    |> clearDone
    |> writeLoss

/-- RECORD_COMMIT: the program of the oldest sealed record ends. -/
def execRecordCommit (good : Bool) (s : State) : Host.Outcome State Fault Refusal :=
  if s.ldg.noStore then ok s
  else match s.ldg.buffer.head? with
    | none => ok s
    | some r =>
      match programPlace s r with
      | none => ok s
      | some (i, fresh) => ok (if good then programmed i fresh r s else unitFailed i s)

/-- A unit is to be erased: the clear runs over it, or it holds records and is one of the four ahead of the newest (R353, R356). -/
def eraseDue (s : State) (i : Nat) : Bool :=
  s.ldg.clearTodo.contains i || (((unitsAhead s).take 4).contains i && (lunit s i).written)

/-- A unit is erased. -/
def erased (i : Nat) (s : State) : State :=
  s |> modLUnit i (fun u => { u with written := false, torn := false, firstSeq := 0, recs := [], erases := u.erases + 1 })
    |> modLdg (fun l => { l with clearTodo := without l.clearTodo i, lastFail := false })
    |> refreshOldest
    |> clearDone

/-- An erase of a clear that makes its unit bad leaves the clear without it. -/
def eraseFailed (i : Nat) (s : State) : State :=
  let s1 := unitFailed i s
  s1 |> whenB ((lunit s1 i).bad) (modLdg (fun l => { l with clearTodo := without l.clearTodo i })) |> clearDone

/-- UNIT_ERASE. -/
def execUnitErase (u : Nat) (good : Bool) (s : State) : Host.Outcome State Fault Refusal :=
  onUnit "ledger unit" u (unitCount s)
    (if !(s.ldg.noStore) && eraseDue s u then (if good then erased u s else eraseFailed u s) else s)

/-! ### Signed commands (R355, R356, R244) -/

/-- RESULT of LDG_SIGNED. -/
def sgRunning : Nat := 1
def sgDone : Nat := 2
def sgBadBlock : Nat := 3
def sgNoKey : Nat := 4
def sgBadSig : Nat := 5
def sgDevice : Nat := 6
def sgCounter : Nat := 7
def sgBadTarget : Nat := 8
def sgBusy : Nat := 9
def sgNoStore : Nat := 0xB

/-- A signed command block as its bytes give it. -/
structure SignedBlk where
  op : Nat
  device : Nat
  counter : Nat
  target : Nat
  message : List Byte
  sig : List Byte

/-- The block, or nothing when order 1 of R355 fails. -/
def signedBlk (addr : Nat) (blk : MemRead) : Option SignedBlk :=
  match blk with
  | none => none
  | some bs =>
    let op := rd bs 5 1
    if addr % 64 == 0 && decide (224 ≤ bs.length) && slice bs 0 4 == bytes [0x44, 0x57, 0x53, 0x43] && rd bs 4 1 == 4 && (op == 1 || op == 2) &&
        zeroAt bs 6 2 && zeroAt bs 22 106 && (op == 2 || zeroAt bs 20 2) then
      some { op := op, device := rd bs 8 8, counter := rd bs 16 4, target := rd bs 20 2, message := slice bs 0 128, sig := slice bs 128 96 }
    else none

/-- The first failed condition of R355 after order 1, or RUNNING. -/
def signedCheck (s : State) (b : SignedBlk) : Nat :=
  match s.life.keys with
  | none => sgNoKey
  | some k =>
    if !(Config.ecdsaOk k.ledgerKey b.sig b.message) then sgBadSig
    else if !(b.device == deviceId s) then sgDevice
    else if !(b.counter == s.nvm.authCtr + 1) then sgCounter
    else if s.ldg.noStore then sgNoStore
    else if b.op == 2 && !((craqEntry s 1 b.target).state == 4) then sgBadTarget
    else if b.op == 1 && s.ldg.clearing then sgBusy
    else sgRunning

/-- A signed command fails. -/
def signedReject (op res : Nat) (s : State) : State :=
  s |> modLdg (fun l => { l with signedResult := res })
    |> recordBlock .signedReject (le 1 op ++ le 1 res ++ zeros 2 ++ le 4 s.nvm.authCtr)

/-- Body of CLEAR. -/
def clearBody (s : State) (ctr : Nat) : List Byte :=
  let last := if s.ldg.ext * seqMod + s.ldg.next == 0 then 0 else s.ldg.ext * seqMod + s.ldg.next - 1
  le 4 ctr ++ zeros 4 ++ le 8 last ++ (Config.sha384 (s.life.keys.getD {}).ledgerKey).take 8

/-- A record takes its SEQ and joins the sealed ones, whatever room the buffer has: by then every earlier record is committed
(R356). -/
def appendSealed (r : Rec) (s : State) : State :=
  let q := { r with seq := s.ldg.next }
  s |> modLdg (fun l => { l with
        buffer := l.buffer ++ [q], next := (l.next + 1) % seqMod, ext := if l.next + 1 == seqMod then l.ext + 1 else l.ext
        acc := { l.acc with recs := satInc 32 l.acc.recs } })
    |> gcount 1 1
    |> occurrence q
    |> whenB (decide (s.ldg.eff.fwdSev ≤ q.severity)) (forwardRec q)

/-- A clear begins: the open record is sealed and the CLEAR record follows every buffered one (R346, R356). -/
def clearBegin (ctr : Nat) (s : State) : State :=
  let s1 := s |> modLdg (fun l => { l with signedResult := sgRunning, clearing := true, clearTodo := [] }) |> sealRec
  appendSealed (stampRec s1 .clear noNode none (recSev .clear) (clearBody s1 ctr)) s1

/-- A port is released: its entry is committed with cause 7, and it becomes SPARE at the next cold start (R244, R355). -/
def releasePort (p : Nat) (s : State) : State :=
  s |> craqMod 1 p (fun e => { e with state := 0, cause := 7, since := stampStroke s })
    |> modLdg (fun l => { l with signedResult := sgDone })

/-- The command block is processed: AUTH_CTR is committed before it acts. -/
def signedGo (addr : Nat) (blk : MemRead) (s : State) : State :=
  match signedBlk addr blk with
  | none => signedReject (match blk with | some bs => rd bs 5 1 | none => 0) sgBadBlock s
  | some b =>
    let r := signedCheck s b
    if !(r == sgRunning) then signedReject b.op r s
    else s |> modNvm (fun n => { n with authCtr := b.counter }) |> (if b.op == 1 then clearBegin b.counter else releasePort b.target)

/-- A write to LDG_SIGNED. -/
def signedWrite (a : Access) (v : Word) (blk : MemRead) : State → State :=
  privWrite a aLdgSigned (fun s =>
    s |> modLdg (fun l => { l with signedAddr := fld v 47 0 }) |> whenB (fbit v 63) (signedGo (fld v 47 0) blk))

/-- CLEAR. -/
def execClear (a : Access) (v : Word) (blk : MemRead) (s : State) : Host.Outcome State Fault Refusal := ok (signedWrite a v blk s)

/-- RELEASE. -/
def execRelease (a : Access) (v : Word) (blk : MemRead) (s : State) : Host.Outcome State Fault Refusal := ok (signedWrite a v blk s)

/-! ### SUMMARY (R360) -/

/-- The mean of a sum over `n` strokes of a share in 1/256 grain, in 1/8 grain. -/
def meanShare (sum n : Nat) : Nat := sum / (32 * Nat.max 1 n)

/-- Mean host throughput spent on duplex in 1/100 %: gd over 256 × 4,096, to the nearest (R160, R360). -/
def duplexCost (sum n : Nat) : Nat := (sum * 10000 + Nat.max 1 n * 524288) / (Nat.max 1 n * 1048576)

/-- Body of SUMMARY. -/
def summaryBody (c : SumAcc) : List Byte :=
  let le4 (n : Nat) := le 4 (Nat.min n (2 ^ 32 - 1))
  let le2 (n : Nat) := le 2 (Nat.min n 65535)
  le4 c.period ++ le4 c.checks ++ le4 c.fail ++ le4 c.unc ++ le4 c.late ++ le2 (meanShare c.gc c.period) ++ le2 (meanShare c.gd c.period) ++
  le2 (duplexCost c.gd c.period) ++ le2 (meanShare c.gu c.period) ++ le4 c.recs

/-- A period of SUMMARY strokes has passed. -/
def summaryDue (s : State) : Bool := !(s.ldg.eff.summary == 0) && decide (s.ldg.eff.summary ≤ s.ldg.acc.period)

/-- The record is written and a new period begins. -/
def writeSummary (s : State) : State :=
  s |> modLdg (fun l => { l with acc := {} }) |> recordBlock .summary (summaryBody s.ldg.acc)

/-- SUMMARY. -/
def execSummary (s : State) : Host.Outcome State Fault Refusal := ok (whenB (summaryDue s) writeSummary s)

/-! ### Trace buffers (R363, R364, R370) -/

/-- The four buffers. -/
def fourTraces (l : List Trace) : List Trace := if l.isEmpty then List.replicate 4 {} else l

/-- Change one buffer. -/
def modTrace (b : Nat) (f : Trace → Trace) : State → State :=
  modLdg (fun l => { l with traces := lmod (fourTraces l.traces) b f })

/-- LDG_TRACEb_CFG's RW fields of a word. -/
def traceFields (v : Word) : TraceCfg :=
  { subtree := fbit v 61, sources := fld v 60 58, capSev := fld v 57 55, trigSev := fld v 54 52, node := fld v 51 40, trigType := fld v 39 24,
    post := fld v 23 13 }

/-- Body of TRACE_FROZEN (R349); a buffer that froze without a trigger has zeros there. -/
def traceBody (i : Nat) (b : Trace) : List Byte :=
  let t := b.trigger.getD {}
  le 1 i ++ zeros 3 ++ le 2 t.typ ++ le 2 t.node ++ le 6 t.stroke ++ le 2 (b.ring.length - b.postStored) ++ le 2 b.postStored ++ zeros 2 ++ le 4 b.dropped

/-- The TRACE_FROZEN record of a buffer that has frozen (R364). -/
def traceReport (i : Nat) (s : State) : State :=
  let b := trace s i
  if b.report then s |> modTrace i (fun x => { x with report := false }) |> recordBlock .traceFrozen (traceBody i b) else s

/-- The records of every buffer that has frozen. -/
def traceReports (s : State) : State := forEach (List.range 4) traceReport s

/-- A write of ARM clears the entries and the counters; the configuration written counts from here. -/
def armed (c : TraceCfg) : Trace := { cfg := c, eff := c, state := 1 }

/-- The entry of a manual trigger. -/
def manualEntry (s : State) : TraceEntry :=
  { stroke := stampStroke s, offset := drawValue s % 2 ^ 20, source := 4, node := noNode, typ := 0, severity := 0, flags := atB 3 (inFlywheel s),
    seq := 0, data := zeros 12 }

/-- A manual trigger of an armed buffer. -/
def manualTrigger (e : TraceEntry) (b : Trace) : Trace := if b.state == 1 then traceTrigger b e else b

/-- A write to LDG_TRACEb_CFG: its RW fields, then ARM, then TRIG. -/
def traceWrite (b : Nat) (v : Word) (s : State) : State :=
  s |> modTrace b (fun x => { x with cfg := traceFields v })
    |> whenB (fbit v 63) (fun s => s |> traceReport b |> modTrace b (fun x => armed x.cfg))
    |> whenB (fbit v 62) (fun s => s |> modTrace b (fun x => manualTrigger (manualEntry s) { x with eff := x.cfg }) |> bumpFresh)

/-- A CONTROL reset freezes the buffers that are ARMED or POST (R364). -/
def freezeTraces (s : State) : State :=
  modLdg (fun l => { l with traces := l.traces.map (fun b => if b.state == 1 || b.state == 2 then traceFreeze b else b) }) s

/-- TRACE_ARM. -/
def execTraceArm (a : Access) (buf : Nat) (v : Word) (s : State) : Host.Outcome State Fault Refusal :=
  onUnit "trace buffer" buf 4 (privWrite a (aLdgTrace buf) (traceWrite buf v) s)

/-- TRACE_TRIG. -/
def execTraceTrig (a : Access) (buf : Nat) (v : Word) (s : State) : Host.Outcome State Fault Refusal :=
  onUnit "trace buffer" buf 4 (privWrite a (aLdgTrace buf) (traceWrite buf v) s)

/-! ### Tensor watch (R366, R370) -/

/-- LDG_TWi's fields of a word. -/
def twFields (v : Word) : TwEntry :=
  { en := fbit v 63, part := fld v 61 56, format := fld v 55 52, expLo := fld v 51 44, every := fld v 43 40, layer := fld v 31 16, oper := fld v 15 0 }

/-- The conditions on FORMAT, LAYER and OPERATOR (R366). -/
def twLegal (x : TwEntry) : Bool := [0, 1, 8, 9].contains x.format && !(x.layer == 0xFFFF) && !(x.oper == 0xFFFF)

/-- The access may write entry `i` with these fields (R366). -/
def twMay (s : State) (a : Access) (i : Nat) (x : TwEntry) : Bool :=
  let old := tgetD s.ldg.tw i {}
  privileged s a || ((!old.en || mayPart s a old.part) && mayPart s a x.part)

/-- The entry takes the fields, or TW_ERR is set. -/
def twPut (i : Nat) (x : TwEntry) : State → State :=
  modLdg (fun l => if twLegal x then { l with tw := tput l.tw i x } else { l with twErr := true })

/-- A write to LDG_TWi. -/
def twWrite (a : Access) (i : Nat) (v : Word) (s : State) : State :=
  if s.boot.inReset then s
  else if !twMay s a i (twFields v) then deny a true false (aLdgTw i) s
  else if controlReset s then busErr s
  else busOk (twPut i (twFields v) s)

/-- TENSOR_WATCH_WRITE. -/
def execTensorWatchWrite (a : Access) (idx : Nat) (v : Word) (s : State) : Host.Outcome State Fault Refusal :=
  onUnit "tensor watch entry" idx 64 (twWrite a idx v s)

end Sys2Proof.Machine
end

