-- ==== Sys2Proof/Machine/GroundOps.lean ====
section
/-!
DEFINITION. The ground image (R51 to R80, R437): its checks in the order of R71, the effective map (R65), the configuration digest
(R74), and what a load sets.
-/
namespace Sys2Proof.Machine

open Sys2Proof

/-! ### Sources (R70, R394, R396) -/

/-- The effective STRAP_BOOT: 11 acts as 00, and in BLANK and RETURN 10 acts as 01 (R394). -/
def bootSel (s : State) : Nat :=
  if s.straps.boot == 3 then 0 else if s.straps.boot == 2 && !(lifeState s == 1) then 1 else s.straps.boot

/-- SOURCE codes: NVM copy A, copy B, slot 0, Watch broadcast. -/
def srcA : Nat := 1
def srcB : Nat := 2
def srcSlot : Nat := 3
def srcWatch : Nat := 4

/-- The sources that are tried without slot 0 acting, in order (R70). -/
def autoSources (s : State) : List Nat := if bootSel s == 0 then [srcA, srcB] else if bootSel s == 2 then [srcWatch] else []

/-- The next of them. -/
def nextAuto (s : State) (tried : List Nat) : Option Nat := (autoSources s).find? (fun x => !(tried.contains x))

/-- What a copy in the record store holds: what its first read showed. -/
def copyRead (old : Option (List Byte)) (img : List Byte) : List Byte := old.getD img

/-- The complete broadcast item of a type that waits for bring-up (R315). -/
def broadcastImage (s : State) (typ : Nat) : Option (List Byte) := (s.wch.assembled.find? (fun x => x.1 == typ)).map Prod.snd

/-- Bring-up has taken it. -/
def takeBroadcast (typ : Nat) : State → State := modWch (fun w => { w with assembled := w.assembled.eraseP (fun x => x.1 == typ) })

/-! ### The directory (R51, R52) -/

/-- One directory entry. -/
structure GSec where
  typ : Nat
  common : Bool
  optional : Bool
  off : Nat
  len : Nat

/-- The directory entries. -/
def gSecs (bs : List Byte) : List GSec :=
  (List.range (rd bs 6 2)).map (fun i =>
    let b := 64 + 16 * i
    let fl := rd bs (b + 2) 2
    { typ := rd bs b 2, common := bitOf fl 0, optional := bitOf fl 1, off := rd bs (b + 4) 4, len := rd bs (b + 8) 4 })

/-- Sections lie on 8-byte boundaries in the image, in order and without overlap; types ascend. -/
def secsOrdered (limit : Nat) : Nat → Nat → List GSec → Bool
  | _, _, [] => true
  | start, typ, x :: xs =>
    x.off % 8 == 0 && decide (start ≤ x.off) && decide (x.off + x.len ≤ limit) && decide (typ ≤ x.typ) && secsOrdered limit (x.off + x.len) x.typ xs

/-- Type of the SIGN section. -/
def tSign : Nat := 0x7F

/-- LENGTH of a ground image. -/
def gLength (bs : List Byte) : Nat := rd bs 8 4

/-- Order 3 of R71. -/
def directoryOk (bs : List Byte) : Bool :=
  let n := rd bs 6 2
  let xs := gSecs bs
  decide (gLength bs ≤ 2 ^ 21) && gLength bs % 8 == 0 && decide (gLength bs ≤ bs.length) && decide (2 ≤ n) && decide (n ≤ 32) &&
    decide (64 + 16 * n ≤ gLength bs) && (List.range n).all (fun i => zeroAt bs (64 + 16 * i + 12) 4) &&
    secsOrdered (gLength bs) (64 + 16 * n) 0 xs && (match xs.getLast? with | some x => x.typ == tSign && x.len == 192 | none => false)

/-- The body of a section type. -/
def gBody (bs : List Byte) (typ : Nat) : List Byte :=
  match (gSecs bs).find? (fun x => x.typ == typ) with | some x => slice bs x.off x.len | none => []

/-- Where the SIGN section starts. -/
def signOff (bs : List Byte) : Nat := match (gSecs bs).find? (fun x => x.typ == tSign) with | some x => x.off | none => 0

/-- Required section types (R53). -/
def requiredTypes : List Nat := [1, 2, 3, 4, 5, 6, 0x10, 0x11, 0x7F]

/-- Order 9 of R71: the required sections once each, and no unknown section that is not optional; a CHIP section that cannot be read
counts as missing. -/
def sectionsOk (bs : List Byte) : Bool :=
  let xs := gSecs bs
  requiredTypes.all (fun t => (xs.filter (fun x => x.typ == t)).length == 1) &&
    xs.all (fun x => requiredTypes.contains x.typ || x.optional) && (Config.chipSection (gBody bs 0x10)).isSome

/-! ### TREE (R46, R54, R79) -/

/-- One TREE entry. -/
structure TreeEnt where
  node : Nat
  parent : Nat
  lend : Bool
  borrow : Bool
  kids : List Nat

/-- The entries of a TREE body, or nothing when one breaks R54. -/
def treeEnts : Nat → List Byte → Option (List TreeEnt)
  | 0, bs => if bs.isEmpty then some [] else none
  | fuel + 1, bs =>
    if bs.isEmpty then some []
    else
      let n := rd bs 4 1
      let len := 8 * ceilDiv (8 + 2 * n) 8
      if bs.length < len || decide (4 ≤ rd bs 5 1) || !(zeroAt bs 6 2) || !(zeroAt bs (8 + 2 * n) (len - 8 - 2 * n)) then none
      else
        let x : TreeEnt := {
          node := rd bs 0 2, parent := rd bs 2 2, lend := bitOf (rd bs 5 1) 0, borrow := bitOf (rd bs 5 1) 1
          kids := (List.range n).map (fun i => rd bs (8 + 2 * i) 2) }
        (treeEnts fuel (bs.drop len)).map (fun xs => x :: xs)

/-- A list whose numbers rise strictly. -/
def rising : List Nat → Bool
  | [] => true
  | [_] => true
  | a :: b :: l => decide (a < b) && rising (b :: l)

/-- No number occurs twice. -/
def noRepeat (l : List Nat) : Bool := l.all (fun x => (l.filter (fun y => y == x)).length == 1)

/-- A node reaches the root within `fuel` assemblies. -/
def reachesRoot (xs : List TreeEnt) : Nat → Nat → Bool
  | 0, _ => false
  | fuel + 1, n => n == 0 || (match xs.find? (fun x => x.node == n) with | some x => reachesRoot xs fuel x.parent | none => false)

/-- A child of an assembly is a built port, or an assembly that names it as its parent. -/
def kidOk (ports : Nat) (xs : List TreeEnt) (x : TreeEnt) (k : Nat) : Bool :=
  if 0x800 ≤ k then decide (k - 0x800 < ports) else xs.any (fun y => y.node == k && y.parent == x.node && !(k == 0))

/-- The structure checks on the tree (R44, R46, R79). -/
def treeOk (ports : Nat) (xs : List TreeEnt) : Bool :=
  let kids := xs.flatMap (fun x => x.kids)
  rising (xs.map (fun x => x.node)) && xs.all (fun x => decide (x.node < Nat.max 1 (ports - 1))) &&
    (match xs.head? with | some r => r.node == 0 && r.parent == noNode | none => false) &&
    xs.all (fun x => decide (x.kids.length ≤ 16) && (decide (2 ≤ x.kids.length) || (x.kids.length == 1 && x.node == 0 && ports == 1))) &&
    xs.all (fun x => x.kids.all (kidOk ports xs x)) && noRepeat kids && xs.all (fun x => x.node == 0 || kids.contains x.node) &&
    xs.all (fun x => reachesRoot xs 16 x.node)

/-- The wired parent of a node of the image's tree. -/
def wiredParent (xs : List TreeEnt) (n : Nat) : Nat := match xs.find? (fun x => x.kids.contains n) with | some x => x.node | none => noNode

/-- A node and the assemblies above it. -/
def upward (xs : List TreeEnt) : Nat → Nat → List Nat
  | 0, n => [n]
  | fuel + 1, n => if wiredParent xs n == noNode then [n] else n :: upward xs fuel (wiredParent xs n)

/-! ### PARTITION, TILEMAP, GOLDEN (R55, R56, R59, R66, R68) -/

/-- One PARTITION entry. -/
structure PartEnt where
  part : Nat
  owner : Nat
  first : Nat
  count : Nat
  roots : List Nat

/-- The entries of a PARTITION body, or nothing when one breaks R56. -/
def partEnts : Nat → List Byte → Option (List PartEnt)
  | 0, bs => if bs.isEmpty then some [] else none
  | fuel + 1, bs =>
    if bs.isEmpty then some []
    else
      let n := rd bs 6 2
      let len := 8 * ceilDiv (8 + 2 * n) 8
      if bs.length < len || !(zeroAt bs (8 + 2 * n) (len - 8 - 2 * n)) then none
      else
        let x : PartEnt := {
          part := rd bs 0 1, owner := rd bs 1 1, first := rd bs 2 2, count := rd bs 4 2
          roots := (List.range n).map (fun i => rd bs (8 + 2 * i) 2) }
        (partEnts fuel (bs.drop len)).map (fun xs => x :: xs)

/-- Two partitions own no number and no node in common. -/
def partsApart (ts : List TreeEnt) (x y : PartEnt) : Bool :=
  (decide (x.first + x.count ≤ y.first) || decide (y.first + y.count ≤ x.first)) &&
    x.roots.all (fun r => !((upward ts 17 r).any (fun a => y.roots.contains a))) &&
    y.roots.all (fun r => !((upward ts 17 r).any (fun a => x.roots.contains a)))

/-- The partitions are defined as R56 and R66 say. -/
def partEntsOk (ts : List TreeEnt) (ps : List PartEnt) : Bool :=
  rising (ps.map (fun x => x.part)) &&
    ps.all (fun x => decide (x.part < 64) && decide (x.owner < 16) && !x.roots.isEmpty && noRepeat x.roots &&
      x.roots.all (fun r => ts.any (fun t => t.node == r)) &&
      x.roots.all (fun r => !((upward ts 17 r).tail.any (fun a => x.roots.contains a)))) &&
    ps.all (fun x => ps.all (fun y => x.part == y.part || partsApart ts x y))

/-- One TILEMAP entry. -/
def mapEntry (bs : List Byte) (p : Nat) : Nat := rd bs (4 * p) 4
def mapPart (e : Nat) : Nat := bitsOf e 23 18
def mapTyp (e : Nat) : Nat := bitsOf e 17 15
def mapSt (e : Nat) : Nat := bitsOf e 14 13
def mapLog (e : Nat) : Nat := bitsOf e 10 0

/-- The partition under whose root a port stands. -/
def standsIn (ts : List TreeEnt) (ps : List PartEnt) (p : Nat) : Option PartEnt :=
  let up := upward ts 17 (nodeOf p)
  ps.find? (fun x => x.roots.any (fun r => up.contains r))

/-- One TILEMAP entry is in form, and an ACTIVE or SPARE port carries the partition under whose root it stands (R55, R66). -/
def mapEntryOk (ts : List TreeEnt) (ps : List PartEnt) (p e : Nat) : Bool :=
  bitsOf e 31 24 == 0 && bitsOf e 12 11 == 0 && !(mapSt e == 3) && (mapSt e == 0 || mapLog e == 0) &&
    (mapSt e == 2 || (match standsIn ts ps p with
      | some x => x.part == mapPart e && (mapSt e == 1 || (decide (x.first ≤ mapLog e) && decide (mapLog e < x.first + x.count)))
      | none => false))

/-- The whole map carries the logical numbers below LOGICAL_COUNT once each (R59). -/
def tilemapOk (ports logical : Nat) (ts : List TreeEnt) (ps : List PartEnt) (bs : List Byte) : Bool :=
  let es := (List.range ports).map (fun p => (p, mapEntry bs p))
  let logs := (es.filter (fun x => mapSt x.2 == 0)).map (fun x => mapLog x.2)
  bs.length == 4 * ports && es.all (fun x => mapEntryOk ts ps x.1 x.2) && logs.length == logical && noRepeat logs &&
    logs.all (fun l => decide (l < logical))

/-- The GOLDEN entries (R437). -/
def goldenEnts (bs : List Byte) : List Golden :=
  (List.range (bs.length / 16)).map (fun i =>
    let b := 16 * i
    { typ := rd bs b 1, kind := rd bs (b + 1) 1, pattern := rd bs (b + 2) 2, seed := rd bs (b + 4) 4, expected := rd bs (b + 8) 8 })

/-- GOLDEN is in order, at most 256 entries a type, with an LBIST entry for each type in use (R68, R437). -/
def goldenOk (ports : Nat) (map0 bs : List Byte) : Bool :=
  let gs := goldenEnts bs
  let types := (((List.range ports).map (mapEntry map0)).filter (fun e => !(mapSt e == 2))).map mapTyp
  bs.length % 16 == 0 && rising (gs.map (fun g => g.typ * 2 ^ 24 + g.kind * 2 ^ 16 + g.pattern)) &&
    gs.all (fun g => decide (g.typ < 8) && decide (1 ≤ g.kind) && decide (g.kind ≤ 5)) &&
    (List.range 8).all (fun t => decide ((gs.filter (fun g => g.typ == t)).length ≤ 256)) &&
    types.all (fun t => gs.any (fun g => g.typ == t && g.kind == skLbist))

/-! ### POD, POLICY, PHASE (R69, R437) -/

/-- The POD section. -/
def podOf (bs : List Byte) : PodSec :=
  { period := rd bs 0 4, lead := rd bs 4 1, pinSourced := bitOf (rd bs 5 1) 0, logicalCount := rd bs 6 2, master := rd bs 8 4
    hopsUp := rd bs 12 2, hopsDown := rd bs 14 2, fibreUp := rd bs 16 4, fibreDown := rd bs 20 4, cross := rd bs 24 4, tunnelEnd := rd bs 28 4 }

/-- D_agree of R38 in ns. -/
def agreeOf (p : PodSec) : Nat := agreeDelay p 1500 (crossDelay p)

/-- POD is in range, with H at most 63 (R9, R39, R437). -/
def podOk (bs : List Byte) : Bool :=
  let p := podOf bs
  bs.length == 64 && zeroAt bs 32 32 && decide (rd bs 5 1 < 2) && periodOk p.period && leadOk p.lead && decide (p.master ≤ 0x1FFFF) &&
    (p.pinSourced == (p.master == 0x1FFFF)) && decide (Nat.max 3 (horizonOf p (agreeOf p)) ≤ 63)

/-- The POLICY section. -/
def policyOf (bs : List Byte) : Policy :=
  { hangW := rd bs 0 2, sliceBudget := rd bs 2 2, suspectWindow := rd bs 4 4, ckptInterval := rd bs 8 4, suspectEvents := rd bs 12 1
    testFactor := rd bs 13 1, marginMv := rd bs 14 1, ladderMax := rd bs 15 1, ckptTrigger := rd bs 16 1, lendEnable := rd bs 17 1 == 1 }

/-- A number lies between two bounds. -/
def within (lo hi n : Nat) : Bool := decide (lo ≤ n) && decide (n ≤ hi)

/-- POLICY is in the ranges of R69. -/
def policyOk (period : Nat) (bs : List Byte) : Bool :=
  let p := policyOf bs
  bs.length == 24 && zeroAt bs 18 6 && within 4 1000 p.hangW && decide (10 ≤ p.sliceBudget) && decide (10 * 1000 * p.sliceBudget ≤ 6 * period) &&
    within 2 15 p.suspectEvents && within 10000 100000000 p.suspectWindow && within 1 16 p.testFactor && decide (p.marginMv ≤ 30) &&
    within 1 5 p.ladderMax && decide (p.ckptTrigger ≤ 1) && within 10000 1000000000 p.ckptInterval && decide (rd bs 17 1 ≤ 1)

/-- The PHASE entries. -/
def phasesOf (bs : List Byte) : List PhaseEntry :=
  (List.range 16).map (fun i => { mode := rd bs (8 * i + 1) 1, valid := bitOf (rd bs (8 * i) 1) 0, grains := rd bs (8 * i + 2) 2 })

/-- PHASE is in range. -/
def phaseOk (bs : List Byte) : Bool :=
  bs.length == 128 &&
    (List.range 16).all (fun i => decide (rd bs (8 * i) 1 < 2) && decide (rd bs (8 * i + 1) 1 ≤ 4) && zeroAt bs (8 * i + 4) 4 &&
      (if bitOf (rd bs (8 * i) 1) 0 then within 1 4096 (rd bs (8 * i + 2) 2) else rd bs (8 * i + 2) 2 == 0))

/-! ### The checks of R71 -/

/-- The highest minimum serial of eight OTP words (R58, R389). -/
def minSerial (s : State) (base : Nat) : Nat := maxOf ((List.range 8).map (fun i => otpWord s (base + i)))

/-- The chip number of the installed link certificate (R289). -/
def certChip (s : State) : Option Nat := (s.life.keys.bind (fun k => Config.certChain k.certChain)).map (fun c => c.chip)

/-- CHIP names another chip than the certificate. -/
def chipDiffers (s : State) (bs : List Byte) : Bool :=
  match certChip s, Config.chipSection (gBody bs 0x10) with
  | some c, some x => !(x.chip == c)
  | _, _ => false

/-- Orders 10 to 12 of R71. -/
def bodyCheck (s : State) (bs : List Byte) : Nat :=
  match treeEnts bs.length (gBody bs 2) with
  | none => 0x0A
  | some ts =>
    if !(treeOk s.build.ports ts) then 0x0A
    else match partEnts bs.length (gBody bs 3) with
      | none => 0x0B
      | some ps =>
        if !(partEntsOk ts ps) || !(tilemapOk s.build.ports (podOf (gBody bs 1)).logicalCount ts ps (gBody bs 0x11)) ||
            !(goldenOk s.build.ports (gBody bs 0x11) (gBody bs 4)) then 0x0B
        else if !(podOk (gBody bs 1)) || !(phaseOk (gBody bs 6)) || !(policyOk (podOf (gBody bs 1)).period (gBody bs 5)) then 0x0C
        else 0

/-- ERR of an image, 0 when it passes (R71). -/
def imageCheck (s : State) (bs : List Byte) : Nat :=
  let so := signOff bs
  if !(slice bs 0 4 == bytes [0x44, 0x57, 0x47, 0x49]) then 0x01
  else if !(rd bs 4 1 == 4) then 0x02
  else if !(directoryOk bs) then 0x03
  else if (groundSlot s (Config.sha384 (slice bs so 96))).isNone then 0x04
  else if !(Config.ecdsaOk (slice bs so 96) (slice bs (so + 96) 96) (slice bs 0 so)) then 0x05
  else if rd bs 12 4 < minSerial s 0xA0 then 0x06
  else if !(rd bs 16 8 == (buildParams s).toNat) then 0x07
  else if !(rd bs 24 8 == deviceId s) || chipDiffers s bs then 0x08
  else if !(sectionsOk bs) then 0x09
  else bodyCheck s bs

/-! ### The effective map (R65) -/

/-- The port's entry holds QUARANTINED. -/
def wasQuarantined (s : State) (p : Nat) : Bool := (craqEntry s 1 p).state == 4

/-- The port was released and has had no transition since: it becomes SPARE (R244). -/
def wasReleased (s : State) (p : Nat) : Bool := (craqEntry s 1 p).state == 0 && (craqEntry s 1 p).cause == hcRelease

/-- Follow SUBST from port to port until one is not quarantined; a chain that ends or repeats gives none. -/
def followSubst (s : State) : Nat → List Nat → Nat → Option Nat
  | 0, _, _ => none
  | fuel + 1, seen, p =>
    let q := (craqEntry s 1 p).subst
    if q == 0xFFFF || seen.contains q then none
    else if wasQuarantined s q then followSubst s fuel (q :: seen) q
    else some q

/-- A port of the map before substitutions. -/
def baseTile (s : State) (ts : List TreeEnt) (p e : Nat) : Tile :=
  let st :=
    if mapSt e == 2 || wasQuarantined s p then tsHidden
    else if mapSt e == 1 || wasReleased s p then tsSpare
    else tsActive
  let up := wiredParent ts (nodeOf p)
  { mapState := mapSt e, mapLogical := mapLog e, state := st, typ := mapTyp e, part := mapPart e
    logical := if st == tsActive then mapLog e else 0, parent := up, host := up }

/-- The number of the TILEMAP port `p` goes to the port its chain names, when R65 allows it; LENT when wired elsewhere. -/
def takeOver (s : State) (p : Nat) (t : State) : State :=
  let x := tile t p
  match followSubst s 2048 [p] p with
  | none => t
  | some q =>
    let y := tile t q
    let lends := y.parent == x.parent ||
      ((asm t x.parent).borrow && (asm t y.parent).lend && (asm t x.parent).parent == (asm t y.parent).parent &&
        decide ((borrowed t x.parent).length < 4))
    if y.mapState == 1 && y.state == tsSpare && y.typ == x.typ && y.part == x.part && lends then
      applySubst { port := p, spare := q, home := x.parent, logical := x.mapLogical, tick := 0 } t
    else t

/-- A logical number of the TILEMAP port `p` that nothing serves waits for census. -/
def leftVacant (p : Nat) (t : State) : State :=
  let x := tile t p
  if t.gnd.tiles.any (fun e => working e.2 && e.2.logical == x.mapLogical) then t
  else modGnd (fun g => { g with vacancies := g.vacancies ++ [{ port := p, home := x.parent, logical := x.mapLogical, since := 0 }] }) t

/-- The effective map over a loaded tree. -/
def effectiveMap (ts : List TreeEnt) (map0 : List Byte) (s : State) : State :=
  let base := modGnd (fun g => { g with tiles := (List.range s.build.ports).map (fun p => (p, baseTile s ts p (mapEntry map0 p))), vacancies := [] }) s
  let displaced := sortBy (fun p => (tile base p).mapLogical)
    (tfind base.gnd.tiles (fun p x => x.mapState == 0 && (wasQuarantined s p || wasReleased s p)))
  base |> forEach displaced (takeOver s) |> forEach displaced leftVacant

/-! ### A load (R39, R74, R274, R289) -/

/-- The configuration digest (R74). -/
def digestOf (s : State) (bs : List Byte) : List Byte :=
  let commons := (gSecs bs).filter (fun x => x.common)
  (Config.sha384 (bytes [0x43, 0x44] ++ slice bs 4 1 ++ commons.flatMap (fun x => Config.sha384 (slice bs x.off x.len)) ++ s.boot.fwHash)).take 16

/-- The alarm reach A (R274). -/
def reachOf (p : PodSec) : Nat :=
  Nat.max 1 (ceilDiv (1000 * (p.hopsUp + p.hopsDown) + 5 * (p.fibreUp + p.fibreDown) + crossDelay p) (Nat.max 1 p.period))

/-- The tree as the block holds it; LEND_ENABLE 0 takes every LEND bit away (R69). STRAP_MODE gives FORCE_DUAL its reset value (R394). -/
def treeOf (s : State) (lend : Bool) (ts : List TreeEnt) : Table Asm :=
  ts.map (fun x => (x.node, { parent := x.parent, children := x.kids, lend := lend && x.lend, borrow := lend && x.borrow,
                              forceDual := decide (2 ≤ s.straps.mode) }))

/-- The partitions as the block holds them. -/
def partsOf (ps : List PartEnt) : Table Part :=
  ps.map (fun x => (x.part, { valid := true, owner := x.owner, first := x.first, count := x.count, roots := x.roots }))

/-- Cube warden 1, deputy 2 (R308). -/
def wardenRole (c : ChipSec) : Nat := if c.warden == c.chip then 1 else if c.deputy == c.chip then 2 else 0

/-- A sentinel takes up what its craquelure entry holds (R245): its health, its last events and its trim. The entry keeps four strokes; events in the window beyond them count as old as the oldest kept. -/
def loadSentinel (p : Nat) (s : State) : State :=
  let e := craqEntry s 1 p
  let old := (e.hist.take 4).filter (fun n => !(n == 0))
  let events := old ++ (match old.getLast? with | some n => List.replicate (e.events - old.length) n | none => [])
  modSent p (fun x => { x with
    health := { x.health with
      code := if e.state ≤ 2 || e.state == 4 then e.state else 0, cause := e.cause, since := e.since, events := events, total := e.total
      lastEvent := old.headD 0 }
    canary := { x.canary with trimMv := e.trimMv } }) s

/-- Every port that has an entry. -/
def loadSentinels (s : State) : State :=
  forEach (asc ((s.nvm.craq.filter (fun e => e.unit == 1 && decide (e.index < s.build.ports))).map (fun e => e.index))) loadSentinel s

/-- The image is LOADED: every section takes effect (R73, R74). -/
def imageLoaded (src : Nat) (bs : List Byte) (s : State) : State :=
  let pod := podOf (gBody bs 1)
  let pol := policyOf (gBody bs 5)
  let ts := (treeEnts bs.length (gBody bs 2)).getD []
  let ps := (partEnts bs.length (gBody bs 3)).getD []
  let chip := (Config.chipSection (gBody bs 0x10)).getD {}
  let d := agreeOf pod
  { s with parts := partsOf ps }
    |> modGnd (fun g => { g with
        state := 3, source := src, err := 0, keySlot := (groundSlot s (Config.sha384 (slice bs (signOff bs) 96))).getD 0
        serial := rd bs 12 4, pod := pod, policy := pol, golden := goldenEnts (gBody bs 4), chip := chip
        tree := treeOf s pol.lendEnable ts, configDigest := digestOf s bs, h := Nat.max 3 (horizonOf pod d), a := reachOf pod
        dAgree := ceilDiv d 100 })
    |> effectiveMap ts (gBody bs 0x11)
    |> modStk (fun x => { x with phases := phasesOf (gBody bs 6), parent := chip.parentLink })
    |> modWch (fun w => { w with
        chip := chip.chip, warden := wardenRole chip
        intra := (List.range chip.intra.length).map (fun i => (i, chip.intra.getD i {}))
        cube := (List.range chip.cube.length).map (fun i => (i, chip.cube.getD i {})) })
    |> loadSentinels
    |> modBoot (fun b => { b with stage := 5 })
    |> linksLoaded
    |> compareRate
    |> masterStart

end Sys2Proof.Machine
end

