-- ==== Sys2Proof/Machine/PowerOps.lean ====
section
/-!
DEFINITION. The power window's work (R381 to R387), CORE and CONTROL resets (R374 to R377), and self-faults (R378, R379).
-/
namespace Sys2Proof.Machine

open Sys2Proof

/-! ### Records of the chapter (R398) -/

/-- Body of SHED, WITNESS and OVERDRAW. -/
def powerBody (s : State) (flag : Nat) : List Byte :=
  le 2 s.pwr.grant ++ le 2 (estMean s) ++ le 1 (shedBits s) ++ le 1 s.pwr.unitsServed ++ le 1 flag ++ zeros 1

/-- Body of SELF_FAULT and DOMAIN_RESET. -/
def faultBody (cause domain row expected found : Nat) : List Byte :=
  le 1 cause ++ le 1 domain ++ le 2 row ++ le 4 expected ++ le 4 found

/-- PWR_RESET.LAST. -/
def rcSlot : Nat := 1
def rcLockstep : Nat := 2
def rcAudit : Nat := 3
def rcWatchdog : Nat := 4
def rcClock : Nat := 5

/-- Reset domains as the records name them. -/
def dmWatch : Nat := 1
def dmCore : Nat := 2
def dmControl : Nat := 3
def dmRecord : Nat := 4

/-! ### Estimates and the grant (R381 to R385) -/

/-- The floor in steps of 0.25 W. -/
def floorGrant : Nat := 36

/-- An estimate: PM_EST, the mean, the peak, the energy, and gating when it lies above the grant (R381, R383, R386). -/
def takeEstimate (e : Nat) : State → State := modPwr (fun p => { p with
  pinEst := e, est := e, ests := (e :: p.ests).take 500, peak := Nat.max p.peak e, energy := satAdd (2 ^ 65 - 1) p.energy e
  gating := p.gating || decide (p.grant < e) })

/-- PM_OVERDRAW follows the grant (R385). -/
def overdraw (s : State) : State :=
  let low := decide (s.pwr.grant < floorGrant)
  if low == s.pwr.overdraw then s
  else s |> modPwr (fun p => { p with overdraw := low }) |> recordBlock .overdraw (powerBody s (b2n low))

/-- A strobed grant is in force; one below the estimate gates the copy units' clock (R382, R383). -/
def takeGrant (g : Nat) (s : State) : State :=
  s |> modPwr (fun p => { p with grant := g, grantSeen := true, gating := p.gating || decide (g < p.est) }) |> overdraw

/-- A shed function is restored after RESTORE covered Judges in a row; an uncovered one is shed (R384). -/
def restoreFn (covered : Bool) (need : Nat) (shed : Bool) (n : Nat) : Bool × Nat :=
  if !covered then (true, 0) else if !shed then (false, 0) else if need ≤ n + 1 then (false, 0) else (true, n + 1)

/-- Power of `n` copy units in 0.01 W: 3.69 W each, 118 W for 32 (R384). -/
def unitPower (n : Nat) : Nat := if n == 32 then 11800 else 369 * n

/-- The copy units that what is left covers. -/
def unitsFit (left up : Nat) : Nat := maxOf ((List.range (up + 1)).filter (fun n => decide (unitPower n ≤ left)))

/-- What a function takes from what is left. -/
def lessWhen (c : Bool) (left power : Nat) : Nat := if c then left - power else left

/-- The grant divided among the functions in the order of R384. -/
def dividedPwr (up : Nat) (p : Pwr) : Pwr :=
  let need := Nat.max 1 p.restore
  let left := p.grant * 25 - 900
  let tw := !(bitOf p.forceShed 3) && decide (400 ≤ left)
  let left := lessWhen tw left 400
  let sl := !(bitOf p.forceShed 2) && decide (500 ≤ left)
  let left := lessWhen sl left 500
  let fit := if bitOf p.forceShed 1 then 0 else unitsFit left up
  let left := left - unitPower fit
  let pe := !(bitOf p.forceShed 0) && decide (400 ≤ left)
  let fits := (fit :: p.unitFits).take (Nat.min 255 need)
  let kept := Nat.min p.unitsServed fit
  let served := if need ≤ fits.length then Nat.max kept (minOf 0 fits) else kept
  let t := restoreFn tw need p.shedTw p.restoreTw
  let q := restoreFn sl need p.shedSlices p.restoreSlices
  let r := restoreFn pe need p.shedPeer p.restorePeer
  { p with
    shedTw := t.1, restoreTw := t.2, shedSlices := q.1, restoreSlices := q.2, shedPeer := r.1, restorePeer := r.2
    unitFits := fits, unitsServed := served, gating := false }

/-- Copy units that are UP and not served. -/
def unserved (s : State) (n : Nat) : Nat := (upUnits s).length - n

/-- The change newly sheds a function or a copy unit. -/
def newlyShed (old new : State) : Bool :=
  (List.range 4).any (fun b => bitOf (shedBits new) b && !(bitOf (shedBits old) b)) ||
    decide (unserved old old.pwr.unitsServed < unserved new new.pwr.unitsServed)

/-- Every function of rows 2 to 5 is shed (R385). -/
def allShed (p : Pwr) : Bool := p.shedTw && p.shedSlices && p.shedPeer && p.unitsServed == 0

/-- Entry into Witness state and exit from it (R385). -/
def witnessChange (s : State) : State :=
  let w := allShed s.pwr
  if w == s.pwr.witness then s
  else s |> modPwr (fun p => { p with witness := w, pinWitness := w }) |> recordBlock .witness (powerBody s (b2n w))

/-- Judge divides the grant and writes what changed (R384). In a CONTROL reset the shed set keeps its value. -/
def dividePower (s : State) : State :=
  if controlReset s then s
  else
    let s1 := modPwr (dividedPwr (upUnits s).length) s
    let same := shedBits s1 == shedBits s && s1.pwr.unitsServed == s.pwr.unitsServed
    s1 |> whenB (!same) (recordBlock .shed (powerBody s1 (b2n (newlyShed s s1)))) |> witnessChange

/-! ### What a CORE reset clears (R374, R378) -/

/-- The Copyist and the copy store are empty: every token is back in its pool, and units stay UP. -/
def clearCopyist : State → State := modCpy (fun c => { c with
  captures := [], duplexes := [], peerIn := [], peerOut := [], heldLanding := 0, heldStaging := 0, heldService := 0, backlog := 0
  ringHead := 0, served := 0, budget := { c.budget with cs := 0 }
  units := tmap c.units (fun _ x => { x with running := false, token := false, overran := false, runNext := x.runNext || x.running }) })

/-- The digest engine and its tables are empty. -/
def clearDigests : State → State := modDgt (fun d => { d with
  streams := [], tally := [], exps := [], xports := [], repl := [], staged := [], votes := [], shards := [], twClosed := [] })

/-- Commands in their slots have lost their captures and duplicates. -/
def dropCmdLinks (s : State) : State :=
  { s with sents := tmap s.sents (fun _ x => { x with cmds := tmap x.cmds (fun _ c => { c with capture := none, dupIdx := none }) }) }

/-- What the CORE domain holds. -/
def clearCore (s : State) : State := s |> clearCopyist |> clearDigests |> dropCmdLinks

/-! ### What a CONTROL reset clears (R374, R377, R405) -/

/-- FORCE_DUAL at reset (R394). -/
def dualReset (s : State) : Bool := decide (2 ≤ s.straps.mode)

/-- The sentinels' registers and their allocation; their ports are attached again afterwards. -/
def clearSentinel (dual : Bool) (x : Sentinel) : Sentinel :=
  { x with
    attached := false, touch := {}
    rl := { x.rl with
      forceDualNext := some dual, injSeen := false, injMissed := false, dropped := false, injPending := [], injNext := false, checks := 0
      failStrokes := 0, fails := 0, skips := 0, last := none, counts := [] }
    samp := { x.samp with alloc := 0, thetaC := 0, thetaD := 0, partner := none, next := none } }

/-- The node tree. -/
def clearTree (s : State) : State :=
  { s with
    sents := tmap s.sents (fun _ x => clearSentinel (dualReset s) x)
    chks := [], judged := []
    gnd := { s.gnd with addr := 0, tree := tmap s.gnd.tree (fun _ a => { a with forceDual := dualReset s, prog := [] }) } }

/-- The COPYIST and DIGEST windows: locked fields keep their values, and the copy store keeps its pools. -/
def clearCopyRegs (s : State) : State :=
  s |> modCpy (fun c => { c with
        cfg := {}, eff := {}, cfgErr := false, ringBase := if c.lock then c.ringBase else 0, ringSize := if c.lock then c.ringSize else 0
        hostRate := if c.lock then c.hostRate else 0, budget := {}, inForce := {}, lastCost := 0, costs := [], peerSent := 0, peerServed := 0, peerBusy := 0, peerSplit := 0
        canaryRuns := 0, canaryFails := 0 })
    |> modDgt (fun d => { d with
        tallyWait := 0x40, replWait := 0x3E8, twFixed := false, xportEn := true, proto := false, tableFull := false, tapFull := false
        tallyFail := 0, tallyVoid := 0, xportFail := 0, replExpel := 0, replSplit := 0 })

/-- The taint store and the RECOVERY window. -/
def clearRecovery (s : State) : State :=
  s |> modTaint (fun t => { ({} : Taint) with
        lock := t.lock, spillBase := if t.lock then t.spillBase else 0, spillSize := if t.lock then t.spillSize else 0 })
    |> modRcv (fun r => { r with
        cfg := {}, eff := {}, ladderResult := 0, fenceResult := 0, joinAddr := 0, joinResult := 0, alarmCause := 0, alarmAbort := 0, ckpt := 0
        gateResult := 0, scratchBase := if r.lock then r.scratchBase else 0, hangs := 0, teardownsDone := 0, resets := 0, late := 0
        quarResult := 0, blasts := r.blasts.filter (fun b => b.written), sweeps := [], relays := [] })

/-- The WATCH, LEDGER, POWER and SCREEN windows. -/
def clearWindows (s : State) : State :=
  s |> modWch (fun w => { w with
        cfg := { linkEn := s.straps.links }, bcastAddr := 0, bcastResult := 0, rxBase := if w.lock then w.rxBase else 0
        selTable := false, selIndex := 0, sel := {} })
    |> modLdg (fun l => { l with
        cfg := {}, nvmErr := false, twErr := false, signedAddr := 0, tw := [], traces := l.traces.map (fun b => { b with cfg := {} }) })
    |> modPwr (fun p => { p with ramp := if p.lock then p.ramp else 8, restore := 10, forceShed := 0 })
    |> modScr (fun c => { c with cfg := {}, eff := {}, queue := [], waiting := [], result := 0, pass := 0, fail := 0, uncovered := 0, deferred := 0 })
    |> modBoot (fun b => { b with addr := 0 })
    |> modLife (fun x => { x with addr := 0, denied := false })

/-- What the CONTROL domain holds: armed trace buffers freeze, an open hold ends for the reset, and bring-up runs part of step 2 again
(R208, R364, R377). -/
def clearControl (s : State) : State :=
  s |> freezeTraces |> abortHold scReset |> clearTree |> clearCopyRegs |> clearRecovery |> clearWindows
    |> modBoot (fun b => { b with ready := false, stage := 2, attached := false })
    |> modGnd (fun g => { g with done := false })

/-! ### Resets (R376) -/

/-- Before a reset takes effect: ALARMs for the heartbeat's epochs, and every partition leaves at once. -/
def resetLeave (cause : Nat) (s : State) : State :=
  s |> alarmEpochs cause (memberEpochs s) |> forEach (allEpochs s) cancelPending |> forEach (liveEpochs s) abortEpoch

/-- A reset of the CORE or the CONTROL domain is running. -/
def domainReset (s : State) (d : Nat) : Bool := s.pwr.running.any (fun r => r.domain == d)

/-- Start a CORE or CONTROL reset; one of the same domain that runs takes it in. -/
def startReset (alarm : Nat) (r : DomReset) (s : State) : State :=
  if domainReset s r.domain then s
  else
    s |> resetLeave alarm
      |> modPwr (fun p => { p with
          running := p.running ++ [r], last := r.cause
          coreResets := if r.domain == dmCore then satInc 16 p.coreResets else p.coreResets
          controlResets := if r.domain == dmControl then satInc 16 p.controlResets else p.controlResets })
      |> (if r.domain == dmCore then clearCore else clearControl)

/-- After a CONTROL reset: notices in service are answered, an open hold goes on, and steps 6 and 7 run again over the retained image;
one that has no image goes on with the step it was in (R331, R377). -/
def controlResume (s : State) : State :=
  s |> resetNotices |> holdGoesOn
    |> modBoot (fun b => { b with stage := if s.gnd.state == 3 then 5 else if b.fw.isSome then 4 else 3, linksSettled := s.gnd.state == 3 })

/-- A reset completes (R376). A CORE reset that clock loss holds does not (R373). -/
def endReset (d : Nat) (s : State) : State :=
  match s.pwr.running.find? (fun r => r.domain == d) with
  | none => s
  | some r =>
    if d == dmCore && s.pwr.clockLost then s
    else
      s |> modPwr (fun p => { p with running := p.running.filter (fun x => !(x.domain == d)) })
        |> whenB (d == dmControl) controlResume
        |> recordBlock .domainReset (faultBody r.cause r.domain r.row r.expected r.found)

/-! ### Self-faults (R378, R379) -/

/-- A second self-fault within 10^7 strokes. -/
def secondFault (s : State) : Bool := match s.pwr.lastSelfFault with | some n => decide (now s < n + 10000000) | none => false

/-- Every partition leaves its epoch and becomes HELD until the next cold start. -/
def holdAll (s : State) : State := s |> leaveAll acSelfFault |> forEach (validParts s) holdPart

/-- The holder of the count acts (R379); rows 1, 2 and 6 are those of R378. A mismatch of credits or of mailbox entries raises an ALARM
with cause SELF_FAULT, at which the block leaves every epoch (R278, R299, R332). -/
def faultAct (r : DomReset) (unit sub : Nat) : State → State :=
  if r.domain == dmWatch then fun s => s |> leaveAll acSelfFault |> toWait unit lcNone
  else if r.row == 2 then fun s => s |> flushChan unit sub |> leaveAll acSelfFault
  else if r.domain == dmRecord then holdAll
  else startReset acSelfFault r

/-- A self-fault: the record, the count, the action, and HELD after a second one. -/
def selfFault (r : DomReset) (unit sub : Nat) (s : State) : State :=
  s |> recordBlock .selfFault (faultBody r.cause r.domain r.row r.expected r.found)
    |> modPwr (fun p => { p with selfFaults := satInc 16 p.selfFaults, lastSelfFault := some (now s) })
    |> faultAct r unit sub
    |> whenB (secondFault s) (fun s => s |> holdAll |> reportPfm "SELF_FAULT")

/-- The domain that holds a count of R378. -/
def rowDomain (row : Nat) : Nat := if row == 1 then dmWatch else if row == 2 || row == 6 then dmRecord else if row == 4 then dmCore else dmControl

/-- One audit of Guard; a count found as expected passes. -/
def auditCount (x : AuditReading) (s : State) : State :=
  if x.expected == x.found then s
  else selfFault { domain := rowDomain x.row, cause := rcAudit, row := x.row, expected := x.expected, found := x.found } x.unit x.sub s

end Sys2Proof.Machine
end

