-- ==== Sys2Proof/Machine/Bringup.lean ====
section
/-!
DEFINITION. Cold reset, the steps of bring-up (R375, R394 to R397), the firmware and ground images (R70 to R73, R396), census (R76 to R78,
R199, R203), and the cube census (R308).
-/
namespace Sys2Proof.Machine

open Sys2Proof

/-! ### Cold reset (R374, R375, R394) -/

/-- The RECORD domain commits the oldest buffered record while the power lasts. -/
def commitOldest (s : State) : State :=
  if s.ldg.noStore then s
  else match s.ldg.buffer.head? with
    | none => s
    | some r => match programPlace s r with | none => s | some (i, fresh) => programmed i fresh r s

/-- The oldest `n` of them. -/
def commitSome : Nat → State → State
  | 0, s => s
  | n + 1, s => commitSome n (commitOldest s)

/-- The open record joins the sealed ones (R346). -/
def sealQuietly : State → State := modLdg (fun l => { l with buffer := l.buffer ++ l.openRec.toList, openRec := none })

/-- The record store as a cold reset finds it: its contents stay, the failures counted on each unit start again. -/
def storeAfterReset (n : Nvm) : Nvm := { n with units := n.units.map (fun u => { u with fails := 0 }) }

/-- The copy store's pools after a cold reset: 64 buffers of each copy unit (R139, R166). -/
def resetPools (b : Build) : Cpy :=
  let n := 64 * b.units
  { landing := n / 4, staging := n * 3 / 4 - 64, service := 64 }

/-- What a cold reset leaves: the build, the record store and the fuses; the rest is as after reset. What the block has driven stays
driven, and commands that wait still wait. -/
def coldReset (s : State) : State :=
  { State.reset with
    build := s.build, cpy := resetPools s.build, nvm := storeAfterReset s.nvm, life := { ({} : Life) with otp := s.life.otp }, outs := s.outs, fresh := s.fresh
    nextTag := s.nextTag, pending := s.pending }

/-- COLD_RESET_ASSERT. -/
def execColdResetAssert (n : Nat) (s : State) : Host.Outcome State Fault Refusal :=
  ok (coldReset (if s.boot.inReset then s else commitSome n (sealQuietly s)))

/-- Straps with an encoding that acts as another (R14, R394): the STRAP code and the value sampled. -/
def badStraps (x : Straps) : List (Nat × Nat) :=
  (if x.strokeSrc == 3 then [(1, 3)] else []) ++ (if x.boot == 3 then [(2, 3)] else [])

/-- The straps are sampled; what they set is set. -/
def sampleStraps (x : Straps) (s : State) : State :=
  { s with straps := x }
    |> modStk (fun k => { k with source := if x.strokeSrc == 3 then 1 else x.strokeSrc })
    |> modWch (fun w => { w with cfg := { w.cfg with linkEn := x.links }, eff := { w.eff with linkEn := x.links } })
    |> modBoot (fun b => { b with inReset := false, stage := 2, strapInvalid := badStraps x })

/-- COLD_RESET_DEASSERT. -/
def execColdResetDeassert (x : Straps) (s : State) : Host.Outcome State Fault Refusal :=
  ok (if s.boot.inReset then sampleStraps x s else s)

/-! ### The cold-start scan (R352, R356) -/

/-- Written units that can be read. -/
def scannedUnits (s : State) : List LUnit := s.nvm.units.filter (fun u => u.written && !u.bad)

/-- Bad units. -/
def badUnits (s : State) : Nat := (s.nvm.units.filter (fun u => u.bad)).length

/-- The 64-bit number after the last valid record. -/
def nextFull (s : State) : Nat := match newestUnit s with | some u => u.firstSeq + u.recs.length | none => 0

/-- The unit that an unfinished clear began (R356). -/
def clearFirst (s : State) : Nat :=
  maxOf (((scannedUnits s).filter (fun u => match u.recs.head? with | some r => startsUnit r | none => false)).map (fun u => u.firstSeq))

/-- Units that an unfinished clear still has to erase. -/
def clearLeft (s : State) : List Nat := ((scannedUnits s).filter (fun u => decide (u.firstSeq < clearFirst s))).map (fun u => u.idx)

/-- The ledger as the scan finds it. -/
def scanLedger (readable : Bool) (s : State) : State :=
  let recs := (scannedUnits s).flatMap (fun u => u.recs)
  let n := nextFull s
  if !readable || (List.range (unitCount s)).all (fun i => (lunit s i).bad) then modLdg (fun l => { l with noStore := true }) s
  else
    s |> modLdg (fun l => { l with
          next := n % seqMod, ext := n / seqMod, committed := (n - 1) % seqMod, highStroke := maxOf (recs.map (fun r => r.stroke + r.span))
          hasStrokes := !recs.isEmpty, clearing := s.nvm.clearPending, clearTodo := if s.nvm.clearPending then clearLeft s else [] })
      |> refreshOldest

/-- Body of COLD_START: its FLAGS are TORN, NO_STORE and CLEAR_RESUMED. -/
def coldStartBody (s : State) : List Byte :=
  let torn := match newestUnit s with | some u => u.torn | none => false
  if s.ldg.noStore then zeros 14 ++ le 1 2 ++ zeros 9
  else le 8 (nextFull s - 1) ++ le 6 s.ldg.highStroke ++ le 1 (b2n torn + 4 * b2n s.nvm.clearPending) ++ zeros 1 ++
    le 4 (scannedUnits s).length ++ le 4 (badUnits s)

/-- Operating hours and power cycles (R32, R33). -/
def timeBase (readable : Bool) (s : State) : State :=
  if readable then
    let c := satInc 24 s.nvm.pcycle
    s |> modNvm (fun n => { n with pcycle := c }) |> modBoot (fun b => { b with hours := s.nvm.ophours, cycles := c })
  else modBoot (fun b => { b with hours := 0, cycles := 0 }) s

/-! ### Zeroisation (R219) -/

/-- Link session keys and handshakes in progress, epoch seeds, and the key store are cleared. -/
def clearSecrets (s : State) : State :=
  { s with
    wch := { s.wch with links := tmap s.wch.links (fun _ k => { k with txKey := [], rxKey := [], shake := { fails := k.shake.fails } }) }
    epochs := s.epochs.map (fun e => { e with seed := [] })
    life := { s.life with keys := none } }

/-- Secrets are cleared and read back at most three times; `fails` lists, for each attempt that did not read back as zero, the first
such item. -/
def zeroise (fails : List Nat) (s : State) : State :=
  let s1 := clearSecrets s
  if fails.length < 3 then
    let n := fails.length + 1
    s1 |> modLife (fun x => { x with attempts := n })
       |> recordBlock .returnZeroised (le 1 n ++ zeros 3)
       |> modLife (fun x => { x with zeroised := true, scanOk := true })
  else
    s1 |> modLife (fun x => { x with attempts := 3, zeroiseFail := true, scanOk := false })
       |> recordBlock .zeroiseFail (le 1 3 ++ le 1 (fails.getD 2 0) ++ zeros 2)

/-! ### Step 2 (R397) -/

/-- The key store is unwrapped from the record store (R389, R391). -/
def unwrapKeys (good : Bool) (s : State) : State :=
  modLife (fun x => { x with keys := if good && lifeState s == 1 then s.nvm.keyStore else none, keyLock := true }) s

/-- STRAP_INVALID records of step 1 (R436). -/
def strapRecords (s : State) : State :=
  forEach s.boot.strapInvalid (fun x => recordBlock .strapInvalid (le 1 x.1 ++ le 1 x.2 ++ zeros 2)) s

/-- Warden ROM has run: the ledger, the key store, COLD_START, and link training starts. In BLANK and RETURN the secrets are cleared
before scan is granted. -/
def romDone (readable keys : Bool) (zeroFail : List Nat) (s : State) : State :=
  s |> modNvm (fun n => { n with readable := readable })
    |> unwrapKeys keys
    |> scanLedger readable
    |> timeBase readable
    |> (fun s => recordBlock .coldStart (coldStartBody s) s)
    |> whenB (!readable) (recordBlock .timeBaseLost [])
    |> strapRecords
    |> whenB (!(lifeState s == 1)) (zeroise zeroFail)
    |> modBoot (fun b => { b with stage := 3, strapInvalid := [] })
    |> syncLinks

/-- A step of bring-up runs: the block is out of cold reset, and no CONTROL reset holds the wardens. -/
def atStage (s : State) (n : Nat) : Bool := !s.boot.inReset && !(controlReset s) && s.boot.stage == n

/-- BRINGUP_ROM. -/
def execBringupRom (storeOk keyStoreOk : Bool) (zeroFail : List Nat) (s : State) : Host.Outcome State Fault Refusal :=
  ok (if atStage s 2 then romDone storeOk keyStoreOk zeroFail s else s)

/-! ### Firmware (R395, R396) -/

/-- ERR of a firmware image, 0 when it passes: orders 1 to 7 of R71 with R396's limit, keys and minimum. -/
def firmwareCheck (s : State) (bs : List Byte) : Nat :=
  let n := rd bs 8 4
  let key := slice bs (n - 192) 96
  if !(slice bs 0 4 == bytes [0x44, 0x57, 0x46, 0x57]) then 0x01
  else if !(rd bs 4 1 == 4) then 0x02
  else if decide (5 * 2 ^ 20 < n) || !(n % 8 == 0) || decide (n < 256) || decide (bs.length < n) then 0x03
  else if (firmwareSlot s (Config.sha384 key)).isNone then 0x04
  else if !(Config.ecdsaOk key (slice bs (n - 96) 96) (slice bs 0 (n - 96))) then 0x05
  else if rd bs 12 4 < minSerial s 0xA8 then 0x06
  else if !(rd bs 16 8 == 0) && !(rd bs 16 8 == (buildParams s).toNat) then 0x07
  else 0

/-- Body of FW_REJECT and GROUND_REJECT. -/
def rejectBody (err src serial : Nat) : List Byte := le 1 err ++ le 1 src ++ zeros 2 ++ le 4 serial

/-- Add a source to those that have failed, unless slot 0 gave it. -/
def triedToo (src : Nat) (l : List Nat) : List Nat := if src == srcSlot then l else addNew l src

/-- An attempt to load firmware fails. -/
def firmwareFail (src err serial : Nat) (s : State) : State :=
  s |> modBoot (fun b => { b with source := src, err := err, loading := false, tried := triedToo src b.tried })
    |> recordBlock .fwReject (rejectBody err src serial)

/-- A ground-image attempt starts from a source. -/
def groundAttempt (src : Nat) : State → State :=
  modGnd (fun g => { g with state := 1, source := src, err := 0, attempts := satInc 16 g.attempts, pendingGo := false })

/-- The next source after a failed one, or FAILED (R72). -/
def groundNext (s : State) : State :=
  match nextAuto s s.boot.gTried with
  | some x => groundAttempt x s
  | none => modGnd (fun g => { g with state := 4 }) s

/-- An attempt to load a ground image fails. -/
def groundFail (src err serial : Nat) (s : State) : State :=
  s |> modGnd (fun g => { g with source := src, err := err })
    |> modBoot (fun b => { b with gTried := triedToo src b.gTried })
    |> recordBlock .groundReject (rejectBody err src serial)
    |> groundNext

/-- A GO from slot 0 starts an attempt; a misaligned address ends it at once (R71, R72). -/
def groundGo (s : State) : State :=
  if s.gnd.addr % 64 == 0 then groundAttempt srcSlot s else s |> groundAttempt srcSlot |> groundFail srcSlot 0x0E 0

/-- Step 4 starts: the first source of R70, or the GO that waits under a slot-0 boot. -/
def groundStart (s : State) : State :=
  match nextAuto s [] with
  | some x => groundAttempt x s
  | none => if s.gnd.pendingGo then groundGo s else s

/-- Firmware runs. -/
def firmwarePass (src : Nat) (bs : List Byte) (s : State) : State :=
  s |> modBoot (fun b => { b with
        source := src, err := 0, loading := false, fw := some bs, fwHash := Config.sha384 bs, stage := 4, gTried := [] })
    |> groundStart

/-- An image from a source has been read and is checked. -/
def firmwareTake (src : Nat) (bs : List Byte) (s : State) : State :=
  let e := firmwareCheck s bs
  if e == 0 then firmwarePass src bs s else firmwareFail src e (rd bs 12 4) s

/-- The copy of an image in the record store: its first read fixes it. -/
def readFwCopy (src : Nat) (img : List Byte) (s : State) : List Byte × State :=
  let bs := copyRead (if src == srcA then s.nvm.fwA else s.nvm.fwB) img
  (bs, modNvm (fun n => if src == srcA then { n with fwA := some bs } else { n with fwB := some bs }) s)

/-- FIRMWARE_IMAGE_CHECK: from the source that is being tried, or, when every source has failed, from slot 0 or a broadcast. -/
def firmwareChecked (src : Nat) (img : List Byte) (s : State) : State :=
  let auto := nextAuto s s.boot.tried
  if src == srcA || src == srcB then
    if auto == some src && s.nvm.readable then (fun x => firmwareTake src x.1 x.2) (readFwCopy src img s) else s
  else if src == srcSlot then whenB s.boot.loading (firmwareTake srcSlot img) s
  else if auto == some srcWatch || auto.isNone then
    match broadcastImage s 1 with
    | some bs => s |> takeBroadcast 1 |> firmwareTake srcWatch bs
    | none => s
  else s

/-- FIRMWARE_IMAGE_CHECK. -/
def execFirmwareImageCheck (src : Nat) (img : List Byte) (s : State) : Host.Outcome State Fault Refusal :=
  ok (if atStage s 3 && s.boot.fw.isNone then firmwareChecked src img s else s)

/-- GO in PWR_BOOT: no effect after step 3, nor while another source is being tried (R396, R399). -/
def bootGo (s : State) : State :=
  if decide (3 < s.boot.stage) || s.boot.fw.isSome || s.boot.loading || (nextAuto s s.boot.tried).isSome then s
  else if s.boot.addr % 64 == 0 then modBoot (fun b => { b with loading := true, source := srcSlot, err := 0 }) s
  else firmwareFail srcSlot 0x0E 0 s

/-- FIRMWARE_LOAD_GO: a write to PWR_BOOT. -/
def execFirmwareLoadGo (a : Access) (v : Word) (s : State) : Host.Outcome State Fault Refusal :=
  ok (privWrite a aPwrBoot (fun s => s |> modBoot (fun b => { b with addr := fld v 47 0 }) |> whenB (fbit v 63) bootGo) s)

/-- No complete firmware image within 1 s. -/
def firmwareTimeout (s : State) : State :=
  if s.boot.loading then firmwareFail srcSlot 0x0D 0 s
  else match nextAuto s s.boot.tried with | some x => firmwareFail x 0x0D 0 s | none => s

/-- FIRMWARE_SOURCE_TIMEOUT. -/
def execFirmwareSourceTimeout (s : State) : Host.Outcome State Fault Refusal :=
  ok (if atStage s 3 && s.boot.fw.isNone then firmwareTimeout s else s)

/-! ### The ground image (R70 to R73) -/

/-- GO in GND_LOAD: denied once an image is loaded, ignored while a load runs, kept until step 4. -/
def groundLoadGo (slot : Nat) (s : State) : State :=
  if s.gnd.state == 3 then recordBlock .groundReloadDenied (le 1 slot ++ zeros 3) s
  else if s.gnd.state == 1 then s
  else if s.boot.stage == 4 then groundGo s
  else modGnd (fun g => { g with pendingGo := true }) s

/-- GND_LOAD_GO: a write to GND_LOAD. -/
def execGndLoadGo (a : Access) (v : Word) (s : State) : Host.Outcome State Fault Refusal :=
  ok (privWrite a aGndLoad (fun s => s |> modGnd (fun g => { g with addr := fld v 47 0 }) |> whenB (fbit v 63) (groundLoadGo a.slot)) s)

/-- A ground image from a source has been read and is checked. -/
def groundTake (src : Nat) (bs : List Byte) (s : State) : State :=
  let e := imageCheck s bs
  if e == 0 then imageLoaded src bs s else groundFail src e (rd bs 12 4) s

/-- The copy of a ground image in the record store: its first read fixes it. -/
def readGroundCopy (src : Nat) (img : List Byte) (s : State) : List Byte × State :=
  let bs := copyRead (if src == srcA then s.nvm.groundA else s.nvm.groundB) img
  (bs, modNvm (fun n => if src == srcA then { n with groundA := some bs } else { n with groundB := some bs }) s)

/-- The image of the attempt that runs. -/
def groundChecked (src : Nat) (img : List Byte) (s : State) : State :=
  if src == srcA || src == srcB then
    if s.nvm.readable then (fun x => groundTake src x.1 x.2) (readGroundCopy src img s) else s
  else if src == srcSlot then groundTake srcSlot img s
  else match broadcastImage s 2 with
    | some bs => s |> takeBroadcast 2 |> groundTake srcWatch bs
    | none => s

/-- GROUND_IMAGE_CHECK. -/
def execGroundImageCheck (src : Nat) (img : List Byte) (s : State) : Host.Outcome State Fault Refusal :=
  ok (if atStage s 4 && s.gnd.state == 1 && s.gnd.source == src then groundChecked src img s else s)

/-- GROUND_SOURCE_TIMEOUT. -/
def execGroundSourceTimeout (s : State) : Host.Outcome State Fault Refusal :=
  ok (if atStage s 4 && s.gnd.state == 1 then groundFail s.gnd.source 0x0D 0 s else s)

/-! ### Steps 5 and 6 (R61, R76, R127, R397) -/

/-- A port's logical number has nothing to serve it until census. -/
def tileFailed (p : Nat) (s : State) : State :=
  let t := tile s p
  s |> whenB (working t) (modGnd (fun g => { g with vacancies := g.vacancies ++ [{ port := p, home := t.host, logical := t.logical, since := 0 }] }))
    |> modTile p (fun t => { t with state := tsFailed, host := t.parent })
    |> modSent p (fun x => { x with attached := false, failed := true })

/-- A port the map does not hide. -/
def shownPort (s : State) (p : Nat) : Bool := (tget s.gnd.tiles p).isSome && !((tile s p).state == tsHidden)

/-- One port attaches and passes its self-test, or is FAILED. -/
def attachPort (a : PortAttach) (s : State) : State :=
  if !(shownPort s a.port) || (tile s a.port).state == tsFailed then s
  else if a.ok then
    modSent a.port (fun x => { x with
      attached := true, failed := false, rl := { x.rl with channels := a.channels % 16, forceDual := x.rl.forceDual || dualReset s }
      canary := { x.canary with wired := a.canary } }) s
  else tileFailed a.port s

/-- SENTINEL_ATTACH: every port has attached or failed. -/
def execSentinelAttach (ports : List PortAttach) (s : State) : Host.Outcome State Fault Refusal :=
  ok (if atStage s 5 && s.gnd.state == 3 && !s.boot.attached then
    s |> forEach ports attachPort |> modBoot (fun b => { b with attached := true }) else s)

/-! ### Census (R76 to R78, R161, R199, R203) -/

/-- Entries of GOLDEN of a kind whose tile type is in use; ANALOG entries carry no type. -/
def censusEntries (s : State) (kind : Nat) : List Nat :=
  (List.range s.gnd.golden.length).filter (fun i =>
    let g := s.gnd.golden.getD i {}
    g.kind == kind && g.enabled && (kind == skAnalog || s.gnd.tiles.any (fun e => !(e.2.state == tsHidden) && e.2.typ == g.typ)))

/-- Step 7 starts: the canary set on every copy unit, the reference digests, the ANALOG entries. -/
def censusBegin (s : State) : State :=
  let us := (unitNos s).filter (fun u => !(cunit s u).perm)
  s |> modBoot (fun b => { b with
        stage := 7, canaryTodo := us, goldenTodo := censusEntries s skArith
        analogTodo := if s.scr.cfg.analogEn then censusEntries s skAnalog else [] })
    |> forEach us (fun u s => s |> modUnit u (fun x => { x with census := true }) |> startCanary u)

/-- CENSUS_START: steps 5 and 6 are complete. -/
def execCensusStart (s : State) : Host.Outcome State Fault Refusal :=
  ok (if atStage s 5 && s.gnd.state == 3 && s.boot.attached && linksDone s then censusBegin s else s)

/-- A VACANT number is filled by R62 at once; a spare that takes it serves it from now on. -/
def censusFill (v : Vacancy) (s : State) : State :=
  let x := tile s v.port
  match pickSpare s v.home x.typ x.part (fun _ => true) with
  | none => s
  | some q => applySubst { port := v.port, spare := q, home := v.home, logical := v.logical, tick := 0 } s

/-- Every VACANT number, in the order of the numbers. -/
def censusFills (s : State) : State :=
  s |> forEach (sortBy (fun v => v.logical) s.gnd.vacancies) censusFill |> modGnd (fun g => { g with vacancies := [] })

/-- Partitions with READY set (R77). -/
def readyParts (s : State) : List Nat := (validParts s).filter (partReady s)

/-- Body of CENSUS (R436). -/
def censusBody (s : State) : List Byte :=
  le 2 (portsIn s working) ++ le 2 (portsIn s (fun t => t.state == tsSpare)) ++
  le 2 (portsIn s (fun t => t.state == tsHidden || t.state == tsQuarantined)) ++ le 2 (portsIn s (fun t => t.state == tsFailed)) ++
  le 2 (vacantAll s) ++ zeros 2 ++ digestBytes s ++
  (Config.sha384 ((List.range 2048).flatMap (fun p => le 8 (readTile s p).toNat))).take 16 ++ le 8 (maskOf (readyParts s))

/-- READY (R10, R77, R140, R149, R200, R308): slices are due, canaries of the units that are UP are due, the cube's warden hears of
it; without a host rate, or with too small a ring, there is no sampling capacity. -/
def blockReady (s : State) : State :=
  s |> modBoot (fun b => { b with ready := true, readyStroke := now s, stage := 8 })
    |> (fun s => forEach (testedPorts s) (fun p s => firstDue s p) s)
    |> (fun s => forEach (upUnits s) (fun u => modUnit u (fun x => { x with due := now s + canaryPeriod s })) s)
    |> whenB (!s.tcfg.lock) (periodMismatch 2)
    |> modCpy (fun c => { c with noCapacity := c.hostRate == 0 || decide (c.ringSize < 256) })
    |> whenB (s.cpy.hostRate == 0) (recordBlock .copyNoRate [])
    |> sendCensus
    |> forEach ((validParts s).filter (fun k => !(readyParts s).contains k)) (fun _ => reportPfm "PARTITION_NOT_READY")

/-- Census is complete. -/
def censusEnd (s : State) : State :=
  s |> censusFills
    |> modGnd (fun g => { g with done := true })
    |> (fun s => recordBlock .census (censusBody s) s)
    |> blockReady

/-- CENSUS_COMPLETE. -/
def execCensusComplete (s : State) : Host.Outcome State Fault Refusal :=
  ok (if atStage s 7 && s.boot.canaryTodo.isEmpty && s.boot.goldenTodo.isEmpty && s.boot.analogTodo.isEmpty then censusEnd s else s)

/-! ### A step past its limit (R397) -/

/-- Ports that have not attached are FAILED, and links that have not settled are ABSENT. -/
def linkAbsentNow (l : Nat) (s : State) : State :=
  if linkUsable (Machine.link s l) || (Machine.link s l).state == lsQuarantined || (Machine.link s l).state == lsAbsent || !(linkEnabled s l) then s
  else s |> modLink l (fun k => { dropQueues k with state := lsAbsent, cause := lcAbsent, since := now s }) |> linkRecord l

/-- Census goes on with what is done: units that have not passed are OFFLINE. -/
def censusCut (s : State) : State :=
  s |> forEach s.boot.canaryTodo endCanary
    |> modBoot (fun b => { b with canaryTodo := [], goldenTodo := [], analogTodo := [] })
    |> censusEnd

/-- The record of a step past its limit; no rule gives its DOMAIN (log entry 40). -/
def stepRecord (s : State) : State := s |> recordBlock .domainReset (faultBody 0 (drawValue s % 256) 0 0 0) |> bumpFresh

/-- What a step past its limit leaves. -/
def stepCut (s : State) : State :=
  if s.boot.stage == 2 then s |> romDone false false [] |> stepRecord
  else if s.boot.stage == 5 then
    if s.boot.attached && linksDone s then s
    else if !s.boot.attached then
      s |> stepRecord
        |> forEach (tfind s.gnd.tiles (fun p t => !(t.state == tsHidden) && !(t.state == tsFailed) && !(sent s p).attached)) tileFailed
        |> modBoot (fun b => { b with attached := true })
    else s |> stepRecord |> forEach (linkNos s) linkAbsentNow |> modBoot (fun b => { b with linksSettled := true })
  else if s.boot.stage == 7 then s |> stepRecord |> censusCut
  else s

/-- BRINGUP_STEP_TIMEOUT. -/
def execBringupStepTimeout (s : State) : Host.Outcome State Fault Refusal :=
  ok (if s.boot.inReset || controlReset s then s else stepCut s)

/-! ### Tree and cube (R50, R78, R308) -/

/-- An assembly stops answering: its subtree is ABSENT, and so are the partitions it serves. -/
def nodeGone (n : Nat) (s : State) : State :=
  let below := portsBelow s n
  let ks := (validParts s).filter (fun k => below.any (fun p => (tile s p).part == k))
  s |> modAsm n (fun a => { a with absent := true })
    |> record .nodeAbsent (parentOf s n) (le 2 n ++ le 2 below.length)
    |> forEach ks (fun k s => s |> alarmPart acNodeAbsent k n (zeros 16) |> holdPart k)

/-- NODE_ABSENT. -/
def execNodeAbsent (n : Nat) (s : State) : Host.Outcome State Fault Refusal :=
  ok (if decide (n < 0x800) && nodeUsed s n && !(asm s n).absent then nodeGone n s else s)

/-- CENSUS_SUMMARY. -/
def execCensusSummary (c : CensusSummary) (s : State) : Host.Outcome State Fault Refusal := ok (takeCensus c s)

/-- `n` strokes have passed since the census began at this block. -/
def cubeDue (s : State) (n : Nat) : Bool := match s.wch.censusAt with | some x => decide (x + n ≤ now s) | none => false

/-- CUBE_CENSUS_TIMEOUT: the warden reports what it has. -/
def execCubeCensusTimeout (s : State) : Host.Outcome State Fault Refusal :=
  ok (whenB (s.wch.warden == 1 && cubeDue s 1000 && !s.wch.cubeSent) sendCube s)

/-- DEPUTY_TIMEOUT: the deputy reports in the warden's place. -/
def execDeputyTimeout (s : State) : Host.Outcome State Fault Refusal :=
  ok (whenB (s.wch.warden == 2 && cubeDue s 2000 && !s.wch.cubeCopy && !s.wch.cubeSent) sendCube s)

end Sys2Proof.Machine
end

