-- ==== Sys2Proof/Machine/Lifecycle.lean ====
section
/-!
DEFINITION. Power, clocks, resets and life-cycle commands (R32, R33, R373 to R379, R381 to R387, R388 to R393, R431, R432).
-/
namespace Sys2Proof.Machine

open Sys2Proof

/-! ### Clock loss and resets (R373, R376) -/

/-- CLOCK_LOSS: the core clock has not moved for 1 µs. -/
def execClockLoss (s : State) : Host.Outcome State Fault Refusal :=
  ok <| if s.boot.inReset || s.pwr.clockLost then s
    else
      s |> recordBlock .clockLoss (le 1 1 ++ zeros 3)
        |> modPwr (fun p => { p with clockLost := true })
        |> startReset acManual { domain := dmCore, cause := rcClock }

/-- CORE_CLOCK_RETURN. -/
def execCoreClockReturn (s : State) : Host.Outcome State Fault Refusal := ok (modPwr (fun p => { p with clockLost := false }) s)

/-- A write to PWR_RESET: CORE, CONTROL, or both. -/
def resetWrite (v : Word) (s : State) : State :=
  s |> whenB (fbit v 63) (startReset acManual { domain := dmCore, cause := rcSlot })
    |> whenB (fbit v 62) (startReset acManual { domain := dmControl, cause := rcSlot })

/-- CORE_RESET. -/
def execCoreReset (a : Access) (v : Word) (s : State) : Host.Outcome State Fault Refusal := ok (privWrite a aPwrReset (resetWrite v) s)

/-- CONTROL_RESET. -/
def execControlReset (a : Access) (v : Word) (s : State) : Host.Outcome State Fault Refusal := ok (privWrite a aPwrReset (resetWrite v) s)

/-- DOMAIN_RESET_DONE. -/
def execDomainResetDone (d : Nat) (s : State) : Host.Outcome State Fault Refusal := ok (endReset d s)

/-- LOCKSTEP_MISMATCH: the cores of a warden pair disagree (R379). -/
def execLockstepMismatch (d : Nat) (s : State) : Host.Outcome State Fault Refusal :=
  ok (if s.boot.inReset then s else selfFault { domain := d, cause := rcLockstep } 0 0 s)

/-- WARDEN_WATCHDOG resets the CONTROL domain (R374). -/
def execWardenWatchdog (s : State) : Host.Outcome State Fault Refusal :=
  ok (if s.boot.inReset then s else startReset acManual { domain := dmControl, cause := rcWatchdog } s)

/-! ### Power (R381 to R383) -/

/-- POWER_ESTIMATE: every 2 µs. -/
def execPowerEstimate (e : Nat) (s : State) : Host.Outcome State Fault Refusal :=
  ok (if s.boot.inReset then s else takeEstimate (e % 1024) s)

/-- GRANT_STROBE. -/
def execGrantStrobe (g : Nat) (s : State) : Host.Outcome State Fault Refusal :=
  ok (if s.boot.inReset then s else takeGrant (g % 1024) s)

/-! ### Operating hours (R32, R33, R216) -/

/-- The lowest 1-second mean of the hour enters the craquelure map. -/
def commitCanary (p : Nat) (s : State) : State :=
  let m := (sent s p).canary.hourMin
  s |> craqMod 1 p (fun e => { e with canaryMin := if e.canaryMin == 0 then m else Nat.min e.canaryMin m })
    |> modSent p (fun x => { x with canary := { x.canary with hourMin := 0xFF } })

/-- Ports with a reading in the hour. -/
def hourPorts (s : State) : List Nat := tfind s.sents (fun _ x => x.attached && x.canary.wired && !(x.canary.hourMin == 0xFF))

/-- One 1/64 h passes. -/
def hoursUnit (s : State) : State :=
  let h := satInc 32 s.boot.hours
  s |> modBoot (fun b => { b with hours := h })
    |> whenB s.nvm.readable (modNvm (fun n => { n with ophours := h }))
    |> whenB (h % 64 == 0) (forEach (hourPorts s) commitCanary)

/-- OPERATING_HOURS_UNIT. -/
def execOperatingHoursUnit (s : State) : Host.Outcome State Fault Refusal := ok (if s.boot.inReset || decide (s.boot.stage < 3) then s else hoursUnit s)

/-! ### PWR_LC_CMD (R390 to R393, R399) -/

/-- RESULT of PWR_LC_CMD. -/
def plRunning : Nat := 1
def plDone : Nat := 2
def plBadBlock : Nat := 3
def plBadSig : Nat := 4
def plDevice : Nat := 5
def plCounter : Nat := 6
def plState : Nat := 7
def plBusy : Nat := 8
def plOtpFull : Nat := 9
def plRetry : Nat := 10
def plNoKey : Nat := 11
def plBadTarget : Nat := 12

/-- OP of PWR_LC_CMD. -/
def opDevkey : Nat := 1
def opProvision : Nat := 2
def opReturn : Nat := 3
def opSerial : Nat := 4
def opRevoke : Nat := 5

/-- The command ends with a result. -/
def lcResult (r : Nat) : State → State := modLife (fun x => { x with result := r })

/-- The command fails: PROVISION_REJECT (R391, R398). -/
def lcReject (op r : Nat) (s : State) : State := s |> lcResult r |> recordBlock .provisionReject (le 1 op ++ le 1 r ++ zeros 2)

/-- The command is done: LIFECYCLE (R393, R398). -/
def lcDone (op old : Nat) (s : State) : State :=
  s |> lcResult plDone |> (fun s => recordBlock .lifecycle (le 1 old ++ le 1 (lifeState s) ++ le 1 op ++ zeros 1) s)

/-! #### DEVKEY -/

/-- The device private scalar; the reduction modulo the group order belongs to the curve operations (R390; log entry 13). -/
def deviceScalar (s : State) : List Byte :=
  Config.hkdf ((List.range 8).flatMap (fun i => le 4 (otpWord s (2 + i)))) [] (bytes [0x44, 0x57, 0x44, 0x4B])

/-- DEVKEY writes the device public key to ADDR. -/
def devkeyGo (s : State) : State :=
  if !(s.life.addr % 64 == 0) then lcReject opDevkey plBadBlock s
  else if lifeState s == 2 then lcReject opDevkey plState s
  else s |> memWrite s.life.addr false (fit 96 (Config.publicKey (deviceScalar s))) |> lcResult plDone

/-! #### OTP burns -/

/-- Burns of a command wait their turn; the first is driven on the OTP port (R431). -/
def startBurns (rs : List OtpReq) (s : State) : State :=
  match rs with
  | [] => s
  | r :: rest => s |> modLife (fun x => { x with req := some r, queue := rest, result := plRunning }) |> emit (.otp true r.addr r.bits)

/-- Ones are programmed into a word. -/
def burn (r : OtpReq) : State → State :=
  modLife (fun x => { x with otp := tput x.otp r.addr (BitVec.ofNat 32 (r.bits ||| (tgetD x.otp r.addr 0).toNat)) })

/-! #### PROVISION -/

/-- The form of a bundle. -/
def bundleOk (addr : Nat) (bs : List Byte) : Bool :=
  let n := rd bs 364 4
  addr % 64 == 0 && decide (2048 ≤ bs.length) && slice bs 0 4 == bytes [0x44, 0x57, 0x50, 0x56] && rd bs 4 1 == 4 && zeroAt bs 5 3 &&
    decide (1 ≤ n) && decide (n ≤ 1248) && zeroAt bs (368 + n) (1248 - n) && zeroAt bs 1616 240

/-- The link scalar and the join key, when the tag verifies. -/
def bundleSecrets (s : State) (bs : List Byte) : Option (List Byte) :=
  let x := Config.ecdhX (deviceScalar s) (slice bs 160 96)
  let key := (Config.hkdf x [] (bytes [0x44, 0x57, 0x50, 0x56])).take 32
  Config.gcmOpen key (slice bs 256 12) (slice bs 0 256) (slice bs 268 80) (slice bs 348 16)

/-- The certificate chain of a bundle verifies to POD_ROOT_H, names this device, and carries the key of the scalar. -/
def bundleCertOk (s : State) (bs scalar : List Byte) : Bool :=
  match Config.certChain (slice bs 368 (rd bs 364 4)) with
  | some c => c.rootHash == slice bs 16 48 && c.device == deviceId s && c.key == Config.publicKey scalar
  | none => false

/-- The slot that holds a pod root hash, and the next free one. -/
def podSlotOf (s : State) (h : List Byte) : Option Nat :=
  (List.range 4).find? (fun i => bitOf (otpWord s 0x0A) (16 + i) && otpHash s (0x70 + 12 * i) == h)
def podSlotFree (s : State) : Option Nat := (List.range 4).find? (fun i => !(bitOf (otpWord s 0x0A) (16 + i)))

/-- The first failed condition of R391, or RUNNING. -/
def provisionCheck (s : State) (blk : MemRead) : Nat :=
  match blk with
  | none => plBadBlock
  | some bs =>
    let key := slice bs 1856 96
    if !(bundleOk s.life.addr bs) then plBadBlock
    else if lifeState s == 2 || !s.nvm.readable || s.ldg.noStore then plState
    else if (firmwareSlot s (Config.sha384 key)).isNone || !(Config.ecdsaOk key (slice bs 1952 96) (slice bs 0 1952)) then plBadSig
    else if !(rd bs 8 8 == deviceId s) then plDevice
    else match bundleSecrets s bs with
      | none => plBadSig
      | some secrets =>
        if !(bundleCertOk s bs (secrets.take 48)) then plBadSig
        else if anyEpoch s then plBusy
        else if (podSlotOf s (slice bs 16 48)).isNone && (podSlotFree s).isNone then plOtpFull
        else plRunning

/-- The key store of a bundle. -/
def bundleKeys (s : State) (bs : List Byte) : KeyStore :=
  let secrets := (bundleSecrets s bs).getD []
  { podRootH := slice bs 16 48, ledgerKey := slice bs 64 96, linkScalar := secrets.take 48, joinKey := slice secrets 48 32,
    certChain := slice bs 368 (rd bs 364 4) }

/-- The burns of a PROVISION: the hash and its written bit unless a slot holds it, and PROVISIONED in BLANK. -/
def provisionBurns (s : State) (k : KeyStore) : List OtpReq :=
  let one (addr bits : Nat) : OtpReq := { addr := addr, bits := bits, op := opProvision, store := some k }
  let slotBurns := match podSlotOf s k.podRootH, podSlotFree s with
    | none, some i => (List.range 12).map (fun j => one (0x70 + 12 * i + j) (rd k.podRootH (4 * j) 4)) ++ [one 0x0A (2 ^ (16 + i))]
    | _, _ => []
  slotBurns ++ (if lifeState s == 0 then [one 0x0A 1] else [])

/-- Every link retrains under the new certificate. -/
def retrainAll (s : State) : State :=
  s |> forEach ((linkNos s).filter (fun l => !((Machine.link s l).state == lsQuarantined))) toDown |> syncLinks

/-- The key store is written, and the block is PROVISIONED. -/
def provisionEnd (old : Nat) (k : KeyStore) (s : State) : State :=
  s |> modNvm (fun n => { n with keyStore := some k }) |> modLife (fun x => { x with keys := some k }) |> retrainAll |> lcDone opProvision old

/-- PROVISION. -/
def provisionGo (blk : MemRead) (s : State) : State :=
  let r := provisionCheck s blk
  let k := bundleKeys s (blk.getD [])
  if !(r == plRunning) then lcReject opProvision r s
  else if (provisionBurns s k).isEmpty then provisionEnd (lifeState s) k s
  else startBurns (provisionBurns s k) s

/-! #### RETURN, SERIAL, REVOKE -/

/-- The form of a signed block of PWR_LC_CMD (R390, R393): a MAGIC byte pair, OP, and zeros but for TARGET and VALUE. -/
def lcBlockOk (addr m2 m3 op : Nat) (bs : List Byte) : Bool :=
  addr % 64 == 0 && decide (224 ≤ bs.length) && slice bs 0 4 == bytes [0x44, 0x57, m2, m3] && rd bs 4 1 == 4 && rd bs 5 1 == op && zeroAt bs 6 2 &&
    zeroAt bs 22 2 && zeroAt bs 28 100

/-- The conditions of R355 from order 2 to 5; a BLANK block needs no signature for RETURN. -/
def lcSigned (s : State) (needKey : Bool) (bs : List Byte) : Nat :=
  let keyed := match s.life.keys with
    | none => plNoKey
    | some k => if Config.ecdsaOk k.ledgerKey (slice bs 128 96) (slice bs 0 128) then plRunning else plBadSig
  if needKey && !(keyed == plRunning) then keyed
  else if !(rd bs 8 8 == deviceId s) then plDevice
  else if !(rd bs 16 4 == s.nvm.authCtr + 1) then plCounter
  else plRunning

/-- RETURN's conditions (R390). -/
def returnCheck (s : State) (blk : MemRead) : Nat :=
  match blk with
  | none => plBadBlock
  | some bs =>
    if !(lcBlockOk s.life.addr 0x52 0x54 3 bs) || !(zeroAt bs 20 2) || !(zeroAt bs 24 4) then plBadBlock
    else
      let r := lcSigned s (!(lifeState s == 0)) bs
      if !(r == plRunning) then r else if s.ldg.noStore then plState else plRunning

/-- AUTH_CTR is committed before the command burns (R393). -/
def commitCounter (blk : MemRead) : State → State := modNvm (fun n => { n with authCtr := rd (blk.getD []) 16 4 })

/-- RETURN. -/
def returnGo (blk : MemRead) (s : State) : State :=
  let r := returnCheck s blk
  if !(r == plRunning) then lcReject opReturn r s
  else s |> commitCounter blk |> startBurns [{ addr := 0x0A, bits := 2, op := opReturn }]

/-- The RETURN fuse is burnt: both key-store copies are erased, every epoch is left, and the secrets are cleared (R219, R392). -/
def returnEnd (old : Nat) (zeroFail : List Nat) (s : State) : State :=
  s |> modNvm (fun n => { n with keyStore := none })
    |> leaveAll acLifecycle
    |> zeroise zeroFail
    |> syncLinks
    |> lcDone opReturn old

/-- Kinds of a serial or a key slot: 0 ground image, 1 firmware, 2 pod root. -/
def serialBase (kind : Nat) : Nat := if kind == 0 then 0xA0 else 0xA8
def revokeBit (kind slot : Nat) : Nat := (if kind == 0 then 4 else if kind == 1 then 8 else 12) + slot

/-- The minimum-serial words of a kind that are not written. -/
def freeSerials (s : State) (kind : Nat) : List Nat :=
  ((List.range 8).map (fun i => serialBase kind + i)).filter (fun a => otpWord s a == 0)

/-- Slots of a kind that are not revoked; a pod root slot has to be written. -/
def liveSlots (s : State) (kind : Nat) : List Nat :=
  (List.range 4).filter (fun i => !(bitOf (otpWord s 0x0A) (revokeBit kind i)) && (!(kind == 2) || bitOf (otpWord s 0x0A) (16 + i)))

/-- TARGET and VALUE of a SERIAL or REVOKE are in form (R393). -/
def targetOk (op : Nat) (bs : List Byte) : Bool :=
  let t := rd bs 20 2
  decide (t < 16) && !(t / 4 == 3) && (if op == opSerial then t % 4 == 0 && !(t / 4 == 2) else zeroAt bs 24 4)

/-- The conditions of R393, or RUNNING. -/
def lockCheck (op : Nat) (s : State) (blk : MemRead) : Nat :=
  match blk with
  | none => plBadBlock
  | some bs =>
    let kind := rd bs 20 2 / 4
    let slot := rd bs 20 2 % 4
    if !(lcBlockOk s.life.addr 0x4F 0x54 op bs) || !(targetOk op bs) then plBadBlock
    else
      let r := lcSigned s true bs
      if !(r == plRunning) then r
      else if !(lifeState s == 1) || s.ldg.noStore then plState
      else if op == opSerial then
        if decide (rd bs 24 4 ≤ minSerial s (serialBase kind)) then plBadTarget
        else if (freeSerials s kind).isEmpty then plOtpFull
        else plRunning
      else if !((liveSlots s kind).contains slot) || (liveSlots s kind).length == 1 then plBadTarget
      else plRunning

/-- The burn of a SERIAL or a REVOKE. -/
def lockBurn (op : Nat) (s : State) (bs : List Byte) : OtpReq :=
  let kind := rd bs 20 2 / 4
  if op == opSerial then { addr := (freeSerials s kind).headD 0, bits := rd bs 24 4, op := op }
  else { addr := 0x0A, bits := 2 ^ revokeBit kind (rd bs 20 2 % 4), op := op }

/-- SERIAL and REVOKE. -/
def lockGo (op : Nat) (blk : MemRead) (s : State) : State :=
  let r := lockCheck op s blk
  if !(r == plRunning) then lcReject op r s else s |> commitCounter blk |> startBurns [lockBurn op s (blk.getD [])]

/-! #### The register -/

/-- GO runs an OP. -/
def lcGo (op : Nat) (blk : MemRead) (s : State) : State :=
  if s.life.req.isSome then lcResult plRetry s
  else if op == opDevkey then devkeyGo s
  else if op == opProvision then provisionGo blk s
  else if op == opReturn then returnGo blk s
  else if op == opSerial || op == opRevoke then lockGo op blk s
  else lcReject op plBadBlock s

/-- A write to PWR_LC_CMD. -/
def lcWrite (v : Word) (blk : MemRead) (s : State) : State :=
  s |> modLife (fun x => { x with addr := fld v 47 0 }) |> whenB (fbit v 63) (lcGo (fld v 62 60) blk)

/-- DEVKEY. -/
def execDevkey (a : Access) (v : Word) (s : State) : Host.Outcome State Fault Refusal := ok (privWrite a aPwrLcCmd (lcWrite v none) s)

/-- PROVISION. -/
def execProvision (a : Access) (v : Word) (blk : MemRead) (s : State) : Host.Outcome State Fault Refusal := ok (privWrite a aPwrLcCmd (lcWrite v blk) s)

/-- RETURN. -/
def execLifecycleReturn (a : Access) (v : Word) (blk : MemRead) (s : State) : Host.Outcome State Fault Refusal :=
  ok (privWrite a aPwrLcCmd (lcWrite v blk) s)

/-- SERIAL. -/
def execSerial (a : Access) (v : Word) (blk : MemRead) (s : State) : Host.Outcome State Fault Refusal := ok (privWrite a aPwrLcCmd (lcWrite v blk) s)

/-- REVOKE. -/
def execRevoke (a : Access) (v : Word) (blk : MemRead) (s : State) : Host.Outcome State Fault Refusal := ok (privWrite a aPwrLcCmd (lcWrite v blk) s)

/-! #### OTP answers (R431, R432) -/

/-- The last burn of a command is done. -/
def burnsDone (r : OtpReq) (zeroFail : List Nat) (s : State) : State :=
  if r.op == opProvision then
    match r.store with
    | some k => provisionEnd (if r.addr == 0x0A && r.bits == 1 then 0 else lifeState s) k s
    | none => s
  else if r.op == opReturn then returnEnd (b2n (bitOf (otpWord s 0x0A) 0)) zeroFail s
  else lcDone r.op (lifeState s) s

/-- A burn is answered: the next one starts, or the command ends. -/
def otpAnswer (err : Bool) (zeroFail : List Nat) (s : State) : State :=
  match s.life.req with
  | none => s
  | some r =>
    if err then s |> modLife (fun x => { x with req := none, queue := [] }) |> lcReject r.op plBadBlock
    else
      let s1 := s |> burn r |> modLife (fun x => { x with req := none, queue := [] })
      if s.life.queue.isEmpty then burnsDone r zeroFail s1 else startBurns s.life.queue s1

/-- OTP_ACCESS_DONE. -/
def execOtpAccessDone (err : Bool) (zeroFail : List Nat) (s : State) : Host.Outcome State Fault Refusal := ok (otpAnswer err zeroFail s)

end Sys2Proof.Machine
end

