-- ==== Sys2Proof/Machine/Recovery.lean ====
section
/-!
DEFINITION. The commands of progress, fences, the reset ladder, epochs, ALARMs, checkpoints and the step gate (R252 to R286).
-/
namespace Sys2Proof.Machine

open Sys2Proof

/-- A command on one of a port's four counters. -/
def onCounter (port n : Nat) (s : State) : Host.Outcome State Fault Refusal :=
  if n < 4 then .next s else .fault (.notBuilt "counter" (4 * port + n))

/-! ### Progress (R253) -/

/-- One advance of a counter. -/
def advance (p n : Nat) (s : State) : State :=
  if (sent s p).attached then
    modProg p n (fun c => { c with count := (c.count + 1) % 2 ^ 32, moved := true, lastMove := now s }) s
  else s

/-- PROGRESS_INC (R253). -/
def execProgressInc (port n : Nat) (s : State) : Host.Outcome State Fault Refusal :=
  if port < s.build.ports then onCounter port n (if n < 4 then advance port n s else s) else .fault (.notBuilt "port" port)

/-- SP_PG_CTXn and SP_PG_ACTn change: a new context restarts the hang window and is named (R253, R257). -/
def rebind (p n c : Nat) (active : Bool) (s : State) : State :=
  let x := prog s p n
  if !(sent s p).attached then s
  else
    s |> modProg p n (fun y => { y with
          ctx := c, act := active, actNow := y.actNow || active
          run := if x.ctx == c then y.run else 0, hung := y.hung && x.ctx == c })
      |> whenB (active || !(x.ctx == c)) (nameContext p c)

/-- PROGRESS_REBIND (R253). -/
def execProgressRebind (port n ctx : Nat) (active : Bool) (s : State) : Host.Outcome State Fault Refusal :=
  if port < s.build.ports then onCounter port n (if n < 4 then rebind port n (ctx % 4096) active s else s)
  else .fault (.notBuilt "port" port)

/-! ### Fences (R258 to R262, R285) -/

/-- A write of RCV_FENCE. -/
def fenceWrite (v : Word) (s : State) : State :=
  let c := fld v 55 44
  let k := fld v 43 38
  if !(fbit v 63) then s
  else if fld v 62 61 == opTeardown && !(ctx s c).parts.isEmpty then startTeardown false c (ctx s c).parts acManual noNode true s
  else if fld v 62 61 == opTeardownPart && (part s k).valid then startTeardown true 0 [k] acManual noNode true s
  else modRcv (fun r => { r with fenceResult := lrBadArg }) s

/-- TEARDOWN (R259). -/
def execTeardown (a : Access) (v : Word) (s : State) : Host.Outcome State Fault Refusal := ok <| privWrite a aRcvFence (fenceWrite v) s

/-- TEARDOWN_PART (R259). -/
def execTeardownPart (a : Access) (v : Word) (s : State) : Host.Outcome State Fault Refusal := ok <| privWrite a aRcvFence (fenceWrite v) s

/-- Body of FENCE_ERROR and FENCE_TIMEOUT (R436). -/
def fenceBody (f : Fence) (path k : Nat) : List Byte :=
  le 1 f.op ++ le 1 path ++ le 2 f.ctx ++ le 6 f.since ++ le 1 k ++ zeros 1

/-- The cause and the partition of the teardown that a request belongs to. -/
def fenceCause (s : State) (f : Fence) : Nat := match teardown? s f.teardown with | some t => t.cause | none => acManual
def fenceParts (s : State) (f : Fence) : List Nat := match teardown? s f.teardown with | some t => t.parts | none => []

/-- A tile holds the gated context: RCV_GATE.RESULT is DONE once every tile does (R284, R424). -/
def gateHeld (p c : Nat) (s : State) : State :=
  let s1 := s
    |> modFence p (fun f => { f with decided := true })
    |> modRcv (fun r => { r with gates := r.gates.map (fun g => if g.ctx == c then { g with holding := without g.holding p } else g) })
  if s1.rcv.gates.any (fun g => g.ctx == c && g.holding.isEmpty) then modRcv (fun r => { r with gateResult := 2 }) s1 else s1

/-- The event FENCE_DONE of a port (R361). -/
def doneEvent (p : Nat) (err : Bool) (ctx : Nat) : State → State :=
  event (nodeOf p) evFenceDone (if err then 2 else 0) (2 ^ 31 * b2n err + ctx % 4096)

/-- FENCE_DONE (R259, R260, R424): a stray completion, or one after the limit, is ignored. -/
def fenceAnswer (p : Nat) (err : Bool) (s : State) : State :=
  let f := (sent s p).fence
  if !f.req || f.decided then s
  else if f.op == opGate then s |> doneEvent p err f.ctx |> gateHeld p f.ctx
  else
    let s1 := s |> doneEvent p err f.ctx |> lowerFence p
    if err then
      s1 |> record .fenceError (nodeOf p) (fenceBody f 1 ((fenceParts s f).headD 0xFF))
         |> escalate 2 p 0 (fenceCause s f)
         |> nextFence p
    else s1 |> portDecided p f.teardown false |> nextFence p

/-- FENCE_DONE (R260). -/
def execFenceDone (port : Nat) (err : Bool) (s : State) : Host.Outcome State Fault Refusal :=
  onUnit "port" port s.build.ports (fenceAnswer port err s)

/-- L3 on every partition of the fabric's teardown. -/
def escalateFabric (f : Fence) (s : State) : State :=
  forEach (fenceParts s f) (fun k => escalate 3 noNode k (fenceCause s f)) s

/-- The fabric answers (R260). -/
def fabricAnswer (err : Bool) (s : State) : State :=
  let f := s.rcv.fabric
  if !f.req || f.decided then s
  else if err then
    s |> recordBlock .fenceTimeout (fenceBody f 2 ((fenceParts s f).headD 0xFF))
      |> lowerFabric
      |> escalateFabric f
      |> nextFabric
  else s |> lowerFabric |> modTeardown f.teardown (fun t => { t with fabric := false }) |> checkTeardown f.teardown |> nextFabric

/-- FABRIC_FENCE_DONE (R260). -/
def execFabricFenceDone (err : Bool) (s : State) : Host.Outcome State Fault Refusal := ok (fabricAnswer err s)

/-- A sentinel has not answered within 200 µs (R260): the request stays high until the reset completes. -/
def fenceLimit (p : Nat) (s : State) : State :=
  let f := (sent s p).fence
  if !f.req || f.decided || f.op == opGate then s
  else
    s |> modFence p (fun f => { f with decided := true })
      |> record .fenceTimeout (nodeOf p) (fenceBody f 1 ((fenceParts s f).headD 0xFF))
      |> escalate 2 p 0 (fenceCause s f)

/-- The fabric has not answered within 200 µs. -/
def fabricLimit (s : State) : State :=
  let f := s.rcv.fabric
  if !f.req || f.decided then s
  else
    s |> modRcv (fun r => { r with fabric := { r.fabric with decided := true } })
      |> recordBlock .fenceTimeout (fenceBody f 2 ((fenceParts s f).headD 0xFF))
      |> escalateFabric f

/-- FENCE_TIMEOUT (R260); port 2,048 stands for the fabric. -/
def execFenceTimeout (port : Nat) (s : State) : Host.Outcome State Fault Refusal :=
  if port == 2048 then ok (fabricLimit s) else onUnit "port" port s.build.ports (fenceLimit port s)

/-- One late arrival dropped (R258). -/
def lateOne (port : Option Nat) (s : State) : State :=
  let s1 := modRcv (fun r => { r with late := satInc 16 r.late }) s
  match port with
  | some p => modSent p (fun x => { x with late := satInc 16 x.late }) s1
  | none => s1

/-- LATE_ARRIVAL (R258). -/
def execLateArrival (port : Option Nat) (s : State) : Host.Outcome State Fault Refusal :=
  match port with
  | some p => onUnit "port" p s.build.ports (lateOne port s)
  | none => ok (lateOne none s)

/-! ### The ladder (R263 to R269, R285) -/

/-- A write of RCV_LADDER. -/
def ladderWrite (v : Word) (s : State) : State :=
  let lv := fld v 62 60
  let node := fld v 55 44
  let k := fld v 43 38
  let result (n : Nat) : State := modRcv (fun r => { r with ladderResult := n }) s
  if !(fbit v 63) then s
  else if lv < 2 || 5 < lv then result lrBadArg
  else if s.gnd.policy.ladderMax < lv then result lrAboveMax
  else if lv == 2 && !(decide (0x800 ≤ node) && fencePort s (node - 0x800)) then result lrBadArg
  else if lv == 3 && !(part s k).valid then result lrBadArg
  else startLevel lv (node - 0x800) k acManual true s

/-- LADDER_L2 (R263). -/
def execLadderL2 (a : Access) (v : Word) (s : State) : Host.Outcome State Fault Refusal := ok <| privWrite a aRcvLadder (ladderWrite v) s

/-- LADDER_L3 (R263). -/
def execLadderL3 (a : Access) (v : Word) (s : State) : Host.Outcome State Fault Refusal := ok <| privWrite a aRcvLadder (ladderWrite v) s

/-- LADDER_L4 (R263). -/
def execLadderL4 (a : Access) (v : Word) (s : State) : Host.Outcome State Fault Refusal := ok <| privWrite a aRcvLadder (ladderWrite v) s

/-- LADDER_L5 (R267). -/
def execLadderL5 (a : Access) (v : Word) (s : State) : Host.Outcome State Fault Refusal := ok <| privWrite a aRcvLadder (ladderWrite v) s

/-- SP_RST_ACK rises (R264, R424): the request falls, and the level completes unless a higher one has superseded it. -/
def resetAck (p : Nat) (s : State) : State :=
  let s1 := modSent p (fun x => { x with rstAckHigh := true }) s
  if !(sent s p).rstReq then s1
  else
    let s2 := dropReset p s1
    match s.rcv.ladders.find? (fun x => x.level == 2 && x.port == p && !x.superseded && !x.waiting) with
    | some x => finishLevel x.id s2
    | none => s2

/-- ENGINE_RESET_ACK (R264). -/
def execEngineResetAck (port : Nat) (s : State) : Host.Outcome State Fault Refusal := onUnit "port" port s.build.ports (resetAck port s)

/-- PM_RST_ACK rises (R265, R424): one that answers an abandoned request completes nothing. -/
def pmAck (s : State) : State :=
  let s1 := modRcv (fun r => { r with pmAckHigh := true }) s
  match s.rcv.pmReq with
  | some id => s1 |> dropPm id |> finishLevel id
  | none => s1

/-- PM_RESET_ACK (R265). -/
def execPmResetAck (s : State) : Host.Outcome State Fault Refusal := ok (pmAck s)

/-- A level completion falls: the next request may rise (R265, R424). -/
def ackFall (port : Option Nat) (s : State) : State :=
  match port with
  | none => s |> modRcv (fun r => { r with pmAckHigh := false }) |> nextPm
  | some p =>
    let s1 := modSent p (fun x => { x with rstAckHigh := false }) s
    match s.rcv.ladders.find? (fun x => x.level == 2 && x.port == p && x.waiting && !x.superseded) with
    | some x => raiseReset x s1
    | none => s1

/-- RESET_ACK_FALL (R265, R424). -/
def execResetAckFall (port : Option Nat) (s : State) : Host.Outcome State Fault Refusal :=
  match port with
  | some p => onUnit "port" p s.build.ports (ackFall port s)
  | none => ok (ackFall none s)

/-- LADDER_LEVEL_TIMEOUT (R265): running level `idx` has not completed within its limit. -/
def execLadderLevelTimeout (idx : Nat) (s : State) : Host.Outcome State Fault Refusal :=
  ok <| match s.rcv.ladders[idx]? with
    | some x => if !x.superseded && decide (x.level ≤ 4) then failLevel x s else s
    | none => s

/-- The ledger and the craquelure map are committed (R267). -/
def allCommitted (s : State) : Bool := s.ldg.openRec.isNone && s.ldg.buffer.isEmpty && s.ldg.craqTodo.isEmpty

/-- TR_CYCLE_REQUEST (R267): after the commit, or 100 strokes. -/
def execTrCycleRequest (s : State) : Host.Outcome State Fault Refusal :=
  ok <| match s.rcv.cycleAt with
    | some n =>
      if !s.rcv.cycleReq && (allCommitted s || decide (n + 100 ≤ now s)) then
        s |> emit .cycleRequest |> modRcv (fun r => { r with cycleReq := true })
      else s
    | none => s

/-- Power is still present (R267): the record, and every partition HELD; TR_CYCLE_REQ stays high. -/
def cycleFailed (x : Ladder) (s : State) : State :=
  s |> modRcv (fun r => { r with
        ladders := r.ladders.filter (fun y => !(y.id == x.id)), ladderResult := if x.fromReg then lrExhausted else r.ladderResult })
    |> recordBlock .ladderExhausted (le 1 6 ++ le 1 x.cause ++ le 1 0xFF ++ zeros 1 ++ le 2 noNode ++ zeros 2)
    |> reportPfm "LADDER_EXHAUSTED"
    |> forEach (validParts s) holdPart

/-- POWER_CYCLE_TIMEOUT (R267). -/
def execPowerCycleTimeout (s : State) : Host.Outcome State Fault Refusal :=
  ok <| match s.rcv.ladders.find? (fun x => x.level == 5) with
    | some x => if s.rcv.cycleReq then cycleFailed x s else s
    | none => s

/-! ### Epochs (R270 to R279) -/

/-- JOIN (R271). -/
def execJoin (a : Access) (v : Word) (blk : MemRead) (s : State) : Host.Outcome State Fault Refusal :=
  ok <| privWrite a aRcvJoin (joinWrite v blk) s

/-- LEAVE (R271). -/
def execLeave (a : Access) (v : Word) (blk : MemRead) (s : State) : Host.Outcome State Fault Refusal :=
  ok <| privWrite a aRcvJoin (joinWrite v blk) s

/-- JOIN_STROKE (R271): at the tick of STROKE a PENDING partition becomes MEMBER. -/
def execJoinStroke (part0 : Nat) (s : State) : Host.Outcome State Fault Refusal :=
  onUnit "partition" part0 64 <|
    match (part s part0).pending with
    | some (e, t) => if (part s part0).state == psPending && decide (t ≤ now s) then s |> joinTick |> joinPart part0 e t else s
    | none => s

/-- LEAVE_STROKE (R271): at the tick of a LEAVE's STROKE the partition leaves. -/
def execLeaveStroke (part0 : Nat) (s : State) : Host.Outcome State Fault Refusal :=
  onUnit "partition" part0 64 <|
    match (part s part0).leaveAt with
    | some t =>
      if !(decide (t ≤ now s)) then s
      else if inEpoch (part s part0) then s |> joinTick |> leavePart part0
      else if (part s part0).state == psPending then
        let e := (part s part0).epoch
        s |> joinTick |> afterLeave part0 |> dropEpoch (now s) e
      else modPart part0 (fun q => { q with leaveAt := none }) s
    | none => s

/-- ALARM (R276, R310): received on a link. -/
def execAlarm (link : Nat) (m : AlarmMsg) (s : State) : Host.Outcome State Fault Refusal :=
  onUnit "link" link s.build.links (takeAlarm link { newFlit s clAlarm mdFlood m.epoch (.alarm m) with src := m.origin } m s)

/-- RCV_ALARM (R274): a MANUAL ALARM for the epoch of PART. -/
def execRcvAlarm (a : Access) (v : Word) (s : State) : Host.Outcome State Fault Refusal :=
  ok <| privWrite a aRcvAlarm (fun s => whenB (fbit v 63) (alarmPart acManual (fld v 62 57) noNode (zeros 16)) s) s

/-- ABORT_AT (R277): at its tick every partition of the epoch leaves. -/
def execAbortAt (epoch : Nat) (s : State) : Host.Outcome State Fault Refusal :=
  ok <| match (epoch? s epoch).bind (fun x => x.abortAt) with
    | some t => if t ≤ now s then abortEpoch epoch s else s
    | none => s

/-! ### The step gate (R284) -/

def gateResult (n : Nat) : State → State := modRcv (fun r => { r with gateResult := n })
def gate? (s : State) (c : Nat) : Option Gate := s.rcv.gates.find? (fun g => g.ctx == c)
def modGate (c : Nat) (f : Gate → Gate) : State → State :=
  modRcv (fun r => { r with gates := r.gates.map (fun g => if g.ctx == c then f g else g) })

/-- ON: GATE on each sentinel where the context is bound; a busy fence port takes it when it is free. -/
def gateOn (c : Nat) (s : State) : State :=
  let x := ctx s c
  let ps := (asc x.ports).filter (fencePort s)
  if x.parts.isEmpty then gateResult 6 s
  else if x.parts.any (fun k => (part s k).state == psPending || inEpoch (part s k)) then gateResult 4 s
  else if (gate? s c).isSome || x.state == cxTearing then gateResult 3 s
  else
    s |> modRcv (fun r => { r with
          gates := r.gates ++ [{ ctx := c, ports := ps, waits := ps, holding := ps }], gateSteps := 0, gateResult := if ps.isEmpty then 2 else 1 })
      |> modCtx c (fun y => { y with state := cxGated })
      |> forEach ps nextFence

/-- STEP: one released command on each gated tile. -/
def gateStep (c : Nat) (s : State) : State :=
  match gate? s c with
  | none => gateResult (if (ctx s c).parts.isEmpty then 6 else 5) s
  | some g =>
    if !g.stepping.isEmpty || !g.holding.isEmpty then gateResult 3 s
    else
      s |> forEach g.ports (fun p => emit (.stepPulse p))
        |> modGate c (fun x => { x with stepping := x.ports, steps := satInc 32 x.steps })
        |> modRcv (fun r => { r with gateSteps := satInc 32 g.steps, gateResult := if g.ports.isEmpty then 2 else 1 })

/-- OFF: the requests fall. -/
def gateOff (c : Nat) (s : State) : State :=
  match gate? s c with
  | none => gateResult (if (ctx s c).parts.isEmpty then 6 else 5) s
  | some g => s |> dropGate g |> gateResult 2

/-- A write of RCV_GATE. -/
def gateWrite (v : Word) (s : State) : State :=
  let c := fld v 55 44
  if !(fbit v 63) then s
  else if fld v 62 61 == 1 then gateOn c s
  else if fld v 62 61 == 2 then gateStep c s
  else if fld v 62 61 == 3 then gateOff c s
  else gateResult 6 s

/-- GATE_ON (R284). -/
def execGateOn (a : Access) (v : Word) (s : State) : Host.Outcome State Fault Refusal := ok <| privWrite a aRcvGate (gateWrite v) s

/-- GATE_STEP (R284). -/
def execGateStep (a : Access) (v : Word) (s : State) : Host.Outcome State Fault Refusal := ok <| privWrite a aRcvGate (gateWrite v) s

/-- GATE_OFF (R284). -/
def execGateOff (a : Access) (v : Word) (s : State) : Host.Outcome State Fault Refusal := ok <| privWrite a aRcvGate (gateWrite v) s

/-- A tile's released command completed: RESULT is DONE once every tile has answered. -/
def stepAnswered (p c : Nat) (s : State) : State :=
  let s1 := modGate c (fun g => { g with stepping := without g.stepping p }) s
  if s1.rcv.gates.any (fun g => g.ctx == c && g.stepping.isEmpty) then gateResult 2 s1 else s1

/-- STEP_DONE (R284, R424). -/
def execStepDone (port : Nat) (s : State) : Host.Outcome State Fault Refusal :=
  onUnit "port" port s.build.ports <|
    match s.rcv.gates.find? (fun g => g.stepping.contains port) with
    | some g => stepAnswered port g.ctx s
    | none => s

/-! ### Checkpoints (R281, R283) -/

/-- The stroke from which the interval runs (R281): the join or the last VARNISH that completed DONE. -/
def ckptFrom (q : Part) : Nat := match q.lastVarnish with | some (_, n) => Nat.max q.joined n | none => q.joined

/-- CKPT_TIMER (R281): the interval expires, or, with CKPT_STEPS, the step count does; once for each join or seal. -/
def execCkptTimer (part0 : Nat) (s : State) : Host.Outcome State Fault Refusal :=
  onUnit "partition" part0 64 <|
    let q := part s part0
    if !(q.state == psMember) || q.ckptDone then s
    else if !(s.rcv.cfg.ckptSteps == 0) then (match curMark q with | some (t, _) => ckptStep part0 t s | none => s)
    else if ckptFrom q + s.gnd.policy.ckptInterval ≤ now s then
      s |> requestCkpt 1 part0 0 0 |> modPart part0 (fun q => { q with ckptDone := true })
    else s

/-- CKPT_OVERDUE (R283): one record for a request that stays open for CKPT_INTERVAL strokes. -/
def execCkptOverdue (part0 : Nat) (s : State) : Host.Outcome State Fault Refusal :=
  onUnit "partition" part0 64 <|
    match (part s part0).ckptSince with
    | some n =>
      if bitOf s.rcv.ckpt part0 && !(part s part0).ckptOverdue && decide (n + s.gnd.policy.ckptInterval ≤ now s) then
        s |> modPart part0 (fun q => { q with ckptOverdue := true })
          |> recPart .ckptOverdue noNode part0 (le 1 part0 ++ zeros 1 ++ le 6 n)
      else s
    | none => s

end Sys2Proof.Machine
end

