-- ==== Sys2Proof/Machine/Residue.lean ====
section
/-!
DEFINITION. Residue lanes (R116 to R136): outcomes, counts, injections and the residue registers that have commands.
-/
namespace Sys2Proof.Machine

open Sys2Proof

def modRl (p : Nat) (f : Rl → Rl) : State → State := modSent p (fun x => { x with rl := f x.rl })

/-- A write to a node's block (R45, R136, R402): denied to other views, NODE_UNMAPPED for a node the tree does not use. -/
def nodeWrite (a : Access) (n off : Nat) (f : State → State) (s : State) : State :=
  if s.boot.inReset then s
  else if !privileged s a then deny a true false (aNode n off) s
  else if !nodeUsed s n then s |> record .nodeUnmapped n (deniedBody a true false (aNode n off)) |> busErr
  else if controlReset s then busErr s
  else busOk (f s)

/-- The ports at or below a node that it aggregates (R47): the sentinel's own, or every aggregated descendant. -/
def aggBelow (s : State) : Nat → Nat → List Nat
  | 0, _ => []
  | k + 1, n =>
    if 0x800 ≤ n then [n - 0x800] else aggPorts s n ++ (asmChildren s n).flatMap (aggBelow s k)
def nodePorts (s : State) (n : Nat) : List Nat := aggBelow s 17 n

/-! ### Outcomes (R125 to R130, R134) -/

/-- Channel `c` is wired (R127). -/
def wired (r : Rl) (c : Nat) : Bool := decide (c < 4) && bitOf r.channels c

/-- Fields of SP_RL_FDETn (R128). -/
def fdetInj (d : Nat) : Bool := bitOf d 42
def fdetKind (d : Nat) : Nat := bitsOf d 41 40
def fdetSlot (d : Nat) : Nat := bitsOf d 3 0

/-- A report carries an injected failure. -/
def injFail (r : ResidueReport) : Bool := decide (1 ≤ r.nfail) && fdetInj r.fdet

/-- The stroke whose parity a report carries (R125). -/
def outcomeStroke (s : State) (p : Nat) (r : ResidueReport) : Nat :=
  if r.parity % 2 == (sent s p).rl.parity then now s else now s - 1

/-- A channel's pending injection is consumed by the first check that it reports (R134). -/
def takeInjection (c : Nat) (r : ResidueReport) (x : Rl) : Rl :=
  if x.injPending.contains c && decide (1 ≤ r.nchk) then
    { x with injPending := without x.injPending c, injSeen := x.injSeen || injFail r, injMissed := x.injMissed || !(injFail r) }
  else if injFail r then { x with injSeen := true }
  else x

/-- Checks and fails of a report without the injected one. -/
def realChk (r : ResidueReport) : Nat := Nat.min 64 r.nchk - b2n (injFail r)
def realFail (r : ResidueReport) : Nat := Nat.min 64 r.nfail - b2n (injFail r)

/-- A report enters the count of its stroke; the first failure keeps its details (R129, R130). -/
def addOutcome (c : Nat) (r : ResidueReport) (slot : Option CmdSlot) (k : RlCount) : RlCount :=
  let first := k.fail == 0 && decide (1 ≤ realFail r) && !(injFail r)
  let t : Nat × Nat × Nat := match slot with | some x => (x.tag.opc, x.tag.layer, x.tag.oper) | none => (0, 0xFFFF, 0xFFFF)
  let k1 := { k with chk := k.chk + realChk r, fail := k.fail + realFail r, skip := k.skip + Nat.min 64 r.nskip }
  if first then { k1 with fdet := r.fdet, chan := c, opc := t.1, layer := t.2.1, oper := t.2.2, offset := r.offset } else k1

/-- NOD_RL_LAST of a failure (R136). -/
def rlLastOf (n c opc : Nat) (d : Nat) : RlLast :=
  { stroke := n, opc := opc, kind := fdetKind d, f127 := bitOf d 39, f31 := bitOf d 38, pred := bitsOf d 37 26, obs := bitsOf d 25 14
    lane := c * 1024 + bitsOf d 13 4 }

/-- The registers of a node count a report (R136). -/
def countOutcome (n c : Nat) (r : ResidueReport) (slot : Option CmdSlot) (x : Rl) : Rl :=
  let old := tgetD x.counts n {}
  let opc := match slot with | some y => y.tag.opc | none => 0
  { x with
    counts := tput x.counts n (addOutcome c r slot old)
    checks := satAdd (2 ^ 64 - 1) x.checks (realChk r)
    fails := satAdd (2 ^ 32 - 1) x.fails (realFail r)
    skips := satAdd (2 ^ 64 - 1) x.skips (Nat.min 64 r.nskip)
    failStrokes := if old.fail == 0 && decide (1 ≤ realFail r) then satInc 32 x.failStrokes else x.failStrokes
    last := if 1 ≤ realFail r && !(injFail r) then some (rlLastOf n c opc r.fdet) else x.last }

/-- A report of a wired channel: counted for its stroke, or discarded once that count has closed (R126). -/
def takeOutcome (p c : Nat) (r : ResidueReport) (s : State) : State :=
  let n := outcomeStroke s p r
  let slot := tget (sent s p).cmds (fdetSlot r.fdet)
  s |> modRl p (takeInjection c r)
    |> (if n < (sent s p).rl.closed then modRl p (fun x => { x with dropped := true }) else modRl p (countOutcome n c r slot))

/-- RESIDUE_OUTCOME (R127): an unwired channel is ignored. -/
def execResidueOutcome (port chan : Nat) (r : ResidueReport) (s : State) : Host.Outcome State Fault Refusal :=
  onUnit "port" port s.build.ports <|
    if sentinelOn s port && wired (sent s port).rl chan && !(r.nchk == 0 && r.nskip == 0) then takeOutcome port chan r s else s

/-- RESIDUE_COUNT_CLOSE (R125): the count of the stroke before closes; a stopped tile's count stays for Gather (R126). -/
def execResidueCountClose (port : Nat) (s : State) : Host.Outcome State Fault Refusal :=
  onUnit "port" port s.build.ports <|
    if sentinelOn s port && !(sent s port).clkStop then modRl port (fun x => { x with closed := Nat.max x.closed (now s) }) s else s

/-! ### Injection and FORCE_DUAL (R134, R136) -/

/-- SP_RL_INJ pulses: each wired channel's next check is injected; an injection not yet consumed takes it in (R134). -/
def pulseInj (p : Nat) (s : State) : State :=
  s |> emit (.injPulse p)
    |> modRl p (fun x => { x with injPending := (List.range 4).filter (fun c => x.injPending.contains c || wired x c) })

/-- RESIDUE_INJECT (R134, R136): at once on a sentinel; at the next tick below an assembly. -/
def execResidueInject (a : Access) (node : Nat) (s : State) : Host.Outcome State Fault Refusal :=
  ok <| nodeWrite a node 0x200 (fun s =>
    if 0x800 ≤ node then pulseInj (node - 0x800) s
    else forEach (nodePorts s node) (fun p => modRl p (fun x => { x with injNext := true })) s) s

/-- FORCE_DUAL as written to an assembly and to those below it that it aggregates. -/
def asmsBelow (s : State) : Nat → Nat → List Nat
  | 0, _ => []
  | k + 1, n => n :: (asmChildren s n).flatMap (asmsBelow s k)

/-- FORCE_DUAL_WRITE (R136): it acts from the next tick. -/
def execForceDualWrite (a : Access) (node : Nat) (on : Bool) (s : State) : Host.Outcome State Fault Refusal :=
  ok <| nodeWrite a node 0x200 (fun s =>
    s |> forEach (nodePorts s node) (fun p => modRl p (fun x => { x with forceDualNext := some on }))
      |> whenB (decide (node < 0x800)) (forEach (asmsBelow s 17 node) (fun n => modAsm n (fun y => { y with forceDual := on })))) s

/-- The W1C flags of NOD_RL_STATUS. -/
def clearRlStatus (v : Word) (x : Rl) : Rl :=
  { x with injSeen := x.injSeen && !(fbit v 62), injMissed := x.injMissed && !(fbit v 61), dropped := x.dropped && !(fbit v 60) }

/-- RL_STATUS_CLEAR (R136): on an assembly, in every aggregated descendant. -/
def execRlStatusClear (a : Access) (node : Nat) (v : Word) (s : State) : Host.Outcome State Fault Refusal :=
  ok <| nodeWrite a node 0x208 (fun s => forEach (nodePorts s node) (fun p => modRl p (clearRlStatus v)) s) s

/-! ### At the tick and in Judge -/

/-- The active moduli of a port: FORCE_DUAL, or the named mode of its partition (R131). -/
def dualMode (s : State) (p : Nat) : Bool :=
  let e := modeEntry s (tile s p).part
  (sent s p).rl.forceDual || (if e.mode < 4 then decide (2 ≤ e.mode) else decide (60 ≤ e.grains))

/-- The tick: parity toggles, FORCE_DUAL takes effect, injections for assemblies pulse (R127, R131, R136). -/
def rlTick (s : State) : State :=
  let s1 : State := { s with sents := tmap s.sents (fun _ x => { x with rl := { x.rl with
    parity := 1 - x.rl.parity, forceDual := x.rl.forceDualNext.getD x.rl.forceDual, forceDualNext := none } }) }
  let s2 : State := { s1 with sents := tmap s1.sents (fun p x => { x with rl := { x.rl with dualActive := dualMode s1 p } }) }
  let todo := tfind s2.sents (fun _ x => x.rl.injNext)
  forEach todo (fun p s => s |> modRl p (fun x => { x with injNext := false }) |> pulseInj p) s2

/-- Body of RESIDUE_FAIL (R130). -/
def residueFailBody (k : RlCount) : List Byte :=
  le 1 k.opc ++ le 1 (k.chan + 4 * fdetKind k.fdet + atB 4 (bitOf k.fdet 39) + atB 5 (bitOf k.fdet 38)) ++ le 2 (bitsOf k.fdet 13 4) ++
  le 2 k.layer ++ le 2 k.oper ++ le 2 (bitsOf k.fdet 37 26) ++ le 2 (bitsOf k.fdet 25 14) ++
  le 4 (Nat.min k.fail (2 ^ 32 - 1)) ++ le 4 (Nat.min k.chk (2 ^ 32 - 1)) ++ le 4 (Nat.min k.offset (2 ^ 20 - 1))

/-- Gather has taken the count of stroke `n` of a port: its checks, and the RESIDUE_FAIL record of the stroke (R129, R130). -/
def collectRl (n p : Nat) (s : State) : State :=
  match tget (sent s p).rl.counts n with
  | none => s
  | some k =>
    let chk (code m : Nat) : Chk := { portChk s p n ckResidue code with n := m, opc := k.opc, layer := k.layer }
    let node := nodeOf p
    s |> modRl p (fun x => { x with counts := tdel x.counts n })
      |> whenB (decide (k.fail < k.chk)) (addChk (chk vPass (k.chk - k.fail)))
      |> whenB (decide (1 ≤ k.fail)) (fun s =>
          s |> addChk (chk vFail k.fail)
            |> writeOrFold { stampRec s .residueFail node (partOf s node) (recSev .residueFail) (residueFailBody k) with stroke := n }
            |> addEvid p { kind := ckResidue, stroke := n, opc := k.opc, body := residueFailBody k })

/-- Judge of a stroke finds every count of the stroke before closed and collected (R125, R126). -/
def rlJudge (s : State) : State :=
  let ports := tkeys s.sents
  s |> forEach ports (fun p => modRl p (fun x => { x with closed := Nat.max x.closed (now s) }))
    |> forEach ports (collectRl (now s - 1))

end Sys2Proof.Machine
end

