-- ==== Sys2Proof/Machine/Operands.lean ====
section
/-!
DEFINITION. How an access of the host-slot bus decodes: its form, its window, the views that reach it, and what refuses it (R6, R7,
R321, R400 to R402, and the access rules of each window).
-/
namespace Sys2Proof.Machine

open Sys2Proof

/-! ### Windows (R400) -/

/-- An offset of an array of `count` registers that stand `step` bytes apart. -/
def inArr (base step count off : Nat) : Bool := decide (base ≤ off) && decide (off < base + step * count) && (off - base) % step == 0

/-- An address that no window covers, or that lies above the register space. -/
def inGap (addr : Nat) : Bool :=
  (decide (0x110000 ≤ addr) && decide (addr < 0x200000)) || (decide (0xB00000 ≤ addr) && decide (addr < 0x1000000)) || decide (0x2000000 ≤ addr)

/-- A slot window, and its slot and offset. -/
def inSlot (addr : Nat) : Bool := decide (0x10000 ≤ addr) && decide (addr < 0x110000)
def slotOfAddr (addr : Nat) : Nat := addr / 0x10000 - 1
def slotOff (addr : Nat) : Nat := addr % 0x10000

/-- The 1 MiB window of an address: 2 STROKE to 10 RECOVERY. -/
def windowNo (addr : Nat) : Nat := addr / 0x100000

/-- The node space, and the node of an address in it. -/
def inNodes (addr : Nat) : Bool := decide (0x1000000 ≤ addr) && decide (addr < 0x2000000)
def nodeOfAddr (addr : Nat) : Nat := (addr - 0x1000000) / 0x1000

/-! ### Registers that a table lists, where a tenant view reaches the window (R321, R411) -/

/-- A register of a slot window (R339). -/
def slotListed (off : Nat) : Bool :=
  decide (off ≤ 0x20) || inArr 0x40 8 2 off || inArr 0x100 8 6 off || inArr 0x200 8 6 off || inArr 0x400 8 64 off

/-- A register of the STROKE window (R42). -/
def strokeListed (s : State) (off : Nat) : Bool :=
  decide (off ≤ 0x28) || inArr 0x40 8 s.build.links off || inArr 0x80 8 4 off || inArr 0x100 8 16 off || inArr 0x200 8 64 off

/-- A register of the WATCH window (R317). -/
def watchListed (s : State) (off : Nat) : Bool :=
  decide (off ≤ 0x28) || inArr 0x100 8 (2 * s.build.links) off || inArr 0x200 8 s.build.links off

/-- A register of the LEDGER window (R370). -/
def ledgerListed (off : Nat) : Bool :=
  decide (off ≤ 0x28) || inArr 0x40 8 8 off || inArr 0x100 8 64 off || inArr 0x1000 8 32 off || inArr 0x2000 8 1024 off ||
    inArr 0x10000 8 32768 off

/-- A register of the RECOVERY window (R251, R285). -/
def recoveryListed (off : Nat) : Bool :=
  decide (off ≤ 0x48) || inArr 0x100 8 64 off || inArr 0x800 8 6 off || inArr 0x8000 8 4096 off

/-- A register of a node block (R408). -/
def nodeListed (off : Nat) : Bool :=
  [0, 0x100, 0x108, 0x200, 0x208, 0x210, 0x218, 0x220, 0x228, 0x300, 0x400, 0x408, 0x410, 0x520, 0x600].contains off ||
    inArr 0x500 8 4 off || inArr 0x800 8 192 off

/-! ### The tenant view (R321 and the rules it names) -/

/-- A slot owns partition `k` (R320). -/
def owns (s : State) (n k : Nat) : Bool := (part s k).valid && (part s k).owner == n

/-- GLOBAL: six registers may be read (R407). -/
def tenantGlobal (write : Bool) (off : Nat) : Bool :=
  !(decide (off ≤ 0x60)) || (!write && [0x00, 0x08, 0x10, 0x28, 0x30, 0x38, 0x40].contains off)

/-- The own slot window: no write to SLT_APc, and neither channel 1 nor SLT_AP1 without HS_SEC. -/
def tenantSlot (s : State) (a : Access) (write : Bool) (off : Nat) : Bool :=
  !(slotListed off) ||
    (!(write && inArr 0x40 8 2 off) && (a.sec || !(off == 0x48 || inArr 0x200 8 6 off)) &&
      (!(inArr 0x400 8 64 off) || owns s a.slot ((off - 0x400) / 8)))

/-- STROKE: read only, without STK_PART_PHASEk, and STK_PART_VERIFIEDk of owned partitions only (R42). -/
def tenantStroke (s : State) (a : Access) (write : Bool) (off : Nat) : Bool :=
  !(strokeListed s off) ||
    (!write && !(inArr 0x80 8 4 off) && (!(inArr 0x200 8 64 off) || owns s a.slot ((off - 0x200) / 8)))

/-- DIGEST: DGT_STEP, DGT_CMD and DGT_CMD_STATUS (R194). -/
def tenantDigest (off : Nat) : Bool := !(decide (off ≤ 0x30)) || [0x10, 0x18, 0x20].contains off

/-- WATCH: WCH_STATUS may be read (R317). -/
def tenantWatch (s : State) (write : Bool) (off : Nat) : Bool := !(watchListed s off) || (!write && off == 0x08)

/-- LEDGER: LDG_TWi, and reads of owned LDG_PCNTk_j (R366, R370). -/
def tenantLedger (s : State) (a : Access) (write : Bool) (off : Nat) : Bool :=
  !(ledgerListed off) || inArr 0x100 8 64 off || (!write && inArr 0x2000 8 1024 off && owns s a.slot ((off - 0x2000) / 0x80))

/-- RECOVERY: reads of RCV_CKPT, of owned RCV_PART_EPOCHk and of RCV_CTXc bound to an owned partition (R285). -/
def tenantRecovery (s : State) (a : Access) (write : Bool) (off : Nat) : Bool :=
  !(recoveryListed off) ||
    (!write && (off == 0x30 || (inArr 0x100 8 64 off && owns s a.slot ((off - 0x100) / 8)) ||
      (inArr 0x8000 8 4096 off && (tgetD s.rcv.ctxs ((off - 0x8000) / 8) {}).parts.any (owns s a.slot))))

/-- The node space: reads of owned nodes; a shared assembly belongs to nobody (R66, R136). -/
def tenantNode (s : State) (a : Access) (write : Bool) (n off : Nat) : Bool :=
  nodeUsed s n && (match partOf s n with | some k => owns s a.slot k | none => false) && (!(nodeListed off) || !write)

/-- What a tenant view is admitted to; nothing in GROUND, COPYIST, POWER and SCREEN, nor in another slot's window. -/
def tenantMay (s : State) (a : Access) (write : Bool) (addr : Nat) : Bool :=
  let off := addr % 0x100000
  if addr < 0x10000 then tenantGlobal write addr
  else if inSlot addr then slotOfAddr addr == a.slot && tenantSlot s a write (slotOff addr)
  else if inNodes addr then tenantNode s a write (nodeOfAddr addr) (addr % 0x1000)
  else match windowNo addr with
    | 2 => tenantStroke s a write off
    | 5 => tenantDigest off
    | 6 => tenantWatch s write off
    | 7 => tenantLedger s a write off
    | 10 => tenantRecovery s a write off
    | _ => false

/-- What the privileged view is admitted to: in another slot's window reads, and writes to SLT_APc. -/
def privilegedMay (write : Bool) (addr : Nat) : Bool :=
  !(write && inSlot addr && !(slotOfAddr addr == 0) && slotListed (slotOff addr) && !(inArr 0x40 8 2 (slotOff addr)))

/-! ### What refuses an access (R402) -/

/-- Why an access completes with a bus error. -/
inductive Denial where
  | narrow
  | view
  | unmapped
  | control
  deriving DecidableEq, Repr

/-- The first case of R402 that applies to an access of `size` bytes. -/
def denial (s : State) (a : Access) (write : Bool) (addr size : Nat) : Option Denial :=
  if !(size == 8 && addr % 8 == 0) then some .narrow
  else if inGap addr || !(if privileged s a then privilegedMay write addr else tenantMay s a write addr) then some .view
  else if inNodes addr && !nodeUsed s (nodeOfAddr addr) then some .unmapped
  else if controlReset s && !keptWindow addr then some .control
  else none

/-- An access that R402 refuses, with the record of its case. -/
def refuse (d : Denial) (a : Access) (write : Bool) (addr : Nat) (s : State) : State :=
  match d with
  | .narrow => deny a write true addr s
  | .view => deny a write false addr s
  | .unmapped => s |> record .nodeUnmapped (nodeOfAddr addr) (deniedBody a write false addr) |> busErr
  | .control => busErr s

end Sys2Proof.Machine
end

