-- ==== Sys2Proof/Machine/Registers.lean ====
section
/-!
DEFINITION. REGISTER_WRITE: the registers without a command of their own, field by field, by their access codes (R8, R403 to R405);
ACCESS_DENIED; and completions of memory-port accesses (R427).
-/
namespace Sys2Proof.Machine

open Sys2Proof

/-- A number with its low `n` bits cleared: those a BASE field ignores. -/
def alignTo (n v : Nat) : Nat := v / 2 ^ n * 2 ^ n

/-! ### STROKE (R42) -/

def writeStroke (off : Nat) (v : Word) (s : State) : State :=
  match off with
  | 0x08 => if s.tcfg.enable then s else { s with tcfg := { s.tcfg with start := fld v 47 0 } }
  | 0x10 => modStk (fun x => { x with cfgErr := x.cfgErr && !(fbit v 51) }) s
  | 0x20 => modStk (fun x => { x with skewMax := fld v 31 16 }) s
  | _ => s

/-! ### COPYIST (R166); LK fields by CPY_CFG.LOCK (R405) -/

def writeCopyist (off : Nat) (v : Word) (s : State) : State :=
  match off with
  | 0x00 => writeCpyCfg v s
  | 0x08 => modCpy (fun c => { c with cfgErr := c.cfgErr && !(fbit v 48) }) s
  | 0x30 => modCpy (fun c => if c.lock then c else { c with ringBase := alignTo 16 (fld v 47 0) }) s
  | 0x38 => modCpy (fun c => if c.lock then c else { c with ringSize := fld v 15 0 }) s
  | 0x40 => modCpy (fun c => if c.lock then c else { c with hostRate := fld v 15 0 }) s
  | _ => s

/-! ### DIGEST (R194); DGT_CMD_STATUS is the accessing slot's own -/

def writeDigest (n off : Nat) (v : Word) (s : State) : State :=
  match off with
  | 0x00 => modDgt (fun d => { d with tallyWait := fld v 47 38, replWait := fld v 37 24, twFixed := fbit v 2, xportEn := fbit v 1 }) s
  | 0x08 => modDgt (fun d => { d with
      proto := d.proto && !(fbit v 2), tableFull := d.tableFull && !(fbit v 1), tapFull := d.tapFull && !(fbit v 0) }) s
  | 0x20 => modDcmd n (fun c => { c with retrySeen := c.retrySeen && !(fbit v 49) }) s
  | _ => s

/-! ### WATCH (R317); LK fields by WCH_CFG.LOCK (R405) -/

/-- WCH_CFG's RW fields; STRAP_LINKS bounds LINK_EN. -/
def wchCfgOf (s : State) (v : Word) : WchCfg := {
  crcMax := fld v 55 48, creditWait := fld v 47 40, hbMiss := fld v 39 32, trainWait := fld v 31 16, ttl := fld v 15 8
  linkEn := fld v 7 0 &&& s.straps.links }

def writeWatch (off : Nat) (v : Word) (s : State) : State :=
  match off with
  | 0x00 => modWch (fun w => { w with cfg := wchCfgOf s v, lock := w.lock || fbit v 63 }) s
  | 0x20 => modWch (fun w => if w.lock then w else { w with rxBase := alignTo 24 (fld v 47 0) }) s
  | 0x28 => modWch (fun w => { w with rxTail := fld v 31 16 }) s
  | _ =>
    if inArr 0x100 16 s.build.links off then
      modLink ((off - 0x100) / 16) (fun k => { k with cfgMismatch := k.cfgMismatch && !(fbit v 52) }) s
    else if inArr 0x200 8 s.build.links off && !s.wch.lock then
      modLink ((off - 0x200) / 8) (fun k => { k with tunnelBase := alignTo 25 (fld v 47 0) }) s
    else s

/-! ### LEDGER (R370) -/

def writeLedger (off : Nat) (v : Word) (s : State) : State :=
  match off with
  | 0x00 => modLdg (fun l => { l with cfg := {
      fwdSev := fld v 55 53, summary := fld v 47 32, rateWindow := fld v 31 16, sealAt := fld v 15 0 } }) s
  | 0x08 => modLdg (fun l => { l with nvmErr := l.nvmErr && !(fbit v 63), twErr := l.twErr && !(fbit v 60) }) s
  | _ =>
    if inArr 0x40 8 4 off && !(fbit v 63) && !(fbit v 62) then traceWrite ((off - 0x40) / 8) v s else s

/-! ### POWER (R399); RAMP by PWR_CFG.LOCK (R405) -/

def writePower (off : Nat) (v : Word) (s : State) : State :=
  match off with
  | 0x00 => modPwr (fun p => { p with
      ramp := if p.lock then p.ramp else fld v 55 48, restore := fld v 47 40, forceShed := fld v 3 0, lock := p.lock || fbit v 63 }) s
  | _ => s

/-! ### SCREEN (R220) -/

/-- SCR_CFG's fields. -/
def scrCfgOf (v : Word) : ScrCfg := {
  trimThresh := fld v 55 48, trimEn := fbit v 47, analogEn := fbit v 46, heatEn := fbit v 45, slicesEn := fbit v 44
  marginFreq := fld v 43 40, heatDelta := fld v 39 32, heatMax := fld v 31 16, grantWait := fld v 15 8, stressWait := fld v 7 0 }

def writeScreen (off : Nat) (v : Word) (s : State) : State :=
  match off with
  | 0x00 => modScr (fun c => { c with cfg := scrCfgOf v }) s
  | 0x28 => modLife (fun x => { x with denied := x.denied && !(fbit v 60) }) s
  | _ => s

/-! ### RECOVERY (R251, R285); LK fields by RCV_CFG.LOCK and RCV_TAINT_CFG.LOCK (R405) -/

/-- RCV_CFG's RW fields. -/
def rcvCfgOf (v : Word) : RcvCfg := {
  sampleEn := fbit v 48, trendMin := fld v 47 44, scrOffset := fld v 43 32, ckptSteps := fld v 31 0 }

/-- RCV_CKPT: a request that software clears is no longer open (R283). -/
def clearCkpt (v : Word) (s : State) : State :=
  let gone := (List.range 64).filter (fun k => fbit v k && bitOf s.rcv.ckpt k)
  s |> forEach gone (fun k s => s |> modRcv (fun r => { r with ckpt := clearBit r.ckpt k }) |> modPart k (fun q => { q with ckptSince := none }))

def writeRecovery (off : Nat) (v : Word) (s : State) : State :=
  match off with
  | 0x00 => modRcv (fun r => { r with cfg := rcvCfgOf v, lock := r.lock || fbit v 63 }) s
  | 0x30 => clearCkpt v s
  | 0x40 => modRcv (fun r => if r.lock then r else { r with scratchBase := alignTo 20 (fld v 47 0) }) s
  | 0x800 => modTaint (fun x => if x.lock then x else { x with spillBase := alignTo 28 (fld v 47 0) }) s
  | 0x808 => modTaint (fun x => if x.lock then x else { x with spillSize := fld v 4 0 }) s
  | 0x810 => modTaint (fun x => { x with spillErr := x.spillErr && !(fbit v 63) }) s
  | 0x818 => modTaint (fun x => { x with sweepEn := fbit v 32, span := fld v 31 16, max := fld v 15 0, lock := x.lock || fbit v 63 }) s
  | _ => s

/-! ### Slot windows (R339) -/

/-- The W1C bits of SLT_IRQ_STATUS. -/
def irqClearable (n : Nat) : List Nat := [1, 3, 4, 5, 6, 7, 8, 9] ++ if n == 0 then [16, 17] else []

/-- SLT_IRQ_STATUS: each written 1 clears its source. -/
def clearIrq (n : Nat) (v : Word) : State → State :=
  modSlot n (fun w => { w with irq := ((irqClearable n).filter (fbit v)).foldl clearBit w.irq })

/-- SLT_IRQ_EN: a non-secure write leaves the secure line's bits unchanged. -/
def writeIrqEn (n : Nat) (sec : Bool) (v : Word) : State → State :=
  modSlot n (fun w =>
    let keep := maskOf (secureBits.filter (bitOf w.irqEn))
    { w with irqEn := if sec then fld v 17 0 else secureBits.foldl clearBit (fld v 17 0) + keep, wakeAll := fbit v 63 })

def writeSlot (a : Access) (n off : Nat) (v : Word) (s : State) : State :=
  let c := (off - 0x100) / 0x100
  match off with
  | 0x10 => clearIrq n v s
  | 0x18 => writeIrqEn n a.sec v s
  | 0x40 => modSlot n (fun w => { w with apSize := lset w.apSize 0 (fld v 63 48), apBase := lset w.apBase 0 (fld v 47 20) }) s
  | 0x48 => modSlot n (fun w => { w with apSize := lset w.apSize 1 (fld v 63 48), apBase := lset w.apBase 1 (fld v 47 20) }) s
  | 0x100 | 0x200 => modMbx n c (fun m => { m with ptr := fld v 47 0 }) s
  | 0x128 | 0x228 => modMbx n c (fun m => { m with underflow := m.underflow && !(fbit v 54) }) s
  | _ => s
where
  /-- Set one entry of a list. -/
  lset (l : List Nat) (i x : Nat) : List Nat := lmod l i (fun _ => x)

/-! ### REGISTER_WRITE (R8, R401) -/

/-- The fields of the register at an address. A register that a row of its own commands, and an offset that no table lists, take
nothing here. -/
def writeFields (a : Access) (addr : Nat) (v : Word) (s : State) : State :=
  let off := addr % 0x100000
  if inSlot addr then writeSlot a (slotOfAddr addr) (slotOff addr) v s
  else match windowNo addr with
    | 2 => writeStroke off v s
    | 4 => writeCopyist off v s
    | 5 => writeDigest a.slot off v s
    | 6 => writeWatch off v s
    | 7 => writeLedger off v s
    | 8 => writePower off v s
    | 9 => writeScreen off v s
    | 10 => writeRecovery off v s
    | _ => s

/-- A 64-bit write to an address. -/
def registerWrite (a : Access) (addr : Nat) (v : Word) (s : State) : State :=
  if s.boot.inReset then s
  else match denial s a true addr 8 with
    | some d => refuse d a true addr s
    | none => busOk (writeFields a addr v s)

/-- REGISTER_WRITE (R8). -/
def execRegisterWrite (a : Access) (addr : Nat) (v : Word) (s : State) : Host.Outcome State Fault Refusal := ok (registerWrite a addr v s)

/-- ACCESS_DENIED (R402): an access that R402 refuses; one that it does not refuse completes and changes nothing here. -/
def accessDenied (a : Access) (write : Bool) (addr size : Nat) (s : State) : State :=
  if s.boot.inReset then s
  else match denial s a write addr size with
    | some d => refuse d a write addr s
    | none => busOk s

/-- ACCESS_DENIED (R402). -/
def execAccessDenied (a : Access) (write : Bool) (addr size : Nat) (s : State) : Host.Outcome State Fault Refusal :=
  ok (accessDenied a write addr size s)

/-! ### Memory-port accesses (R427) -/

/-- An access leaves the list of those outstanding. -/
def endMem (tag : Nat) (s : State) : State := { s with mem := tdel s.mem tag }

/-- A capture is in the ring: its landing buffers return, and its pieces may be admitted (R149, R153). -/
def captureLanded (id : Nat) (s : State) : State :=
  match capture? s id with
  | none => s
  | some c =>
    s |> modCpy (fun y => { y with heldLanding := y.heldLanding - c.landing }) |> modCap id (fun y => { y with landing := 0 })

/-- A scratchpad sample failed: its entry is not valid (R269). -/
def sampleFailed (p : Nat) (s : State) : State :=
  let level := (sent s p).level
  s |> memWrite (s.rcv.scratchBase + 2 ^ 27 + 16 * p) false (le 6 (now s) ++ le 1 level ++ zeros 9)
    |> record .scratchSkip (nodeOf p) (le 1 level ++ le 1 5 ++ le 2 p)

/-- A failed access, by the unit that issued it: a tunnel's flits are left to retry. -/
def memFailed (w : MemWork) (s : State) : State :=
  match w with
  | .capture id => match capture? s id with | some c => dropCapture id 0x09 c.last s | none => s
  | .spill n => spillFailed n s
  | .sample p => sampleFailed p s
  | .tunnel _ => s
  | .rxRing => s
  | .mailbox => s

/-- A completed access. -/
def memDone (w : MemWork) (s : State) : State :=
  match w with
  | .capture id => captureLanded id s
  | .spill _ => s
  | .sample _ => s
  | .tunnel _ => s
  | .rxRing => s
  | .mailbox => s

/-- The completion of an outstanding access. -/
def memAnswer (tag : Nat) (err : Bool) (s : State) : State :=
  match tget s.mem tag with
  | none => s
  | some w => if err then s |> endMem tag |> memFailed w else s |> endMem tag |> memDone w

/-- MEMORY_ACCESS_DONE (R427). -/
def execMemoryAccessDone (tag : Nat) (err : Bool) (s : State) : Host.Outcome State Fault Refusal := ok (memAnswer tag err s)

/-- MEMORY_ACCESS_TIMEOUT (R427): no completion within 100 µs counts as failed. -/
def execMemoryAccessTimeout (tag : Nat) (s : State) : Host.Outcome State Fault Refusal := ok (memAnswer tag true s)

end Sys2Proof.Machine
end

