-- ==== Sys2Proof/Machine/Screening.lean ====
section
/-!
DEFINITION. The commands of field screening (R196 to R217, R430) but for ANALOG slices and the deep test.
-/
namespace Sys2Proof.Machine

open Sys2Proof

/-! ### Opening a hold (R201, R204) -/

/-- A port may be held now: no deferral runs, and it is due or asked for. -/
def holdable (s : State) (p : Nat) : Bool := tested s p && (sent s p).sched.eligibleAt == 0

/-- Raise SP_TS_REQ and open the hold; an ARITH entry without a reference digest ends the slice at once (R199, R212). -/
def openHold (p kind entry : Nat) (od : Option OnDemand) (rotates : Bool) (s : State) : State :=
  let s1 := modScr (fun c => { c with eff := c.cfg }) s
  let h : Hold := {
    port := p, kind := kind, entry := entry, od := od, rotates := rotates, opened := now s, setup := !(sent s p).sched.holdStress }
  let e := s.gnd.golden.getD entry {}
  if e.kind == skArith && e.reference.isNone then
    s1 |> sliceResult h soUncovered scNoReference |> advanceSched h |> requestDone h
  else
    s1 |> modScr (fun c => { c with hold := some h })
       |> emit (.sliceReq p kind)
       |> event (nodeOf p) evHoldOpen 0 kind

/-- The due ports in the order of R201: those with a MARGIN slice ahead of all (R217), suspects, others; the earliest due first,
ties by rotating priority (R337). -/
def dueOrder (s : State) : List Nat :=
  let due := (testedPorts s).filter (fun p => holdable s p && (decide ((sent s p).sched.due ≤ now s) || (sent s p).sched.urgent))
  let key (p : Nat) : Nat :=
    (if (sent s p).sched.urgent then 0 else if suspect s p then 1 else 2) * 2 ^ 64 +
      (if (sent s p).sched.urgent then 0 else (sent s p).sched.due) * 2048 + rankOf 2048 3 (now s) p
  sortBy key due

/-- The first on-demand request that may run, with its place in the queue. -/
def firstRequest (s : State) : Option (Nat × OnDemand) :=
  (((List.range s.scr.queue.length).zip s.scr.queue).find? (fun e => holdable s e.2.port && (requestEntry s e.2).isSome))

/-- The hold that opens next (R201). -/
def openNext (s : State) : State :=
  let s0 := modScr (fun c => { c with queue := c.queue.filter (fun r => tested s r.port) }) s
  match firstRequest s0 with
  | some (i, r) =>
    s0 |> modScr (fun c => { c with queue := c.queue.eraseIdx i })
       |> openHold r.port r.kind ((requestEntry s0 r).getD 0) (some { r with deferred := false }) false
  | none =>
    match (dueOrder s0).findSome? (fun p =>
      if (sent s0 p).sched.urgent then (nextEntry s0 p skMargin).map (fun e => (p, skMargin, e, false, 0))
      else (nextStep s0 p).map (fun x => (p, x.2.1, x.2.2, true, x.1))) with
    | some (p, kind, e, rotates, r) =>
      s0 |> whenB rotates (modSched p (fun y => { y with rot := r })) |> openHold p kind e none rotates
    | none => s0

/-- HOLD_OPEN (R201): with no hold open, READY, and slices not suspended. -/
def execHoldOpen (s : State) : Host.Outcome State Fault Refusal :=
  ok <| if s.scr.hold.isNone && s.boot.ready && !(holdsSuspended s) then openNext s else s

/-- SLICE_GRANT (R205, R210, R214): the tested tile's slice starts, or the witness run. -/
def execSliceGrant (port : Nat) (s : State) : Host.Outcome State Fault Refusal :=
  onUnit "port" port s.build.ports <|
    match s.scr.hold with
    | none => s
    | some h =>
      if h.port == port && h.stage == 1 && h.ending.isNone then granted s
      else if h.witness == some port && h.stage == 7 && !h.witnessGranted && h.ending.isNone then
        s |> modHold (fun x => { x with witnessGranted := true }) |> startRun 3
      else s

/-- SCR_CFG.GRANT_WAIT as it acts (R220). -/
def grantWait (s : State) : Nat := Nat.max 4 s.scr.eff.grantWait

/-- A hold without a grant closes: DEFERRED, or STARVED after 64 in a row (R205). -/
def deferHold (h : Hold) (s : State) : State :=
  let n := (sent s h.port).sched.deferrals + 1
  let s1 := s
    |> emit (.sliceFall h.port)
    |> event (nodeOf h.port) evHoldClose 0 (if n < 64 then 0 else soUncovered)
    |> modScr (fun c => { c with deferred := satInc 16 c.deferred, hold := none })
    |> modSched h.port (fun y => { y with eligibleAt := now s + 1000, deferrals := if n < 64 then n else 0 })
  if n < 64 then
    match h.od with
    | some r => modScr (fun c => { c with queue := { r with deferred := true } :: c.queue }) s1
    | none => s1
  else
    s1 |> sliceResult h soUncovered scStarved
       |> whenB h.rotates (modSched h.port (fun y => { y with due := y.due + slicePeriod s h.port }))
       |> requestDone h

/-- GRANT_TIMEOUT (R205): no grant within GRANT_WAIT strokes. -/
def execGrantTimeout (s : State) : Host.Outcome State Fault Refusal :=
  ok <| match s.scr.hold with
    | some h => if h.stage == 1 && h.granted.isNone && h.ending.isNone && decide (h.opened + grantWait s ≤ now s) then deferHold h s else s
    | none => s

/-- SLICE_ELIGIBLE (R205): 1,000 strokes after a deferral. -/
def execSliceEligible (port : Nat) (s : State) : Host.Outcome State Fault Refusal :=
  onUnit "port" port s.build.ports <|
    if (sent s port).sched.eligibleAt ≤ now s then modSched port (fun y => { y with eligibleAt := 0 }) s else s

/-- HOLD_LIMIT (R205): 200 strokes after the grant the hold closes; stress is released first, a segment is restored. -/
def execHoldLimit (s : State) : Host.Outcome State Fault Refusal :=
  ok <| match s.scr.hold with
    | some h =>
      let due := match h.granted with | some g => decide (g + 200 ≤ now s) | none => false
      if !due then s
      else if h.ending.isSome then s |> modHold (fun x => { x with awaiting := 0 }) |> holdGoesOn
      else
        s |> whenB (h.awaiting == 1) (emit .stressFall)
          |> whenB (underStress h) (emit (.stress h.port 0 0))
          |> modHold (fun x => { x with awaiting := 0, onStress := false, march := none })
          |> endHold soUncovered scHoldLimit
    | none => s

/-! ### Runs (R206, R209 to R211) -/

/-- A finished run: an ARITH or MARGIN run ends with an injection, and a missed one fails it; a march waits for its segment
(R198, R209, R211). -/
def runDone (h : Hold) (obs : Nat) (missed : Bool) (s : State) : State :=
  let p := runPort h
  let e := holdEntry s h
  let inj := e.kind == skArith
  let pass := obs == sliceExpected e && !(inj && missed)
  let s1 := s
    |> whenB inj (fun s => s |> emit (.injPulse p)
        |> modRl p (fun x => { x with injSeen := x.injSeen || !missed, injMissed := x.injMissed || missed }))
    |> modHold (fun x => { x with injMissed := x.injMissed || (inj && missed), stretched := x.stretched || (sent s p).stretch })
  if h.dirty then modHold (fun x => { x with march := some (pass, obs) }) s1 else afterRun pass obs s1

/-- SLICE_RUN_COMPLETE (R206, R210). -/
def execSliceRunComplete (r : RunEnd) (s : State) : Host.Outcome State Fault Refusal :=
  ok <| match s.scr.hold with
    | none => s
    | some h =>
      if !(runOn h) then s
      else match r with
        | .ran obs missed => runDone h obs missed s
        | .overBudget => overBudget s

/-- SLICE_BUDGET_EXPIRY (R206). -/
def execSliceBudgetExpiry (s : State) : Host.Outcome State Fault Refusal :=
  ok <| match s.scr.hold with
    | some h => if runOn h then overBudget s else s
    | none => s

/-- WITNESS_GRANT_TIMEOUT (R210): no witness grants within 100 strokes. -/
def execWitnessGrantTimeout (s : State) : Host.Outcome State Fault Refusal :=
  ok <| match s.scr.hold with
    | some h =>
      if h.stage == 7 && !h.witnessGranted && h.ending.isNone && decide (h.witnessAt + 100 ≤ now s) then
        s |> whenSome h.witness (fun w => emit (.sliceFall w))
          |> modHold (fun x => { x with witness := none })
          |> endHold soNoWitness 0
      else s
    | none => s

/-- The segment could not be restored: FAIL whatever the march said, the record, and a teardown of the partition's contexts
(R209; log entry 34). -/
def restoreFailed (h : Hold) (saveCrc readCrc : Nat) (s : State) : State :=
  let p := runPort h
  let e := holdEntry s h
  let out := if h.run == 1 then soTransient else soNoWitness
  s |> record .mbistRestoreFail (nodeOf p) (le 1 (e.pattern % 256) ++ zeros 1 ++ le 2 (e.seed % 65536) ++ le 4 saveCrc ++ le 4 readCrc)
    |> modHold (fun x => { x with
        dirty := false, march := none, ending := none, firstStroke := some (x.firstStroke.getD (now s))
        observed := match x.march with | some (_, o) => some (x.observed.getD o) | none => x.observed })
    |> endHold out 0
    |> teardownPart (tile s p).part acReset (nodeOf p)

/-- MBIST_RESTORE (R209): the segment is written back and read; a second difference fails the slice. -/
def execMbistRestore (saveCrc readCrc : Nat) (s : State) : Host.Outcome State Fault Refusal :=
  ok <| match s.scr.hold with
    | none => s
    | some h =>
      if !(h.dirty && (h.march.isSome || h.ending.isSome) && canRestore s (runPort h)) then s
      else if saveCrc == readCrc then
        let s1 := modHold (fun x => { x with dirty := false, march := none }) s
        match h.march with
        | some (pass, obs) => if h.ending.isSome then holdGoesOn s1 else afterRun pass obs s1
        | none => holdGoesOn s1
      else if h.second then restoreFailed h saveCrc readCrc s
      else modHold (fun x => { x with second := true }) s

/-! ### Stress and heating (R213, R214, R430) -/

/-- The slice yields NO_STRESS once nominal conditions are back (R213, R430). -/
def noStress (h : Hold) (s : State) : State :=
  s |> modHold (fun x => { x with ending := some (soUncovered, scNoStress) }) |> askStress h.port 0 0 2

/-- STRESS_ACK (R213, R430). -/
def execStressAck (mv : Int) (freq : Nat) (s : State) : Host.Outcome State Fault Refusal :=
  ok <| match s.scr.hold with
    | none => s
    | some h =>
      if h.awaiting == 1 then
        let s1 := s |> emit .stressFall |> modHold (fun x => { x with awaiting := 0 })
        if (mv == 0 && freq == 0) || decide (h.askMv.natAbs < mv.natAbs) || decide (h.askFreq < freq) then noStress h s1
        else s1 |> modHold (fun x => { x with onStress := true, appMv := mv, appFreq := freq }) |> startRun 0
      else if h.awaiting == 2 then
        let s1 := s |> emit .stressFall |> modHold (fun x => { x with awaiting := 0, onStress := false })
        if h.ending.isSome then holdGoesOn s1 else startRun 1 s1
      else s

/-- STRESS_TIMEOUT (R430): no answer within STRESS_WAIT strokes. -/
def execStressTimeout (s : State) : Host.Outcome State Fault Refusal :=
  ok <| match s.scr.hold with
    | some h =>
      if h.awaiting == 1 && decide (h.stressAt + s.scr.eff.stressWait ≤ now s) then s |> emit .stressFall |> noStress h else s
    | none => s

/-- SCR_CFG.HEAT_DELTA as it acts (R220). -/
def heatDelta (s : State) : Nat := Nat.min 30 s.scr.eff.heatDelta

/-- HEAT_REACHED (R214): heating ends and the stress is requested. -/
def execHeatReached (rise : Nat) (s : State) : Host.Outcome State Fault Refusal :=
  ok <| match s.scr.hold with
    | some h =>
      if h.stage == 2 && h.ending.isNone && decide (heatDelta s ≤ rise) then s |> modHold (fun x => { x with tempRise := rise }) |> applyStress
      else s
    | none => s

/-- HEAT_LIMIT (R214): HEAT_MAX strokes have passed. -/
def execHeatLimit (s : State) : Host.Outcome State Fault Refusal :=
  ok <| match s.scr.hold with
    | some h =>
      if h.stage == 2 && h.ending.isNone && decide (h.heatAt + s.scr.eff.heatMax ≤ now s) then
        s |> modHold (fun x => { x with tempRise := riseOf s h }) |> applyStress
      else s
    | none => s

/-! ### On-demand slices and trims (R202, R217) -/

/-- An on-demand ANALOG slice: the entry waits for the engine (R202, R203; log entry 35). -/
def analogRequest (pattern : Nat) (s : State) : State :=
  let es := enabledEntries s 0 skAnalog
  let pick := if pattern == 0xFFFF then es.find? (fun i => !(s.scr.analogTodo.contains i))
              else es.find? (fun i => (s.gnd.golden.getD i {}).pattern == pattern)
  match pick with
  | none => modScr (fun c => { c with result := 4 }) s
  | some i =>
    if 4 ≤ s.scr.analogTodo.length then modScr (fun c => { c with result := 2 }) s
    else modScr (fun c => { c with analogTodo := addNew c.analogTodo i, runEntry := some i, result := 1 }) s

/-- A GO write of SCR_RUN: refused at once, or collected for the next decision (R202, R338). -/
def runRequest (v : Word) (s : State) : State :=
  let kind := fld v 62 60
  let node := fld v 55 44
  let p := node - 0x800
  let r : OnDemand := { port := p, kind := kind, pattern := fld v 31 16, issued := if s.stk.phase == 0 then now s else now s + 1 }
  if !(fbit v 63) then s
  else if kind == skAnalog then analogRequest (fld v 31 16) s
  else if node < 0x800 || !(tested s p) then modScr (fun c => { c with result := 3 }) s
  else if kind == 0 || decide (5 < kind) || (requestEntry s r).isNone then modScr (fun c => { c with result := 4 }) s
  else if holdsSuspended s then modScr (fun c => { c with result := 6 }) s
  else modScr (fun c => { c with result := 0, waiting := c.waiting ++ [r] }) s

/-- SCR_RUN (R202). -/
def execScrRun (a : Access) (v : Word) (s : State) : Host.Outcome State Fault Refusal :=
  ok <| privWrite a aScrRun (runRequest v) s

/-- TRIM_RECOMMEND (R217): a 1-second mean below TRIM_THRESH for 10,000 readings; at most one trim in 864,000,000 strokes, and
none while the tile is held. -/
def execTrimRecommend (port : Nat) (s : State) : Host.Outcome State Fault Refusal :=
  onUnit "port" port s.build.ports <|
    let c := (sent s port).canary
    let early := match c.lastTrim with | some n => decide (now s < n + 864000000) && decide (c.trimMv < 30) | none => false
    if !(s.scr.cfg.trimEn && (sent s port).attached && decide (10000 ≤ c.below)) || early then s
    else if (match s.scr.hold with | some h => h.port == port | none => false) then
      modSent port (fun x => { x with canary := { x.canary with trimWaits := true } }) s
    else recommendTrim port s

end Sys2Proof.Machine
end

