-- ==== Sys2Proof/Machine/BudgetOps.lean ====
section
/-!
DEFINITION. Phases, the check budget, its allocation over the node tree, and the thresholds and partners of the next stroke
(R35 to R37, R140 to R147, R158).
-/
namespace Sys2Proof.Machine

open Sys2Proof

/-! ### Phases (R35, R36) -/

/-- The phase IDs that a partition's sentinels saw in the stroke that Judge judges. -/
def phasesSeen (s : State) (k : Nat) : List Nat :=
  asc ((tfind s.gnd.tiles (fun _ t => t.part == k && !(t.state == tsHidden))).flatMap (fun p => (sent s p).phasesPrev))

/-- A phase ID that names no defined entry. -/
def undefinedPhase (s : State) (i : Nat) : Bool := !(lget s.stk.phases i {}).valid

/-- The phases seen after undefined IDs map to phase 0. -/
def phasesMapped (s : State) (k : Nat) : List Nat :=
  asc ((phasesSeen s k).map (fun i => if undefinedPhase s i then 0 else i))

/-- Among several phases: the largest grain budget, the lowest ID among equals. -/
def largestPhase (s : State) (l : List Nat) : Nat :=
  l.foldl (fun b i => if (lget s.stk.phases b {}).grains < (lget s.stk.phases i {}).grains then i else b) (l.headD 0)

/-- The phase that a partition takes at the next tick. -/
def phaseFor (s : State) (k : Nat) : Nat :=
  let q := part s k
  if now s < q.joined + 1 || (phasesSeen s k).isEmpty then q.phase else largestPhase s (phasesMapped s k)

/-- Judge decides a partition's phase for the next tick, with the records of R36. -/
def decidePhase (k : Nat) (s : State) : State :=
  let l := phasesMapped s k
  let i := phaseFor s k
  if now s < (part s k).joined + 1 then s
  else
    s |> forEach ((phasesSeen s k).filter (undefinedPhase s)) (fun j => recPart .phaseUndefined noNode k (le 1 k ++ le 1 j ++ zeros 2))
      |> whenB (decide (1 < l.length)) (recPart .phaseMixed noNode k (le 1 k ++ le 1 i ++ le 2 (maskOf l)))
      |> modPart k (fun q => { q with phaseNext := [(now s + 1, i)] })

/-- The phases of the partitions in an epoch. -/
def decidePhases (s : State) : State := forEach (tfind s.parts (fun _ q => inEpoch q)) decidePhase s

/-- The tick puts decided phases into force. -/
def phasesTick (s : State) : State :=
  { s with parts := tmap s.parts (fun _ q =>
      match q.phaseNext.find? (fun e => e.1 == now s) with
      | some (_, i) => { q with phase := i, phaseNext := [] }
      | none => q) }

/-! ### The budget (R142) -/

/-- The epoch that a partition will be in at stroke `t`, or 0 (R271). -/
def epochAt (s : State) (k t : Nat) : Nat :=
  let q := part s k
  match q.pending with
  | some (e, n) => if n ≤ t then e else if inEpoch q then q.epoch else 0
  | none =>
    if inEpoch q && (match leavesAt s q with | some n => decide (t < n) | none => true) then q.epoch else 0

/-- The grains of a partition's phase at the next tick: phase 0 for one that joins then (R35), STRAP_MODE's outside an epoch. -/
def grainsNext (s : State) (k : Nat) : Nat :=
  let q := part s k
  if epochAt s k (now s + 1) == 0 then modeGrains s.straps.mode
  else if inEpoch q && epochAt s k (now s + 1) == q.epoch then
    (lget s.stk.phases (match q.phaseNext.head? with | some e => e.2 | none => q.phase) {}).grains
  else (lget s.stk.phases 0 {}).grains

/-- ACTIVE and LENT tiles that a node aggregates, itself included. -/
def workUnder (s : State) : Nat → Nat → Nat
  | 0, _ => 0
  | fuel + 1, n =>
    if 0x800 ≤ n then b2n (working (tile s (n - 0x800)))
    else ((aggChildren s n).map (workUnder s fuel)).sum

/-- has_work(k). -/
def hasWork (s : State) (k : Nat) : Bool := (part s k).roots.any (fun n => decide (0 < workUnder s 18 n))

/-- b[k]. -/
def partBudget (s : State) (k : Nat) : Nat :=
  if hasWork s k then 256 * grainsNext s k * (part s k).count / Nat.max 1 s.gnd.pod.logicalCount else 0

/-- The ports that are suspect or directed in the stroke of the new thresholds, and serve (R145, R146). -/
def directedPorts (s : State) : List Nat :=
  tfind s.gnd.tiles (fun p t => working t && ((sent s p).health.code == 2 || decide (now s + 1 < (sent s p).samp.directedUntil)))

/-- The correction factor f as a fraction, clamped to [1/4, 4] (R147): grants over the mean of the costs admitted. -/
def factor (s : State) (gc : Nat) : Nat × Nat :=
  let num := gc * s.cpy.costs.length * s.cpy.hostRate * s.tcfg.period * 1000
  let den := 256 * 4096 * s.cpy.costs.sum
  if s.cpy.costs.sum == 0 then (1, 1) else if 4 * num < den then (1, 4) else if 4 * den < num then (4, 1) else (num, den)

/-- The split of R142 for a block budget `b`. -/
def splitBudget (s : State) (b : Nat) : Budget :=
  let cs := capacity s (copyUnits s)
  let cf := capacity s s.build.units
  let gc := Nat.min b cs
  let gd := if s.cpy.cfg.dpxEn then b - Nat.min b cf else 0
  let dir := if (directedPorts s).isEmpty then 0 else gc * s.cpy.cfg.dirShare / 16
  let f := factor s gc
  { b := b, gc := gc, gd := gd, gu := b - gc - gd, dir := dir - s.cpy.xPrev, cs := cs, f := f.1 * 64 / f.2, stroke := now s + 1 }

/-! ### Allocation (R143) -/

/-- Shares of `x` in proportion to the second components, rounded down; the remainder goes to the first that is not zero. -/
def shareOut (x : Nat) (ws : List (Nat × Nat)) : List (Nat × Nat) :=
  let total := (ws.map Prod.snd).sum
  let floors := ws.map (fun w => (w.1, x * w.2 / Nat.max 1 total))
  let rest := if total == 0 then 0 else x - (floors.map Prod.snd).sum
  let i := ws.findIdx (fun w => decide (0 < w.2))
  floors.mapIdx (fun j e => if j == i then (e.1, e.2 + rest) else e)

/-- A node's allocation reaches the ports that it aggregates. -/
def allocate (s : State) : Nat → Nat → Nat → List (Nat × Nat)
  | 0, _, _ => []
  | fuel + 1, n, x =>
    if 0x800 ≤ n then [(n - 0x800, x)]
    else (shareOut x ((aggChildren s n).map (fun c => (c, workUnder s 18 c)))).flatMap (fun e => allocate s fuel e.1 e.2)

/-- The allocation of every port. -/
def allocation (s : State) : List (Nat × Nat) :=
  (validParts s).flatMap (fun k =>
    (shareOut (partBudget s k) ((part s k).roots.map (fun n => (n, workUnder s 18 n)))).flatMap (fun e => allocate s 18 e.1 e.2))

/-! ### Thresholds and partners (R145, R146, R158) -/

/-- The largest threshold. -/
def thetaCap : Nat := 2 ^ 32 - 1

/-- θc as a fraction before its cap, for allocation `a` (R145). -/
def thetaFrac (s : State) (g : Budget) (f : Nat × Nat) (m a : Nat) (directed : Bool) : Nat × Nat :=
  (f.1 * (a * (g.gc - g.dir) * m + if directed then g.dir * g.b else 0) * s.gnd.pod.logicalCount * 4096, f.2 * g.b * m)

/-- θc, and the excess x_i that its cap cannot express (R145, R146). -/
def thetaCopy (s : State) (g : Budget) (f : Nat × Nat) (m a : Nat) (directed : Bool) : Nat × Nat :=
  let c := thetaFrac s g f m a directed
  if g.b == 0 then (0, 0)
  else if c.1 / c.2 < thetaCap then (c.1 / c.2, 0)
  else (thetaCap, (c.1 - thetaCap * c.2) / Nat.max 1 (f.1 * s.gnd.pod.logicalCount * 4096 * g.b * m))

/-- θd (R145). -/
def thetaDup (s : State) (g : Budget) (a thetaC : Nat) : Nat :=
  if g.b == 0 then 0 else Nat.min (thetaCap - thetaC) (a * g.gd * s.gnd.pod.logicalCount * 4096 / g.b)

/-- The candidates for a sentinel's duplex partner, by ascending logical number (R158). -/
def partnerList (s : State) (p : Nat) : List Nat :=
  let t := tile s p
  let same := tfind s.gnd.tiles (fun q x => working x && x.part == t.part && x.typ == t.typ && !(q == p))
  let other := same.filter (fun q => !((tile s q).host == t.host))
  sortBy (fun q => (tile s q).logical) (if other.isEmpty then same else other)

/-- The partner's logical number in stroke `n`. -/
def partnerFor (s : State) (p n : Nat) : Option Nat :=
  let t := tile s p
  let l := partnerList s p
  let u := sipHash (keyOf s (epochAt s t.part n) n) (le 2 t.logical ++ bytes [2]) % 2 ^ 32
  if l.isEmpty || epochAt s t.part n == 0 then none else some (tile s (lget l (u % l.length) 0)).logical

/-- One port's part in the next stroke: its allocation and thresholds wait for the tick. -/
def setSampling (g : Budget) (f : Nat × Nat) (dirs : List Nat) (p a : Nat) (s : State) : State :=
  let th := thetaCopy s g f (Nat.max 1 dirs.length) a (dirs.contains p)
  let q := if g.gd == 0 then none else partnerFor s p (now s + 1)
  let d := if q.isSome then thetaDup s g a th.1 else 0
  s |> modSent p (fun x => { x with samp := { x.samp with next := some (a, th.1, d, q) } })
    |> modCpy (fun c => { c with xPrev := c.xPrev + th.2 })

/-- Judge computes the budget, its split, allocation and thresholds for the next stroke (R37, R142); CPY_CFG acts from here on
(R166). Nothing is allocated before READY (R378). -/
def computeBudget (s : State) : State :=
  if !s.boot.ready then s
  else
    let s1 := modCpy (fun c => { c with eff := c.cfg }) s
    let g := splitBudget s1 (((validParts s1).map (partBudget s1)).sum)
    let dirs := directedPorts s1
    let f := factor s1 g.gc
    s1 |> modCpy (fun c => { c with budget := g, xPrev := 0 })
       |> forEach (allocation s1) (fun e => setSampling g f dirs e.1 e.2)

/-- The tick puts allocations and thresholds into force, and the counts of the stroke that ended move on (R37, R144, R167). -/
def samplingTick (s : State) : State :=
  { s with
    sents := tmap s.sents (fun _ x => { x with samp := { x.samp with
      alloc := (x.samp.next.map (fun n => n.1)).getD 0
      thetaC := (x.samp.next.map (fun n => n.2.1)).getD 0
      thetaD := (x.samp.next.map (fun n => n.2.2.1)).getD 0
      partner := x.samp.next.bind (fun n => n.2.2.2)
      next := none, sampledLast := x.samp.sampled, duplexedLast := x.samp.duplexed, sampled := 0, duplexed := 0 } })
    cpy := { s.cpy with
      past := s.cpy.inForce, inForce := s.cpy.budget, lastCost := s.cpy.costNow
      costs := (s.cpy.costNow :: s.cpy.costs).take 64, costNow := 0, served := 0 } }

end Sys2Proof.Machine
end

