-- ==== Sys2Proof/Machine/JudgeOps.lean ====
section
/-!
DEFINITION. What the phases of a stroke consist of: the sentinels at the tick (R31, R34), overruns (R29), the checks that Judge takes
(R49, R223, R224), what Judge decides and counts, and the late pass at the end of Judge (R27).
-/
namespace Sys2Proof.Machine

open Sys2Proof

/-! ### The tick (R11, R18, R22) -/

/-- The number and time of the tick that comes now: the master's own, or the follower's earliest. -/
def nextTickOf (s : State) : Option (Nat × Nat) :=
  if s.stk.source == 0 then
    if ticking s then some (if s.stk.ticked then (s.stk.stroke + 1, s.stk.tickTime + s.tcfg.period) else (s.tcfg.start, s.stk.tickTime)) else none
  else s.stk.sched.head?

/-- The stroke number advances and Gather begins; PARENT is the link that supplied the tick. A tick of the own counter measures no
period. -/
def advanceStroke (n t : Nat) (s : State) : State :=
  let x := s.stk
  let expected := if x.flyTick then t - ownDelay s else t
  let periods := if x.ticked && !x.flyTick && decide (x.tickTime < t) then ((t - x.tickTime) :: x.periods).take 64 else x.periods
  let y : Stk := { x with
    parent := match x.seen.find? (fun e => e.1 == n && !x.flyTick) with | some (_, l) => l | none => x.parent
    stroke := n, phase := 0, ticked := true, tickTime := t, flyTick := false, periods := periods, sched := x.sched.tail }
  { s with stk := { y with nextTick := expected + measuredPeriod { s with stk := y } } }

/-! ### The sentinels at a tick (R31, R34, R422) -/

/-- A sentinel takes the signals of the stroke that ended; phase IDs of that stroke wait for Judge. -/
def sentinelTick (sig : TickSignals) (ended p : Nat) (x : Sentinel) : Sentinel :=
  { x with
    temp := match sig.temps.find? (fun e => e.1 == p) with | some (_, v) => v % 256 | none => x.temp
    stretch := x.attached && sig.stretched.contains p, restarted := false, touch := { x.touch with stretch := x.touch.stretch || x.restarted }
    silent := x.attached && sig.noEdge.contains p && !x.clkStop
    idle := (x.clkStop && decide (x.stopSince < ended)) || x.inReset
    phasesPrev := x.phases, phases := [] }

/-- The tick at every sentinel. -/
def sentinelsTick (sig : TickSignals) (ended : Nat) (s : State) : State :=
  { s with sents := tmap s.sents (fun p x => sentinelTick sig ended p x) }

/-- A tile that a substitution has lent out touches as borrowed from this tick on (R230). -/
def markBorrowed (s : State) : State :=
  { s with sents := tmap s.sents (fun p x =>
      { x with touch := { x.touch with borrowed := x.attached && !((tile s p).host == (tile s p).parent) } }) }

/-! ### Overruns (R29) -/

/-- Items of R29's OVERRUN records. -/
def itemPiece : Nat := 1
def itemCanary : Nat := 2

/-- Body of OVERRUN and OVERRUN_ABORT. -/
def overrunBody (item g : Nat) : List Byte := le 1 item ++ le 1 g ++ zeros 2

/-- The pieces of this block's captures that are admitted. -/
def runningPieces (s : State) : List (Nat × Nat × Piece) :=
  s.cpy.captures.flatMap (fun e => ((List.range e.2.pieces.length).zip e.2.pieces).filterMap (fun x =>
    if x.2.state == 1 then some (e.1, x.1, x.2) else none))

/-- Every item still running at the tick, with its item code and group: pieces, canary sets and served peer pieces. -/
def runningItems (s : State) : List (Nat × Nat) :=
  ((runningPieces s).filter (fun x => !x.2.2.overran)).map (fun x => (itemPiece, x.2.2.group)) ++
  ((s.cpy.units.filter (fun e => e.2.running && !e.2.overran)).map (fun e => (itemCanary, groupOf e.1))) ++
  ((s.cpy.peerIn.filter (fun p => p.state == 2 && !p.overran)).map (fun p => (itemPiece, p.group)))

/-- A tick finds items still running: each counts, has its record, and goes on. -/
def overrunsTick (s : State) : State :=
  s |> forEach (runningItems s) (fun i s =>
        s |> modStk (fun x => { x with overrun := satInc 16 x.overrun }) |> recordBlock .overrun (overrunBody i.1 i.2))
    |> modCpy (fun c => { c with
        captures := tmap c.captures (fun _ y => { y with pieces := y.pieces.map (fun x => if x.state == 1 then { x with overran := true } else x) })
        units := tmap c.units (fun _ x => { x with overran := x.running })
        peerIn := c.peerIn.map (fun p => if p.state == 2 then { p with overran := true } else p) })

/-- An item still running at the end of Gather is aborted. -/
def abortRecord (item g : Nat) : State → State := recordBlock .overrunAbort (overrunBody item g)

/-- A canary set aborted: it counts as not run and runs again in the next Publish. -/
def abortCanary (u : Nat) (s : State) : State :=
  s |> abortRecord itemCanary (groupOf u) |> endCanary u |> modUnit u (fun x => { x with runNext := true })

/-- The first served peer piece that has overrun is answered ABORTED; `n` bounds how many there are. -/
def abortPeers : Nat → State → State
  | 0, s => s
  | n + 1, s =>
    let i := s.cpy.peerIn.findIdx (fun p => p.state == 2 && p.overran)
    match s.cpy.peerIn[i]? with
    | none => s
    | some p => abortPeers n (s |> abortRecord itemPiece p.group |> peerAnswer p.link p.reqId 3 0 0 |> peerDrop i)

/-- Judge aborts what overran (R29). -/
def abortOverruns (s : State) : State :=
  s |> forEach ((runningPieces s).filter (fun x => x.2.2.overran)) (fun x s => s |> abortRecord itemPiece x.2.2.group |> endPiece x.1 x.2.1 0x0B)
    |> (fun s => forEach ((unitNos s).filter (fun u => (cunit s u).running && (cunit s u).overran)) abortCanary s)
    |> (fun s => abortPeers s.cpy.peerIn.length s)

/-! ### Gather (R26) -/

/-- Effective values of the RW fields that act from the next tick, and routes rewritten since the last one (R288, R306, R317, R370). -/
def configTick (s : State) : State :=
  let put (w : Wch) (r : Bool × Nat × Route) : Wch :=
    if r.1 then { w with cube := tput w.cube r.2.1 r.2.2 } else { w with intra := tput w.intra r.2.1 r.2.2 }
  let w := s.wch.routeNext.foldl put s.wch
  { s with
    rcv := { s.rcv with eff := s.rcv.cfg }
    wch := { w with
      eff := w.cfg, routeNext := [], bypass := w.bypassNow, bypassNow := 0
      alarmKeys := w.alarmKeys.filter (fun k => decide (now s ≤ k.2.2.2 + 128)) }
    ldg := { s.ldg with
      eff := s.ldg.cfg, twEff := s.ldg.tw, traces := s.ldg.traces.map (fun b => { b with eff := b.cfg }) } }

/-- Heartbeats missed, and the CRC window [10,000k, 10,000(k + 1)) of a link (R302). -/
def linkTick (n : Nat) (k : Link) : Link :=
  { k with
    hbMissed := if !(linkOpen k) || k.hbSeen then 0 else k.hbMissed + 1, hbSeen := false
    crcWin := if k.crcWinNo == n / 10000 then k.crcWin else [], crcWinNo := n / 10000 }

/-- The links at a tick. -/
def linksTick (s : State) : State :=
  syncLinks { s with wch := { s.wch with links := tmap s.wch.links (fun _ k => linkTick (now s) k) } }

/-- What the tick does beyond the number: collection, the taint store, thresholds, substitutions, admissions. -/
def gather (sig : TickSignals) (ended : Nat) (s : State) : State :=
  s |> overrunsTick
    |> sentinelsTick sig ended
    |> storeTouches ended
    |> progTick ended
    |> countsTick |> gcount 0 1
    |> configTick |> linksTick
    |> phasesTick |> samplingTick |> rlTick
    |> substTick |> markBorrowed
    |> joinTick |> tallyTick
    |> canaryTick sig.slack
    |> craqRetry
    |> admitGather
    |> (fun s => modCpy (fun c => { c with backlog := countCarried s }) s)

/-! ### Children that have not delivered (R34, R49) -/

/-- The ports of a child. -/
def portsOfNode (s : State) (n : Nat) : List Nat := if 0x800 ≤ n then [n - 0x800] else (portsBelow s n).filter (fun p => working (tile s p))

/-- A port is SILENT in the judged stroke; its stored summary says so (R230). -/
def silence (p : Nat) (s : State) : State :=
  s |> modSent p (fun x => { x with silent := true })
    |> modTaint (fun x => { x with rows := tadj x.rows (now s - 1) (fun r => tmod r p {} (fun t => { t with silent := true })) })

/-- A child that has not delivered: its ports are SILENT, and its parent records it. -/
def childSilent (n : Nat) (s : State) : State :=
  s |> forEach (portsOfNode s n) silence |> record .childSilent (parentOf s n) (le 2 n ++ zeros 2)

/-- The children that Judge counts as SILENT: sentinels without a clock edge, and those that have not delivered. -/
def silentChildren (s : State) (undelivered : List Nat) : List Nat :=
  let ports := tfind s.gnd.tiles (fun p t => working t && (sent s p).attached && (sent s p).silent)
  ports.map nodeOf ++ (asc undelivered).filter (fun n => !(n == 0) && nodeUsed s n && !(0x800 ≤ n && ports.contains (n - 0x800)))

/-! ### The checks of a pass -/

/-- A check whose verdict this Judge takes: of an earlier stroke, or late. -/
def dueChk (s : State) (c : Chk) : Bool := decide (c.stroke < now s) || c.late

/-- What one check does besides its verdict: counts, the touch summary, R84's tally, its ALARM and its radius. -/
def judgeChk (c : Chk) (s : State) : State :=
  s |> whenB (decide (1 ≤ c.n)) (countChk c)
    |> whenB (!c.late) (touchCheck c)
    |> whenB (c.code == vFail && decide (c.kind ≤ 2) && decide (1 ≤ c.n)) (suspectOpc c)
    |> whenB (c.code == vFail && decide (1 ≤ c.n)) (fun s => s |> faultAlarm c |> faultRadius c)

/-- One pass over the checks that have ended: `first` opens the Judge of the stroke before, the second pass closes it. -/
def judgePass (first : Bool) (s : State) : State :=
  let due := (s.chks.filter (dueChk s)).map (effective s)
  let cs := if first then due ++ silentChecks s due else due
  { s with
    chks := s.chks.filter (fun c => !(dueChk s c))
    judged := if first then cs else s.judged ++ cs
    judgedStroke := now s - 1 }
  |> forEach cs judgeChk
  |> classifyAll cs

/-- The node verdicts of the judged stroke as trace entries; their severity is the code (R363). -/
def traceVerdicts (s : State) : State :=
  let nodes := (tkeys s.gnd.tree) ++ (tfind s.sents (fun _ x => x.attached && !x.idle)).map nodeOf
  forEach nodes (fun n s =>
    let e : TraceEntry := {
      stroke := now s, offset := drawValue s % 2 ^ 20, source := 3, node := n, severity := maxOf ((nodeChecks s n).map (fun c => c.code))
      flags := atB 3 (inFlywheel s), data := fit 12 (le 8 (readVerdict s n).toNat) }
    s |> bumpFresh |> traceIn [e]) s

/-! ### What Judge decides and counts -/

/-- Events and duplex events of a partition's sentinels in [a, b) (R282). -/
def eventsIn (s : State) (k a b : Nat) : Nat :=
  let hit (n : Nat) : Bool := decide (a ≤ n) && decide (n < b)
  ((tfind s.gnd.tiles (fun _ t => t.part == k && !(t.state == tsHidden))).map (fun p =>
    let h := (sent s p).health
    (h.events.filter hit).length + (h.dupEvents.filter (fun e => hit e.stroke)).length)).sum

/-- TREND for one partition: a rising event rate requests a checkpoint, at most every 100,000 strokes (R282). -/
def trendPart (k : Nat) (s : State) : State :=
  let q := part s k
  let n := now s
  let new := eventsIn s k (n - 100000) n
  let old := eventsIn s k (n - 1000000) (n - 100000)
  let apart := match q.lastTrend with | some m => decide (m + 100000 ≤ n) | none => true
  whenB (!q.timer && apart && decide (s.rcv.eff.trendMin ≤ new) && decide (2 * old ≤ 9 * new))
    (fun s => s |> modPart k (fun q => { q with lastTrend := some n }) |> requestCkpt 3 k new old) s

/-- TREND over the partitions, in whatever state (R282). -/
def judgeTrend (s : State) : State := forEach (tfind s.parts (fun _ q => q.valid)) trendPart s

/-- Strokes as MEMBER, counted for the stroke judged (R358). -/
def countMembers (s : State) : State :=
  forEach (tfind s.parts (fun _ q => q.valid && q.state == psMember && decide (q.joined + 1 ≤ now s))) (fun k => pcountJudged k 0 1) s

/-- The judged stroke enters the period of SUMMARY (R360). -/
def sumStroke (s : State) : State :=
  modLdg (fun l => { l with acc := { l.acc with
    period := l.acc.period + 1, gc := l.acc.gc + s.cpy.past.gc, gd := l.acc.gd + s.cpy.past.gd, gu := l.acc.gu + s.cpy.past.gu } }) s

/-- CPY_COUNTS begins anew for the stroke judged (R166). -/
def copyCounts : State → State := modCpy (fun c => { c with
  cFail := 0, cLate := 0, cUnc := 0, cPass := 0, disagree := c.disagreeNow, disagreeNow := 0, discarded := c.discardNow, discardNow := 0 })

/-- The Judge of a stroke: the checks of the stroke before, then what Judge decides for the next one. -/
def judge (undelivered : List Nat) (s : State) : State :=
  s |> abortOverruns
    |> copyCounts |> rlJudge
    |> (fun s => forEach (silentChildren s undelivered) childSilent s)
    |> judgePass true
    |> fillVacancies
    |> judgeHangs |> judgeTrend
    |> decideRequests |> dgtArbitrate |> taintedVarnish
    |> dividePower |> decidePhases |> computeBudget
    |> countMembers |> traceVerdicts |> sumStroke |> countsJudge

/-! ### Publish (R26, R27) -/

/-- The end of Judge: checks that ended since, then the verdicts of the live epochs for the stroke judged (R224). -/
def closeJudge (s : State) : State :=
  s |> judgePass false
    |> (fun s => forEach ((liveEpochs s).filterMap (epoch? s)) (formVerdict s.judged) s)

/-- The combinations that wait go up as far as they are complete (R226). -/
def publishVerdicts (s : State) : State := forEach (s.rcv.relays.map (fun r => (r.epoch, r.stroke))) (fun r => relayReady r.1 r.2) s

/-- The Publish of a stroke. -/
def publish (s : State) : State :=
  s |> closeJudge |> countsJudge
    |> modStk (fun x => { x with phase := 2 })
    |> publishVerdicts
    |> publishTally |> publishXport |> publishShards |> publishTw
    |> peerAdmit |> peerPublish
    |> startCanaries |> admitPublish
    |> publishSpill |> publishMailboxes |> traceReports |> sendHearts

end Sys2Proof.Machine
end

