-- ==== Sys2Proof/Machine/Stroke.lean ====
section
/-!
DEFINITION. The stroke's own commands: the tick and the phase boundaries (R11, R26), and tile clocks that stop and start (R34).
-/
namespace Sys2Proof.Machine

open Sys2Proof

/-- A tick: the number advances in the WATCH domain whatever else is in reset (R13); Gather's work needs the CONTROL domain. -/
def tick (sig : TickSignals) (s : State) : State :=
  match nextTickOf s with
  | none => s
  | some (n, t) =>
    s |> advanceStroke n t |> followTick s.stk.flyTick |> sendMarker |> (fun x => if controlReset x then x else gather sig s.stk.stroke x)

/-- STROKE_TICK (R11, R26). -/
def execStrokeTick (sig : TickSignals) (s : State) : Host.Outcome State Fault Refusal := ok (tick sig s)

/-- A phase boundary after phase `k` of a stroke: the phase that begins, and its work outside a CONTROL reset. -/
def enterPhase (k : Nat) (work : State → State) (s : State) : State :=
  if !s.stk.ticked || !(s.stk.phase == k) then s
  else modStk (fun x => { x with phase := k + 1 }) (if controlReset s then s else work s)

/-- Judge begins: its work runs as that of phase 1. -/
def judgeWork (undelivered : List Nat) (s : State) : State := judge undelivered (modStk (fun x => { x with phase := 1 }) s)

/-- JUDGE_PHASE (R26). -/
def execJudgePhase (undelivered : List Nat) (s : State) : Host.Outcome State Fault Refusal := ok (enterPhase 0 (judgeWork undelivered) s)

/-- PUBLISH_PHASE (R26). -/
def execPublishPhase (s : State) : Host.Outcome State Fault Refusal := ok (enterPhase 1 publish s)

/-- GUARD_PHASE (R26, R378). -/
def execGuardPhase (audits : List AuditReading) (s : State) : Host.Outcome State Fault Refusal :=
  ok (enterPhase 2 (forEach audits auditCount) s)

/-! ### Tile clocks (R34, R126, R419) -/

/-- A requested stop: the event, the checks in flight, whose number nothing gives, as UNCOVERED, and the hold that it meets. -/
def clockStop (p : Nat) (s : State) : State :=
  let n := drawValue s % 4096
  if !(sent s p).attached || (sent s p).clkStop then s
  else
    s |> modSent p (fun x => { x with clkStop := true, stopSince := now s })
      |> event (nodeOf p) evClockStop 0 0
      |> bumpFresh
      |> whenB (decide (1 ≤ n) && !((sent s p).rl.channels == 0)) (addChk { portChk s p (now s) ckResidue vUncovered with n := n })
      |> meetHold p scClockStop

/-- TILE_CLOCK_STOP (R34). -/
def execTileClockStop (port : Nat) (s : State) : Host.Outcome State Fault Refusal := onUnit "port" port s.build.ports (clockStop port s)

/-- The first edge after a stop: the sentinel has the current stroke number, and its records carry STRETCH until the next tick. -/
def clockStart (p : Nat) (s : State) : State :=
  if !(sent s p).clkStop then s
  else
    s |> modCpy (fun c => { c with captures := c.captures.map (fun e => (e.1, { e.2 with stopped := e.2.stopped + stoppedFor s p e.2 })) })
      |> modSent p (fun x => { x with clkStop := false, restarted := true })
      |> event (nodeOf p) evClockStart 0 0

/-- TILE_CLOCK_START (R34). -/
def execTileClockStart (port : Nat) (s : State) : Host.Outcome State Fault Refusal := onUnit "port" port s.build.ports (clockStart port s)

end Sys2Proof.Machine
end

