-- ==== Sys2Proof/Machine/Watch.lean ====
section
/-!
DEFINITION. The commands of the Watch links and of the stroke's sources (R9 to R25, R287 to R317).
-/
namespace Sys2Proof.Machine

open Sys2Proof

/-! ### Training (R290, R291) -/

/-- The width once every lane that may lock has locked (R291). -/
def lanesSettled (k : Link) : Link := if k.lanes.length == (goodLanes k).length then { k with width := k.lanes.length } else k

/-- LANE_LOCK (R290, R291): the first lane of a link that trains brings it to ALIGN. -/
def execLaneLock (lane : Nat) (s : State) : Host.Outcome State Fault Refusal :=
  let l := lane / 2
  let i := lane % 2
  onUnit "lane" lane (2 * s.build.links) <|
    if !(laneEnable s lane) then s
    else if (link s l).state == lsWaitPhy then
      modLink l (fun k => lanesSettled { k with state := lsAlign, lanes := [i], lockAt := now s, good := 0 }) s
    else if (link s l).state == lsAlign then modLink l (fun k => lanesSettled { k with lanes := insAsc k.lanes i }) s
    else s

/-- LANE_LOCK_LOSS (R428): in ALIGN the lane no longer counts, and with none left the link waits again. Later states go by what R301
and R302 detect. -/
def execLaneLockLoss (lane : Nat) (s : State) : Host.Outcome State Fault Refusal :=
  let l := lane / 2
  onUnit "lane" lane (2 * s.build.links) <|
    if (link s l).state == lsAlign && !(isTunnel s l) then
      let left := without (link s l).lanes (lane % 2)
      if left.isEmpty then toWait l lcNone s else modLink l (fun k => { k with lanes := left, width := 0, good := 0 }) s
    else s

/-- SECOND_LANE_TIMEOUT (R291): TRAIN_WAIT / 4 strokes after the first lane the link comes up on it. -/
def execSecondLaneTimeout (link : Nat) (s : State) : Host.Outcome State Fault Refusal :=
  let k := Machine.link s link
  onUnit "link" link s.build.links <|
    if k.state == lsAlign && k.width == 0 && k.lanes.length == 1 && strokesPassed s k.lockAt (s.wch.eff.trainWait / 4) then
      modLink link (fun k => { k with width := 1, fallback := true }) s
    else s

/-- TRAIN_TIMEOUT (R290, R302): states 1 to 4 not passed within TRAIN_WAIT strokes. -/
def execTrainTimeout (link : Nat) (s : State) : Host.Outcome State Fault Refusal :=
  let k := Machine.link s link
  onUnit "link" link s.build.links <|
    if 1 ≤ k.state && k.state ≤ 4 && strokesPassed s k.since s.wch.eff.trainWait then
      s |> modLink link (fun k => { k with state := lsAbsent, cause := lcAbsent, width := 0, lanes := [], since := now s })
        |> linkRecord link
        |> recordBlock .linkAbsent (le 1 link ++ zeros 3 ++ le 4 (expectedPartner s link))
    else s

/-- ABSENT_RETRY (R290): every 10,000 strokes. -/
def execAbsentRetry (link : Nat) (s : State) : Host.Outcome State Fault Refusal :=
  let k := Machine.link s link
  onUnit "link" link s.build.links
    (if k.state == lsAbsent && strokesPassed s k.since 10000 then toWait link lcAbsent s else s)

/-! ### Measurement and authentication (R292 to R294) -/

/-- ECHO (R292, R297). -/
def execEcho (link sendTime echoed residence now : Nat) (s : State) : Host.Outcome State Fault Refusal :=
  onUnit "link" link s.build.links (takeEcho link sendTime echoed residence now s)

/-- HELLO (R293, R294). -/
def execHello (link : Nat) (h : Hello) (s : State) : Host.Outcome State Fault Refusal :=
  onUnit "link" link s.build.links (takeHello link h s)

/-- CERT (R293, R294). -/
def execCert (link frag nfrag : Nat) (data : List Byte) (s : State) : Host.Outcome State Fault Refusal :=
  onUnit "link" link s.build.links (takeCert link frag nfrag data s)

/-- SHARE (R293). -/
def execShare (link : Nat) (key : List Byte) (s : State) : Host.Outcome State Fault Refusal :=
  onUnit "link" link s.build.links (takeShare link key s)

/-- PROOF (R293, R294). -/
def execProof (link : Nat) (sig : List Byte) (s : State) : Host.Outcome State Fault Refusal :=
  onUnit "link" link s.build.links (takeProof link sig s)

/-- DONE (R293, R294, R296). -/
def execDone (link : Nat) (mac : List Byte) (protectedRtt : Nat) (s : State) : Host.Outcome State Fault Refusal :=
  onUnit "link" link s.build.links (takeDone link mac protectedRtt s)

/-- HANDSHAKE_TIMEOUT (R294): not complete within 1 ms. -/
def execHandshakeTimeout (link : Nat) (s : State) : Host.Outcome State Fault Refusal :=
  let k := Machine.link s link
  onUnit "link" link s.build.links (if k.state == lsAuth then authFail link 7 k.shake.chip s else s)

/-! ### Flits (R295 to R301) -/

/-- FLIT_RECEIVED (R295, R296, R301, R302, R304). -/
def execFlitReceived (link lane : Nat) (crcOk tagOk : Bool) (f : Flit) (now : Nat) (s : State) : Host.Outcome State Fault Refusal :=
  onUnit "link" link s.build.links (takeFlit link (lane % 2) crcOk tagOk f now s)

/-- CREDIT (R297, R299, R301): a good control flit, with credits and an acknowledgement. -/
def execCredit (link : Nat) (returned : List Nat) (ack : Nat) (s : State) : Host.Outcome State Fault Refusal :=
  onUnit "link" link s.build.links <|
    if (Machine.link s link).state == lsAlign then goodControl link s.stk.tickTime s
    else if linkOpen (Machine.link s link) then s |> takeAck link ack |> takeCredits link returned
    else s

/-- NACK (R297, R301): what lies below the LSEQ named has arrived, and the rest is replayed. -/
def execNack (link lseq : Nat) (returned : List Nat) (s : State) : Host.Outcome State Fault Refusal :=
  onUnit "link" link s.build.links <|
    if linkOpen (Machine.link s link) then
      s |> takeAck link ((lseq + 65535) % 65536) |> takeCredits link returned |> replay link
    else s

/-- KEY_UPDATE (R296): the receiving key changes at the LSEQ named. -/
def execKeyUpdate (link lseq : Nat) (s : State) : Host.Outcome State Fault Refusal :=
  onUnit "link" link s.build.links <|
    if linkOpen (Machine.link s link) then modLink link (fun k => rekeyIn { k with rekeyAt := some lseq }) s else s

/-- REKEY (R296): after 2^40 flits under one key. -/
def execRekey (link : Nat) (s : State) : Host.Outcome State Fault Refusal :=
  let k := Machine.link s link
  onUnit "link" link s.build.links <|
    if linkOpen k && decide (2 ^ 40 ≤ k.txSeq - k.txSince) then
      s |> modLink link (fun k => { k with txKey := nextKey k.txKey, txKeyGen := k.txKeyGen + 1, txSince := k.txSeq })
        |> emit (.control link 4 (le 6 k.txSeq))
    else s

/-- RETRY_TIMEOUT (R301, R312): no ACK progress for 10 µs, or two round trips of a tunnel. -/
def execRetryTimeout (link : Nat) (s : State) : Host.Outcome State Fault Refusal :=
  onUnit "link" link s.build.links (if linkOpen (Machine.link s link) then replay link s else s)

/-- CONTROL_FLIT_TIMER (R297): a control flit, in MEASURE an ECHO. -/
def execControlFlitTimer (link now : Nat) (s : State) : Host.Outcome State Fault Refusal :=
  let k := Machine.link s link
  onUnit "link" link s.build.links <|
    if linkOpen k || k.state == lsAlign then sendControl link s
    else if k.state == lsMeasure then sendEcho link now 0 s
    else s

/-! ### Partners that misbehave (R302) -/

/-- HEARTBEAT_MISS: a silent partner. -/
def execHeartbeatMiss (link : Nat) (s : State) : Host.Outcome State Fault Refusal :=
  let k := Machine.link s link
  onUnit "link" link s.build.links (if linkOpen k && decide (hbLimit s link ≤ k.hbMissed) then toWait link lcSilent s else s)

/-- A flit of a class waits for a credit. -/
def waitsCredit (k : Link) (c : Nat) : Bool := linkOpen k && k.queue.any (fun f => f.cls == c) && !(hasCredit k c)

/-- A slow partner (R302): LINK_SLOW, and an UP link is DEGRADED. -/
def slowLink (l c : Nat) (s : State) : State :=
  s |> modLink l (fun k => { k with
        state := if k.state == lsUp then lsDegraded else k.state, cause := lcSlow, slowAt := now s
        err := { k.err with creditTo := satInc 8 k.err.creditTo } })
    |> recordBlock .linkSlow (le 1 l ++ le 1 c ++ zeros 2)

/-- CREDIT_WAIT: a slow partner for classes 2 to 5, a faulty one for ALARM and STROKE. -/
def execCreditWait (link cls : Nat) (s : State) : Host.Outcome State Fault Refusal :=
  onUnit "link" link s.build.links <|
    if !(waitsCredit (Machine.link s link) cls) then s
    else if cls ≤ 1 then s |> modErr link (fun e => { e with creditTo := satInc 8 e.creditTo }) |> faulty link 1
    else slowLink link cls s

/-- CRC_WINDOW: a lane exceeds CRC_MAX failures in its window. -/
def execCrcWindow (link lane : Nat) (s : State) : Host.Outcome State Fault Refusal :=
  let k := Machine.link s link
  onUnit "link" link s.build.links
    (if linkOpen k && decide (s.wch.eff.crcMax < lget k.crcWin (lane % 2) 0) then faulty link 2 s else s)

/-- DEGRADED_RECOVERY (R290): 10,000 strokes without a credit timeout. -/
def execDegradedRecovery (link : Nat) (s : State) : Host.Outcome State Fault Refusal :=
  let k := Machine.link s link
  onUnit "link" link s.build.links
    (if k.state == lsDegraded && decide (k.slowAt + 10000 ≤ now s) then modLink link (fun k => { k with state := lsUp, cause := lcNone }) s else s)

/-! ### Broadcast, routing, records (R306, R314 to R317) -/

/-- BROADCAST_CHUNK (R315). -/
def execBroadcastChunk (link src item index : Nat) (data : List Byte) (s : State) : Host.Outcome State Fault Refusal :=
  onUnit "link" link s.build.links (takeChunk link src item index data s)

/-- BROADCAST_STALL (R315): no next chunk within 10,000 strokes. -/
def execBroadcastStall (item : Nat) (s : State) : Host.Outcome State Fault Refusal :=
  ok <| if s.wch.items.any (fun x => x.item == item && strokesPassed s x.lastAt 10000) then
      modWch (fun w => { w with
        items := w.items.filter (fun x => !(x.item == item)), frags := w.frags.filter (fun b => !(b.item == item)) }) s
    else s

/-- WCH_BCAST (R315, R317). -/
def execWchBcast (a : Access) (v : Word) (item : MemRead) (s : State) : Host.Outcome State Fault Refusal :=
  ok <| privWrite a aWchBcast (writeBcast v item) s

/-- The entry fields of WCH_ROUTE. -/
def routeFields (v : Word) : Route := { valid := fbit v 19, primary := fld v 18 16, altValid := fbit v 15, alt := fld v 14 12 }

/-- The entry that WCH_ROUTE's TABLE and INDEX name. -/
def routeAt (s : State) (cube : Bool) (i : Nat) : Route := if cube then tgetD s.wch.cube i {} else tgetD s.wch.intra i {}

/-- An intra-cube index above 63 is ignored (R317). -/
def routeIndexOk (v : Word) : Bool := fbit v 62 || decide (fld v 61 51 < 64)

/-- A write with GO 0 selects an entry and loads its fields. -/
def selectRoute (v : Word) (s : State) : State :=
  if !(routeIndexOk v) then s
  else modWch (fun w => { w with selTable := fbit v 62, selIndex := fld v 61 51, sel := routeAt s (fbit v 62) (fld v 61 51) }) s

/-- A write with GO 1 rewrites an entry; it takes effect at the next tick (R306). -/
def rewriteRoute (v : Word) (s : State) : State :=
  if !(routeIndexOk v) then s
  else modWch (fun w => { w with
    selTable := fbit v 62, selIndex := fld v 61 51, sel := routeFields v
    routeNext := w.routeNext ++ [(fbit v 62, fld v 61 51, routeFields v)] }) s

/-- A write of WCH_ROUTE. -/
def writeRoute (v : Word) (s : State) : State := if fbit v 63 then rewriteRoute v s else selectRoute v s

/-- ROUTE_SELECT (R317). -/
def execRouteSelect (a : Access) (v : Word) (s : State) : Host.Outcome State Fault Refusal :=
  ok <| privWrite a aWchRoute (writeRoute v) s

/-- ROUTE_WRITE (R306, R317). -/
def execRouteWrite (a : Access) (v : Word) (s : State) : Host.Outcome State Fault Refusal :=
  ok <| privWrite a aWchRoute (writeRoute v) s

/-- RECORD_FRAGMENT (R316). -/
def execRecordFragment (link src : Nat) (f : RecFrag) (s : State) : Host.Outcome State Fault Refusal :=
  onUnit "link" link s.build.links (rxRing src f s)

/-! ### The stroke's sources (R9 to R25, R313) -/

/-- STROKE_MARKER (R15, R17 to R23). -/
def execStrokeMarker (link : Nat) (m : Marker) (now : Nat) (residence : Nat) (s : State) : Host.Outcome State Fault Refusal :=
  onUnit "link" link s.build.links (takeMarker link m now residence s)

/-- MISSING_MARKER (R16, R22, R24). -/
def execMissingMarker (s : State) : Host.Outcome State Fault Refusal := ok (missTick s)

/-- PIN_EDGE (R16, R25). -/
def execPinEdge (now : Nat) (s : State) : Host.Outcome State Fault Refusal := ok (takeEdge now s)

/-- HEARTBEAT (R24, R25, R75, R312, R313). -/
def execHeartbeat (link : Nat) (h : Heart) (now : Nat) (s : State) : Host.Outcome State Fault Refusal :=
  onUnit "link" link s.build.links (takeHeart link h now s)

/-- STROKE_ENABLE: a write of STK_CFG with ENABLE (R12, R15, R22, R42). -/
def execStrokeEnable (a : Access) (v : Word) (s : State) : Host.Outcome State Fault Refusal :=
  ok <| privWrite a aStkCfg (writeStkCfg v) s

/-- STROKE_LOCK: a write of STK_CFG with LOCK (R9, R10, R42). -/
def execStrokeLock (a : Access) (v : Word) (s : State) : Host.Outcome State Fault Refusal :=
  ok <| privWrite a aStkCfg (writeStkCfg v) s

/-- PERIOD_WRITE: a write of PERIOD and LEAD (R9, R42). -/
def execPeriodWrite (a : Access) (v : Word) (s : State) : Host.Outcome State Fault Refusal :=
  ok <| privWrite a aStkCfg (writeStkCfg v) s

/-- STROKE_CONFLICT_REPEAT (R15): once per 1,024 periods while the condition lasts. -/
def execStrokeConflictRepeat (s : State) : Host.Outcome State Fault Refusal :=
  ok <| if s.stk.conflictMaster && s.stk.source == 0 && !(ticking s) then masterConflict s else s

end Sys2Proof.Machine
end

