-- ==== Sys2Proof/Machine/Dispatch.lean ====
section
/-!
DEFINITION. The meaning of each command: one arm per constructor of Instr, each a direct call of its meaning.
-/
namespace Sys2Proof.Machine

open Sys2Proof

/-- A command's effect on everything but the queue. -/
def exec (i : Instr) (s : State) : Host.Outcome State Fault Refusal :=
  match i with
  | .coldResetAssert n => Sys2Proof.Machine.execColdResetAssert n s
  | .coldResetDeassert straps => Sys2Proof.Machine.execColdResetDeassert straps s
  | .bringupRom storeOk keyStoreOk zeroFail => Sys2Proof.Machine.execBringupRom storeOk keyStoreOk zeroFail s
  | .firmwareImageCheck src img => Sys2Proof.Machine.execFirmwareImageCheck src img s
  | .firmwareLoadGo a v => Sys2Proof.Machine.execFirmwareLoadGo a v s
  | .bringupStepTimeout => Sys2Proof.Machine.execBringupStepTimeout s
  | .sentinelAttach ports => Sys2Proof.Machine.execSentinelAttach ports s
  | .censusStart => Sys2Proof.Machine.execCensusStart s
  | .censusComplete => Sys2Proof.Machine.execCensusComplete s
  | .clockLoss => Sys2Proof.Machine.execClockLoss s
  | .coreClockReturn => Sys2Proof.Machine.execCoreClockReturn s
  | .coreReset a v => Sys2Proof.Machine.execCoreReset a v s
  | .controlReset a v => Sys2Proof.Machine.execControlReset a v s
  | .domainResetDone domain => Sys2Proof.Machine.execDomainResetDone domain s
  | .lockstepMismatch domain => Sys2Proof.Machine.execLockstepMismatch domain s
  | .wardenWatchdog => Sys2Proof.Machine.execWardenWatchdog s
  | .powerEstimate est => Sys2Proof.Machine.execPowerEstimate est s
  | .grantStrobe grant => Sys2Proof.Machine.execGrantStrobe grant s
  | .devkey a v => Sys2Proof.Machine.execDevkey a v s
  | .provision a v blk => Sys2Proof.Machine.execProvision a v blk s
  | .lifecycleReturn a v blk => Sys2Proof.Machine.execLifecycleReturn a v blk s
  | .serial a v blk => Sys2Proof.Machine.execSerial a v blk s
  | .revoke a v blk => Sys2Proof.Machine.execRevoke a v blk s
  | .otpAccessDone err zeroFail => Sys2Proof.Machine.execOtpAccessDone err zeroFail s
  | .strokeTick sig => Sys2Proof.Machine.execStrokeTick sig s
  | .judgePhase undelivered => Sys2Proof.Machine.execJudgePhase undelivered s
  | .publishPhase => Sys2Proof.Machine.execPublishPhase s
  | .guardPhase audits => Sys2Proof.Machine.execGuardPhase audits s
  | .strokeMarker link m now residence => Sys2Proof.Machine.execStrokeMarker link m now residence s
  | .missingMarker => Sys2Proof.Machine.execMissingMarker s
  | .pinEdge now => Sys2Proof.Machine.execPinEdge now s
  | .heartbeat link h now => Sys2Proof.Machine.execHeartbeat link h now s
  | .strokeEnable a v => Sys2Proof.Machine.execStrokeEnable a v s
  | .strokeLock a v => Sys2Proof.Machine.execStrokeLock a v s
  | .periodWrite a v => Sys2Proof.Machine.execPeriodWrite a v s
  | .strokeConflictRepeat => Sys2Proof.Machine.execStrokeConflictRepeat s
  | .gndLoadGo a v => Sys2Proof.Machine.execGndLoadGo a v s
  | .groundImageCheck src img => Sys2Proof.Machine.execGroundImageCheck src img s
  | .groundSourceTimeout => Sys2Proof.Machine.execGroundSourceTimeout s
  | .nodeAbsent node => Sys2Proof.Machine.execNodeAbsent node s
  | .censusSummary c => Sys2Proof.Machine.execCensusSummary c s
  | .cubeCensusTimeout => Sys2Proof.Machine.execCubeCensusTimeout s
  | .deputyTimeout => Sys2Proof.Machine.execDeputyTimeout s
  | .tileClockStop port => Sys2Proof.Machine.execTileClockStop port s
  | .tileClockStart port => Sys2Proof.Machine.execTileClockStart port s
  | .residueOutcome port chan r => Sys2Proof.Machine.execResidueOutcome port chan r s
  | .residueCountClose port => Sys2Proof.Machine.execResidueCountClose port s
  | .residueInject a node => Sys2Proof.Machine.execResidueInject a node s
  | .forceDualWrite a node on => Sys2Proof.Machine.execForceDualWrite a node on s
  | .rlStatusClear a node v => Sys2Proof.Machine.execRlStatusClear a node v s
  | .commandTag port t => Sys2Proof.Machine.execCommandTag port t s
  | .tapBeat port b => Sys2Proof.Machine.execTapBeat port b s
  | .cmdDone port cslot => Sys2Proof.Machine.execCmdDone port cslot s
  | .duplexRefuse port cslot => Sys2Proof.Machine.execDuplexRefuse port cslot s
  | .duplexMissing idx => Sys2Proof.Machine.execDuplexMissing idx s
  | .captureTooLong cap => Sys2Proof.Machine.execCaptureTooLong cap s
  | .pieceComplete cap piece r => Sys2Proof.Machine.execPieceComplete cap piece r s
  | .backlogDrop cap piece => Sys2Proof.Machine.execBacklogDrop cap piece s
  | .canaryDue unit => Sys2Proof.Machine.execCanaryDue unit s
  | .canaryComplete unit failKernel => Sys2Proof.Machine.execCanaryComplete unit failKernel s
  | .canaryRun a v => Sys2Proof.Machine.execCanaryRun a v s
  | .cpyStoreWrite a v => Sys2Proof.Machine.execCpyStoreWrite a v s
  | .cpyLock a v => Sys2Proof.Machine.execCpyLock a v s
  | .peerReq link reqId origin chunks d => Sys2Proof.Machine.execPeerReq link reqId origin chunks d s
  | .peerData link reqId chunk last data => Sys2Proof.Machine.execPeerData link reqId chunk last data s
  | .peerResp link reqId status bytes digest => Sys2Proof.Machine.execPeerResp link reqId status bytes digest s
  | .peerTimeout reqId => Sys2Proof.Machine.execPeerTimeout reqId s
  | .copySuspect link v => Sys2Proof.Machine.execCopySuspect link v s
  | .tapHeader tap h => Sys2Proof.Machine.execTapHeader tap h s
  | .tapData tap stream offset count data => Sys2Proof.Machine.execTapData tap stream offset count data s
  | .streamTimeout tap stream => Sys2Proof.Machine.execStreamTimeout tap stream s
  | .tallyUp link t => Sys2Proof.Machine.execTallyUp link t s
  | .tallyRelayTimeout coll step seg => Sys2Proof.Machine.execTallyRelayTimeout coll step seg s
  | .tallyTotal link t => Sys2Proof.Machine.execTallyTotal link t s
  | .tallyTotalTimeout coll step seg => Sys2Proof.Machine.execTallyTotalTimeout coll step seg s
  | .exponentProposal link e => Sys2Proof.Machine.execExponentProposal link e s
  | .exponentAgreed link e => Sys2Proof.Machine.execExponentAgreed link e s
  | .xport x => Sys2Proof.Machine.execXport x s
  | .xportTimeout coll step hostLink seq => Sys2Proof.Machine.execXportTimeout coll step hostLink seq s
  | .stepMark a v => Sys2Proof.Machine.execStepMark a v s
  | .varnish a v blk manifest => Sys2Proof.Machine.execVarnish a v blk manifest s
  | .varnishCommitted slot writeOk => Sys2Proof.Machine.execVarnishCommitted slot writeOk s
  | .varnishTimeout slot => Sys2Proof.Machine.execVarnishTimeout slot s
  | .restore a v blk rec => Sys2Proof.Machine.execRestore a v blk rec s
  | .restoreShardTimeout slot => Sys2Proof.Machine.execRestoreShardTimeout slot s
  | .replLoad a v table => Sys2Proof.Machine.execReplLoad a v table s
  | .shard v => Sys2Proof.Machine.execShard v s
  | .voteTimeout group shard step => Sys2Proof.Machine.execVoteTimeout group shard step s
  | .voteResult v => Sys2Proof.Machine.execVoteResult v s
  | .holdOpen => Sys2Proof.Machine.execHoldOpen s
  | .sliceGrant port => Sys2Proof.Machine.execSliceGrant port s
  | .grantTimeout => Sys2Proof.Machine.execGrantTimeout s
  | .sliceEligible port => Sys2Proof.Machine.execSliceEligible port s
  | .holdLimit => Sys2Proof.Machine.execHoldLimit s
  | .sliceRunComplete r => Sys2Proof.Machine.execSliceRunComplete r s
  | .sliceBudgetExpiry => Sys2Proof.Machine.execSliceBudgetExpiry s
  | .witnessGrantTimeout => Sys2Proof.Machine.execWitnessGrantTimeout s
  | .mbistRestore saveCrc readCrc => Sys2Proof.Machine.execMbistRestore saveCrc readCrc s
  | .stressAck mv freq => Sys2Proof.Machine.execStressAck mv freq s
  | .stressTimeout => Sys2Proof.Machine.execStressTimeout s
  | .heatReached rise => Sys2Proof.Machine.execHeatReached rise s
  | .heatLimit => Sys2Proof.Machine.execHeatLimit s
  | .scrRun a v => Sys2Proof.Machine.execScrRun a v s
  | .analogDue entry => Sys2Proof.Machine.execAnalogDue entry s
  | .testPortAck rdata => Sys2Proof.Machine.execTestPortAck rdata s
  | .testPortTimeout => Sys2Proof.Machine.execTestPortTimeout s
  | .trimRecommend port => Sys2Proof.Machine.execTrimRecommend port s
  | .deepTestAccess => Sys2Proof.Machine.execDeepTestAccess s
  | .verdictUp link bypass v => Sys2Proof.Machine.execVerdictUp link bypass v s
  | .verdictRelayTimeout epoch stroke => Sys2Proof.Machine.execVerdictRelayTimeout epoch stroke s
  | .verdictDown link v => Sys2Proof.Machine.execVerdictDown link v s
  | .horizonMiss epoch stroke => Sys2Proof.Machine.execHorizonMiss epoch stroke s
  | .verdictLost epoch stroke => Sys2Proof.Machine.execVerdictLost epoch stroke s
  | .lateFail link v => Sys2Proof.Machine.execLateFail link v s
  | .blastRecord idx revised => Sys2Proof.Machine.execBlastRecord idx revised s
  | .quarantine a v => Sys2Proof.Machine.execQuarantine a v s
  | .duplexDirectedExpiry port => Sys2Proof.Machine.execDuplexDirectedExpiry port s
  | .progressInc port n => Sys2Proof.Machine.execProgressInc port n s
  | .progressRebind port n ctx active => Sys2Proof.Machine.execProgressRebind port n ctx active s
  | .teardown a v => Sys2Proof.Machine.execTeardown a v s
  | .teardownPart a v => Sys2Proof.Machine.execTeardownPart a v s
  | .fenceDone port err => Sys2Proof.Machine.execFenceDone port err s
  | .fabricFenceDone err => Sys2Proof.Machine.execFabricFenceDone err s
  | .fenceTimeout port => Sys2Proof.Machine.execFenceTimeout port s
  | .lateArrival port => Sys2Proof.Machine.execLateArrival port s
  | .ladderL2 a v => Sys2Proof.Machine.execLadderL2 a v s
  | .ladderL3 a v => Sys2Proof.Machine.execLadderL3 a v s
  | .ladderL4 a v => Sys2Proof.Machine.execLadderL4 a v s
  | .ladderL5 a v => Sys2Proof.Machine.execLadderL5 a v s
  | .engineResetAck port => Sys2Proof.Machine.execEngineResetAck port s
  | .pmResetAck => Sys2Proof.Machine.execPmResetAck s
  | .ladderLevelTimeout idx => Sys2Proof.Machine.execLadderLevelTimeout idx s
  | .trCycleRequest => Sys2Proof.Machine.execTrCycleRequest s
  | .powerCycleTimeout => Sys2Proof.Machine.execPowerCycleTimeout s
  | .join a v blk => Sys2Proof.Machine.execJoin a v blk s
  | .leave a v blk => Sys2Proof.Machine.execLeave a v blk s
  | .joinStroke part => Sys2Proof.Machine.execJoinStroke part s
  | .leaveStroke part => Sys2Proof.Machine.execLeaveStroke part s
  | .alarm link m => Sys2Proof.Machine.execAlarm link m s
  | .rcvAlarm a v => Sys2Proof.Machine.execRcvAlarm a v s
  | .abortAt epoch => Sys2Proof.Machine.execAbortAt epoch s
  | .gateOn a v => Sys2Proof.Machine.execGateOn a v s
  | .gateStep a v => Sys2Proof.Machine.execGateStep a v s
  | .gateOff a v => Sys2Proof.Machine.execGateOff a v s
  | .stepDone port => Sys2Proof.Machine.execStepDone port s
  | .ckptTimer part => Sys2Proof.Machine.execCkptTimer part s
  | .ckptOverdue part => Sys2Proof.Machine.execCkptOverdue part s
  | .laneLock lane => Sys2Proof.Machine.execLaneLock lane s
  | .echo link sendTime echoed residence now => Sys2Proof.Machine.execEcho link sendTime echoed residence now s
  | .hello link h => Sys2Proof.Machine.execHello link h s
  | .cert link frag nfrag data => Sys2Proof.Machine.execCert link frag nfrag data s
  | .share link key => Sys2Proof.Machine.execShare link key s
  | .proof link sig => Sys2Proof.Machine.execProof link sig s
  | .done link mac protectedRtt => Sys2Proof.Machine.execDone link mac protectedRtt s
  | .handshakeTimeout link => Sys2Proof.Machine.execHandshakeTimeout link s
  | .trainTimeout link => Sys2Proof.Machine.execTrainTimeout link s
  | .absentRetry link => Sys2Proof.Machine.execAbsentRetry link s
  | .secondLaneTimeout link => Sys2Proof.Machine.execSecondLaneTimeout link s
  | .flitReceived link lane crcOk tagOk f now => Sys2Proof.Machine.execFlitReceived link lane crcOk tagOk f now s
  | .credit link returned ack => Sys2Proof.Machine.execCredit link returned ack s
  | .nack link lseq returned => Sys2Proof.Machine.execNack link lseq returned s
  | .keyUpdate link lseq => Sys2Proof.Machine.execKeyUpdate link lseq s
  | .rekey link => Sys2Proof.Machine.execRekey link s
  | .retryTimeout link => Sys2Proof.Machine.execRetryTimeout link s
  | .controlFlitTimer link now => Sys2Proof.Machine.execControlFlitTimer link now s
  | .heartbeatMiss link => Sys2Proof.Machine.execHeartbeatMiss link s
  | .creditWait link cls => Sys2Proof.Machine.execCreditWait link cls s
  | .crcWindow link lane => Sys2Proof.Machine.execCrcWindow link lane s
  | .degradedRecovery link => Sys2Proof.Machine.execDegradedRecovery link s
  | .broadcastChunk link src item index data => Sys2Proof.Machine.execBroadcastChunk link src item index data s
  | .broadcastStall item => Sys2Proof.Machine.execBroadcastStall item s
  | .wchBcast a v item => Sys2Proof.Machine.execWchBcast a v item s
  | .routeSelect a v => Sys2Proof.Machine.execRouteSelect a v s
  | .routeWrite a v => Sys2Proof.Machine.execRouteWrite a v s
  | .recordFragment link src f => Sys2Proof.Machine.execRecordFragment link src f s
  | .mailboxPost a window chan v => Sys2Proof.Machine.execMailboxPost a window chan v s
  | .pop a window chan => Sys2Proof.Machine.execPop a window chan s
  | .flush a window chan => Sys2Proof.Machine.execFlush a window chan s
  | .doorbell a window v => Sys2Proof.Machine.execDoorbell a window v s
  | .mailboxEcho slot chan idx => Sys2Proof.Machine.execMailboxEcho slot chan idx s
  | .ledgerRead slot chan idx req => Sys2Proof.Machine.execLedgerRead slot chan idx req s
  | .counters slot chan idx => Sys2Proof.Machine.execCounters slot chan idx s
  | .partState slot chan idx => Sys2Proof.Machine.execPartState slot chan idx s
  | .serviceBusy slot chan idx => Sys2Proof.Machine.execServiceBusy slot chan idx s
  | .slotPowerOn slot => Sys2Proof.Machine.execSlotPowerOn slot s
  | .accessDenied a write addr size => Sys2Proof.Machine.execAccessDenied a write addr size s
  | .registerWrite a addr v => Sys2Proof.Machine.execRegisterWrite a addr v s
  | .sealTimeout => Sys2Proof.Machine.execSealTimeout s
  | .rateWindow idx => Sys2Proof.Machine.execRateWindow idx s
  | .recordCommit ok => Sys2Proof.Machine.execRecordCommit ok s
  | .unitErase unit ok => Sys2Proof.Machine.execUnitErase unit ok s
  | .clear a v blk => Sys2Proof.Machine.execClear a v blk s
  | .release a v blk => Sys2Proof.Machine.execRelease a v blk s
  | .summary => Sys2Proof.Machine.execSummary s
  | .traceArm a buf v => Sys2Proof.Machine.execTraceArm a buf v s
  | .traceTrig a buf v => Sys2Proof.Machine.execTraceTrig a buf v s
  | .tensorWatchWrite a idx v => Sys2Proof.Machine.execTensorWatchWrite a idx v s
  | .memoryAccessDone tag err => Sys2Proof.Machine.execMemoryAccessDone tag err s
  | .memoryAccessTimeout tag => Sys2Proof.Machine.execMemoryAccessTimeout tag s
  | .slotPowerOff slot => Sys2Proof.Machine.execSlotPowerOff slot s
  | .resetAckFall port => Sys2Proof.Machine.execResetAckFall port s
  | .firmwareSourceTimeout => Sys2Proof.Machine.execFirmwareSourceTimeout s
  | .operatingHoursUnit => Sys2Proof.Machine.execOperatingHoursUnit s
  | .laneLockLoss lane => Sys2Proof.Machine.execLaneLockLoss lane s

end Sys2Proof.Machine
end

