-- ==== Sys2Proof/Safety.lean ====
section
/-!
DEFINITION. The terms that the statements use: what a command may touch, who reaches a register, and the invariants of a run.
-/
namespace Sys2Proof.Machine

open Sys2Proof

/-! ### Frames -/

/-- The parts of the block's state (one for each field of `State`). -/
inductive Comp where
  | build | straps | nvm | life | boot | pwr | energies | tcfg | stk | gnd | sents | parts | epochs | chks | judged | judgedStroke | cpy | dgt
  | scr | taint | rcv | wch | slots | mbxs | bus | ldg | mem | nextTag | outs | fresh | pending
  deriving DecidableEq, Repr

/-- A part holds the same in two states. -/
def Comp.same (c : Comp) (s t : State) : Prop :=
  match c with
  | .build => s.build = t.build
  | .straps => s.straps = t.straps
  | .nvm => s.nvm = t.nvm
  | .life => s.life = t.life
  | .boot => s.boot = t.boot
  | .pwr => s.pwr = t.pwr
  | .energies => s.energies = t.energies
  | .tcfg => s.tcfg = t.tcfg
  | .stk => s.stk = t.stk
  | .gnd => s.gnd = t.gnd
  | .sents => s.sents = t.sents
  | .parts => s.parts = t.parts
  | .epochs => s.epochs = t.epochs
  | .chks => s.chks = t.chks
  | .judged => s.judged = t.judged
  | .judgedStroke => s.judgedStroke = t.judgedStroke
  | .cpy => s.cpy = t.cpy
  | .dgt => s.dgt = t.dgt
  | .scr => s.scr = t.scr
  | .taint => s.taint = t.taint
  | .rcv => s.rcv = t.rcv
  | .wch => s.wch = t.wch
  | .slots => s.slots = t.slots
  | .mbxs => s.mbxs = t.mbxs
  | .bus => s.bus = t.bus
  | .ldg => s.ldg = t.ldg
  | .mem => s.mem = t.mem
  | .nextTag => s.nextTag = t.nextTag
  | .outs => s.outs = t.outs
  | .fresh => s.fresh = t.fresh
  | .pending => s.pending = t.pending

/-- Nothing changes between two states outside the parts listed. -/
structure Frame (cs : List Comp) (s t : State) : Prop where
  same : ∀ c, c ∉ cs → c.same s t

/-- The parts that writing a record or an event may change: the rings of sentinels and assemblies, the links that carry it to the pod
fault manager, the slots' interrupts, the ledger, and what the block drives (R340, R350, R361, R363). -/
def logParts : List Comp := [.gnd, .sents, .wch, .slots, .ldg, .mem, .nextTag, .outs, .fresh]

/-- The parts that each command may change; every other part keeps its value. -/
def touches : Instr → List Comp
  | .coldResetAssert .. =>
      logParts ++ [.straps, .nvm, .life, .boot, .pwr, .energies, .tcfg, .stk, .parts, .epochs, .chks, .judged, .judgedStroke, .cpy, .dgt, .scr, .taint, .rcv, .mbxs, .bus]
  | .coldResetDeassert .. => [.straps, .boot, .stk, .wch]
  | .bringupRom .. => logParts ++ [.nvm, .life, .boot, .epochs]
  | .firmwareImageCheck .. => logParts ++ [.nvm, .boot]
  | .firmwareLoadGo .. => logParts ++ [.boot, .bus]
  | .bringupStepTimeout .. => logParts ++ [.nvm, .life, .boot, .stk, .epochs, .cpy]
  | .sentinelAttach .. => [.boot, .gnd, .sents]
  | .censusStart .. => [.boot, .cpy]
  | .censusComplete .. => logParts ++ [.boot, .stk, .cpy]
  | .clockLoss .. => logParts ++ [.nvm, .life, .boot, .pwr, .energies, .parts, .epochs, .chks, .judged, .cpy, .dgt, .scr, .taint, .rcv]
  | .coreClockReturn .. => [.pwr]
  | .coreReset .. =>
      logParts ++ [.nvm, .life, .boot, .pwr, .energies, .parts, .epochs, .chks, .judged, .cpy, .dgt, .scr, .taint, .rcv, .bus]
  | .controlReset .. =>
      logParts ++ [.nvm, .life, .boot, .pwr, .energies, .parts, .epochs, .chks, .judged, .cpy, .dgt, .scr, .taint, .rcv, .bus]
  | .domainResetDone .. => logParts ++ [.nvm, .boot, .pwr, .energies, .parts, .epochs, .chks, .scr, .taint, .rcv, .mbxs]
  | .lockstepMismatch .. =>
      logParts ++ [.nvm, .life, .boot, .pwr, .energies, .parts, .epochs, .chks, .judged, .cpy, .dgt, .scr, .taint, .rcv, .mbxs]
  | .wardenWatchdog .. => logParts ++ [.nvm, .life, .boot, .pwr, .energies, .parts, .epochs, .chks, .judged, .cpy, .dgt, .scr, .taint, .rcv]
  | .powerEstimate .. => [.pwr]
  | .grantStrobe .. => logParts ++ [.pwr]
  | .devkey .. => logParts ++ [.nvm, .life, .bus]
  | .provision .. => logParts ++ [.nvm, .life, .bus]
  | .lifecycleReturn .. => logParts ++ [.nvm, .life, .bus]
  | .serial .. => logParts ++ [.nvm, .life, .bus]
  | .revoke .. => logParts ++ [.nvm, .life, .bus]
  | .otpAccessDone .. => logParts ++ [.nvm, .life, .energies, .parts, .epochs, .chks, .cpy, .dgt, .rcv]
  | .strokeTick .. => logParts ++ [.nvm, .energies, .stk, .parts, .epochs, .chks, .cpy, .dgt, .taint, .rcv]
  | .judgePhase .. =>
      logParts ++ [.nvm, .pwr, .energies, .stk, .parts, .epochs, .chks, .judged, .judgedStroke, .cpy, .dgt, .scr, .taint, .rcv]
  | .publishPhase .. =>
      logParts ++ [.nvm, .energies, .stk, .parts, .epochs, .chks, .judged, .judgedStroke, .cpy, .dgt, .scr, .taint, .rcv, .mbxs]
  | .guardPhase .. =>
      logParts ++ [.nvm, .life, .boot, .pwr, .energies, .stk, .parts, .epochs, .chks, .judged, .cpy, .dgt, .scr, .taint, .rcv, .mbxs]
  | .strokeMarker .. => logParts ++ [.energies, .stk, .parts, .epochs, .chks, .cpy, .dgt, .rcv]
  | .missingMarker .. => [.stk]
  | .pinEdge .. => [.stk]
  | .heartbeat .. => logParts ++ [.energies, .stk, .parts, .epochs, .chks, .cpy, .dgt, .rcv]
  | .strokeEnable .. => logParts ++ [.tcfg, .stk, .bus]
  | .strokeLock .. => logParts ++ [.tcfg, .stk, .bus]
  | .periodWrite .. => logParts ++ [.tcfg, .stk, .bus]
  | .strokeConflictRepeat .. => logParts ++ [.stk]
  | .gndLoadGo .. => logParts ++ [.boot, .bus]
  | .groundImageCheck .. => logParts ++ [.nvm, .boot, .stk, .parts]
  | .groundSourceTimeout .. => logParts ++ [.boot]
  | .nodeAbsent .. => logParts ++ [.energies, .parts, .epochs, .rcv]
  | .censusSummary .. => [.wch, .slots, .ldg, .mem, .nextTag, .outs, .fresh]
  | .cubeCensusTimeout .. => [.wch, .slots, .ldg, .mem, .nextTag, .outs, .fresh]
  | .deputyTimeout .. => [.wch, .slots, .ldg, .mem, .nextTag, .outs, .fresh]
  | .tileClockStop .. => logParts ++ [.nvm, .energies, .parts, .epochs, .chks, .scr, .taint, .rcv]
  | .tileClockStart .. => [.gnd, .sents, .cpy, .ldg, .fresh]
  | .residueOutcome .. => [.sents]
  | .residueCountClose .. => [.sents]
  | .residueInject .. => logParts ++ [.bus]
  | .forceDualWrite .. => logParts ++ [.bus]
  | .rlStatusClear .. => logParts ++ [.bus]
  | .commandTag .. => logParts ++ [.energies, .parts, .epochs, .chks, .cpy, .taint, .rcv]
  | .tapBeat .. => logParts ++ [.energies, .parts, .epochs, .chks, .cpy, .taint, .rcv]
  | .cmdDone .. => logParts ++ [.energies, .parts, .epochs, .chks, .cpy, .taint, .rcv]
  | .duplexRefuse .. => logParts ++ [.energies, .parts, .epochs, .chks, .cpy, .taint, .rcv]
  | .duplexMissing .. => logParts ++ [.energies, .parts, .epochs, .chks, .cpy, .taint, .rcv]
  | .captureTooLong .. => logParts ++ [.energies, .parts, .epochs, .chks, .cpy, .taint, .rcv]
  | .pieceComplete .. => logParts ++ [.nvm, .boot, .energies, .parts, .epochs, .chks, .cpy, .taint, .rcv]
  | .backlogDrop .. => logParts ++ [.energies, .parts, .epochs, .chks, .cpy, .taint, .rcv]
  | .canaryDue .. => [.cpy]
  | .canaryComplete .. => logParts ++ [.nvm, .boot, .cpy]
  | .canaryRun .. => logParts ++ [.cpy, .bus]
  | .cpyStoreWrite .. => logParts ++ [.cpy, .bus]
  | .cpyLock .. => logParts ++ [.cpy, .bus]
  | .peerReq .. => [.cpy, .wch, .ldg, .mem, .nextTag, .outs]
  | .peerData .. => [.cpy]
  | .peerResp .. => logParts ++ [.energies, .parts, .epochs, .chks, .cpy, .taint, .rcv]
  | .peerTimeout .. => logParts ++ [.energies, .parts, .epochs, .chks, .cpy, .taint, .rcv]
  | .copySuspect .. => [.cpy]
  | .tapHeader .. => logParts ++ [.energies, .parts, .epochs, .chks, .dgt, .taint, .rcv]
  | .tapData .. => logParts ++ [.energies, .parts, .epochs, .chks, .dgt, .taint, .rcv]
  | .streamTimeout .. => logParts ++ [.energies, .parts, .epochs, .chks, .dgt, .taint, .rcv]
  | .tallyUp .. => logParts ++ [.energies, .parts, .epochs, .chks, .dgt, .taint, .rcv]
  | .tallyRelayTimeout .. => logParts ++ [.energies, .parts, .epochs, .chks, .dgt, .taint, .rcv]
  | .tallyTotal .. => logParts ++ [.energies, .parts, .epochs, .chks, .dgt, .taint, .rcv]
  | .tallyTotalTimeout .. => logParts ++ [.energies, .parts, .epochs, .chks, .dgt, .taint, .rcv]
  | .exponentProposal .. => logParts ++ [.dgt]
  | .exponentAgreed .. => logParts ++ [.dgt]
  | .xport .. => logParts ++ [.energies, .parts, .epochs, .chks, .dgt, .taint, .rcv]
  | .xportTimeout .. => logParts ++ [.energies, .parts, .epochs, .chks, .dgt, .taint, .rcv]
  | .stepMark .. => logParts ++ [.energies, .parts, .epochs, .chks, .dgt, .taint, .rcv, .bus]
  | .varnish .. => logParts ++ [.dgt, .bus]
  | .varnishCommitted .. => logParts ++ [.parts, .dgt, .rcv]
  | .varnishTimeout .. => [.dgt, .slots]
  | .restore .. => logParts ++ [.dgt, .bus]
  | .restoreShardTimeout .. => logParts ++ [.dgt]
  | .replLoad .. => logParts ++ [.dgt, .bus]
  | .shard .. => logParts ++ [.energies, .parts, .epochs, .chks, .dgt, .taint, .rcv]
  | .voteTimeout .. => logParts ++ [.energies, .parts, .epochs, .chks, .dgt, .taint, .rcv]
  | .voteResult .. => logParts ++ [.energies, .parts, .epochs, .chks, .dgt, .taint, .rcv]
  | .holdOpen .. => logParts ++ [.energies, .parts, .epochs, .chks, .scr, .taint, .rcv]
  | .sliceGrant .. => [.scr, .outs]
  | .grantTimeout .. => logParts ++ [.energies, .parts, .epochs, .chks, .scr, .taint, .rcv]
  | .sliceEligible .. => [.sents]
  | .holdLimit .. => logParts ++ [.nvm, .energies, .parts, .epochs, .chks, .scr, .taint, .rcv]
  | .sliceRunComplete .. => logParts ++ [.nvm, .energies, .parts, .epochs, .chks, .scr, .taint, .rcv]
  | .sliceBudgetExpiry .. => logParts ++ [.nvm, .energies, .parts, .epochs, .chks, .scr, .taint, .rcv]
  | .witnessGrantTimeout .. => logParts ++ [.nvm, .energies, .parts, .epochs, .chks, .scr, .taint, .rcv]
  | .mbistRestore .. => logParts ++ [.nvm, .energies, .parts, .epochs, .chks, .scr, .taint, .rcv]
  | .stressAck .. => logParts ++ [.nvm, .energies, .parts, .epochs, .chks, .scr, .taint, .rcv]
  | .stressTimeout .. => [.scr, .outs]
  | .heatReached .. => [.scr, .outs]
  | .heatLimit .. => [.scr, .outs]
  | .scrRun .. => logParts ++ [.scr, .bus]
  | .analogDue .. => [.scr, .outs]
  | .testPortAck .. => logParts ++ [.nvm, .boot, .scr]
  | .testPortTimeout .. => logParts ++ [.nvm, .boot, .scr]
  | .trimRecommend .. => logParts ++ [.nvm, .scr]
  | .deepTestAccess .. => logParts ++ [.life]
  | .verdictUp .. => logParts ++ [.parts, .epochs, .rcv]
  | .verdictRelayTimeout .. => [.parts, .epochs, .rcv, .wch, .ldg, .mem, .nextTag, .outs]
  | .verdictDown .. => [.parts, .epochs, .rcv, .wch, .ldg, .mem, .nextTag, .outs]
  | .horizonMiss .. => logParts ++ [.epochs]
  | .verdictLost .. => logParts ++ [.energies, .parts, .epochs, .rcv]
  | .lateFail .. => [.epochs, .wch, .ldg, .mem, .nextTag, .outs]
  | .blastRecord .. => logParts ++ [.rcv]
  | .quarantine .. => logParts ++ [.nvm, .energies, .parts, .epochs, .rcv, .bus]
  | .duplexDirectedExpiry .. => [.sents, .chks]
  | .progressInc .. => [.sents]
  | .progressRebind .. => logParts ++ [.rcv]
  | .teardown .. => logParts ++ [.energies, .parts, .epochs, .rcv, .bus]
  | .teardownPart .. => logParts ++ [.energies, .parts, .epochs, .rcv, .bus]
  | .fenceDone .. => logParts ++ [.nvm, .energies, .parts, .epochs, .chks, .cpy, .scr, .taint, .rcv]
  | .fabricFenceDone .. => logParts ++ [.nvm, .energies, .parts, .epochs, .chks, .cpy, .scr, .taint, .rcv]
  | .fenceTimeout .. => logParts ++ [.nvm, .energies, .parts, .epochs, .chks, .cpy, .scr, .taint, .rcv]
  | .lateArrival .. => [.sents, .rcv]
  | .ladderL2 .. => logParts ++ [.nvm, .energies, .parts, .epochs, .chks, .cpy, .scr, .taint, .rcv, .bus]
  | .ladderL3 .. => logParts ++ [.nvm, .energies, .parts, .epochs, .chks, .cpy, .scr, .taint, .rcv, .bus]
  | .ladderL4 .. => logParts ++ [.nvm, .energies, .parts, .epochs, .chks, .cpy, .scr, .taint, .rcv, .bus]
  | .ladderL5 .. => logParts ++ [.nvm, .energies, .parts, .epochs, .chks, .cpy, .scr, .taint, .rcv, .bus]
  | .engineResetAck .. => logParts ++ [.energies, .parts, .epochs, .chks, .cpy, .taint, .rcv]
  | .pmResetAck .. => logParts ++ [.energies, .parts, .epochs, .chks, .cpy, .taint, .rcv]
  | .ladderLevelTimeout .. => logParts ++ [.nvm, .energies, .parts, .epochs, .chks, .cpy, .scr, .taint, .rcv]
  | .trCycleRequest .. => [.rcv, .outs]
  | .powerCycleTimeout .. => logParts ++ [.energies, .parts, .epochs, .rcv]
  | .join .. => logParts ++ [.parts, .epochs, .rcv, .bus]
  | .leave .. => logParts ++ [.parts, .epochs, .rcv, .bus]
  | .joinStroke .. => logParts ++ [.energies, .parts, .rcv]
  | .leaveStroke .. => logParts ++ [.energies, .parts, .epochs, .chks, .cpy, .dgt, .rcv]
  | .alarm .. => logParts ++ [.energies, .parts, .epochs, .chks, .cpy, .dgt, .rcv]
  | .rcvAlarm .. => logParts ++ [.energies, .parts, .epochs, .rcv, .bus]
  | .abortAt .. => logParts ++ [.energies, .parts, .epochs, .chks, .cpy, .dgt, .rcv]
  | .gateOn .. => logParts ++ [.rcv, .bus]
  | .gateStep .. => logParts ++ [.rcv, .bus]
  | .gateOff .. => logParts ++ [.rcv, .bus]
  | .stepDone .. => [.rcv]
  | .ckptTimer .. => logParts ++ [.parts, .rcv]
  | .ckptOverdue .. => logParts ++ [.parts]
  | .laneLock .. => [.wch]
  | .echo .. => logParts ++ [.stk]
  | .hello .. => logParts ++ [.nvm]
  | .cert .. => logParts ++ [.nvm]
  | .share .. => [.wch, .outs]
  | .proof .. => logParts ++ [.nvm]
  | .done .. => logParts ++ [.nvm]
  | .handshakeTimeout .. => logParts ++ [.nvm]
  | .trainTimeout .. => logParts
  | .absentRetry .. => logParts ++ [.nvm]
  | .secondLaneTimeout .. => [.wch]
  | .flitReceived .. => logParts ++ [.nvm, .energies, .stk, .parts, .epochs, .chks, .cpy, .dgt, .taint, .rcv]
  | .credit .. => [.wch, .ldg, .mem, .nextTag, .outs, .fresh]
  | .nack .. => logParts ++ [.nvm]
  | .keyUpdate .. => [.wch]
  | .rekey .. => [.wch, .outs]
  | .retryTimeout .. => logParts ++ [.nvm]
  | .controlFlitTimer .. => [.wch, .outs, .fresh]
  | .heartbeatMiss .. => logParts ++ [.nvm]
  | .creditWait .. => logParts ++ [.nvm]
  | .crcWindow .. => logParts ++ [.nvm]
  | .degradedRecovery .. => [.wch]
  | .broadcastChunk .. => logParts
  | .broadcastStall .. => [.wch]
  | .wchBcast .. => logParts ++ [.bus]
  | .routeSelect .. => logParts ++ [.bus]
  | .routeWrite .. => logParts ++ [.bus]
  | .recordFragment .. => [.wch, .slots, .mem, .nextTag, .outs]
  | .mailboxPost .. => logParts ++ [.mbxs, .bus]
  | .pop .. => logParts ++ [.mbxs, .bus]
  | .flush .. => logParts ++ [.mbxs, .bus]
  | .doorbell .. => logParts ++ [.bus]
  | .mailboxEcho .. => [.slots, .mbxs, .mem, .nextTag, .outs]
  | .ledgerRead .. => [.slots, .mbxs, .mem, .nextTag, .outs]
  | .counters .. => [.slots, .mbxs, .mem, .nextTag, .outs]
  | .partState .. => [.slots, .mbxs, .mem, .nextTag, .outs]
  | .serviceBusy .. => [.slots, .mbxs]
  | .slotPowerOn .. => [.slots]
  | .accessDenied .. => logParts ++ [.bus]
  | .registerWrite .. => logParts ++ [.life, .pwr, .tcfg, .stk, .parts, .cpy, .dgt, .scr, .taint, .rcv, .mbxs, .bus]
  | .sealTimeout .. => [.wch, .slots, .ldg, .mem, .nextTag, .outs]
  | .rateWindow .. => logParts
  | .recordCommit .. => logParts ++ [.nvm]
  | .unitErase .. => [.nvm, .ldg]
  | .clear .. => logParts ++ [.nvm, .bus]
  | .release .. => logParts ++ [.nvm, .bus]
  | .summary .. => logParts
  | .traceArm .. => logParts ++ [.bus]
  | .traceTrig .. => logParts ++ [.bus]
  | .tensorWatchWrite .. => logParts ++ [.bus]
  | .memoryAccessDone .. => logParts ++ [.energies, .parts, .epochs, .chks, .cpy, .taint, .rcv]
  | .memoryAccessTimeout .. => logParts ++ [.energies, .parts, .epochs, .chks, .cpy, .taint, .rcv]
  | .slotPowerOff .. => [.slots]
  | .resetAckFall .. => [.sents, .rcv, .outs]
  | .firmwareSourceTimeout .. => logParts ++ [.boot]
  | .operatingHoursUnit .. => logParts ++ [.nvm, .boot]
  | .laneLockLoss .. => logParts ++ [.nvm]

/-! ### Who reaches a register -/

/-- A write of an access to a register that the privileged view alone reaches completes OKAY (R7, R319, R323, R402). -/
def reaches (s : State) (a : Access) (addr : Nat) : Bool :=
  !s.boot.inReset && privileged s a && (!(controlReset s) || keptWindow addr)

/-- The same for a register of a node's block: the node is in use, and no CONTROL reset runs (R6, R402). -/
def reachesNode (s : State) (a : Access) (n : Nat) : Bool :=
  !s.boot.inReset && privileged s a && nodeUsed s n && !(controlReset s)

/-- The same for a register of the DIGEST window that names partition `k`: slot 0's privileged view, or its owner's (R194, R320). -/
def reachesPart (s : State) (a : Access) (addr k : Nat) : Bool :=
  !s.boot.inReset && mayPart s a k && (!(controlReset s) || keptWindow addr)

/-- The same for a register of a slot's own window; channel 1 asks for HS_SEC (R321, R324). -/
def reachesOwn (s : State) (a : Access) (n : Nat) (secure : Bool) : Bool :=
  !s.boot.inReset && a.slot == n && (!secure || a.sec || privileged s a)

/-! ### Writing a record or an event -/

/-- What writing a record or entering an event changes, part by part: rings of nodes, the queues and credits of links, the slots'
interrupts, the ledger's buffer and counters, and what the block drives; every other field keeps its value. -/
structure Logged (s t : State) : Prop where
  frame : Frame logParts s t
  gnd : t.gnd = { s.gnd with tree := t.gnd.tree }
  tree : tmap t.gnd.tree (fun _ a => { a with ring := {} }) = tmap s.gnd.tree (fun _ a => { a with ring := {} })
  sents : ∀ p, sent t p = { sent s p with ring := (sent t p).ring }
  wch : t.wch = { s.wch with links := t.wch.links, rxHead := t.wch.rxHead, rxOverflow := t.wch.rxOverflow }
  links : ∀ l, link t l = { link s l with
    queue := (link t l).queue, passed := (link t l).passed, retry := (link t l).retry, reserved := (link t l).reserved, shared := (link t l).shared
    borrowed := (link t l).borrowed, outstanding := (link t l).outstanding, txSeq := (link t l).txSeq
    sinceControl := (link t l).sinceControl, err := (link t l).err }
  slots : ∀ n, slot t n = { slot s n with irq := (slot t n).irq, wakeEvent := (slot t n).wakeEvent }
  ldg : t.ldg = { s.ldg with
    next := t.ldg.next, ext := t.ldg.ext, openRec := t.ldg.openRec, openSince := t.ldg.openSince, buffer := t.ldg.buffer, loss := t.ldg.loss
    lost := t.ldg.lost, lossCause := t.ldg.lossCause, rates := t.ldg.rates, traces := t.ldg.traces, gNow := t.ldg.gNow, acc := t.ldg.acc }

/-! ### Invariants of a run -/

/-- The tick settings are ones that R9 admits: PERIOD from 50,000 to 400,000 ns, LEAD from 1 to 15. -/
def TickLegal (s : State) : Prop :=
  50000 ≤ s.tcfg.period ∧ s.tcfg.period ≤ 400000 ∧ 1 ≤ s.tcfg.lead ∧ s.tcfg.lead ≤ 15

/-- Each queue of each mailbox channel holds at most four notices (R324, R329). -/
def MailboxesBounded (s : State) : Prop :=
  ∀ e ∈ s.mbxs, e.2.toBlock.length ≤ 4 ∧ e.2.inService.length ≤ 4 ∧ e.2.toHost.length ≤ 4

/-- Every fuse that is blown in `s` is blown in `t` (R388, R431). -/
def FusesKept (s t : State) : Prop := ∀ a b, (otpWord s a).testBit b = true → (otpWord t a).testBit b = true


end Sys2Proof.Machine
end

