-- ==== Sys2Proof/Certificates/Slice0/Obligations.lean ====
section
/-! DEFINITION. The statements for the provers, one definition each. Where a docstring says "the model's choice" it names the log entry; every
other clause is a rule of the spec, cited by number. Bit positions, addresses and record layouts are those of `Machine/Addr.lean` and
`Machine/Records.lean`. -/

open Sys2Proof Sys2Proof.Machine

/-- COLD_RESET_ASSERT leaves every register at its reset value but the build, the fuses and the record store (R374, R375), and
COLD_RESET_DEASSERT samples the straps: step 2 of bring-up begins, the stroke source is the strap's (an encoding of 3 acts as 1), and the
links that STRAP_LINKS enables are enabled (R394, R397). What waits in the queue still waits (the model's choice, log entry 1). -/
def Obligations.ColdResetRestoresResetValues : Prop :=
  (∀ (n : Nat) (s : State), ∃ t, exec (.coldResetAssert n) s = .next t ∧
    t = { State.reset with
          build := s.build, cpy := resetPools s.build, nvm := t.nvm, life := { ({} : Life) with otp := s.life.otp }, outs := t.outs
          fresh := t.fresh, nextTag := t.nextTag, pending := s.pending } ∧
    t.boot.inReset = true ∧
    (s.boot.inReset = true → t.nvm = { s.nvm with units := s.nvm.units.map (fun u => { u with fails := 0 }) })) ∧
  (∀ (x : Straps) (s : State), s.boot.inReset = true →
    exec (.coldResetDeassert x) s = .next { s with
      straps := x
      stk := { s.stk with source := if x.strokeSrc = 3 then 1 else x.strokeSrc }
      wch := { s.wch with cfg := { s.wch.cfg with linkEn := x.links }, eff := { s.wch.eff with linkEn := x.links } }
      boot := { s.boot with inReset := false, stage := 2, strapInvalid := badStraps x } }) ∧
  (∀ (x : Straps) (s : State), s.boot.inReset = false → exec (.coldResetDeassert x) s = .next s)

/-- A CORE reset starts from a write to PWR_RESET or from the loss of the core clock (R373, R374, R376): it is counted, its cause is in
LAST, the Copyist, the copy store and the digest engine are empty, and the WATCH, RECORD and CONTROL domains' registers outside the rule
stay. -/
def Obligations.CoreResetEmptiesTheCoreDomain : Prop :=
  (∀ (a : Access) (v : Word) (s : State), reaches s a aPwrReset = true → fbit v 63 = true → fbit v 62 = false → domainReset s 2 = false →
    ∃ t, exec (.coreReset a v) s = .next t ∧ t.bus = { ack := true, err := false, rdata := 0 } ∧
      t.pwr = { s.pwr with running := s.pwr.running ++ [{ domain := 2, cause := 1 }], last := 1, coreResets := satInc 16 s.pwr.coreResets } ∧
      t.cpy.captures = [] ∧ t.cpy.duplexes = [] ∧ t.cpy.peerIn = [] ∧ t.cpy.peerOut = [] ∧ t.cpy.backlog = 0 ∧ t.cpy.ringHead = 0 ∧
      t.dgt.streams = [] ∧ t.dgt.tally = [] ∧ t.dgt.exps = [] ∧ t.dgt.xports = [] ∧ t.dgt.repl = [] ∧ t.dgt.votes = [] ∧
      t.stk = s.stk ∧ t.tcfg = s.tcfg ∧ t.life = s.life ∧ t.boot = s.boot ∧ t.nvm = s.nvm ∧ t.scr = s.scr ∧ t.mbxs = s.mbxs) ∧
  (∀ s : State, s.boot.inReset = false → s.pwr.clockLost = false → domainReset s 2 = false →
    ∃ t, exec .clockLoss s = .next t ∧
      t.pwr = { s.pwr with
        clockLost := true, running := s.pwr.running ++ [{ domain := 2, cause := 5 }], last := 5, coreResets := satInc 16 s.pwr.coreResets } ∧
      t.cpy.captures = [] ∧ t.cpy.duplexes = [] ∧ t.dgt.streams = [] ∧ t.dgt.tally = [] ∧
      t.stk = s.stk ∧ t.tcfg = s.tcfg ∧ t.life = s.life ∧ t.boot = s.boot ∧ t.nvm = s.nvm ∧ t.scr = s.scr ∧ t.mbxs = s.mbxs)

/-- A CONTROL reset starts from a write to PWR_RESET or from the warden watchdog, or a lockstep mismatch, which is a self-fault as well
(R374, R376, R377, R379): it is counted with its cause, the block is not READY, bring-up is back at step 2, and the stroke, its
configuration, the straps and the fuses keep their values. -/
def Obligations.ControlResetAndSelfFaults : Prop :=
  (∀ (a : Access) (v : Word) (s : State), reaches s a aPwrReset = true → fbit v 62 = true → fbit v 63 = false → domainReset s 3 = false →
    ∃ t, exec (.controlReset a v) s = .next t ∧
      t.pwr = { s.pwr with
        running := s.pwr.running ++ [{ domain := 3, cause := 1 }], last := 1, controlResets := satInc 16 s.pwr.controlResets
        ramp := if s.pwr.lock then s.pwr.ramp else 8, restore := 10, forceShed := 0 } ∧
      t.boot.stage = 2 ∧ t.boot.ready = false ∧ t.boot.attached = false ∧ t.gnd.done = false ∧ t.chks = [] ∧
      t.bus = { ack := true, err := false, rdata := 0 } ∧ t.stk = s.stk ∧ t.tcfg = s.tcfg ∧ t.straps = s.straps ∧ t.mbxs = s.mbxs) ∧
  (∀ s : State, s.boot.inReset = false → domainReset s 3 = false →
    ∃ t, exec .wardenWatchdog s = .next t ∧
      t.pwr = { s.pwr with
        running := s.pwr.running ++ [{ domain := 3, cause := 4 }], last := 4, controlResets := satInc 16 s.pwr.controlResets
        ramp := if s.pwr.lock then s.pwr.ramp else 8, restore := 10, forceShed := 0 } ∧
      t.boot.stage = 2 ∧ t.boot.ready = false ∧ t.boot.attached = false ∧ t.gnd.done = false ∧ t.chks = [] ∧
      t.bus = s.bus ∧ t.stk = s.stk ∧ t.tcfg = s.tcfg ∧ t.straps = s.straps ∧ t.mbxs = s.mbxs) ∧
  (∀ (d : Nat) (s : State), s.boot.inReset = false → d = 2 ∨ d = 3 →
    ∃ t, exec (.lockstepMismatch d) s = .next t ∧ domainReset t d = true ∧
      t.pwr.selfFaults = satInc 16 s.pwr.selfFaults ∧ t.pwr.lastSelfFault = some (now s) ∧
      (domainReset s d = false → t.pwr.last = 2) ∧ t.stk = s.stk ∧ t.tcfg = s.tcfg ∧ t.straps = s.straps ∧ t.bus = s.bus)

/-- An estimate enters the mean, the peak and the energy, and a grant is in force at once; either may gate the copy units' clock, and a grant
below the floor sets PM_OVERDRAW (R381 to R386). A reset of the CORE or the CONTROL domain ends (R373, R376, R377): it leaves the running resets and is recorded, and after a CONTROL
reset bring-up goes on with step 5, 4 or 3, by what is loaded. A CORE reset that clock loss holds goes on. An operating-hours unit of
1/64 h counts in the block and in the record store (R32). -/
def Obligations.GrantsResetsAndHoursCount : Prop :=
  (∀ (e : Nat) (s : State), s.boot.inReset = false →
    exec (.powerEstimate e) s = .next { s with pwr := { s.pwr with
      pinEst := e % 1024, est := e % 1024, ests := (e % 1024 :: s.pwr.ests).take 500, peak := Nat.max s.pwr.peak (e % 1024)
      energy := satAdd (2 ^ 65 - 1) s.pwr.energy (e % 1024), gating := s.pwr.gating || decide (s.pwr.grant < e % 1024) } }) ∧
  (∀ (g : Nat) (s : State), s.boot.inReset = false →
    ∃ t, exec (.grantStrobe g) s = .next t ∧
      t.pwr = { s.pwr with
        grant := g % 1024, grantSeen := true, gating := s.pwr.gating || decide (g % 1024 < s.pwr.est)
        overdraw := decide (g % 1024 < 36) } ∧
      Frame (logParts ++ [.pwr]) s t ∧
      (s.pwr.overdraw = decide (g % 1024 < 36) → t = { s with pwr := t.pwr })) ∧
  (∀ s : State, exec .coreClockReturn s = .next { s with pwr := { s.pwr with clockLost := false } }) ∧
  (∀ (r : DomReset) (s : State), s.pwr.running.find? (fun x => x.domain == 2) = some r → s.pwr.clockLost = false →
    exec (.domainResetDone 2) s = .next (recordBlock .domainReset (le 1 r.cause ++ le 1 r.domain ++ le 2 r.row ++ le 4 r.expected ++ le 4 r.found)
      { s with pwr := { s.pwr with running := s.pwr.running.filter (fun x => !(x.domain == 2)) } })) ∧
  (∀ (r : DomReset) (s : State), s.pwr.running.find? (fun x => x.domain == 3) = some r →
    ∃ t, exec (.domainResetDone 3) s = .next t ∧
      t.pwr = { s.pwr with running := s.pwr.running.filter (fun x => !(x.domain == 3)) } ∧ controlReset t = false ∧
      t.boot.stage = (if s.gnd.state = 3 then 5 else if s.boot.fw.isSome then 4 else 3) ∧ t.boot.linksSettled = (s.gnd.state == 3)) ∧
  (∀ (d : Nat) (s : State), s.pwr.running.find? (fun x => x.domain == d) = none ∨ (d = 2 ∧ s.pwr.clockLost = true) →
    exec (.domainResetDone d) s = .next s) ∧
  (∀ s : State, s.boot.inReset = false → 3 ≤ s.boot.stage →
    ∃ t, exec .operatingHoursUnit s = .next t ∧ t.boot = { s.boot with hours := satInc 32 s.boot.hours } ∧
      (satInc 32 s.boot.hours % 64 ≠ 0 → s.nvm.readable = true →
        t = { s with boot := { s.boot with hours := satInc 32 s.boot.hours }, nvm := { s.nvm with ophours := satInc 32 s.boot.hours } }))

/-- Warden ROM, step 2 of bring-up (R352, R377, R389, R391, R397): the operating hours and power cycles come from the record store, the
cycle counts, the key store is unwrapped only in PROVISIONED and is locked, and step 3 follows. A store that cannot be read gives hours and
cycles of 0. In BLANK and RETURN scan is granted only when the secrets read back as zero within three attempts (R219). -/
def Obligations.BringupRomUnwrapsAndScans : Prop :=
  (∀ (keyOk : Bool) (z : List Nat) (s : State), atStage s 2 = true →
    ∃ t, exec (.bringupRom true keyOk z) s = .next t ∧
      t.boot = { s.boot with hours := s.nvm.ophours, cycles := satInc 24 s.nvm.pcycle, stage := 3, strapInvalid := [] } ∧
      t.nvm.readable = true ∧ t.nvm.pcycle = satInc 24 s.nvm.pcycle ∧ t.nvm.units = s.nvm.units ∧ t.life.keyLock = true ∧
      t.life.keys = (if keyOk = true ∧ lifeState s = 1 then s.nvm.keyStore else none) ∧
      (lifeState s ≠ 1 → t.life.scanOk = decide (z.length < 3))) ∧
  (∀ (keyOk : Bool) (z : List Nat) (s : State), atStage s 2 = true →
    ∃ t, exec (.bringupRom false keyOk z) s = .next t ∧ t.boot = { s.boot with hours := 0, cycles := 0, stage := 3, strapInvalid := [] } ∧
      t.nvm.readable = false ∧ t.nvm.pcycle = s.nvm.pcycle ∧ t.nvm.units = s.nvm.units ∧ t.ldg.noStore = true) ∧
  (∀ (b k : Bool) (z : List Nat) (s : State), atStage s 2 = false → exec (.bringupRom b k z) s = .next s)

/-- The firmware image (R395, R396). An image that is checked at step 3, from the record store copy that is being tried, from slot 0
after a GO, or from a broadcast, runs when every check of R71's orders 1 to 7 passes: its hash is kept and step 4 begins. One that fails
is refused with the code of the first failed check and FW_REJECT is written. A source that gives no image within its limit fails with 0x0D. -/
def Obligations.FirmwareIsCheckedBeforeItRuns : Prop :=
  (∀ (src : Nat) (img bs : List Byte) (s : State), atStage s 3 = true → s.boot.fw = none →
    (((src = srcA ∨ src = srcB) ∧ nextAuto s s.boot.tried = some src ∧ s.nvm.readable = true ∧
        bs = copyRead (if src = srcA then s.nvm.fwA else s.nvm.fwB) img) ∨
      (src = srcSlot ∧ s.boot.loading = true ∧ bs = img) ∨
      (src = srcWatch ∧ (nextAuto s s.boot.tried = some srcWatch ∨ nextAuto s s.boot.tried = none) ∧ broadcastImage s 1 = some bs)) →
    ∃ t, exec (.firmwareImageCheck src img) s = .next t ∧
      (firmwareCheck s bs = 0 →
        t.boot.fw = some bs ∧ t.boot.fwHash = Config.sha384 bs ∧ t.boot.stage = 4 ∧ t.boot.err = 0 ∧ t.boot.source = src) ∧
      (firmwareCheck s bs ≠ 0 →
        t.boot = { s.boot with source := src, err := firmwareCheck s bs, loading := false, tried := triedToo src s.boot.tried })) ∧
  (∀ (a : Access) (v : Word) (s : State), reaches s a aPwrBoot = true → fbit v 63 = true → s.boot.stage ≤ 3 → s.boot.fw = none →
    s.boot.loading = false → nextAuto s s.boot.tried = none → fld v 47 0 % 64 = 0 →
    exec (.firmwareLoadGo a v) s = .next (busOk { s with
      boot := { s.boot with addr := fld v 47 0, loading := true, source := srcSlot, err := 0 } })) ∧
  (∀ (a : Access) (v : Word) (s : State), reaches s a aPwrBoot = true → fbit v 63 = false →
    exec (.firmwareLoadGo a v) s = .next (busOk { s with
      boot := { s.boot with addr := fld v 47 0 } })) ∧
  (∀ (src : Nat) (s : State), atStage s 3 = true → s.boot.fw = none →
    (s.boot.loading = true ∧ src = srcSlot) ∨ (s.boot.loading = false ∧ nextAuto s s.boot.tried = some src) →
    exec .firmwareSourceTimeout s = .next (recordBlock .fwReject (le 1 0x0D ++ le 1 src ++ zeros 2 ++ le 4 0)
      { s with boot := { s.boot with source := src, err := 0x0D, loading := false, tried := triedToo src s.boot.tried } }))

/-- Steps 5 to 7 of bring-up and the limits of the steps (R76, R77, R127, R397): a port attaches with its channels and canary or is
FAILED; census tests every copy unit that has not failed for good and the enabled GOLDEN entries; with nothing left it makes the block READY.
A step past its limit goes on without what is missing. -/
def Obligations.CensusMakesTheBlockReady : Prop :=
  (∀ (ports : List PortAttach) (s : State), atStage s 5 = true → s.gnd.state = 3 → s.boot.attached = false →
    ∃ t, exec (.sentinelAttach ports) s = .next t ∧ t.boot = { s.boot with attached := true } ∧ Frame [.gnd, .sents, .boot] s t) ∧
  (∀ (x : PortAttach) (s : State), atStage s 5 = true → s.gnd.state = 3 → s.boot.attached = false → shownPort s x.port = true →
    (tile s x.port).state ≠ tsFailed →
    ∃ t, exec (.sentinelAttach [x]) s = .next t ∧ (sent t x.port).attached = x.ok ∧ (sent t x.port).failed = !x.ok ∧
      (x.ok = true → t.gnd = s.gnd ∧ (sent t x.port).rl.channels = x.channels % 16 ∧ (sent t x.port).canary.wired = x.canary) ∧
      (x.ok = false → (tile t x.port).state = tsFailed)) ∧
  (∀ s : State, atStage s 5 = true → s.gnd.state = 3 → s.boot.attached = true → linksDone s = true →
    ∃ t, exec .censusStart s = .next t ∧ Frame [.boot, .cpy] s t ∧
      t.boot = { s.boot with
        stage := 7, canaryTodo := (unitNos s).filter (fun u => !(cunit s u).perm), goldenTodo := censusEntries s skArith
        analogTodo := if s.scr.cfg.analogEn then censusEntries s skAnalog else [] }) ∧
  (∀ s : State, atStage s 7 = true → s.boot.canaryTodo = [] → s.boot.goldenTodo = [] → s.boot.analogTodo = [] →
    ∃ t, exec .censusComplete s = .next t ∧ t.boot = { s.boot with ready := true, readyStroke := now s, stage := 8 } ∧ t.gnd.done = true ∧
      t.gnd.vacancies = []) ∧
  (∀ s : State, atStage s 5 = true → s.boot.attached = false →
    ∃ t, exec .bringupStepTimeout s = .next t ∧ t.boot = { s.boot with attached := true }) ∧
  (∀ s : State, atStage s 5 = true → s.boot.attached = true → linksDone s = false →
    ∃ t, exec .bringupStepTimeout s = .next t ∧ t.boot = { s.boot with linksSettled := true }) ∧
  (∀ s : State, atStage s 7 = true → ∃ t, exec .bringupStepTimeout s = .next t ∧ t.boot.ready = true ∧ t.boot.stage = 8 ∧ t.gnd.done = true) ∧
  (∀ s : State, atStage s 2 = true → ∃ t, exec .bringupStepTimeout s = .next t ∧ t.boot.stage = 3 ∧ t.nvm.readable = false ∧ t.life.keys = none)

/-- The ground image (R70 to R73): GO starts an attempt at step 4, waits before it, and is denied once an image is loaded. An image of the
attempt that runs is loaded when the checks of R71 pass, and bring-up goes on with step 5; a failed attempt sets ERR, writes GROUND_REJECT
and goes on with the next source, or the window is FAILED. -/
def Obligations.GroundImageLoadsAfterItsChecks : Prop :=
  (∀ (a : Access) (v : Word) (s : State), reaches s a aGndLoad = true → fbit v 63 = true → s.gnd.state ≠ 3 → s.gnd.state ≠ 1 →
    s.boot.stage = 4 → fld v 47 0 % 64 = 0 →
    exec (.gndLoadGo a v) s = .next (busOk { s with
      gnd := { s.gnd with addr := fld v 47 0, state := 1, source := srcSlot, err := 0, attempts := satInc 16 s.gnd.attempts, pendingGo := false } })) ∧
  (∀ (a : Access) (v : Word) (s : State), reaches s a aGndLoad = true → fbit v 63 = true → s.gnd.state ≠ 3 → s.gnd.state ≠ 1 →
    s.boot.stage ≠ 4 →
    exec (.gndLoadGo a v) s = .next (busOk { s with
      gnd := { s.gnd with addr := fld v 47 0, pendingGo := true } })) ∧
  (∀ (a : Access) (v : Word) (s : State), reaches s a aGndLoad = true → fbit v 63 = true → s.gnd.state = 3 →
    exec (.gndLoadGo a v) s = .next (busOk (recordBlock .groundReloadDenied (le 1 a.slot ++ zeros 3)
      { s with gnd := { s.gnd with addr := fld v 47 0 } }))) ∧
  (∀ (src : Nat) (img bs : List Byte) (s : State), atStage s 4 = true → s.gnd.state = 1 → s.gnd.source = src →
    (((src = srcA ∨ src = srcB) ∧ s.nvm.readable = true ∧ bs = copyRead (if src = srcA then s.nvm.groundA else s.nvm.groundB) img) ∨
      (src = srcSlot ∧ bs = img) ∨ (src = srcWatch ∧ broadcastImage s 2 = some bs)) →
    ∃ t, exec (.groundImageCheck src img) s = .next t ∧
      (imageCheck s bs = 0 → t.gnd.state = 3 ∧ t.gnd.err = 0 ∧ t.gnd.source = src ∧ t.gnd.serial = rd bs 12 4 ∧ t.gnd.configDigest = digestOf s bs ∧
        t.boot = { s.boot with stage := 5 }) ∧
      (imageCheck s bs ≠ 0 → nextAuto s (triedToo src s.boot.gTried) = none →
        t.gnd.state = 4 ∧ t.gnd.err = imageCheck s bs ∧ t.boot = { s.boot with gTried := triedToo src s.boot.gTried })) ∧
  (∀ s : State, atStage s 4 = true → s.gnd.state = 1 →
    ∃ t, exec .groundSourceTimeout s = .next t ∧ t.boot = { s.boot with gTried := triedToo s.gnd.source s.boot.gTried } ∧
      (nextAuto s (triedToo s.gnd.source s.boot.gTried) = none → t.gnd.state = 4 ∧ t.gnd.err = 0x0D) ∧
      (∀ x, nextAuto s (triedToo s.gnd.source s.boot.gTried) = some x → t.gnd.state = 1 ∧ t.gnd.source = x ∧
        t.gnd.attempts = satInc 16 s.gnd.attempts))

/-- The tree and the cube (R50, R78, R308): a used assembly that stops answering is ABSENT and recorded at its parent; a census summary of
the cube is kept, one for each chip, with the stroke of the first; the warden reports after 1,000 strokes and the deputy, which has seen no
report, after 2,000. -/
def Obligations.AbsentNodesAndTheCubeCensus : Prop :=
  (∀ (n : Nat) (s : State), n < 0x800 → nodeUsed s n = true → (asm s n).absent = false →
    exec (.nodeAbsent n) s = .next (forEach ((validParts s).filter (fun k => (portsBelow s n).any (fun p => (tile s p).part == k)))
      (fun k x => holdPart k (alarmPart 0x0B k n (zeros 16) x))
      (record .nodeAbsent (parentOf s n) (le 2 n ++ le 2 (portsBelow s n).length)
        { s with gnd := { s.gnd with tree := tadj s.gnd.tree n (fun a => { a with absent := true }) } }))) ∧
  (∀ (c : CensusSummary) (s : State), s.wch.warden = 1 ∨ s.wch.warden = 2 → c.chip / 64 = s.wch.chip / 64 →
    ∃ t, exec (.censusSummary c) s = .next t ∧ t.wch.censusGot = s.wch.censusGot.filter (fun x => !(x.chip == c.chip)) ++ [c] ∧
      t.wch.censusAt = some (s.wch.censusAt.getD (now s)) ∧
      (t.wch.cubeSent = true ↔ s.wch.cubeSent = true ∨ (s.wch.warden = 1 ∧ 64 ≤ t.wch.censusGot.length))) ∧
  (∀ s : State, s.wch.warden = 1 → cubeDue s 1000 = true → s.wch.cubeSent = false →
    ∃ t, exec .cubeCensusTimeout s = .next t ∧ t.wch.cubeSent = true ∧ t.wch.censusGot = s.wch.censusGot) ∧
  (∀ s : State, s.wch.warden = 2 → cubeDue s 2000 = true → s.wch.cubeCopy = false → s.wch.cubeSent = false →
    ∃ t, exec .deputyTimeout s = .next t ∧ t.wch.cubeSent = true ∧ t.wch.censusGot = s.wch.censusGot) ∧
  (∀ s : State, cubeDue s 1000 = false → exec .cubeCensusTimeout s = .next s) ∧
  (∀ s : State, cubeDue s 2000 = false ∨ s.wch.cubeCopy = true → exec .deputyTimeout s = .next s)

/-- The stroke (R11, R13, R26): at the next tick time the number advances and Gather begins, whatever else is in reset; the phase boundaries
follow in order, Judge and Publish name the stroke before as the judged one, and out of a CONTROL reset each phase does its work. A phase
boundary out of order changes nothing. -/
def Obligations.TicksAndPhasesFollowInOrder : Prop :=
  (∀ (sig : TickSignals) (n x : Nat) (s : State), nextTickOf s = some (n, x) →
    ∃ t, exec (.strokeTick sig) s = .next t ∧ t.stk.stroke = n ∧ t.stk.phase = 0 ∧ t.stk.ticked = true ∧ t.stk.tickTime = x ∧
      t.tcfg = s.tcfg ∧ t.pwr = s.pwr ∧ t.boot = s.boot ∧ t.mbxs = s.mbxs ∧ t.bus = s.bus) ∧
  (∀ (sig : TickSignals) (s : State), nextTickOf s = none → exec (.strokeTick sig) s = .next s) ∧
  (∀ (u : List Nat) (s : State), s.stk.ticked = true → s.stk.phase = 0 →
    ∃ t, exec (.judgePhase u) s = .next t ∧ t.stk = { s.stk with phase := 1 } ∧ t.tcfg = s.tcfg ∧ t.boot = s.boot ∧ t.mbxs = s.mbxs ∧
      (controlReset s = false → t.judgedStroke = now s - 1) ∧ (controlReset s = true → t = { s with stk := t.stk })) ∧
  (∀ s : State, s.stk.ticked = true → s.stk.phase = 1 →
    ∃ t, exec .publishPhase s = .next t ∧ t.stk = { s.stk with phase := 2 } ∧ t.tcfg = s.tcfg ∧ t.boot = s.boot ∧ t.pwr = s.pwr ∧
      (controlReset s = false → t.judgedStroke = now s - 1) ∧ (controlReset s = true → t = { s with stk := t.stk })) ∧
  (∀ (l : List AuditReading) (s : State), s.stk.ticked = true → s.stk.phase = 2 → (∀ x ∈ l, x.expected = x.found) →
    exec (.guardPhase l) s = .next { s with stk := { s.stk with phase := 3 } }) ∧
  (∀ (l : List AuditReading) (u : List Nat) (s : State), s.stk.ticked = false →
    exec (.judgePhase u) s = .next s ∧ exec .publishPhase s = .next s ∧ exec (.guardPhase l) s = .next s) ∧
  (∀ (l : List AuditReading) (u : List Nat) (s : State), s.stk.phase ≠ 0 → s.stk.phase ≠ 1 → s.stk.phase ≠ 2 →
    exec (.judgePhase u) s = .next s ∧ exec .publishPhase s = .next s ∧ exec (.guardPhase l) s = .next s)

/-- Where a follower's ticks come from (R15, R16, R18 to R20, R22, R24): the first marker of its number schedules the tick LEAD periods after
it left the master, less the delays; a marker that the image does not admit counts as FOREIGN. A missing marker or edge is replaced by the
block's own counter, or ends the run of an acquiring block; an early edge counts as a RUNT. Nothing but the STROKE window changes, and for a
marker what forwarding it changes. -/
def Obligations.FollowersScheduleTheirTicks : Prop :=
  (∀ (l : Nat) (m : Marker) (now0 r : Nat) (s : State), l < s.build.links → s.stk.source = 1 → s.gnd.state = 3 → m.master = s.gnd.pod.master →
    m.hops < 255 → l = s.gnd.chip.parentLink ∨ s.gnd.chip.backups.contains l = true → s.stk.state = 2 ∨ s.stk.state = 3 →
    m.acc + tgetD s.stk.linkDelay l 0 ≤ m.lead * s.tcfg.period → s.stk.seen.any (fun e => e.1 == m.num) = false →
    m.num = ownAt s (now0 + m.lead * s.tcfg.period - (m.acc + tgetD s.stk.linkDelay l 0)) →
    ∃ t, exec (.strokeMarker l m now0 r) s = .next t ∧ Frame [.stk, .wch, .ldg, .mem, .nextTag, .outs] s t ∧
      t.stk = { s.stk with
        sched := insBy Prod.snd (s.stk.sched.filter (fun e => !(e.1 == m.num))) (m.num, now0 + m.lead * s.tcfg.period - (m.acc + tgetD s.stk.linkDelay l 0))
        seen := ((m.num, l) :: s.stk.seen).take 64, lastNum := some m.num
        parentSeen := t.stk.parentSeen, backupSeen := t.stk.backupSeen, skewLast := t.stk.skewLast, skewMax := t.stk.skewMax }) ∧
  (∀ (l : Nat) (m : Marker) (now0 r : Nat) (s : State), l < s.build.links →
    s.gnd.state ≠ 3 ∨ m.master ≠ s.gnd.pod.master ∨ (s.stk.source = 1 ∧ 255 ≤ m.hops) →
    exec (.strokeMarker l m now0 r) s = .next { s with stk := { s.stk with foreign := satInc 16 s.stk.foreign } }) ∧
  (∀ (l : Nat) (m : Marker) (now0 r : Nat) (s : State), l < s.build.links → s.stk.source ≠ 1 → s.gnd.state = 3 → m.master = s.gnd.pod.master →
    exec (.strokeMarker l m now0 r) s = .next s) ∧
  (∀ s : State, s.stk.source ≠ 0 → s.stk.sched.any (fun e => e.1 == now s + 1) = false → s.stk.state = 2 ∨ s.stk.state = 3 ∨ s.stk.state = 4 →
    exec .missingMarker s = .next { s with stk := { s.stk with
      sched := insBy Prod.snd (s.stk.sched.filter (fun e => !(e.1 == now s + 1))) (now s + 1, s.stk.nextTick + ownDelay s), flyTick := true } }) ∧
  (∀ s : State, s.stk.source ≠ 0 → s.stk.sched.any (fun e => e.1 == now s + 1) = false → s.stk.state = 1 →
    exec .missingMarker s = .next { s with stk := { s.stk with valid4 := 0, edgeRun := 0, nextTick := s.stk.nextTick + s.tcfg.period } }) ∧
  (∀ (now0 : Nat) (s : State), s.stk.source = 2 → s.stk.state ≠ 0 → s.stk.ticked = true → now0 + s.tcfg.period / 100 < s.stk.nextTick →
    exec (.pinEdge now0) s = .next { s with stk := { s.stk with runt := satInc 16 s.stk.runt } }) ∧
  (∀ (now0 : Nat) (s : State), s.stk.source = 2 → s.stk.state = 2 ∨ s.stk.state = 3 → s.stk.ticked = true →
    s.stk.nextTick ≤ now0 + s.tcfg.period / 100 → now0 ≤ s.stk.nextTick + s.tcfg.period / 100 →
    exec (.pinEdge now0) s = .next { s with stk := { s.stk with
      sched := insBy Prod.snd (s.stk.sched.filter (fun e => !(e.1 == now s + 1))) (now s + 1, now0), edgeRun := s.stk.edgeRun + 1 } }) ∧
  (∀ (now0 : Nat) (s : State), s.stk.source = 2 → s.stk.state ≠ 0 → s.stk.ticked = false →
    exec (.pinEdge now0) s = .next { s with stk := { s.stk with
      sched := insBy Prod.snd (s.stk.sched.filter (fun e => !(e.1 == s.tcfg.start))) (s.tcfg.start, now0), edgeRun := 1
      nextTick := now0 + s.tcfg.period } })

/-- STK_CFG (R9, R10, R12, R15): an admitted PERIOD and LEAD are taken until LOCK, others set CFG_ERR; LOCK stays; ENABLE stays, and makes a
follower acquire. A master that the loaded image does not name does not tick: STROKE_CONFLICT, again on each repeat. -/
def Obligations.StrokeConfigurationIsCheckedAndLocked : Prop :=
  (∀ (a : Access) (v : Word) (s : State), reaches s a aStkCfg = true → fbit v 63 = false → fbit v 32 = false → s.tcfg.lock = false →
    exec (.periodWrite a v) s = .next (busOk { s with
      tcfg := { s.tcfg with
        period := if 50000 ≤ fld v 19 0 ∧ fld v 19 0 ≤ 400000 then fld v 19 0 else s.tcfg.period
        lead := if 1 ≤ fld v 31 28 ∧ fld v 31 28 ≤ 15 then fld v 31 28 else s.tcfg.lead }
      stk := { s.stk with cfgErr := s.stk.cfgErr || !(periodOk (fld v 19 0)) || !(leadOk (fld v 31 28)) } })) ∧
  (∀ (a : Access) (v : Word) (s : State), reaches s a aStkCfg = true → fbit v 32 = false → s.tcfg.lock = true →
    exec (.periodWrite a v) s = .next (busOk s)) ∧
  (∀ (a : Access) (v : Word) (s : State), reaches s a aStkCfg = true → fbit v 63 = true → fbit v 32 = false → s.tcfg.lock = false →
    s.gnd.state ≠ 3 → 50000 ≤ fld v 19 0 → fld v 19 0 ≤ 400000 → 1 ≤ fld v 31 28 →
    exec (.strokeLock a v) s = .next (busOk { s with
      tcfg := { s.tcfg with lock := true, period := fld v 19 0, lead := fld v 31 28 } })) ∧
  (∀ (a : Access) (v : Word) (s : State), reaches s a aStkCfg = true → fbit v 63 = false → fbit v 32 = true → s.tcfg.lock = true →
    s.tcfg.enable = false → s.stk.source = 1 →
    exec (.strokeEnable a v) s = .next (busOk { s with
      tcfg := { s.tcfg with enable := true }, stk := { s.stk with enabledAt := now s, state := 1 } })) ∧
  (∀ (a : Access) (v : Word) (s : State), reaches s a aStkCfg = true → fbit v 63 = false → fbit v 32 = true → s.tcfg.lock = true →
    s.tcfg.enable = false → s.stk.source = 0 → s.gnd.state = 3 → s.wch.chip ≠ s.gnd.pod.master →
    exec (.strokeEnable a v) s = .next (busOk (recordBlock .strokeConflict (le 1 1 ++ le 1 0xFF ++ zeros 2 ++ le 4 s.gnd.pod.master ++ zeros 12)
      { s with
        tcfg := { s.tcfg with enable := true }
        stk := { s.stk with enabledAt := now s, conflictMaster := true, conflictAt := now s } }))) ∧
  (∀ s : State, s.stk.conflictMaster = true → s.stk.source = 0 → ticking s = false →
    exec .strokeConflictRepeat s = .next (recordBlock .strokeConflict (le 1 1 ++ le 1 0xFF ++ zeros 2 ++ le 4 s.gnd.pod.master ++ zeros 12)
      { s with stk := { s.stk with conflictMaster := true, conflictAt := now s } }))

/-- Heartbeats (R75, R163, R302, R312, R313): on an open link the partner is alive, and its stroke and epochs are noted; a block not fed by
the pins takes nothing else from one whose configuration digest is its own on a link that is no tunnel. A heartbeat on a closed link changes
nothing. At the pins it goes on to the numbering rules (R25). -/
def Obligations.HeartbeatsKeepTheLinkAlive : Prop :=
  (∀ (l : Nat) (h : Heart) (n : Nat) (s : State), l < s.build.links → linkOpen (link s l) = true → s.stk.source ≠ 2 → isTunnel s l = false →
    fit 16 h.config = fit 16 s.gnd.configDigest →
    exec (.heartbeat l h n) s = .next (modLink l (fun k => { k with hbSeen := true, hbMissed := 0, hbStroke := h.num, hbEpochs := h.epochs.take 12 }) s)) ∧
  (∀ (l : Nat) (h : Heart) (n : Nat) (s : State), l < s.build.links → linkOpen (link s l) = true → s.stk.source ≠ 2 → isTunnel s l = false →
    fit 16 h.config ≠ fit 16 s.gnd.configDigest →
    ∃ t, exec (.heartbeat l h n) s = .next t ∧ (link t l).cfgMismatch = true ∧ (link t l).hbSeen = true ∧ (link t l).hbMissed = 0 ∧
      t.stk = s.stk ∧ Frame logParts s t ∧
      (∀ x, (link s l).mismatchAt = some x → now s < x + 1024 → ∃ u, t = modLink l u s)) ∧
  (∀ (l : Nat) (h : Heart) (n : Nat) (s : State), l < s.build.links → linkOpen (link s l) = true → s.stk.source = 2 → isTunnel s l = false →
    fit 16 h.config = fit 16 s.gnd.configDigest → s.stk.ticked = true → s.stk.state = 1 ∨ s.stk.state = 4 →
    ownAt s (n - tgetD s.stk.linkDelay l 0 - h.txOffset) < h.num →
    ∃ t, exec (.heartbeat l h n) s = .next t ∧
      t.stk.stroke = s.stk.stroke + (h.num - ownAt s (n - tgetD s.stk.linkDelay l 0 - h.txOffset)) ∧ t.stk.conflictPin = false ∧
      Frame (logParts ++ [.stk]) s t) ∧
  (∀ (l : Nat) (h : Heart) (n : Nat) (s : State), l < s.build.links → linkOpen (link s l) = true → s.stk.source = 2 →
    exec (.heartbeat l h n) s = .next (pinHeart l h n (whenB (isTunnel s l) (tunnelDelay l h n)
      (whenB (!(fit 16 h.config == fit 16 s.gnd.configDigest)) (configDiffers l h)
        (modLink l (fun k => { k with hbSeen := true, hbMissed := 0, hbStroke := h.num, hbEpochs := h.epochs.take 12 }) s))))) ∧
  (∀ (l : Nat) (h : Heart) (n : Nat) (s : State), l < s.build.links → linkOpen (link s l) = false → exec (.heartbeat l h n) s = .next s)

/-- Tile clocks (R34, R126, R151): a requested stop is noted with its stroke and an event, and a running capture keeps its stopped strokes; the
first edge afterwards restarts the sentinel. A stopped tile that is stopped, and a running one that starts, change nothing. A port that was not
built stops the command (R3). -/
def Obligations.TileClocksStopAndStart : Prop :=
  (∀ (p : Nat) (s : State), p < s.build.ports → (sent s p).attached = true → (sent s p).clkStop = false →
    ∃ t, exec (.tileClockStop p) s = .next t ∧ (sent t p).clkStop = true ∧ (sent t p).stopSince = now s ∧ t.stk = s.stk ∧ t.cpy = s.cpy ∧ t.dgt = s.dgt) ∧
  (∀ (p : Nat) (s : State), p < s.build.ports → (sent s p).attached = false ∨ (sent s p).clkStop = true →
    exec (.tileClockStop p) s = .next s) ∧
  (∀ (p : Nat) (s : State), p < s.build.ports → (sent s p).clkStop = true →
    exec (.tileClockStart p) s = .next (event (0x800 + p) evClockStart 0 0
      (modSent p (fun x => { x with clkStop := false, restarted := true }) { s with cpy := { s.cpy with
        captures := s.cpy.captures.map (fun e => (e.1, { e.2 with stopped := e.2.stopped + stoppedFor s p e.2 })) } }))) ∧
  (∀ (p : Nat) (s : State), p < s.build.ports → (sent s p).clkStop = false → exec (.tileClockStart p) s = .next s) ∧
  (∀ (p : Nat) (s : State), s.build.ports ≤ p →
    exec (.tileClockStop p) s = .fault (.notBuilt "port" p) ∧ exec (.tileClockStart p) s = .fault (.notBuilt "port" p))

/-- Residue outcomes (R125 to R130, R136): a report of a wired channel of an attached sentinel is counted for its stroke, without an injected
failure; one that comes after its count has closed is dropped and flagged; the count of the stroke before closes once. -/
def Obligations.ResidueOutcomesAreCounted : Prop :=
  (∀ (p c : Nat) (r : ResidueReport) (s : State), p < s.build.ports → sentinelOn s p = true → wired (sent s p).rl c = true →
    r.nchk ≠ 0 ∨ r.nskip ≠ 0 → (sent s p).rl.closed ≤ outcomeStroke s p r →
    ∃ x, exec (.residueOutcome p c r) s = .next (modSent p (fun y => { y with rl := x }) s) ∧
      x.checks = satAdd (2 ^ 64 - 1) (sent s p).rl.checks (realChk r) ∧ x.fails = satAdd (2 ^ 32 - 1) (sent s p).rl.fails (realFail r) ∧
      x.skips = satAdd (2 ^ 64 - 1) (sent s p).rl.skips (Nat.min 64 r.nskip) ∧
      (tgetD x.counts (outcomeStroke s p r) {}).chk = (tgetD (sent s p).rl.counts (outcomeStroke s p r) {}).chk + realChk r ∧
      (tgetD x.counts (outcomeStroke s p r) {}).fail = (tgetD (sent s p).rl.counts (outcomeStroke s p r) {}).fail + realFail r ∧
      x.dropped = (sent s p).rl.dropped ∧ x.closed = (sent s p).rl.closed ∧ x.forceDual = (sent s p).rl.forceDual) ∧
  (∀ (p c : Nat) (r : ResidueReport) (s : State), p < s.build.ports → sentinelOn s p = true → wired (sent s p).rl c = true →
    r.nchk ≠ 0 ∨ r.nskip ≠ 0 → outcomeStroke s p r < (sent s p).rl.closed →
    ∃ x, exec (.residueOutcome p c r) s = .next (modSent p (fun y => { y with rl := x }) s) ∧ x.dropped = true ∧
      x.checks = (sent s p).rl.checks ∧ x.fails = (sent s p).rl.fails ∧ x.counts = (sent s p).rl.counts) ∧
  (∀ (p c : Nat) (r : ResidueReport) (s : State), p < s.build.ports → wired (sent s p).rl c = false →
    exec (.residueOutcome p c r) s = .next s) ∧
  (∀ (p : Nat) (s : State), p < s.build.ports → sentinelOn s p = true → (sent s p).clkStop = false →
    exec (.residueCountClose p) s = .next (modSent p (fun y => { y with rl := { y.rl with closed := Nat.max y.rl.closed (now s) } }) s)) ∧
  (∀ (p : Nat) (s : State), p < s.build.ports → (sent s p).clkStop = true → exec (.residueCountClose p) s = .next s)

/-- The residue registers that act (R134, R136): an injection pulses at a sentinel, or waits for the next tick in every port that an assembly
aggregates; FORCE_DUAL acts at the next tick; the flags of NOD_RL_STATUS clear where a 1 is written. An unused node's register is unmapped
(R402). -/
def Obligations.ResidueRegistersAct : Prop :=
  (∀ (a : Access) (p : Nat) (s : State), reachesNode s a (0x800 + p) = true →
    exec (.residueInject a (0x800 + p)) s = .next (busOk (modRl p
      (fun x => { x with injPending := (List.range 4).filter (fun c => x.injPending.contains c || wired x c) }) { s with outs := s.outs ++ [.injPulse p] }))) ∧
  (∀ (a : Access) (n : Nat) (s : State), n < 0x800 → reachesNode s a n = true →
    exec (.residueInject a n) s = .next (busOk (forEach (nodePorts s n) (fun p => modRl p (fun x => { x with injNext := true })) s))) ∧
  (∀ (a : Access) (p : Nat) (on : Bool) (s : State), reachesNode s a (0x800 + p) = true →
    exec (.forceDualWrite a (0x800 + p) on) s = .next (busOk (modRl p (fun x => { x with forceDualNext := some on }) s))) ∧
  (∀ (a : Access) (n : Nat) (on : Bool) (s : State), n < 0x800 → reachesNode s a n = true →
    exec (.forceDualWrite a n on) s = .next (busOk (forEach (asmsBelow s 17 n) (fun m => modAsm m (fun y => { y with forceDual := on }))
      (forEach (nodePorts s n) (fun p => modRl p (fun x => { x with forceDualNext := some on })) s)))) ∧
  (∀ (a : Access) (n : Nat) (v : Word) (s : State), reachesNode s a n = true →
    exec (.rlStatusClear a n v) s = .next (busOk (forEach (nodePorts s n) (fun p => modRl p (fun x => { x with
      injSeen := x.injSeen && !(fbit v 62), injMissed := x.injMissed && !(fbit v 61), dropped := x.dropped && !(fbit v 60) })) s))) ∧
  (∀ (a : Access) (n : Nat) (v : Word) (on : Bool) (s : State), s.boot.inReset = false → privileged s a = true → nodeUsed s n = false →
    exec (.residueInject a n) s = .next (busErr (record .nodeUnmapped n (deniedBody a true false (aNode n 0x200)) s)) ∧
    exec (.forceDualWrite a n on) s = .next (busErr (record .nodeUnmapped n (deniedBody a true false (aNode n 0x200)) s)) ∧
    exec (.rlStatusClear a n v) s = .next (busErr (record .nodeUnmapped n (deniedBody a true false (aNode n 0x208)) s)))

/-- Commands on the tag interface (R83, R144, R149, R158, R420): a command takes its slot with the answer that the draw gives. One that is not
drawn, is a duplicate, is OPC 0x00 or runs outside an epoch is answered "none"; one drawn for recompute is answered "capture" where a capture
can start, and opens it; one drawn for duplex names the partner. A reused slot that holds a capture in progress drops it (R150). -/
def Obligations.TagsAreDrawnAndCaptured : Prop :=
  (∀ (p : Nat) (t : TagCmd) (s : State), p < s.build.ports → sentinelOn s p = true → tget (sent s p).cmds t.cslot = none →
    opcDefined t.opc t.subop = true → t.dup = false →
    inEpoch (part s (tile s p).part) = false ∨ (sent s p).samp.thetaC + (sent s p).samp.thetaD ≤ drawOf s p t →
    exec (.commandTag p t) s = .next (enterCmd p t 0 0 none none s)) ∧
  (∀ (p : Nat) (t : TagCmd) (s : State), p < s.build.ports → sentinelOn s p = true → tget (sent s p).cmds t.cslot = none →
    opcDefined t.opc t.subop = true → t.opc ≠ 0 → t.dup = false → inEpoch (part s (tile s p).part) = true →
    drawOf s p t < (sent s p).samp.thetaC → drawBlocked s t = 0 →
    exec (.commandTag p t) s = .next (enterCmd p t 1 0 (some s.cpy.nextCap) none (openCapture p t (directedNow s p)
      (pcount (tile s p).part 3 1 (modSent p (fun x => { x with samp := { x.samp with sampled := satInc 16 x.samp.sampled } }) s))))) ∧
  (∀ (p q : Nat) (t : TagCmd) (s : State), p < s.build.ports → sentinelOn s p = true → tget (sent s p).cmds t.cslot = none →
    opcDefined t.opc t.subop = true → t.opc ≠ 0 → t.dup = false → inEpoch (part s (tile s p).part) = true →
    (sent s p).samp.thetaC ≤ drawOf s p t → drawOf s p t < (sent s p).samp.thetaC + (sent s p).samp.thetaD → (sent s p).samp.partner = some q →
    exec (.commandTag p t) s = .next (duplexed p q t s)) ∧
  (∀ (p : Nat) (t : TagCmd) (s : State), p < s.build.ports → sentinelOn s p = true → tget (sent s p).cmds t.cslot = none →
    opcDefined t.opc t.subop = true → t.dup = true →
    exec (.commandTag p t) s = .next (enterCmd p t 0 0 none (dupOf s p t) s)) ∧
  (∀ (p : Nat) (t : TagCmd) (r q : Nat) (c d : Option Nat) (s : State),
    tget (sent (enterCmd p t r q c d s) p).cmds t.cslot =
      some { tag := takenCmd t, stroke := now s, resp := r, partner := q, capture := c, dupIdx := d }) ∧
  (∀ (p : Nat) (t : TagCmd) (s : State), p < s.build.ports → sentinelOn s p = true → tget (sent s p).cmds t.cslot = none →
    opcDefined t.opc t.subop = false → t.opc ≠ 0 →
    exec (.commandTag p t) s = .next (acceptTag p t (record .opcUnknown (0x800 + p) (le 1 t.opc ++ le 1 t.subop ++ zeros 2) s))) ∧
  (∀ (p : Nat) (t : TagCmd) (s : State), p < s.build.ports → sentinelOn s p = false → exec (.commandTag p t) s = .next s)

/-- Beats and completion (R148 to R151, R158, R159, R420, R421): a beat adds its bytes to the capture or the duplex check of its slot, and
one for a slot that has neither is ignored; CMD_DONE frees its slot. -/
def Obligations.BeatsFillCapturesAndDoneFreesTheSlot : Prop :=
  (∀ (p id : Nat) (b : TapBeat) (x : CmdSlot) (c : Capture) (s : State), p < s.build.ports → tget (sent s p).cmds b.cslot = some x →
    x.capture = some id → capture? s id = some c → c.state = 0 → b.overflow = false → b.last = false → beatOk c.tag b = true →
    exec (.tapBeat p b) s = .next { s with cpy := { s.cpy with captures := tadj s.cpy.captures id (fun y => { y with
      bytes := addBeat y.bytes (beatBytes b), diverge := y.diverge || beatDiffers y.bytes (beatBytes b) }) } }) ∧
  (∀ (p id : Nat) (b : TapBeat) (x : CmdSlot) (c : Capture) (s : State), p < s.build.ports → tget (sent s p).cmds b.cslot = some x →
    x.capture = some id → capture? s id = some c → c.state = 0 → b.overflow = true →
    exec (.tapBeat p b) s = .next (dropCapture id 4 (now s) s)) ∧
  (∀ (p id : Nat) (b : TapBeat) (x : CmdSlot) (c : Capture) (s : State), p < s.build.ports → tget (sent s p).cmds b.cslot = some x →
    x.capture = some id → capture? s id = some c → c.state = 0 → b.overflow = false → b.last = true →
    exec (.tapBeat p b) s = .next (captureLast id (modCap id (fun y => { y with
      bytes := addBeat y.bytes (if beatOk c.tag b then beatBytes b else [])
      diverge := y.diverge || beatDiffers y.bytes (if beatOk c.tag b then beatBytes b else []) }) s))) ∧
  (∀ (p i : Nat) (b : TapBeat) (x : CmdSlot) (d : Duplex) (s : State), p < s.build.ports → tget (sent s p).cmds b.cslot = some x →
    x.capture = none → x.dupIdx = some i → s.cpy.duplexes = [(i, d)] → b.stream = 6 ∨ b.stream = 7 → beatOk d.tag b = true →
    exec (.tapBeat p b) s = .next { s with cpy := { s.cpy with duplexes := [(i,
      if x.tag.dup then { d with dupBytes := addBeat d.dupBytes (beatBytes b) } else { d with ownBytes := addBeat d.ownBytes (beatBytes b) })] } }) ∧
  (∀ (p : Nat) (b : TapBeat) (x : CmdSlot) (s : State), p < s.build.ports → tget (sent s p).cmds b.cslot = some x → x.capture = none →
    x.dupIdx = none → exec (.tapBeat p b) s = .next s) ∧
  (∀ (p c : Nat) (x : CmdSlot) (s : State), p < s.build.ports → tget (sent s p).cmds c = some x → x.dupIdx = none →
    exec (.cmdDone p c) s = .next (modSent p (fun y => { y with cmds := tdel y.cmds c, touch := touchActive x.tag y.touch }) s)) ∧
  (∀ (p c i : Nat) (x : CmdSlot) (s : State), p < s.build.ports → tget (sent s p).cmds c = some x → x.dupIdx = some i →
    exec (.cmdDone p c) s = .next (duplexDone i x.tag.dup
      (modSent p (fun y => { y with cmds := tdel y.cmds c, touch := touchActive x.tag y.touch }) s))) ∧
  (∀ (p c : Nat) (s : State), p < s.build.ports → tget (sent s p).cmds c = none → exec (.cmdDone p c) s = .next s)

/-- Checks that end without a comparison (R150, R151, R159, R420): a duplex that the host refuses, one whose other side has not come by the end
of the fourth stroke after the first, and a capture without LAST within 4,096 strokes that the tile was not stopped; before its limit
nothing ends. -/
def Obligations.ChecksEndWithoutAComparison : Prop :=
  (∀ (p c i : Nat) (x : CmdSlot) (d : Duplex) (s : State), p < s.build.ports → tget (sent s p).cmds c = some x → x.dupIdx = some i →
    x.tag.dup = false → tget s.cpy.duplexes i = some d → d.closed = false →
    exec (.duplexRefuse p c) s = .next (duplexUncovered i (now s)
      (record .duplexRefused (0x800 + p) (le 2 x.partner ++ zeros 2 ++ le 4 x.tag.seq) s))) ∧
  (∀ (p c : Nat) (s : State), p < s.build.ports → tget (sent s p).cmds c = none → exec (.duplexRefuse p c) s = .next s) ∧
  (∀ (i o : Nat) (d : Duplex) (s : State), tget s.cpy.duplexes i = some d → d.closed = false →
    (d.ownDone = some o ∧ d.dupDone = none) ∨ (d.ownDone = none ∧ d.dupDone = some o) → o + 5 ≤ now s →
    exec (.duplexMissing i) s = .next (duplexUncovered i (o + 4) s)) ∧
  (∀ (i o : Nat) (d : Duplex) (s : State), tget s.cpy.duplexes i = some d → d.ownDone = some o → now s < o + 5 →
    exec (.duplexMissing i) s = .next s) ∧
  (∀ (i n : Nat) (d : Duplex) (s : State), tget s.cpy.duplexes i = some d →
    duplexUncovered i n s = landCheck (duplexChk s d d.partner d.port n 2) (landCheck (duplexChk s d d.port d.partner n 2)
      (dropRecord d.partner 0x0F d.tag (dropRecord d.port 0x0F d.tag (closeDuplex i s))))) ∧
  (∀ (id : Nat) (c : Capture) (s : State), capture? s id = some c → c.state = 0 →
    c.accepted + 4096 + c.stopped + stoppedFor s c.port c ≤ now s →
    exec (.captureTooLong id) s = .next (dropCapture id 8 (now s) s)) ∧
  (∀ (id : Nat) (c : Capture) (s : State), capture? s id = some c →
    now s < c.accepted + 4096 + c.stopped + stoppedFor s c.port c → exec (.captureTooLong id) s = .next s) ∧
  (∀ (id i : Nat) (c : Capture) (x : Piece) (s : State), capture? s id = some c → c.pieces[i]? = some x → c.state = 1 → x.state = 0 → x.run = 1 →
    c.last + 3 ≤ now s → exec (.backlogDrop id i) s = .next (endPiece id i 0x0A s)) ∧
  (∀ (id i : Nat) (c : Capture) (x : Piece) (s : State), capture? s id = some c → c.pieces[i]? = some x →
    now s < c.last + 3 ∨ x.state ≠ 0 → exec (.backlogDrop id i) s = .next s)

/-- A piece ends on its group (R155): a first run whose result equals the host's passes; one that differs is run again, and FAILs when the second
run gives the first run's result; a second run equal to the host's passes with COPY_DISAGREE, and a third result ends it UNCOVERED with cause
0x0E. Each run counts its work (R147). -/
def Obligations.PiecesAreJudgedByTwoRuns : Prop :=
  (∀ (id i : Nat) (r : GroupResult) (c : Capture) (x : Piece) (s : State), id < 2 ^ 40 → capture? s id = some c → c.pieces[i]? = some x → x.state = 1 →
    r ≠ .ringCrc → x.run ≠ 2 → diffs c.bytes (pieceResult c.bytes c.tag x.j0 x.jn) (groupValues (pieceResult c.bytes c.tag x.j0 x.jn) r) = [] →
    exec (.pieceComplete id i r) s = .next (pieceVerdict id i 0 (countMflop x.cost s))) ∧
  (∀ (id i : Nat) (r : GroupResult) (c : Capture) (x : Piece) (s : State), id < 2 ^ 40 → capture? s id = some c → c.pieces[i]? = some x → x.state = 1 →
    r ≠ .ringCrc → x.run ≠ 2 → diffs c.bytes (pieceResult c.bytes c.tag x.j0 x.jn) (groupValues (pieceResult c.bytes c.tag x.j0 x.jn) r) ≠ [] →
    exec (.pieceComplete id i r) s =
      .next (startConfirm id i x.group (groupValues (pieceResult c.bytes c.tag x.j0 x.jn) r) (countMflop x.cost s))) ∧
  (∀ (id i : Nat) (r : GroupResult) (c : Capture) (x : Piece) (s : State), id < 2 ^ 40 → capture? s id = some c → c.pieces[i]? = some x → x.state = 1 →
    r ≠ .ringCrc → x.run = 2 → groupValues (pieceResult c.bytes c.tag x.j0 x.jn) r = x.firstRun →
    exec (.pieceComplete id i r) s = .next (pieceVerdict id i 3 (modPiece id i
      (noteDiffs (diffs c.bytes (pieceResult c.bytes c.tag x.j0 x.jn) x.firstRun) (if x.rotated then 2 else 1)) (countMflop x.cost s)))) ∧
  (∀ (id i : Nat) (r : GroupResult) (c : Capture) (x : Piece) (s : State), id < 2 ^ 40 → capture? s id = some c → c.pieces[i]? = some x → x.state = 1 →
    r ≠ .ringCrc → x.run = 2 → groupValues (pieceResult c.bytes c.tag x.j0 x.jn) r ≠ x.firstRun →
    exec (.pieceComplete id i r) s = .next (confirmDone id i c x (groupValues (pieceResult c.bytes c.tag x.j0 x.jn) r)
      (diffs c.bytes (pieceResult c.bytes c.tag x.j0 x.jn) (groupValues (pieceResult c.bytes c.tag x.j0 x.jn) r)) (countMflop x.cost s))) ∧
  (∀ (id i : Nat) (c : Capture) (x : Piece) (s : State), id < 2 ^ 40 → capture? s id = some c → c.pieces[i]? = some x → x.state = 1 →
    exec (.pieceComplete id i .ringCrc) s = .next (endPiece id i 9 s)) ∧
  (∀ (id i : Nat) (r : GroupResult) (c : Capture) (x : Piece) (s : State), id < 2 ^ 40 → capture? s id = some c → c.pieces[i]? = some x → x.state ≠ 1 →
    exec (.pieceComplete id i r) s = .next s)

/-- Canaries of the copy units and the registers of the COPYIST window (R139, R161, R162, R166, R405). -/
def Obligations.CanariesAndCopyistRegisters : Prop :=
  (∀ (u : Nat) (s : State), u < s.build.units → (cunit s u).up = true → (cunit s u).due ≤ now s →
    exec (.canaryDue u) s = .next (modUnit u (fun x => { x with runNext := true, due := now s + Nat.max 16 s.cpy.eff.canaryPeriod }) s)) ∧
  (∀ (u : Nat) (s : State), u < s.build.units → (cunit s u).up = false ∨ now s < (cunit s u).due → exec (.canaryDue u) s = .next s) ∧
  (∀ (u : Nat) (s : State), u < s.build.units → (cunit s u).running = true →
    ∃ t, exec (.canaryComplete u none) s = .next t ∧ (cunit t u).up = true ∧ (cunit t u).running = false ∧ (cunit t u).failedOnce = false ∧
      t.cpy.canaryRuns = satInc 16 s.cpy.canaryRuns ∧ t.cpy.canaryFails = s.cpy.canaryFails ∧
      t.boot = { s.boot with canaryTodo := without s.boot.canaryTodo u }) ∧
  (∀ (u k : Nat) (s : State), u < s.build.units → (cunit s u).running = true →
    ∃ t, exec (.canaryComplete u (some k)) s = .next t ∧ (cunit t u).up = false ∧ (cunit t u).running = false ∧ (cunit t u).failedOnce = true ∧
      (cunit t u).perm = (cunit s u).failedOnce ∧ t.cpy.canaryRuns = satInc 16 s.cpy.canaryRuns ∧
      t.cpy.canaryFails = satInc 16 s.cpy.canaryFails ∧ t.boot = { s.boot with canaryTodo := without s.boot.canaryTodo u }) ∧
  (∀ (u : Nat) (k : Option Nat) (s : State), u < s.build.units → (cunit s u).running = false → exec (.canaryComplete u k) s = .next s) ∧
  (∀ (a : Access) (v : Word) (s : State), reaches s a aCpyCanary = true → fbit v 63 = true →
    exec (.canaryRun a v) s = .next (busOk (forEach (upUnits s) (fun u => modUnit u (fun x => { x with runNext := true })) s))) ∧
  (∀ (a : Access) (v : Word) (s : State), reaches s a aCpyStore = true → s.cpy.lock = false →
    poolsOk s (fld v 63 52) (fld v 51 40) (fld v 39 28) = true →
    exec (.cpyStoreWrite a v) s = .next (busOk { s with cpy := { s.cpy with landing := fld v 63 52, staging := fld v 51 40, service := fld v 39 28 } })) ∧
  (∀ (a : Access) (v : Word) (s : State), reaches s a aCpyStore = true → s.cpy.lock = false →
    poolsOk s (fld v 63 52) (fld v 51 40) (fld v 39 28) = false →
    exec (.cpyStoreWrite a v) s = .next (busOk { s with cpy := { s.cpy with cfgErr := true } })) ∧
  (∀ (a : Access) (v : Word) (s : State), reaches s a aCpyStore = true → s.cpy.lock = true → exec (.cpyStoreWrite a v) s = .next (busOk s)) ∧
  (∀ (a : Access) (v : Word) (s : State), reaches s a aCpyCfg = true →
    exec (.cpyLock a v) s = .next (busOk { s with cpy := { s.cpy with
      lock := s.cpy.lock || fbit v 63
      cfg := { peerServeMax := fld v 39 32, canaryPeriod := fld v 31 16, dirShare := fld v 15 12, dpxEn := fbit v 8, peerEn := fbit v 7 } } }))

/-- Requests of peers (R152, R163, R164): a request whose descriptor fails is answered REFUSED and one that cannot be served BUSY; any other is
entered with its service tokens (how many, and when a request is admitted, is the model's choice, log entry 24). Data that does not continue a
request changes nothing outside Publish, and the last chunk completes the request. A served piece answers DONE and frees its entry. -/
def Obligations.PeerRequestsAreServedOrAnswered : Prop :=
  (∀ (l r o n : Nat) (d : CopyDesc) (s : State), l < s.build.links → descOk d = false ∨ n = 0 ∨ 5042 < n →
    exec (.peerReq l r o n d) s = .next (peerAnswer l r 2 0 0 s)) ∧
  (∀ (l r o n : Nat) (d : CopyDesc) (s : State), l < s.build.links → descOk d = true → 1 ≤ n → n ≤ 5042 →
    s.cpy.eff.peerEn = false ∨ s.pwr.shedPeer = true ∨ s.cpy.eff.peerServeMax ≤ s.cpy.served →
    exec (.peerReq l r o n d) s =
      .next (peerAnswer l r 1 0 0 { s with cpy := { s.cpy with peerBusy := satInc 16 s.cpy.peerBusy } })) ∧
  (∀ (l r o n : Nat) (d : CopyDesc) (s : State), l < s.build.links → descOk d = true → 1 ≤ n → n ≤ 5042 → s.cpy.eff.peerEn = true →
    s.pwr.shedPeer = false → s.cpy.served < Nat.min 16 s.cpy.eff.peerServeMax →
    s.cpy.heldService + ceilDiv (208 * n) 65536 ≤ s.cpy.service →
    exec (.peerReq l r o n d) s = .next { s with cpy := { s.cpy with
      served := s.cpy.served + 1, heldService := s.cpy.heldService + ceilDiv (208 * n) 65536
      peerIn := s.cpy.peerIn ++ [{ reqId := r, origin := o, link := l, chunks := n, desc := d, tokens := ceilDiv (208 * n) 65536 }] } }) ∧
  (∀ (l r i : Nat) (p : PeerIn) (last : Bool) (d : List Byte) (s : State), l < s.build.links → s.stk.phase ≠ 2 → s.cpy.peerIn = [p] →
    p.reqId = r → p.link = l → p.state = 0 → p.got = i → last = (i + 1 == p.chunks) →
    exec (.peerData l r i last d) s = .next { s with cpy := { s.cpy with
      peerIn := [{ p with got := i + 1, data := p.data ++ d.take 208, state := if last then 1 else 0 }] } }) ∧
  (∀ (l r i : Nat) (last : Bool) (d : List Byte) (s : State), l < s.build.links → s.stk.phase ≠ 2 →
    (∀ p, p ∈ s.cpy.peerIn → p.reqId ≠ r ∨ p.link ≠ l ∨ p.state ≠ 0 ∨ p.got ≠ i) → exec (.peerData l r i last d) s = .next s) ∧
  (∀ (i j : Nat) (r : GroupResult) (p : PeerIn) (s : State), i < 2 ^ 40 → s.cpy.peerIn[i]? = some p → p.state = 2 →
    ∃ t b g, exec (.pieceComplete (2 ^ 40 + i) j r) s = .next t ∧
      t = peerDrop i (peerAnswer p.link p.reqId 0 b g { s with cpy := { s.cpy with peerServed := satInc 16 s.cpy.peerServed } }) ∧
      t.cpy.peerIn = s.cpy.peerIn.eraseIdx i ∧ t.cpy.heldService = s.cpy.heldService - p.tokens) ∧
  (∀ (e g : Nat) (r : GroupResult) (x : Golden) (s : State), s.gnd.golden[e]? = some x → (liveGroups s).contains g = true → r = .contract →
    exec (.pieceComplete (2 ^ 41 + e) g r) s =
      .next (goldenValue e g (arithDigest ((arithResult x.pattern x.seed).map (fun y => y.bits))) s))

/-- Answers of peers (R164, R165): DONE with the digest sent for ends the check LATE, and any other is sent again; a tie-break that agrees with
the first peer is a FAIL. BUSY lets the check wait for its next period and ends it UNCOVERED with cause PEER_TIMEOUT the third time, as do
16 strokes without DONE. A VERDICT that names this block's Copyist suspect lets its units run their canary set in the next Publish, and a
directed period that has ended is looked at when it expires (R243). -/
def Obligations.PeerAnswersAreJudged : Prop :=
  (∀ (l r b g : Nat) (o : PeerOut) (s : State), l < s.build.links →
    s.cpy.peerOut.find? (fun o => o.reqId == r && o.link == l && o.waiting) = some o → o.tie = none → g = o.digest →
    exec (.peerResp l r 0 b g) s = .next (peerVerdict o vLate s)) ∧
  (∀ (l r b g : Nat) (o : PeerOut) (s : State), l < s.build.links → s.cpy.peerOut = [o] → o.reqId = r → o.link = l → o.waiting = true →
    o.tie = none → g ≠ o.digest →
    exec (.peerResp l r 0 b g) s = .next { s with cpy := { s.cpy with
      peerSplit := satInc 16 s.cpy.peerSplit
      peerOut := [{ o with tie := some (o.chip, g), waiting := false, busy := 0 }] } }) ∧
  (∀ (l r b g c : Nat) (o : PeerOut) (s : State), l < s.build.links →
    s.cpy.peerOut.find? (fun o => o.reqId == r && o.link == l && o.waiting) = some o → o.tie = some (c, g) →
    ∃ t, exec (.peerResp l r 0 b g) s = .next (peerVerdict o vFail t) ∧ Logged s t) ∧
  (∀ (l r b g : Nat) (o : PeerOut) (s : State), l < s.build.links → s.cpy.peerOut = [o] → o.reqId = r → o.link = l → o.waiting = true →
    o.busy < 2 →
    exec (.peerResp l r 1 b g) s = .next { s with cpy := { s.cpy with peerOut := [{ o with busy := o.busy + 1, waiting := false }] } }) ∧
  (∀ (l r b g : Nat) (o : PeerOut) (s : State), l < s.build.links →
    s.cpy.peerOut.find? (fun o => o.reqId == r && o.link == l && o.waiting) = some o → 2 ≤ o.busy →
    exec (.peerResp l r 1 b g) s = .next (peerUncovered o s)) ∧
  (∀ (l r k b g : Nat) (s : State), l < s.build.links →
    s.cpy.peerOut.find? (fun o => o.reqId == r && o.link == l && o.waiting) = none ∨ 2 ≤ k → exec (.peerResp l r k b g) s = .next s) ∧
  (∀ (r : Nat) (o : PeerOut) (s : State), s.cpy.peerOut.find? (fun o => o.reqId == r) = some o → o.waiting = true → o.sent + 16 ≤ now s →
    exec (.peerTimeout r) s = .next (peerUncovered o s)) ∧
  (∀ (r : Nat) (o : PeerOut) (s : State), s.cpy.peerOut.find? (fun o => o.reqId == r) = some o → o.waiting = false ∨ now s < o.sent + 16 →
    exec (.peerTimeout r) s = .next s) ∧
  (∀ (o : PeerOut) (c : Capture) (s : State), capture? s o.capture = some c →
    peerUncovered o s = peerVerdict o vUncovered
      (record .captureDrop 0 (le 1 0x10 ++ le 1 c.tag.opc ++ le 2 c.tag.layer ++ le 4 c.tag.seq) s)) ∧
  (∀ (o : PeerOut) (c : Capture) (k : Nat) (s : State), capture? s o.capture = some c →
    peerVerdict o k s = landCheck { nodeChk o.epoch c.part o.stroke ckPeer k with opc := c.tag.opc }
      { s with cpy := { s.cpy with peerOut := s.cpy.peerOut.filter (fun p => !(p.reqId == o.reqId)) } }) ∧
  (∀ (l : Nat) (v : VerdictMsg) (s : State), l < s.build.links → v.kind = 4 → v.chips.contains s.wch.chip = true →
    exec (.copySuspect l v) s = .next (forEach (groupNos s) groupCanary s)) ∧
  (∀ (l : Nat) (v : VerdictMsg) (s : State), l < s.build.links → v.kind ≠ 4 ∨ v.chips.contains s.wch.chip = false →
    exec (.copySuspect l v) s = .next s) ∧
  (∀ (p : Nat) (s : State), p < s.build.ports → (sent s p).samp.directedUntil ≤ now s → (sent s p).health.dupWatch ≠ [] →
    exec (.duplexDirectedExpiry p) s = .next (duplexEvents p s)) ∧
  (∀ (p : Nat) (s : State), p < s.build.ports → now s < (sent s p).samp.directedUntil ∨ (sent s p).health.dupWatch = [] →
    exec (.duplexDirectedExpiry p) s = .next s)

/-- Headers of fabric-tap streams (R173, R174, R181, R195): a header in order opens its stream with the stroke, the epoch of its partition and its
point; one whose stream number is already open closes that stream incomplete first; a bad one, or one with the key of an open stream, is
TAP_PROTOCOL; a full tap is TAP_FULL; a transport stream with XPORT_EN 0 is ignored. A refused sum or receive stream of a full tap leaves its
check UNCOVERED, and a refused stream of a ROLLING shard makes it invalid (the model's reading of R174's "every affected check", log entry 139).
With CORE in reset the taps are deaf (R376). -/
def Obligations.TapHeadersOpenStreams : Prop :=
  (∀ (p : Nat) (h : FtHeader) (s : State), p < s.build.taps → coreReset s = false → stream? s p h.stream = none → h.ftStream = h.stream →
    h.purpose ∈ [3, 4, 5, 7, 8] → inEpoch (part s h.part) = true → h.length ≠ 0 → s.dgt.xportEn = true ∨ isXport h = false →
    (s.dgt.streams.filter (fun x => x.tap == p)).length < 256 → s.dgt.streams.any (fun x => sameKey x.hdr h) = false →
    exec (.tapHeader p h) s = .next { s with dgt := { s.dgt with
      streams := s.dgt.streams ++
        [{ tap := p, hdr := h, epoch := (part s h.part).epoch, opened := now s, point := streamPoint s h }] } }) ∧
  (∀ (p : Nat) (h : FtHeader) (s : State), p < s.build.taps → coreReset s = false → stream? s p h.stream = none → h.ftStream = h.stream →
    h.purpose ∈ [1, 2, 6, 9] → inEpoch (part s h.part) = true → h.length ≠ 0 →
    (s.dgt.streams.filter (fun x => x.tap == p)).length < 256 → s.dgt.streams.any (fun x => sameKey x.hdr h) = false →
    exec (.tapHeader p h) s = .next (openStream p h s)) ∧
  (∀ (p : Nat) (h : FtHeader) (s : State), p < s.build.taps → coreReset s = false → h.ftStream ≠ h.stream →
    exec (.tapHeader p h) s = .next (tapProtocol p h.stream 6 h.purpose true s)) ∧
  (∀ (p : Nat) (h : FtHeader) (s : State), p < s.build.taps → coreReset s = false → stream? s p h.stream = none → h.ftStream = h.stream →
    s.dgt.xportEn = true ∨ isXport h = false →
    h.purpose = 0 ∨ 9 < h.purpose ∨ inEpoch (part s h.part) = false ∨ h.length = 0 →
    exec (.tapHeader p h) s = .next (tapProtocol p h.stream 6 h.purpose true s)) ∧
  (∀ (p : Nat) (h : FtHeader) (x : Stream) (s : State), p < s.build.taps → coreReset s = false → stream? s p h.stream = some x →
    h.ftStream = h.stream → s.dgt.xportEn = true ∨ isXport h = false →
    h.purpose = 0 ∨ 9 < h.purpose ∨ inEpoch (part s h.part) = false ∨ h.length = 0 →
    exec (.tapHeader p h) s = .next (tapProtocol p h.stream 6 h.purpose true
      (closeStream x false (tapProtocol p h.stream 1 x.hdr.purpose false s)))) ∧
  (∀ (p : Nat) (h : FtHeader) (s : State), p < s.build.taps → coreReset s = false → h.ftStream = h.stream →
    isXport h = true → s.dgt.xportEn = false → exec (.tapHeader p h) s = .next s) ∧
  (∀ (p : Nat) (h : FtHeader) (s : State), p < s.build.taps → coreReset s = false → stream? s p h.stream = none → h.ftStream = h.stream →
    1 ≤ h.purpose → h.purpose ≤ 9 → inEpoch (part s h.part) = true → h.length ≠ 0 → s.dgt.xportEn = true ∨ isXport h = false →
    256 ≤ (s.dgt.streams.filter (fun x => x.tap == p)).length →
    exec (.tapHeader p h) s =
      .next (refusedCheck true h (recordBlock .tapFull (le 1 p ++ zeros 3) { s with dgt := { s.dgt with tapFull := true } }))) ∧
  (∀ (p : Nat) (h : FtHeader) (s : State), p < s.build.taps → coreReset s = false → stream? s p h.stream = none → h.ftStream = h.stream →
    1 ≤ h.purpose → h.purpose ≤ 9 → inEpoch (part s h.part) = true → h.length ≠ 0 → s.dgt.xportEn = true ∨ isXport h = false →
    (s.dgt.streams.filter (fun x => x.tap == p)).length < 256 → s.dgt.streams.any (fun x => sameKey x.hdr h) = true →
    exec (.tapHeader p h) s = .next (refusedCheck false h (tapProtocol p h.stream 5 h.purpose true s))) ∧
  (∀ (b : Bool) (h : FtHeader) (s : State), h.purpose ∈ [2, 4] → refusedCheck b h s =
    if b then landCheck (nodeChk (part s h.part).epoch h.part (now s) (if h.purpose = 2 then ckTally else ckTransport) vUncovered) s
    else s) ∧
  (∀ (b : Bool) (h : FtHeader) (s : State), h.purpose ∈ [5, 6] → refusedCheck b h s = { s with dgt := { s.dgt with
    repl := s.dgt.repl.map (fun r => if isShard h.part h.ident r && r.kind == 2 then { r with valid := false } else r) } }) ∧
  (∀ (b : Bool) (h : FtHeader) (s : State), h.purpose ∈ [1, 3, 7, 8, 9] → refusedCheck b h s = s) ∧
  (∀ (p : Nat) (h : FtHeader) (s : State), p < s.build.taps → coreReset s = true → exec (.tapHeader p h) s = .next s) ∧
  (∀ (p st c q : Nat) (s : State), tapProtocol p st c q true s =
    recordBlock .tapProtocol (le 1 p ++ le 1 st ++ le 1 c ++ le 1 q) { s with dgt := { s.dgt with proto := true } })

/-- Data of fabric-tap streams (R172 to R174, R193, R358): a beat of a stream that is not open is dropped as TAP_PROTOCOL; a beat of an open one
adds its elements to the digest at their indices, and the stream closes when LENGTH elements have come, or incomplete after 4,096 strokes. -/
def Obligations.TapDataFeedsDigests : Prop :=
  (∀ (p st o c : Nat) (d : List Byte) (s : State), p < s.build.taps → coreReset s = false → stream? s p st = none →
    exec (.tapData p st o c d) s = .next (tapProtocol p st 2 0 true (countTap d.length s))) ∧
  (∀ (p o c : Nat) (d : List Byte) (x : Stream) (s : State), p < s.build.taps → coreReset s = false → stream? s p x.hdr.stream = some x →
    x.hdr.purpose ∈ [1, 2, 3, 4, 5, 9] → c ≤ (if tallyForm x.hdr then 32 else 16) → o + c ≤ x.hdr.length → x.got + c < x.hdr.length → x.tw = none →
    x.tap = p →
    exec (.tapData p x.hdr.stream o c d) s = .next (modDgt (fun y => { y with
      streams := y.streams.map (fun z => if strIs p x.hdr.stream z then { x with
        got := x.got + c, digest := (x.digest + digestAt x.point (x.hdr.base + o) (beatElems x.hdr c d)) % dP } else z) })
      (countTap d.length s))) ∧
  (∀ (p o c : Nat) (d : List Byte) (x : Stream) (s : State), p < s.build.taps → coreReset s = false → stream? s p x.hdr.stream = some x →
    x.hdr.purpose ∈ [1, 2, 3, 4, 5, 9] → c ≤ (if tallyForm x.hdr then 32 else 16) → o + c ≤ x.hdr.length → x.hdr.length ≤ x.got + c → x.tw = none →
    x.tap = p →
    ∃ y, y = { x with got := x.got + c, digest := (x.digest + digestAt x.point (x.hdr.base + o) (beatElems x.hdr c d)) % dP } ∧
      exec (.tapData p x.hdr.stream o c d) s = .next (closeStream y true
        (modDgt (fun z => { z with streams := z.streams.map (fun w => if strIs p x.hdr.stream w then y else w) }) (countTap d.length s)))) ∧
  (∀ (p st o c : Nat) (d : List Byte) (s : State), p < s.build.taps → coreReset s = true → exec (.tapData p st o c d) s = .next s) ∧
  (∀ (p st : Nat) (x : Stream) (s : State), p < s.build.taps → stream? s p st = some x → x.opened + 4096 ≤ now s →
    exec (.streamTimeout p st) s = .next (closeStream x false (tapProtocol p st 7 x.hdr.purpose false s))) ∧
  (∀ (p st : Nat) (x : Stream) (s : State), p < s.build.taps → stream? s p st = some x → now s < x.opened + 4096 →
    exec (.streamTimeout p st) s = .next s) ∧
  (∀ (p st : Nat) (s : State), p < s.build.taps → stream? s p st = none → exec (.streamTimeout p st) s = .next s) ∧
  (∀ (x : Stream) (b : Bool) (s : State), closeStream x b s = closeWork { x with bad := x.bad || !b }
    { s with dgt := { s.dgt with streams := s.dgt.streams.filter (fun y => !(strIs x.tap x.hdr.stream y)) } }) ∧
  (∀ (p : Nat) (vs : List Int) (i : Nat), digestAt p i vs < dP)

/-- Tally messages (R107, R176, R178, R179, R304, R309): a contribution from a child adds up and waits for the rest, and the last one sends the sum
on; with CORE in reset it passes by; a message outside the tree is dropped and counted. A total goes down the tree and is judged with the sum by
the first row of R178. Limits end what never came. (Which entry is free is the model's choice, log entry 31.) -/
def Obligations.TalliesAreSummedAndJudged : Prop :=
  (∀ (l d : Nat) (t : TallyMsg) (x : Tally) (s : State), l < s.build.links → memberOf s t.epoch = true → isChild s t.epoch l = true →
    coreReset s = false → t.digests = [d] → s.dgt.tally = [x] → tallyIs t.epoch t.coll t.step t.first x = true → x.sent = false →
    x.reported ≠ [] → allChildren s t.epoch (addNew x.reported l) = false →
    exec (.tallyUp l t) s = .next { s with dgt := { s.dgt with tally := [{ x with
      digest := (x.digest + d) % dP, count := x.count + t.count, sat := satAdd (2 ^ 32 - 1) x.sat t.sat, reported := addNew x.reported l }] } }) ∧
  (∀ (l d : Nat) (t : TallyMsg) (x : Tally) (s : State), l < s.build.links → memberOf s t.epoch = true → isChild s t.epoch l = true →
    coreReset s = false → t.digests = [d] → s.dgt.tally = [x] → tallyIs t.epoch t.coll t.step t.first x = true → x.sent = false →
    x.reported ≠ [] → allChildren s t.epoch (addNew x.reported l) = true →
    exec (.tallyUp l t) s = .next (forwardTally t.epoch t.coll t.step t.first { s with dgt := { s.dgt with tally := [{ x with
      digest := (x.digest + d) % dP, count := x.count + t.count, sat := satAdd (2 ^ 32 - 1) x.sat t.sat, reported := addNew x.reported l }] } })) ∧
  (∀ (l : Nat) (t : TallyMsg) (s : State), l < s.build.links → memberOf s t.epoch = true → isChild s t.epoch l = true → coreReset s = true →
    exec (.tallyUp l t) s = .next (relayBypass clDigest 3 t.epoch (.tally t) s)) ∧
  (∀ (l : Nat) (t : TallyMsg) (s : State), l < s.build.links → memberOf s t.epoch = false ∨ isChild s t.epoch l = false →
    exec (.tallyUp l t) s = .next (errEpoch l s)) ∧
  (∀ (c p g : Nat) (x : Tally) (s : State), s.dgt.tally = [x] → x.coll = c → x.step = p → x.seg = g → x.sent = false → x.reported ≠ [] →
    x.firstAt + Nat.max 8 s.dgt.tallyWait ≤ now s →
    exec (.tallyRelayTimeout c p g) s = .next (forwardTally x.epoch c p g s)) ∧
  (∀ (c p g : Nat) (x : Tally) (s : State), s.dgt.tally = [x] → x.sent = true ∨ x.reported = [] ∨ now s < x.firstAt + Nat.max 8 s.dgt.tallyWait →
    exec (.tallyRelayTimeout c p g) s = .next s) ∧
  (∀ (l d : Nat) (t : TallyMsg) (s : State), l < s.build.links → memberOf s t.epoch = true → isParent s t.epoch l = true → t.digests = [d] →
    exec (.tallyTotal l t) s = .next (takeTotalSeg t (0, d) (sendDown clDigest t.epoch (.tally t) s))) ∧
  (∀ (l : Nat) (t : TallyMsg) (s : State), l < s.build.links → memberOf s t.epoch = false ∨ isParent s t.epoch l = false →
    exec (.tallyTotal l t) s = .next (errEpoch l s)) ∧
  (∀ (d : Nat) (t : TallyMsg) (x : Tally) (s : State), s.dgt.tally = [x] → tallyIs t.epoch t.coll t.step t.first x = true → x.judged = false →
    x.sum = none →
    takeTotalSeg t (0, d) s = { s with dgt := { s.dgt with tally := [{ x with sent := true, total := some (d, t.count, t.sat, t.expD) }] } }) ∧
  (∀ (e c p g a b d n k y : Nat) (x : Tally) (s : State), tally? s e c p g = some x → x.sum = some (a, n) → x.total = some (b, d, k, y) →
    x.judged = false → x.bad = true → judgeTally e c p g s = tallyVerdict x n vUncovered s) ∧
  (∀ (e c p g a b d n y : Nat) (x : Tally) (s : State), tally? s e c p g = some x → x.sum = some (a, n) → x.total = some (b, d, 0, y) →
    x.judged = false → x.bad = false → d = x.nContrib → collSat s e c p = 0 → y = expDigest s e c p →
    judgeTally e c p g s = if a = b then tallyVerdict x n vPass s else tallyFail x n 2 s) ∧
  (∀ (c p g n : Nat) (a : Nat) (x : Tally) (s : State), s.dgt.tally = [x] → x.coll = c → x.step = p → x.seg = g → x.total = none →
    x.sum = some (a, n) → x.judged = false → n + 4096 ≤ now s →
    exec (.tallyTotalTimeout c p g) s = .next (tallyVerdict x n vUncovered (recordBlock .tallyIncomplete
      (le 1 2 ++ zeros 1 ++ le 2 g ++ le 4 c ++ le 4 p ++ zeros 4 ++ le 4 x.nContrib) s))) ∧
  (∀ (c p g n : Nat) (a : Nat) (x : Tally) (s : State), s.dgt.tally = [x] → x.sum = some (a, n) → now s < n + 4096 →
    exec (.tallyTotalTimeout c p g) s = .next s)

/-- Exponent agreement and transport digests (R107 to R109, R181, R304): proposals combine by their maximum and go up, the root's or the
parent's vector goes down and is taken unless it holds −128. An XPORT message is judged with its stream or kept for it, and without one the
check is UNCOVERED after 16 strokes. (The number of this block's own host among the links is the model's choice, log entry 32.) -/
def Obligations.ExponentsAgreeAndTransportIsChecked : Prop :=
  (∀ (l : Nat) (p : ExpMsg) (x : ExpAgree) (s : State), l < s.build.links → memberOf s p.epoch = true → isChild s p.epoch l = true →
    coreReset s = false → s.dgt.exps = [x] → expIs p.epoch p.coll p.step p.first x = true → x.sent = false →
    x.own = false ∨ allChildren s p.epoch (addNew x.reported l) = false →
    exec (.exponentProposal l p) s = .next { s with dgt := { s.dgt with
      exps := [{ x with acc := maxVec x.acc p.exps, reported := addNew x.reported l }] } }) ∧
  (∀ (l : Nat) (p : ExpMsg) (x : ExpAgree) (s : State), l < s.build.links → memberOf s p.epoch = true → isChild s p.epoch l = true →
    coreReset s = false → s.dgt.exps = [x] → expIs p.epoch p.coll p.step p.first x = true → x.sent = false → x.own = true →
    allChildren s p.epoch (addNew x.reported l) = true →
    exec (.exponentProposal l p) s = .next (forwardExp { x with acc := maxVec x.acc p.exps, reported := addNew x.reported l }
      { s with dgt := { s.dgt with exps := [{ x with acc := maxVec x.acc p.exps, reported := addNew x.reported l }] } })) ∧
  (∀ (p : ExpMsg) (s : State), (epoch? s p.epoch).isSome = true → s.dgt.exps = [] → allChildren s p.epoch [] = false →
    exec (.exponentProposal s.build.links p) s = .next { s with dgt := { s.dgt with
      exps := [{ epoch := p.epoch, coll := p.coll, step := p.step, first := p.first, acc := p.exps, own := true, reported := [] }] } }) ∧
  (∀ (l : Nat) (p : ExpMsg) (s : State), l < s.build.links → memberOf s p.epoch = true → isChild s p.epoch l = true → coreReset s = true →
    exec (.exponentProposal l p) s = .next (relayBypass clBulk 3 p.epoch (.exps p) s)) ∧
  (∀ (l : Nat) (p : ExpMsg) (s : State), l < s.build.links → memberOf s p.epoch = false ∨ isChild s p.epoch l = false →
    exec (.exponentProposal l p) s = .next (errEpoch l s)) ∧
  (∀ (l : Nat) (p : ExpMsg) (s : State), l < s.build.links → memberOf s p.epoch = true → isParent s p.epoch l = true →
    p.exps.any (fun x => x == -128) = false →
    exec (.exponentAgreed l p) s = .next (sendDown clBulk p.epoch (.exps p) { s with dgt := { s.dgt with
      exps := s.dgt.exps.filter (fun y => !(expIs p.epoch p.coll p.step p.first y)) ++
        [{ epoch := p.epoch, coll := p.coll, step := p.step, first := p.first, sent := true, agreed := some p.exps }] } })) ∧
  (∀ (l : Nat) (p : ExpMsg) (s : State), l < s.build.links → memberOf s p.epoch = true → isParent s p.epoch l = true →
    p.exps.any (fun x => x == -128) = true →
    exec (.exponentAgreed l p) s = .next (sendDown clBulk p.epoch (.exps p)
      (tallyFallback 3 ((partsIn s p.epoch).headD 0) p.coll p.step 0 { s with dgt := { s.dgt with
      exps := s.dgt.exps.filter (fun y => !(expIs p.epoch p.coll p.step p.first y)) ++
        [{ epoch := p.epoch, coll := p.coll, step := p.step, first := p.first, sent := true, agreed := none, incomplete := true }] } }))) ∧
  (∀ (m : XportMsg) (s : State), memberOf s m.epoch = true → s.dgt.xportEn = true → s.dgt.xports.any (xportIs true m.coll m.step m.hostLink m.seq) = false →
    exec (.xport m) s = .next { s with dgt := { s.dgt with xports := s.dgt.xports ++
      [{ epoch := m.epoch, coll := m.coll, step := m.step, hostLink := m.hostLink, seq := m.seq, rx := true, msg := some m }] } }) ∧
  (∀ (m : XportMsg) (x : Xport) (c : Nat) (s : State), memberOf s m.epoch = true → s.dgt.xportEn = true → s.dgt.xports = [x] →
    xportIs true m.coll m.step m.hostLink m.seq x = true → x.closed = some c → x.bad = false → m.digest = x.digest → m.elems = x.elems →
    exec (.xport m) s = .next (landCheck (nodeChk x.epoch x.part c ckTransport vPass) { s with dgt := { s.dgt with xports := [] } })) ∧
  (∀ (m : XportMsg) (x : Xport) (c : Nat) (s : State), memberOf s m.epoch = true → s.dgt.xportEn = true → s.dgt.xports = [x] →
    xportIs true m.coll m.step m.hostLink m.seq x = true → x.closed = some c → x.bad = false → m.digest ≠ x.digest ∨ m.elems ≠ x.elems →
    exec (.xport m) s = .next (landCheck (nodeChk x.epoch x.part c ckTransport vFail)
      (modDgt (fun d => { d with xportFail := satInc 12 d.xportFail })
        (recordBlock .xportFail
          (le 2 m.hostLink ++ zeros 2 ++ le 4 m.sender ++ le 4 s.wch.chip ++ le 4 m.coll ++ le 4 m.step ++ le 4 m.seq)
          { s with dgt := { s.dgt with xports := [] } })))) ∧
  (∀ (m : XportMsg) (s : State), memberOf s m.epoch = false ∨ s.dgt.xportEn = false → exec (.xport m) s = .next s) ∧
  (∀ (a b h q c : Nat) (x : Xport) (s : State), s.dgt.xports = [x] → xportIs true a b h q x = true → x.closed = some c → x.msg = none → c + 16 ≤ now s →
    exec (.xportTimeout a b h q) s =
      .next (landCheck (nodeChk x.epoch x.part c ckTransport vUncovered) { s with dgt := { s.dgt with xports := [] } })) ∧
  (∀ (a b h q c : Nat) (x : Xport) (s : State), s.dgt.xports = [x] → x.closed = some c → x.msg ≠ none ∨ now s < c + 16 →
    exec (.xportTimeout a b h q) s = .next s)

/-- Step marks and the commands of DGT_CMD (R183, R189, R192, R194, R195, R281, R283): STEP_MARK enters the mark with its stroke, notes a gap,
ends the step of the partition's replicas and asks for a checkpoint when CKPT_STEPS is reached. A GO write takes a VARNISH or RESTORE to the
next Judge; REPL_LOAD is done at once. (BAD_ADDR before BAD_OP, and the CMD interrupt at every end, are the model's choice, log entry 33.) -/
def Obligations.StepMarksAndDigestCommands : Prop :=
  (∀ (a : Access) (v : Word) (s : State), reachesPart s a aDgtStep (fld v 53 48) = true → s.dgt.repl = [] → s.dgt.staged = [] →
    s.rcv.cfg.ckptSteps = 0 → (part s (fld v 53 48)).marks = [] →
    exec (.stepMark a v) s = .next (busOk (modPart (fld v 53 48) (fun q => { q with
      marks := [(fld v 47 0, now s)], firstMark := false }) s))) ∧
  (∀ (a : Access) (v : Word) (u n : Nat) (m : List (Nat × Nat)) (s : State), reachesPart s a aDgtStep (fld v 53 48) = true →
    (part s (fld v 53 48)).marks = (u, n) :: m → (part s (fld v 53 48)).firstMark = false → fld v 47 0 ≠ u + 1 →
    exec (.stepMark a v) s = .next (busOk (ckptStep (fld v 53 48) (fld v 47 0)
      (modPart (fld v 53 48) (fun q => { q with marks := (fld v 47 0, now s) :: q.marks, firstMark := false })
        (replMark (fld v 53 48) (recPart .stepGap noNode (fld v 53 48)
          (le 1 (fld v 53 48) ++ zeros 3 ++ le 6 (u + 1) ++ le 6 (fld v 47 0)) s)))))) ∧
  (∀ (a : Access) (v : Word) (u n : Nat) (m : List (Nat × Nat)) (s : State), reachesPart s a aDgtStep (fld v 53 48) = true →
    (part s (fld v 53 48)).marks = (u, n) :: m → fld v 47 0 = u + 1 →
    exec (.stepMark a v) s = .next (busOk (ckptStep (fld v 53 48) (fld v 47 0)
      (modPart (fld v 53 48) (fun q => { q with marks := (fld v 47 0, now s) :: q.marks, firstMark := false }) (replMark (fld v 53 48) s))))) ∧
  (∀ (a : Access) (v : Word) (s : State), s.boot.inReset = false → mayPart s a (fld v 53 48) = false →
    exec (.stepMark a v) s = .next (deny a true false aDgtStep s)) ∧
  (∀ (a : Access) (v : Word) (b x : MemRead) (c : Instr) (s : State), reachesPart s a aDgtCmd (fld v 55 50) = true →
    (c = .varnish a v b x ∧ fld v 62 59 = 1) ∨ (c = .restore a v b x ∧ fld v 62 59 = 2) → fbit v 63 = true → (dcmd s a.slot).status ≠ dsBusy →
    fld v 5 0 = 0 →
    exec c s = .next (busOk (modDcmd a.slot (fun c => { c with status := dsBusy, waiting := true, blk := b, aux := x })
      (modDcmd a.slot (fun c => { c with op := fld v 62 59, part := fld v 55 50, detail := 0, step := 0, entries := [], verified := [] }) s)))) ∧
  (∀ (a : Access) (v : Word) (b x : MemRead) (c : Instr) (s : State), reachesPart s a aDgtCmd (fld v 55 50) = true →
    c = .varnish a v b x ∨ c = .restore a v b x ∨ c = .replLoad a v b → fbit v 63 = true → (dcmd s a.slot).status = dsBusy →
    exec c s = .next (busOk (modDcmd a.slot (fun c => { c with retrySeen := true }) s))) ∧
  (∀ (a : Access) (v : Word) (b x : MemRead) (c : Instr) (s : State), reachesPart s a aDgtCmd (fld v 55 50) = true →
    c = .varnish a v b x ∨ c = .restore a v b x ∨ c = .replLoad a v b → fbit v 63 = true → (dcmd s a.slot).status ≠ dsBusy → fld v 5 0 ≠ 0 →
    exec c s = .next (busOk (dgtFinish a.slot dsBadAddr 0
      (modDcmd a.slot (fun c => { c with op := fld v 62 59, part := fld v 55 50, detail := 0, step := 0, entries := [], verified := [] }) s)))) ∧
  (∀ (a : Access) (v : Word) (b x : MemRead) (c : Instr) (s : State), reachesPart s a aDgtCmd (fld v 55 50) = true →
    c = .varnish a v b x ∨ c = .restore a v b x ∨ c = .replLoad a v b → fbit v 63 = false → exec c s = .next (busOk s)) ∧
  (∀ (a : Access) (v : Word) (s : State), reachesPart s a aDgtCmd (fld v 55 50) = true → fbit v 63 = true → (dcmd s a.slot).status ≠ dsBusy →
    fld v 5 0 = 0 → fld v 62 59 = 3 →
    exec (.replLoad a v none) s = .next (busOk (dgtFinish a.slot dsBadBlock 0
      (modDcmd a.slot (fun c => { c with op := 3, part := fld v 55 50, detail := 0, step := 0, entries := [], verified := [] }) s)))) ∧
  (∀ (a : Access) (v : Word) (b : List Byte) (l : List Repl) (s : State), reachesPart s a aDgtCmd (fld v 55 50) = true → fbit v 63 = true →
    (dcmd s a.slot).status ≠ dsBusy → fld v 5 0 = 0 → fld v 62 59 = 3 →
    replTable (fld v 55 50) (s.dgt.repl.filter (fun r => !(r.part == fld v 55 50))).length b = .inr l →
    ∃ t, exec (.replLoad a v (some b)) s = .next t ∧
      t.dgt.staged = s.dgt.staged.filter (fun x => !(x.1 == fld v 55 50)) ++ [(fld v 55 50, l)] ∧ t.dgt.repl = s.dgt.repl ∧
      (dcmd t a.slot).status = dsDone) ∧
  (∀ (n st d : Nat) (s : State), (dcmd (dgtFinish n st d s) n).status = st ∧ (dcmd (dgtFinish n st d s) n).detail = d ∧
    bitOf (slot (dgtFinish n st d s) n).irq irqCmd = true)

/-- VARNISH and RESTORE run and end (R189 to R192, R283): a VARNISH whose step is tainted ends TAINTED, and one whose step has committed writes its
record with COMMIT last, seals the step and ends the checkpoint request; after 10,000 strokes it ends NOT_COMMITTED. A RESTORE that waited
1,000,000 strokes ends SHARD_MISSING with RESTORE_REJECT. -/
def Obligations.VarnishesCommitAndRestoresEnd : Prop :=
  (∀ (n : Nat) (w : Bool) (s : State), n < 16 → (dcmd s n).running = true → (dcmd s n).op = 1 →
    stepTainted s (dcmd s n).part (dcmd s n).step = true → exec (.varnishCommitted n w) s = .next (dgtFinish n dsTainted 0 s)) ∧
  (∀ (n : Nat) (s : State), n < 16 → (dcmd s n).running = true → (dcmd s n).op = 1 →
    stepTainted s (dcmd s n).part (dcmd s n).step = false → committed s (dcmd s n).part (dcmd s n).step = true →
    exec (.varnishCommitted n false) s = .next (dgtFinish n dsWriteFail 0
      (emit (.memWriteLast ((dcmd s n).recAddr + (varnishBytes s (dcmd s n)).length) (le 4 0x56524E53))
        (memWrite (dcmd s n).recAddr false (varnishBytes s (dcmd s n)) s)))) ∧
  (∀ (n : Nat) (s : State), n < 16 → (dcmd s n).running = true → (dcmd s n).op = 1 →
    stepTainted s (dcmd s n).part (dcmd s n).step = false → committed s (dcmd s n).part (dcmd s n).step = true →
    ∃ t, exec (.varnishCommitted n true) s = .next t ∧ (dcmd t n).status = dsDone ∧ (dcmd t n).running = false ∧
      (part t (dcmd s n).part).lastVarnish = some ((dcmd s n).step, now s) ∧ (part t (dcmd s n).part).ckptSince = none ∧
      (part t (dcmd s n).part).sealed = addNew (part s (dcmd s n).part).sealed (dcmd s n).step ∧ t.rcv.ckpt = clearBit s.rcv.ckpt (dcmd s n).part) ∧
  (∀ (n : Nat) (w : Bool) (s : State), n < 16 → (dcmd s n).running = false ∨ (dcmd s n).op ≠ 1 ∨
    (stepTainted s (dcmd s n).part (dcmd s n).step = false ∧ committed s (dcmd s n).part (dcmd s n).step = false) →
    exec (.varnishCommitted n w) s = .next s) ∧
  (∀ (n : Nat) (s : State), n < 16 → (dcmd s n).running = true → (dcmd s n).op = 1 → (dcmd s n).started + 10000 ≤ now s →
    exec (.varnishTimeout n) s = .next (dgtFinish n dsNotCommitted 0 s)) ∧
  (∀ (n : Nat) (s : State), n < 16 → (dcmd s n).running = false ∨ (dcmd s n).op ≠ 1 ∨ now s < (dcmd s n).started + 10000 →
    exec (.varnishTimeout n) s = .next s) ∧
  (∀ (n : Nat) (s : State), n < 16 → (dcmd s n).running = true → (dcmd s n).op = 2 → (dcmd s n).started + 1000000 ≤ now s →
    exec (.restoreShardTimeout n) s = .next (rejectRestore n dsShardMissing (unread (dcmd s n)) s)) ∧
  (∀ (n : Nat) (s : State), n < 16 → (dcmd s n).running = false ∨ (dcmd s n).op ≠ 2 ∨ now s < (dcmd s n).started + 1000000 →
    exec (.restoreShardTimeout n) s = .next s) ∧
  (∀ (n st d : Nat) (s : State), rejectRestore n st d s = dgtFinish n st d (recPart .restoreReject noNode (dcmd s n).part
    (le 1 st ++ le 1 (dcmd s n).part ++ zeros 2 ++ le 4 d ++ le 6 (dcmd s n).step ++ zeros 2) s))

/-- Replica votes (R184 to R186): a member's digest counts once, and the vote closes when every member that is not expelled has reported or
REPL_WAIT strokes after the first. A result gives each waiting member its code, and a member outside the majority is expelled. -/
def Obligations.ReplicasVoteOnDigests : Prop :=
  (∀ (m : ShardMsg) (r : Repl) (s : State), memberOf s m.epoch = true → s.dgt.repl.find? (isGroup m.group m.shard) = some r →
    r.gone.contains m.member = false → m.member < r.n → s.dgt.votes = [] → 1 < r.n - r.gone.length →
    exec (.shard m) s = .next { s with dgt := { s.dgt with votes := [{
      epoch := m.epoch, part := r.part, group := m.group, shard := m.shard, step := m.step, firstAt := now s
      reports := [(m.member, m.src, m.digest)] }] } }) ∧
  (∀ (m : ShardMsg) (r : Repl) (v : Vote) (s : State), memberOf s m.epoch = true → s.dgt.repl.find? (isGroup m.group m.shard) = some r →
    r.gone.contains m.member = false → m.member < r.n → s.dgt.votes = [v] → voteIs m.epoch m.group m.shard m.step v = true →
    v.closed = false → v.reports.any (fun x => x.1 == m.member) = false → r.n - r.gone.length ≤ v.reports.length + 1 →
    exec (.shard m) s = .next (closeVote { v with reports := v.reports ++ [(m.member, m.src, m.digest)] } r
      { s with dgt := { s.dgt with votes := [{ v with reports := v.reports ++ [(m.member, m.src, m.digest)] }] } })) ∧
  (∀ (m : ShardMsg) (r : Repl) (v : Vote) (s : State), memberOf s m.epoch = true → s.dgt.repl.find? (isGroup m.group m.shard) = some r →
    s.dgt.votes.find? (voteIs m.epoch m.group m.shard m.step) = some v →
    v.closed = true ∨ v.reports.any (fun x => x.1 == m.member) = true ∨ r.gone.contains m.member = true ∨ r.n ≤ m.member →
    exec (.shard m) s = .next s) ∧
  (∀ (m : ShardMsg) (s : State), memberOf s m.epoch = false ∨ s.dgt.repl.find? (isGroup m.group m.shard) = none → exec (.shard m) s = .next s) ∧
  (∀ (g h t : Nat) (v : Vote) (r : Repl) (s : State),
    s.dgt.votes.find? (fun v => v.group == g && v.shard == h && v.step == t && !v.closed) = some v →
    s.dgt.repl.find? (isGroup g h) = some r → v.firstAt + Nat.max 16 s.dgt.replWait ≤ now s →
    exec (.voteTimeout g h t) s = .next (closeVote v r s)) ∧
  (∀ (g h t : Nat) (v : Vote) (s : State),
    s.dgt.votes.find? (fun v => v.group == g && v.shard == h && v.step == t && !v.closed) = some v →
    now s < v.firstAt + Nat.max 16 s.dgt.replWait → exec (.voteTimeout g h t) s = .next s) ∧
  (∀ (n a b : Nat) (rs : List (Nat × Nat × Nat)), 2 ≤ n → rs = List.replicate n (a, b, 5) → voteOutcome n rs = (0, 5, n)) ∧
  (∀ (m : ShardMsg) (s : State), memberOf s m.epoch = false ∨
    s.dgt.repl.all (fun r => !(isGroup m.group m.shard r && r.waits.any (fun w => low32 w.1 == m.step))) = true →
    exec (.voteResult m) s = .next s) ∧
  (∀ (m : ShardMsg) (r : Repl) (t d : Nat) (c : Option Nat) (s : State), memberOf s m.epoch = true → s.dgt.repl = [r] →
    isGroup m.group m.shard r = true → r.waits = [(t, d, none, c)] → low32 t = m.step → m.outcome ≠ 2 →
    exec (.voteResult m) s = .next { s with dgt := { s.dgt with
      repl := [{ r with
        waits := [(t, d, none, some (resultCode m.outcome m.digest d))]
        expelled := r.expelled || (m.outcome == 1 && !(d == m.digest)) }]
      replExpel := satAdd 4095 s.dgt.replExpel (if r.expelled = false ∧ m.outcome = 1 ∧ d ≠ m.digest then 1 else 0) } }) ∧
  (∀ m d : Nat, resultCode 0 m d = vPass ∧ resultCode 1 m m = vPass ∧ (d ≠ m → resultCode 1 m d = vFail) ∧
    resultCode 2 m d = vFail ∧ resultCode 3 m d = vUncovered)

/-- PWR_LC_CMD (R390 to R393, R399): a GO write runs the OP it names; the five rows of the table are the five OPs of one register. While a burn is
under way GO answers RETRY; an OP with no row is a reject. DEVKEY writes the device public key, which is what the crypto operations give (log
entry 13). PROVISION, RETURN, SERIAL and REVOKE end with the first failed condition of their table and PROVISION_REJECT, or commit AUTH_CTR and
burn their fuses; a PROVISION that has nothing to burn writes the key store at once. -/
def Obligations.LifeCycleCommandsRun : Prop :=
  (∀ (a : Access) (v : Word) (b : MemRead) (c : Instr) (s : State), reaches s a aPwrLcCmd = true →
    c = .devkey a v ∨ c = .provision a v b ∨ c = .lifecycleReturn a v b ∨ c = .serial a v b ∨ c = .revoke a v b → fbit v 63 = false →
    exec c s = .next (busOk { s with life := { s.life with addr := fld v 47 0 } })) ∧
  (∀ (a : Access) (v : Word) (b : MemRead) (c : Instr) (s : State), reaches s a aPwrLcCmd = true →
    c = .devkey a v ∨ c = .provision a v b ∨ c = .lifecycleReturn a v b ∨ c = .serial a v b ∨ c = .revoke a v b → fbit v 63 = true →
    s.life.req.isSome = true → exec c s = .next (busOk { s with life := { s.life with addr := fld v 47 0, result := plRetry } })) ∧
  (∀ (a : Access) (v : Word) (b : MemRead) (c : Instr) (s : State), reaches s a aPwrLcCmd = true →
    c = .devkey a v ∨ c = .provision a v b ∨ c = .lifecycleReturn a v b ∨ c = .serial a v b ∨ c = .revoke a v b → fbit v 63 = true →
    s.life.req = none → fld v 62 60 = 0 ∨ 5 < fld v 62 60 →
    exec c s = .next (busOk (lcReject (fld v 62 60) plBadBlock { s with life := { s.life with addr := fld v 47 0 } }))) ∧
  (∀ (a : Access) (v : Word) (s : State), reaches s a aPwrLcCmd = true → fbit v 63 = true → fld v 62 60 = 1 → s.life.req = none →
    fld v 47 0 % 64 = 0 → lifeState s ≠ 2 →
    exec (.devkey a v) s = .next (busOk (lcResult plDone
      (memWrite (fld v 47 0) false (fit 96 (Config.publicKey (deviceScalar s))) { s with life := { s.life with addr := fld v 47 0 } })))) ∧
  (∀ (a : Access) (v : Word) (b : MemRead) (s : State), reaches s a aPwrLcCmd = true → fbit v 63 = true → fld v 62 60 = 2 → s.life.req = none →
    ∃ x, x = { s with life := { s.life with addr := fld v 47 0 } } ∧
      exec (.provision a v b) s = .next (busOk (
        if provisionCheck x b ≠ plRunning then lcReject opProvision (provisionCheck x b) x
        else if provisionBurns x (bundleKeys x (b.getD [])) = [] then provisionEnd (lifeState x) (bundleKeys x (b.getD [])) x
        else startBurns (provisionBurns x (bundleKeys x (b.getD []))) x))) ∧
  (∀ (a : Access) (v : Word) (b : MemRead) (s : State), reaches s a aPwrLcCmd = true → fbit v 63 = true → fld v 62 60 = 3 → s.life.req = none →
    returnCheck { s with life := { s.life with addr := fld v 47 0 } } b = plRunning →
    exec (.lifecycleReturn a v b) s = .next (busOk (startBurns [{ addr := 0x0A, bits := 2, op := 3 }]
      { s with life := { s.life with addr := fld v 47 0 }, nvm := { s.nvm with authCtr := rd (b.getD []) 16 4 } }))) ∧
  (∀ (a : Access) (v : Word) (b : MemRead) (s : State), reaches s a aPwrLcCmd = true → fbit v 63 = true → fld v 62 60 = 3 → s.life.req = none →
    returnCheck { s with life := { s.life with addr := fld v 47 0 } } b ≠ plRunning →
    exec (.lifecycleReturn a v b) s = .next (busOk (lcReject 3 (returnCheck { s with life := { s.life with addr := fld v 47 0 } } b)
      { s with life := { s.life with addr := fld v 47 0 } }))) ∧
  (∀ (a : Access) (v : Word) (b : MemRead) (c : Instr) (s : State), reaches s a aPwrLcCmd = true → fbit v 63 = true →
    (c = .serial a v b ∧ fld v 62 60 = 4) ∨ (c = .revoke a v b ∧ fld v 62 60 = 5) → s.life.req = none →
    ∃ x, x = { s with life := { s.life with addr := fld v 47 0 } } ∧
      exec c s = .next (busOk (
        if lockCheck (fld v 62 60) x b ≠ plRunning then lcReject (fld v 62 60) (lockCheck (fld v 62 60) x b) x
        else startBurns [lockBurn (fld v 62 60) x (b.getD [])] { x with nvm := { s.nvm with authCtr := rd (b.getD []) 16 4 } }))) ∧
  (∀ (r : OtpReq) (q : List OtpReq) (s : State), startBurns (r :: q) s =
    emit (.otp true r.addr r.bits) { s with life := { s.life with req := some r, queue := q, result := plRunning } })

/-- Answers of the OTP port (R391 to R393, R431, R432) and accesses through the test port (R218): a burn that was answered well programs ones and
lets the next one start; the last one ends its command: PROVISION writes the key store, RETURN erases it and leaves every epoch, SERIAL and
REVOKE are done. A failed burn ends the command BAD_BLOCK. -/
def Obligations.BurnsEndLifeCycleCommands : Prop :=
  (∀ (e : Bool) (z : List Nat) (s : State), s.life.req = none → exec (.otpAccessDone e z) s = .next s) ∧
  (∀ (z : List Nat) (r : OtpReq) (s : State), s.life.req = some r →
    exec (.otpAccessDone true z) s = .next (recordBlock .provisionReject (le 1 r.op ++ le 1 plBadBlock ++ zeros 2)
      { s with life := { s.life with req := none, queue := [], result := plBadBlock } })) ∧
  (∀ (z : List Nat) (r q : OtpReq) (l : List OtpReq) (s : State), s.life.req = some r → s.life.queue = q :: l →
    exec (.otpAccessDone false z) s = .next (emit (.otp true q.addr q.bits) { s with life := { s.life with
      otp := tput s.life.otp r.addr (BitVec.ofNat 32 (r.bits ||| (tgetD s.life.otp r.addr 0).toNat))
      req := some q, queue := l, result := plRunning } })) ∧
  (∀ (z : List Nat) (r : OtpReq) (s : State), s.life.req = some r → s.life.queue = [] → r.op = 4 ∨ r.op = 5 →
    ∃ x, x = { s with life := { s.life with
        otp := tput s.life.otp r.addr (BitVec.ofNat 32 (r.bits ||| (tgetD s.life.otp r.addr 0).toNat)), req := none, queue := [] } } ∧
      exec (.otpAccessDone false z) s = .next (lcDone r.op (lifeState x) x)) ∧
  (∀ (z : List Nat) (r : OtpReq) (k : KeyStore) (s : State), s.life.req = some r → s.life.queue = [] → r.op = 2 → r.store = some k →
    ∃ t, exec (.otpAccessDone false z) s = .next t ∧ t.nvm.keyStore = some k ∧ t.life.keys = some k ∧ t.life.result = plDone ∧
      t.life.req = none ∧ t.life.otp = tput s.life.otp r.addr (BitVec.ofNat 32 (r.bits ||| (tgetD s.life.otp r.addr 0).toNat))) ∧
  (∀ (z : List Nat) (r : OtpReq) (s : State), s.life.req = some r → s.life.queue = [] → r.op = 3 →
    ∃ t, exec (.otpAccessDone false z) s = .next t ∧ t.nvm.keyStore = none ∧ t.life.keys = none ∧ t.life.result = plDone ∧
      t.life.req = none ∧ t.life.otp = tput s.life.otp r.addr (BitVec.ofNat 32 (r.bits ||| (tgetD s.life.otp r.addr 0).toNat))) ∧
  (∀ s : State, lifeState s ≠ 1 → s.life.scanOk = true → exec .deepTestAccess s = .next s) ∧
  (∀ s : State, lifeState s = 1 ∨ s.life.scanOk = false →
    exec .deepTestAccess s = .next (recordBlock .deepDenied (le 1 1 ++ zeros 3) { s with life := { s.life with denied := true } }))

/-- Holds (R201, R205, R206, R213, R214, R220): with no hold open, READY and slices not suspended, the next request or due tile is held; the grant
starts an ordinary slice's first run; without a grant in time the slice is deferred for 1,000 strokes, and STARVED the 64th time in a row; 200
strokes after its grant the hold closes. -/
def Obligations.HoldsOpenAreGrantedAndLimited : Prop :=
  (∀ s : State, s.scr.hold = none → s.boot.ready = true → holdsSuspended s = false →
    (s.scr.queue = [] → dueOrder s = [] → exec .holdOpen s = .next s) ∧ exec .holdOpen s = .next (openNext s)) ∧
  (∀ s : State, s.scr.hold.isSome = true ∨ s.boot.ready = false ∨ holdsSuspended s = true → exec .holdOpen s = .next s) ∧
  (∀ (p k e : Nat) (od : Option OnDemand) (r : Bool) (s : State),
    (s.gnd.golden.getD e {}).kind ≠ skArith ∨ (s.gnd.golden.getD e {}).reference.isSome = true →
    openHold p k e od r s = event (nodeOf p) evHoldOpen 0 k (emit (.sliceReq p k) { s with scr := { s.scr with
      eff := s.scr.cfg
      hold := some { port := p, kind := k, entry := e, od := od, rotates := r, opened := now s, setup := !(sent s p).sched.holdStress } } })) ∧
  (∀ (p : Nat) (h : Hold) (s : State), p < s.build.ports → s.scr.hold = some h → h.port = p → h.stage = 1 → h.ending = none → h.kind ≠ skMargin →
    exec (.sliceGrant p) s = .next { s with scr := { s.scr with hold := some { h with
      granted := some (now s), run := 1, stage := 4, ran := true, march := none, second := false, dirty := h.kind == skMbist } } }) ∧
  (∀ (p : Nat) (h : Hold) (s : State), p < s.build.ports → s.scr.hold = some h → h.port = p → h.stage = 1 → h.ending = none → h.kind = skMargin →
    h.setup = false ∨ s.scr.eff.heatEn = false →
    exec (.sliceGrant p) s = .next (applyStress { s with scr := { s.scr with hold := some { h with granted := some (now s) } } })) ∧
  (∀ (p : Nat) (s : State), p < s.build.ports → s.scr.hold = none → exec (.sliceGrant p) s = .next s) ∧
  (∀ (h : Hold) (s : State), s.scr.hold = some h → h.stage = 1 → h.granted = none → h.ending = none →
    h.opened + Nat.max 4 s.scr.eff.grantWait ≤ now s → (sent s h.port).sched.deferrals + 1 < 64 → h.od = none →
    ∃ t, exec .grantTimeout s = .next t ∧ t.scr = { s.scr with deferred := satInc 16 s.scr.deferred, hold := none } ∧
      (sent t h.port).sched = { (sent s h.port).sched with eligibleAt := now s + 1000, deferrals := (sent s h.port).sched.deferrals + 1 }) ∧
  (∀ s : State, s.scr.hold = none → exec .grantTimeout s = .next s ∧ exec .holdLimit s = .next s) ∧
  (∀ (h : Hold) (s : State), s.scr.hold = some h → now s < h.opened + Nat.max 4 s.scr.eff.grantWait → exec .grantTimeout s = .next s) ∧
  (∀ (p : Nat) (s : State), p < s.build.ports → (sent s p).sched.eligibleAt ≤ now s →
    exec (.sliceEligible p) s = .next (modSent p (fun x => { x with sched := { x.sched with eligibleAt := 0 } }) s)) ∧
  (∀ (p : Nat) (s : State), p < s.build.ports → now s < (sent s p).sched.eligibleAt → exec (.sliceEligible p) s = .next s) ∧
  (∀ (h : Hold) (g : Nat) (s : State), s.scr.hold = some h → h.granted = some g → g + 200 ≤ now s → h.ending = none → h.awaiting = 0 → h.onStress = false →
    h.dirty = false →
    exec .holdLimit s = .next (closeHold { h with march := none } soUncovered
      (sliceResult { h with march := none } soUncovered scHoldLimit { s with scr := { s.scr with hold := some { h with march := none } } }))) ∧
  (∀ (h : Hold) (g : Nat) (s : State), s.scr.hold = some h → h.granted = some g → now s < g + 200 → exec .holdLimit s = .next s) ∧
  (∀ (h : Hold) (o : Nat) (s : State), (closeHold h o s).scr.hold = none)

/-- Runs and outcomes (R198, R206, R209 to R212): a run's value is compared with the entry's; a first run that passes is PASS, one that fails is
confirmed by a second, which that passes is TRANSIENT; a second failure asks for a witness, which that passes is PERMANENT; a run over budget is UNCOVERED and a
witness that does not come NO_WITNESS. A march waits for its segment, which is tried twice (what a failed restore means for the slice is the
model's choice, log entry 34). -/
def Obligations.SliceRunsDecideOutcomes : Prop :=
  (∀ (o : Nat) (m : Bool) (h : Hold) (s : State), s.scr.hold = some h → runOn h = true → h.dirty = false → (holdEntry s h).kind ≠ skArith →
    (sent s (runPort h)).stretch = false →
    exec (.sliceRunComplete (.ran o m)) s = .next (afterRun (o == (holdEntry s h).expected) o s)) ∧
  (∀ (o : Nat) (h : Hold) (s : State), s.scr.hold = some h → runOn h = true → h.dirty = true → (holdEntry s h).kind ≠ skArith →
    (sent s (runPort h)).stretch = false →
    exec (.sliceRunComplete (.ran o false)) s =
      .next { s with scr := { s.scr with hold := some { h with march := some (o == (holdEntry s h).expected, o) } } }) ∧
  (∀ (c : Instr) (h : Hold) (s : State), c = .sliceRunComplete .overBudget ∨ c = .sliceBudgetExpiry → s.scr.hold = some h → runOn h = true →
    exec c s = .next (if h.run = 3 then endHold soNoWitness 0 s else abortHold scOverbudget s)) ∧
  (∀ (c : Instr) (r : RunEnd) (s : State), c = .sliceRunComplete r ∨ c = .sliceBudgetExpiry → s.scr.hold = none → exec c s = .next s) ∧
  (∀ (c : Instr) (r : RunEnd) (h : Hold) (s : State), c = .sliceRunComplete r ∨ c = .sliceBudgetExpiry → s.scr.hold = some h → runOn h = false →
    exec c s = .next s) ∧
  (∀ (o : Nat) (h : Hold) (s : State), s.scr.hold = some h → h.run = 1 →
    afterRun true o s = endHold (if h.stressedFail then soMargin else soPass) 0
      { s with scr := { s.scr with hold := some { h with firstStroke := some (now s) } } }) ∧
  (∀ (o : Nat) (h : Hold) (s : State), s.scr.hold = some h → h.run = 1 →
    afterRun false o s = { s with scr := { s.scr with hold := some { h with
      observed := some (h.observed.getD o), firstStroke := some (now s), run := 2, stage := 6, ran := true, march := none, second := false
      dirty := h.kind == skMbist } } }) ∧
  (∀ (o : Nat) (h : Hold) (s : State), s.scr.hold = some h → h.run = 2 → afterRun true o s = endHold soTransient 0 s) ∧
  (∀ (o w : Nat) (h : Hold) (s : State), s.scr.hold = some h → h.run = 2 → h.observed.isSome = true → pickWitness s h.port = some w →
    afterRun false o s = { emit (.sliceReq w h.kind) s with scr := { s.scr with hold := some { h with
      witness := some w, witnessAt := now s, witnessGranted := false, run := 3, stage := 7 } } }) ∧
  (∀ (o : Nat) (h : Hold) (s : State), s.scr.hold = some h → h.run = 3 → afterRun true o s = endHold soPermanent 0 s) ∧
  (∀ (h : Hold) (s : State), s.scr.hold = some h → h.stage = 7 → h.witnessGranted = false → h.ending = none → h.witnessAt + 100 ≤ now s →
    exec .witnessGrantTimeout s = .next (endHold soNoWitness 0 (modHold (fun x => { x with witness := none })
      (whenSome h.witness (fun w => emit (.sliceFall w)) s)))) ∧
  (∀ (h : Hold) (s : State), s.scr.hold = some h → h.stage ≠ 7 ∨ h.witnessGranted = true ∨ now s < h.witnessAt + 100 →
    exec .witnessGrantTimeout s = .next s) ∧
  (∀ (a : Nat) (h : Hold) (p : Bool) (o : Nat) (s : State), s.scr.hold = some h → h.dirty = true → h.march = some (p, o) → h.ending = none →
    canRestore s (runPort h) = true →
    exec (.mbistRestore a a) s = .next (afterRun p o { s with scr := { s.scr with hold := some { h with dirty := false, march := none } } })) ∧
  (∀ (a b : Nat) (h : Hold) (s : State), s.scr.hold = some h → a ≠ b → h.second = false → h.dirty = true → h.march.isSome = true →
    canRestore s (runPort h) = true →
    exec (.mbistRestore a b) s = .next { s with scr := { s.scr with hold := some { h with second := true } } }) ∧
  (∀ (a b : Nat) (h : Hold) (s : State), s.scr.hold = some h → a ≠ b → h.second = true → h.dirty = true → h.march.isSome = true →
    canRestore s (runPort h) = true → exec (.mbistRestore a b) s = .next (restoreFailed h a b s)) ∧
  (∀ (a b : Nat) (s : State), s.scr.hold = none → exec (.mbistRestore a b) s = .next s) ∧
  (∀ (o c : Nat) (h : Hold) (s : State), s.scr.hold = some h → h.dirty = false → h.awaiting = 0 →
    endHold o c s = closeHold h o (sliceResult h o c s))

/-- Stress, heating and the ANALOG engine (R197, R203, R213, R214, R429, R430): conditions within the bounds asked for start the stressed run, and
others, none, or none in time give NO_STRESS once nominal conditions are back; nominal conditions start the nominal run. Heating ends when the
rise or the limit is reached. An ANALOG entry reads the eye height and width of its target and, in loop-back, its errors, and then ends. -/
def Obligations.StressHeatAndTheAnalogEngine : Prop :=
  (∀ (m : Int) (f : Nat) (h : Hold) (s : State), s.scr.hold = some h → h.awaiting = 1 → ¬(m = 0 ∧ f = 0) → m.natAbs ≤ h.askMv.natAbs → f ≤ h.askFreq →
    ∃ t, exec (.stressAck m f) s = .next t ∧ t = { emit .stressFall s with scr := { s.scr with hold := some { h with
      awaiting := 0, onStress := true, appMv := m, appFreq := f, run := 0, stage := 4, ran := true, march := none, second := false
      dirty := h.kind == skMbist } } }) ∧
  (∀ (m : Int) (f : Nat) (h : Hold) (s : State), s.scr.hold = some h → h.awaiting = 1 →
    (m = 0 ∧ f = 0) ∨ h.askMv.natAbs < m.natAbs ∨ h.askFreq < f →
    exec (.stressAck m f) s = .next { emit (.stress h.port 0 0) (emit .stressFall s) with scr := { s.scr with hold := some { h with
      awaiting := 2, ending := some (soUncovered, scNoStress), stage := 5 } } }) ∧
  (∀ (m : Int) (f : Nat) (h : Hold) (s : State), s.scr.hold = some h → h.awaiting = 2 → h.ending = none →
    exec (.stressAck m f) s = .next { emit .stressFall s with scr := { s.scr with hold := some { h with
      awaiting := 0, onStress := false, run := 1, stage := 4, ran := true, march := none, second := false, dirty := h.kind == skMbist } } }) ∧
  (∀ (m : Int) (f : Nat) (h : Hold) (o c : Nat) (s : State), s.scr.hold = some h → h.awaiting = 2 → h.ending = some (o, c) → h.dirty = false →
    ∃ x, x = { h with awaiting := 0, onStress := false } ∧
      exec (.stressAck m f) s = .next (closeHold x o (sliceResult x o c { emit .stressFall s with scr := { s.scr with hold := some x } }))) ∧
  (∀ (m : Int) (f : Nat) (s : State), s.scr.hold = none → exec (.stressAck m f) s = .next s ∧ exec .stressTimeout s = .next s ∧
    exec (.heatReached f) s = .next s ∧ exec .heatLimit s = .next s) ∧
  (∀ (h : Hold) (s : State), s.scr.hold = some h → h.awaiting = 1 → h.stressAt + s.scr.eff.stressWait ≤ now s →
    exec .stressTimeout s = .next { emit (.stress h.port 0 0) (emit .stressFall s) with scr := { s.scr with hold := some { h with
      awaiting := 2, ending := some (soUncovered, scNoStress), stage := 5 } } }) ∧
  (∀ (h : Hold) (s : State), s.scr.hold = some h → h.awaiting ≠ 1 ∨ now s < h.stressAt + s.scr.eff.stressWait → exec .stressTimeout s = .next s) ∧
  (∀ (r : Nat) (h : Hold) (s : State), s.scr.hold = some h → h.stage = 2 → h.ending = none → Nat.min 30 s.scr.eff.heatDelta ≤ r →
    exec (.heatReached r) s = .next (applyStress { s with scr := { s.scr with hold := some { h with tempRise := r } } })) ∧
  (∀ (r : Nat) (h : Hold) (s : State), s.scr.hold = some h → h.stage ≠ 2 ∨ r < Nat.min 30 s.scr.eff.heatDelta → exec (.heatReached r) s = .next s) ∧
  (∀ (h : Hold) (s : State), s.scr.hold = some h → h.stage = 2 → h.ending = none → h.heatAt + s.scr.eff.heatMax ≤ now s →
    exec .heatLimit s = .next (applyStress { s with scr := { s.scr with hold := some { h with tempRise := riseOf s h } } })) ∧
  (∀ (h : Hold) (s : State), s.scr.hold = some h → h.stage ≠ 2 ∨ now s < h.heatAt + s.scr.eff.heatMax → exec .heatLimit s = .next s) ∧
  (∀ (i : Nat) (s : State), analogReady s i = true → exec (.analogDue i) s = .next (startAnalog i s)) ∧
  (∀ (i : Nat) (s : State), analogReady s i = false → exec (.analogDue i) s = .next s) ∧
  (∀ (d : Nat) (x : Analog) (s : State), s.scr.analog = some x → x.reg = 0 →
    exec (.testPortAck d) s = .next { emit (.testPort (analogTarget s x.entry) (analogIndex s x.entry) 1 false 0) s with
      scr := { s.scr with analog := some { x with height := d % 65536, reg := 1 } } }) ∧
  (∀ (d : Nat) (x : Analog) (s : State), s.scr.analog = some x → x.reg = 1 → x.loopback = false →
    ∃ y, y = { x with width := d % 65536 } ∧ exec (.testPortAck d) s = .next (endAnalog y (analogPass s y) s)) ∧
  (∀ (d : Nat) (x : Analog) (s : State), s.scr.analog = some x → x.reg = 4 → exec (.testPortAck d) s = .next (endAnalog x (analogPass s x) s)) ∧
  (∀ (d : Nat) (s : State), s.scr.analog = none → exec (.testPortAck d) s = .next s ∧ exec .testPortTimeout s = .next s) ∧
  (∀ (x : Analog) (s : State), s.scr.analog = some x → exec .testPortTimeout s = .next (endAnalog x false s)) ∧
  (∀ (x : Analog) (b : Bool) (s : State), (endAnalog x b s).scr.analog = none)

/-- Verdict messages (R225 to R228, R309): a child's verdict joins its stroke's combination by the highest codes and the sums, and goes on once
everything is in or at the tick of s + H; a DOWN is passed on and taken, and strokes are pod-verified in order, never at or above a stroke
noted as failed. A stroke without a complete DOWN is HORIZON_MISS at s + H and VERDICT_LOST at s + 2H; a late fault goes up and holds its stroke. -/
def Obligations.VerdictsAreCombinedAndVerified : Prop :=
  (∀ (l : Nat) (b : Bool) (v : VerdictMsg) (r : VRelay) (s : State), l < s.build.links → memberOf s v.epoch = true → isChild s v.epoch l = true →
    coreReset s = false → s.rcv.relays = [r] → relayIs v.epoch v.stroke r = true → r.sent = false → r.own = false →
    exec (.verdictUp l b v) s = .next { s with rcv := { s.rcv with relays := [{ r with
      acc := combine r.acc v, reported := if b then r.reported else addNew r.reported l }] } }) ∧
  (∀ (l : Nat) (v : VerdictMsg) (r : VRelay) (s : State), l < s.build.links → memberOf s v.epoch = true → isChild s v.epoch l = true →
    coreReset s = false → s.rcv.relays = [r] → relayIs v.epoch v.stroke r = true → r.sent = false → r.own = true →
    allChildren s v.epoch (addNew r.reported l) = true → 2 ≤ s.stk.phase →
    exec (.verdictUp l false v) s = .next (forwardRelay v.epoch v.stroke { s with rcv := { s.rcv with relays := [{ r with
      acc := combine r.acc v, reported := addNew r.reported l }] } })) ∧
  (∀ (l : Nat) (b : Bool) (v : VerdictMsg) (s : State), l < s.build.links → memberOf s v.epoch = true → isChild s v.epoch l = true →
    coreReset s = true → exec (.verdictUp l b v) s = .next (relayBypass clVerdict 3 v.epoch (.verdict v) s)) ∧
  (∀ (l : Nat) (b : Bool) (v : VerdictMsg) (s : State), l < s.build.links → memberOf s v.epoch = false ∨ isChild s v.epoch l = false →
    exec (.verdictUp l b v) s = .next (errEpoch l s) ∧ exec (.lateFail l v) s = .next (errEpoch l s)) ∧
  (∀ a b : VerdictMsg, (combine a b).worst = Nat.max a.worst b.worst ∧ (combine a b).blocks = a.blocks + b.blocks ∧
    (combine a b).nfail = a.nfail + b.nfail ∧ (combine a b).chips = (a.chips ++ b.chips).take 48 ∧
    ∀ k, k < 8 → lget (combine a b).kinds k 0 = Nat.max (lget a.kinds k 0) (lget b.kinds k 0)) ∧
  (∀ (e n : Nat) (r : VRelay) (s : State), relay? s e n = some r → r.sent = false → n + Nat.max 3 s.gnd.h ≤ now s →
    exec (.verdictRelayTimeout e n) s = .next (forwardRelay e n s)) ∧
  (∀ (e n : Nat) (s : State), now s < n + Nat.max 3 s.gnd.h → exec (.verdictRelayTimeout e n) s = .next s ∧ exec (.horizonMiss e n) s = .next s) ∧
  (∀ (e n : Nat) (r : VRelay) (x : Epoch) (s : State), relay? s e n = some r → epoch? s e = some x → isRoot x = false →
    forwardRelay e n s = sendUp clVerdict e (.verdict r.acc) (modRelay e n (fun y => { y with sent := true }) s)) ∧
  (∀ (l : Nat) (v : VerdictMsg) (s : State), l < s.build.links → memberOf s v.epoch = true → isParent s v.epoch l = true →
    exec (.verdictDown l v) s = .next (takeDown v (sendDown clVerdict v.epoch (.verdict v) s))) ∧
  (∀ (l : Nat) (v : VerdictMsg) (s : State), l < s.build.links → memberOf s v.epoch = false ∨ isParent s v.epoch l = false →
    exec (.verdictDown l v) s = .next (errEpoch l s)) ∧
  (∀ (k e f : Nat) (x : Epoch) (s : State), epoch? s e = some x → x.failedAt = some f → nextVerify x ≤ f →
    ∃ y, epoch? (verifyRun k e s) e = some y ∧ y.failedAt = some f ∧ nextVerify y ≤ f) ∧
  (∀ (e n : Nat) (x : Epoch) (s : State), epoch? s e = some x → partsIn s e ≠ [] → x.first ≤ n → n + Nat.max 3 s.gnd.h ≤ now s →
    downComplete s e n = false → x.missWritten.contains n = false →
    exec (.horizonMiss e n) s = .next (recordBlock .horizonMiss (le 4 e ++ le 6 n ++ zeros 2 ++ le 4 (downBlocks s e n))
      (modEpoch e (fun y => { y with missWritten := (n :: y.missWritten).take 256 }) s))) ∧
  (∀ (e n : Nat) (x : Epoch) (s : State), epoch? s e = some x → partsIn s e ≠ [] → x.first ≤ n → n + 2 * Nat.max 3 s.gnd.h ≤ now s →
    downComplete s e n = false → x.lostRaised.contains n = false →
    exec (.verdictLost e n) s = .next (originate acVerdictLost e noNode ((partsIn s e).headD 0) (zeros 16)
      (modEpoch e (fun y => { y with lostRaised := (n :: y.lostRaised).take 256 }) s))) ∧
  (∀ (e n : Nat) (s : State), downComplete s e n = true ∨ epoch? s e = none →
    exec (.horizonMiss e n) s = .next s ∧ exec (.verdictLost e n) s = .next s) ∧
  (∀ (l : Nat) (v : VerdictMsg) (s : State), l < s.build.links → memberOf s v.epoch = true → isChild s v.epoch l = true →
    exec (.lateFail l v) s = .next (whenB (!(atOrBelow (verifiedOf s v.epoch) v.stroke)) (noteFail v.epoch v.stroke)
      (whenB (!(rootOf s v.epoch)) (sendUp clVerdict v.epoch (.verdict v)) s)))

/-- Blast radii and the commands of a tile's health and of on-demand slices (R202, R217, R236, R244, R250): the record of a radius is written once it has ended, and
its revision after a sweep; a GO write of RCV_QUAR quarantines a tile in use, at once or after its hold, and answers BAD_NODE or BAD_OP
otherwise; SCR_RUN collects a request for the next decision or refuses it; a trim is recommended or waits for the hold. -/
def Obligations.RadiiQuarantinesAndRequests : Prop :=
  (∀ (i : Nat) (b : Blast) (s : State), s.rcv.blasts[i]? = some b → b.q.isSome = true ∨ b.f + 1000 ≤ now s → b.written = false →
    exec (.blastRecord i false) s = .next (writeBlast i s)) ∧
  (∀ (i : Nat) (b : Blast) (s : State), s.rcv.blasts[i]? = some b → b.q.isSome = true ∨ b.f + 1000 ≤ now s → b.written = true → b.revise = true →
    exec (.blastRecord i true) s = .next (writeBlast i s)) ∧
  (∀ (i : Nat) (r : Bool) (b : Blast) (s : State), s.rcv.blasts[i]? = some b → b.q = none → now s < b.f + 1000 → exec (.blastRecord i r) s = .next s) ∧
  (∀ (i : Nat) (r : Bool) (s : State), s.rcv.blasts[i]? = none → exec (.blastRecord i r) s = .next s) ∧
  (∀ (a : Access) (v : Word) (s : State), reaches s a aRcvQuar = true → fbit v 63 = false → exec (.quarantine a v) s = .next (busOk s)) ∧
  (∀ (a : Access) (v : Word) (s : State), reaches s a aRcvQuar = true → fbit v 63 = true → fld v 62 60 ≠ 1 →
    exec (.quarantine a v) s = .next (busOk { s with rcv := { s.rcv with quarResult := 3 } })) ∧
  (∀ (a : Access) (v : Word) (s : State), reaches s a aRcvQuar = true → fbit v 63 = true → fld v 62 60 = 1 →
    fld v 55 44 < 0x800 ∨ nodeUsed s (fld v 55 44) = false →
    exec (.quarantine a v) s = .next (busOk { s with rcv := { s.rcv with quarResult := 2 } })) ∧
  (∀ (a : Access) (v : Word) (p : Nat) (s : State), reaches s a aRcvQuar = true → fbit v 63 = true → fld v 62 60 = 1 → fld v 55 44 = 0x800 + p →
    nodeUsed s (0x800 + p) = true → (tile s p).state = tsActive ∨ (tile s p).state = tsLent ∨ (tile s p).state = tsSpare →
    exec (.quarantine a v) s = .next (busOk (if holdOn s p
      then { s with rcv := { s.rcv with
        quarResult := 1, quarWaits := s.rcv.quarWaits.filter (fun x => !(x.port == p)) ++ [{ port := p, cause := hcManual }] } }
      else quarantineFor { port := p, cause := hcManual } { s with rcv := { s.rcv with quarResult := 1 } }))) ∧
  (∀ (a : Access) (v : Word) (s : State), reaches s a aScrRun = true → fbit v 63 = false → exec (.scrRun a v) s = .next (busOk s)) ∧
  (∀ (a : Access) (v : Word) (s : State), reaches s a aScrRun = true → fbit v 63 = true → fld v 62 60 ≠ skAnalog →
    fld v 55 44 < 0x800 ∨ tested s (fld v 55 44 - 0x800) = false →
    exec (.scrRun a v) s = .next (busOk { s with scr := { s.scr with result := 3 } })) ∧
  (∀ (a : Access) (v : Word) (p : Nat) (r : OnDemand) (s : State), reaches s a aScrRun = true → fbit v 63 = true → fld v 62 60 ≠ skAnalog →
    fld v 55 44 = 0x800 + p → tested s p = true →
    r = { port := p, kind := fld v 62 60, pattern := fld v 31 16, issued := if s.stk.phase == 0 then now s else now s + 1 } →
    (fld v 62 60 = 0 ∨ 5 < fld v 62 60 ∨ requestEntry s r = none →
      exec (.scrRun a v) s = .next (busOk { s with scr := { s.scr with result := 4 } })) ∧
    (fld v 62 60 ≠ 0 → fld v 62 60 ≤ 5 → (requestEntry s r).isSome = true → holdsSuspended s = true →
      exec (.scrRun a v) s = .next (busOk { s with scr := { s.scr with result := 6 } })) ∧
    (fld v 62 60 ≠ 0 → fld v 62 60 ≤ 5 → (requestEntry s r).isSome = true → holdsSuspended s = false →
      exec (.scrRun a v) s = .next (busOk { s with scr := { s.scr with result := 0, waiting := s.scr.waiting ++ [r] } }))) ∧
  (∀ (p : Nat) (s : State), p < s.build.ports → s.scr.cfg.trimEn = false ∨ (sent s p).attached = false ∨ (sent s p).canary.below < 10000 →
    exec (.trimRecommend p) s = .next s) ∧
  (∀ (p : Nat) (s : State), p < s.build.ports → s.scr.cfg.trimEn = true → (sent s p).attached = true → 10000 ≤ (sent s p).canary.below →
    (sent s p).canary.lastTrim = none → s.scr.hold = none → exec (.trimRecommend p) s = .next (recommendTrim p s)) ∧
  (∀ (p : Nat) (h : Hold) (s : State), p < s.build.ports → s.scr.cfg.trimEn = true → (sent s p).attached = true → 10000 ≤ (sent s p).canary.below →
    (sent s p).canary.lastTrim = none → s.scr.hold = some h → h.port = p →
    exec (.trimRecommend p) s = .next (modSent p (fun x => { x with canary := { x.canary with trimWaits := true } }) s))

/-- Progress counters, late arrivals and the step gate (R253, R257, R258, R284, R424): an advance counts modulo 2^32 and is a move of the
stroke; a new context restarts the run and is named when active; GATE ON drives the sentinels of a context outside an epoch, STEP releases one
command on each, and OFF lets the requests fall; RESULT is DONE once every tile has answered. -/
def Obligations.ProgressCountsAndGatesStep : Prop :=
  (∀ (p n : Nat) (s : State), p < s.build.ports → n < 4 → (sent s p).attached = true →
    exec (.progressInc p n) s =
      .next (modProg p n (fun c => { c with count := (c.count + 1) % 2 ^ 32, moved := true, lastMove := now s }) s)) ∧
  (∀ (p n c : Nat) (a : Bool) (s : State), p < s.build.ports → n < 4 → (sent s p).attached = false →
    exec (.progressInc p n) s = .next s ∧ exec (.progressRebind p n c a) s = .next s) ∧
  (∀ (p n c : Nat) (s : State), p < s.build.ports → n < 4 → (sent s p).attached = true → c < 4096 → (prog s p n).ctx = c →
    exec (.progressRebind p n c false) s = .next (modProg p n (fun y => { y with ctx := c, act := false }) s)) ∧
  (∀ (p n c : Nat) (a : Bool) (s : State), p < s.build.ports → n < 4 → (sent s p).attached = true → c < 4096 → (prog s p n).ctx ≠ c →
    exec (.progressRebind p n c a) s = .next (nameContext p c (modProg p n (fun y => { y with
      ctx := c, act := a, actNow := y.actNow || a, run := 0, hung := false }) s))) ∧
  (∀ s : State, exec (.lateArrival none) s = .next { s with rcv := { s.rcv with late := satInc 16 s.rcv.late } }) ∧
  (∀ (p : Nat) (s : State), p < s.build.ports → exec (.lateArrival (some p)) s =
    .next (modSent p (fun x => { x with late := satInc 16 x.late }) { s with rcv := { s.rcv with late := satInc 16 s.rcv.late } })) ∧
  (∀ (c : Instr) (a : Access) (v : Word) (s : State), reaches s a aRcvGate = true → c = .gateOn a v ∨ c = .gateStep a v ∨ c = .gateOff a v →
    fbit v 63 = false → exec c s = .next (busOk s)) ∧
  (∀ (a : Access) (v : Word) (c : Nat) (s : State), reaches s a aRcvGate = true → fbit v 63 = true → fld v 62 61 = 1 → fld v 55 44 = c →
    (ctx s c).parts = [] → exec (.gateOn a v) s = .next (busOk { s with rcv := { s.rcv with gateResult := 6 } })) ∧
  (∀ (a : Access) (v : Word) (c : Nat) (s : State), reaches s a aRcvGate = true → fbit v 63 = true → fld v 62 61 = 1 → fld v 55 44 = c →
    (ctx s c).parts ≠ [] → (ctx s c).parts.any (fun k => (part s k).state == psPending || inEpoch (part s k)) = true →
    exec (.gateOn a v) s = .next (busOk { s with rcv := { s.rcv with gateResult := 4 } })) ∧
  (∀ (a : Access) (v : Word) (c : Nat) (s : State), reaches s a aRcvGate = true → fbit v 63 = true → fld v 62 61 = 1 → fld v 55 44 = c →
    (ctx s c).parts ≠ [] → (ctx s c).parts.any (fun k => (part s k).state == psPending || inEpoch (part s k)) = false →
    gate? s c = none → (ctx s c).state ≠ cxTearing →
    ∃ ps, ps = (asc (ctx s c).ports).filter (fencePort s) ∧
      exec (.gateOn a v) s = .next (busOk (forEach ps nextFence (modCtx c (fun y => { y with state := cxGated }) { s with rcv := { s.rcv with
        gates := s.rcv.gates ++ [{ ctx := c, ports := ps, waits := ps, holding := ps }], gateSteps := 0
        gateResult := if ps.isEmpty then 2 else 1 } })))) ∧
  (∀ (c : Instr) (a : Access) (v : Word) (s : State), reaches s a aRcvGate = true → (c = .gateStep a v ∧ fld v 62 61 = 2) ∨ (c = .gateOff a v ∧ fld v 62 61 = 3) →
    fbit v 63 = true → gate? s (fld v 55 44) = none → (ctx s (fld v 55 44)).parts ≠ [] →
    exec c s = .next (busOk { s with rcv := { s.rcv with gateResult := 5 } })) ∧
  (∀ (a : Access) (v : Word) (g : Gate) (s : State), reaches s a aRcvGate = true → fbit v 63 = true → fld v 62 61 = 2 →
    gate? s (fld v 55 44) = some g → g.stepping = [] → g.holding = [] →
    exec (.gateStep a v) s = .next (busOk (modRcv (fun r => { r with gateSteps := satInc 32 g.steps, gateResult := if g.ports.isEmpty then 2 else 1 })
      (modGate (fld v 55 44) (fun x => { x with stepping := x.ports, steps := satInc 32 x.steps }) (forEach g.ports (fun p => emit (.stepPulse p)) s))))) ∧
  (∀ (a : Access) (v : Word) (g : Gate) (s : State), reaches s a aRcvGate = true → fbit v 63 = true → fld v 62 61 = 3 →
    gate? s (fld v 55 44) = some g → exec (.gateOff a v) s = .next (busOk (gateResult 2 (dropGate g s)))) ∧
  (∀ (p : Nat) (g : Gate) (s : State), p < s.build.ports → s.rcv.gates = [g] → g.stepping = [p] →
    exec (.stepDone p) s = .next { s with rcv := { s.rcv with gates := [{ g with stepping := [] }], gateResult := 2 } }) ∧
  (∀ (p : Nat) (s : State), p < s.build.ports → s.rcv.gates.find? (fun g => g.stepping.contains p) = none → exec (.stepDone p) s = .next s)

/-- Teardowns and fences (R258 to R262, R424): RCV_FENCE starts a teardown of a context or of a partition's contexts, or is BAD_ARG; a
teardown that is covered merges, and another gives every context a new epoch. An answer in time decides the port or the fabric and ends the
teardown when it was the last; an error, or none in 200 µs, calls for the next reset level; stray answers change nothing. -/
def Obligations.TeardownsFenceAndFinish : Prop :=
  (∀ (c : Instr) (a : Access) (v : Word) (s : State), reaches s a aRcvFence = true → c = .teardown a v ∨ c = .teardownPart a v → fbit v 63 = false →
    exec c s = .next (busOk s)) ∧
  (∀ (a : Access) (v : Word) (s : State), reaches s a aRcvFence = true → fbit v 63 = true → fld v 62 61 = 1 → (ctx s (fld v 55 44)).parts ≠ [] →
    exec (.teardown a v) s = .next (busOk (startTeardown false (fld v 55 44) (ctx s (fld v 55 44)).parts acManual noNode true s))) ∧
  (∀ (a : Access) (v : Word) (s : State), reaches s a aRcvFence = true → fbit v 63 = true → fld v 62 61 = 2 → (part s (fld v 43 38)).valid = true →
    exec (.teardownPart a v) s = .next (busOk (startTeardown true 0 [fld v 43 38] acManual noNode true s))) ∧
  (∀ (c : Instr) (a : Access) (v : Word) (s : State), reaches s a aRcvFence = true → c = .teardown a v ∨ c = .teardownPart a v → fbit v 63 = true →
    (fld v 62 61 = 1 ∧ (ctx s (fld v 55 44)).parts = []) ∨ (fld v 62 61 = 2 ∧ (part s (fld v 43 38)).valid = false) ∨ fld v 62 61 = 0 ∨ fld v 62 61 = 3 →
    exec c s = .next (busOk { s with rcv := { s.rcv with fenceResult := lrBadArg } })) ∧
  (∀ (w : Bool) (c cause node : Nat) (s : State), s.rcv.teardowns.any (fun t => coversTd t w c []) = true → w = false →
    startTeardown w c [] cause node true s =
      ladderRecord 1 loMerged cause 0 noNode 0xFF (now s) (now s) { s with rcv := { s.rcv with fenceResult := lrMerged } }) ∧
  (∀ (p : Nat) (e : Bool) (s : State), p < s.build.ports → p ≠ 2048 → (sent s p).fence.req = false ∨ (sent s p).fence.decided = true →
    exec (.fenceDone p e) s = .next s ∧ exec (.fenceTimeout p) s = .next s) ∧
  (∀ (p : Nat) (s : State), p < s.build.ports → (sent s p).fence.req = true → (sent s p).fence.decided = false → (sent s p).fence.op ≠ opGate →
    exec (.fenceDone p false) s = .next (nextFence p (portDecided p (sent s p).fence.teardown false
      (lowerFence p (doneEvent p false (sent s p).fence.ctx s))))) ∧
  (∀ (p : Nat) (s : State), p < s.build.ports → (sent s p).fence.req = true → (sent s p).fence.decided = false → (sent s p).fence.op ≠ opGate →
    exec (.fenceDone p true) s = .next (nextFence p (escalate 2 p 0 (fenceCause s (sent s p).fence)
      (record .fenceError (nodeOf p) (fenceBody (sent s p).fence 1 ((fenceParts s (sent s p).fence).headD 0xFF))
        (lowerFence p (doneEvent p true (sent s p).fence.ctx s)))))) ∧
  (∀ (p : Nat) (e : Bool) (s : State), p < s.build.ports → (sent s p).fence.req = true → (sent s p).fence.decided = false → (sent s p).fence.op = opGate →
    exec (.fenceDone p e) s = .next (gateHeld p (sent s p).fence.ctx (doneEvent p e (sent s p).fence.ctx s))) ∧
  (∀ (p : Nat) (s : State), p < s.build.ports → p ≠ 2048 → (sent s p).fence.req = true → (sent s p).fence.decided = false → (sent s p).fence.op ≠ opGate →
    exec (.fenceTimeout p) s = .next (escalate 2 p 0 (fenceCause s (sent s p).fence)
      (record .fenceTimeout (nodeOf p) (fenceBody (sent s p).fence 1 ((fenceParts s (sent s p).fence).headD 0xFF))
        (modFence p (fun f => { f with decided := true }) s)))) ∧
  (∀ (e : Bool) (s : State), s.rcv.fabric.req = false ∨ s.rcv.fabric.decided = true →
    exec (.fabricFenceDone e) s = .next s ∧ exec (.fenceTimeout 2048) s = .next s) ∧
  (∀ s : State, s.rcv.fabric.req = true → s.rcv.fabric.decided = false →
    exec (.fabricFenceDone false) s = .next (nextFabric (checkTeardown s.rcv.fabric.teardown
      (modTeardown s.rcv.fabric.teardown (fun t => { t with fabric := false }) (lowerFabric s))))) ∧
  (∀ s : State, s.rcv.fabric.req = true → s.rcv.fabric.decided = false →
    exec (.fabricFenceDone true) s = .next (nextFabric (escalateFabric s.rcv.fabric (lowerFabric
      (recordBlock .fenceTimeout (fenceBody s.rcv.fabric 2 ((fenceParts s s.rcv.fabric).headD 0xFF)) s))))) ∧
  (∀ s : State, s.rcv.fabric.req = true → s.rcv.fabric.decided = false →
    exec (.fenceTimeout 2048) s = .next (escalateFabric s.rcv.fabric
      (recordBlock .fenceTimeout (fenceBody s.rcv.fabric 2 ((fenceParts s s.rcv.fabric).headD 0xFF))
        { s with rcv := { s.rcv with fabric := { s.rcv.fabric with decided := true } } }))) ∧
  (∀ (id : Nat) (t : Teardown) (s : State), teardown? s id = some t →
    checkTeardown id s = if t.ports = [] ∧ t.fabric = false then finishTeardown id (if t.escalated then loEscalated else loDone) s else s)

/-- The reset ladder (R263 to R267, R269, R285, R424): RCV_LADDER answers BAD_ARG or ABOVE_MAX, or runs its level; a covered level merges. The
answer of a tile ends L2 and that of the power manager L3 or L4; a level that is not answered in time goes on to the next, or is exhausted. L5 asks for the power
cycle after the commit or 100 strokes, and when power stays the partitions are HELD. -/
def Obligations.TheLadderResetsAndEscalates : Prop :=
  (∀ (c : Instr) (a : Access) (v : Word) (s : State), reaches s a aRcvLadder = true →
    c = .ladderL2 a v ∨ c = .ladderL3 a v ∨ c = .ladderL4 a v ∨ c = .ladderL5 a v → fbit v 63 = false → exec c s = .next (busOk s)) ∧
  (∀ (c : Instr) (a : Access) (v : Word) (s : State), reaches s a aRcvLadder = true →
    c = .ladderL2 a v ∨ c = .ladderL3 a v ∨ c = .ladderL4 a v ∨ c = .ladderL5 a v → fbit v 63 = true → fld v 62 60 < 2 ∨ 5 < fld v 62 60 →
    exec c s = .next (busOk { s with rcv := { s.rcv with ladderResult := lrBadArg } })) ∧
  (∀ (c : Instr) (a : Access) (v : Word) (s : State), reaches s a aRcvLadder = true →
    c = .ladderL2 a v ∨ c = .ladderL3 a v ∨ c = .ladderL4 a v ∨ c = .ladderL5 a v → fbit v 63 = true → 2 ≤ fld v 62 60 → fld v 62 60 ≤ 5 →
    s.gnd.policy.ladderMax < fld v 62 60 →
    exec c s = .next (busOk { s with rcv := { s.rcv with ladderResult := lrAboveMax } })) ∧
  (∀ (a : Access) (v : Word) (p : Nat) (s : State), reaches s a aRcvLadder = true → fbit v 63 = true → fld v 62 60 = 2 → 2 ≤ s.gnd.policy.ladderMax →
    fld v 55 44 = 0x800 + p →
    exec (.ladderL2 a v) s = .next (busOk (if fencePort s p then startLevel 2 p (fld v 43 38) acManual true s
      else { s with rcv := { s.rcv with ladderResult := lrBadArg } }))) ∧
  (∀ (a : Access) (v : Word) (s : State), reaches s a aRcvLadder = true → fbit v 63 = true → fld v 62 60 = 3 → 3 ≤ s.gnd.policy.ladderMax →
    exec (.ladderL3 a v) s = .next (busOk (if (part s (fld v 43 38)).valid then startLevel 3 (fld v 55 44 - 0x800) (fld v 43 38) acManual true s
      else { s with rcv := { s.rcv with ladderResult := lrBadArg } }))) ∧
  (∀ (c : Instr) (a : Access) (v : Word) (s : State), reaches s a aRcvLadder = true →
    (c = .ladderL4 a v ∧ fld v 62 60 = 4) ∨ (c = .ladderL5 a v ∧ fld v 62 60 = 5) → fbit v 63 = true → 5 ≤ s.gnd.policy.ladderMax →
    exec c s = .next (busOk (startLevel (fld v 62 60) (fld v 55 44 - 0x800) (fld v 43 38) acManual true s))) ∧
  (∀ (l p k cause : Nat) (s : State), s.rcv.ladders.any (fun x => !x.superseded && covers s x l p k) = true →
    startLevel l p k cause true s = ladderRecord l loMerged cause 0 (if l == 2 then nodeOf p else noNode) (if l == 3 then k else 0xFF) (now s) (now s)
      { s with rcv := { s.rcv with ladderResult := lrMerged } }) ∧
  (∀ (p : Nat) (s : State), p < s.build.ports → (sent s p).rstReq = false →
    exec (.engineResetAck p) s = .next (modSent p (fun x => { x with rstAckHigh := true }) s)) ∧
  (∀ (p : Nat) (x : Ladder) (s : State), p < s.build.ports → (sent s p).rstReq = true →
    s.rcv.ladders.find? (fun x => x.level == 2 && x.port == p && !x.superseded && !x.waiting) = some x →
    ∃ t, exec (.engineResetAck p) s = .next (finishLevel x.id t) ∧ t.rcv.ladders = s.rcv.ladders ∧ (sent t p).rstReq = false ∧
      (sent t p).rstAckHigh = true) ∧
  (∀ s : State, s.rcv.pmReq = none → exec .pmResetAck s = .next { s with rcv := { s.rcv with pmAckHigh := true } }) ∧
  (∀ (id : Nat) (s : State), s.rcv.pmReq = some id → exec .pmResetAck s = .next (finishLevel id
    (modRcv (fun r => { r with pmReq := none }) (emit .pmResetFall { s with rcv := { s.rcv with pmAckHigh := true } })))) ∧
  (∀ s : State, exec (.resetAckFall none) s = .next (nextPm { s with rcv := { s.rcv with pmAckHigh := false } })) ∧
  (∀ (p : Nat) (s : State), p < s.build.ports → s.rcv.ladders = [] →
    exec (.resetAckFall (some p)) s = .next (modSent p (fun x => { x with rstAckHigh := false }) s)) ∧
  (∀ (i : Nat) (x : Ladder) (s : State), s.rcv.ladders[i]? = some x → x.superseded = false → x.level ≤ 4 →
    exec (.ladderLevelTimeout i) s = .next (if s.gnd.policy.ladderMax < x.level + 1 then exhaust x s
      else nextPm (startLevel (x.level + 1) x.port (if x.level = 2 then (tile s x.port).part else x.part) x.cause false (dropPm x.id s)))) ∧
  (∀ (i : Nat) (s : State), s.rcv.ladders[i]? = none → exec (.ladderLevelTimeout i) s = .next s) ∧
  (∀ (n : Nat) (s : State), s.rcv.cycleAt = some n → s.rcv.cycleReq = false → allCommitted s = true ∨ n + 100 ≤ now s →
    exec .trCycleRequest s = .next { emit .cycleRequest s with rcv := { s.rcv with cycleReq := true } }) ∧
  (∀ s : State, s.rcv.cycleAt = none ∨ s.rcv.cycleReq = true → exec .trCycleRequest s = .next s) ∧
  (∀ s : State, s.rcv.cycleReq = false → exec .powerCycleTimeout s = .next s) ∧
  (∀ (x : Ladder) (s : State), s.rcv.ladders.find? (fun x => x.level == 5) = some x → s.rcv.cycleReq = true →
    exec .powerCycleTimeout s = .next (cycleFailed x s)) ∧
  (∀ (cause : Nat) (s : State), s.rcv.ladders = [] →
    ∃ t, startLevel 5 0 0 cause true s = t ∧ t.rcv.cycleAt = some (now s) ∧ t.rcv.ladderResult = lrRunning ∧
      t.rcv.ladders = [{ id := s.rcv.nextId, level := 5, cause := cause, fromReg := true, start := now s }])

/-- Epochs (R271 to R279, R283): RCV_JOIN ends with the first failed condition of its table, or the named partitions are PENDING or get a stroke
to leave; at their tick they join or leave. Which crypto operations succeed is free (log entry 13). An ALARM is taken once, goes on to every other link, and an
old one or a copy is dropped; at ABORT_AT the epoch's partitions leave. -/
def Obligations.EpochsAreJoinedLeftAndAborted : Prop :=
  (∀ (c : Instr) (a : Access) (v : Word) (b : MemRead) (s : State), reaches s a aRcvJoin = true → c = .join a v b ∨ c = .leave a v b → fbit v 63 = false →
    exec c s = .next (busOk { s with rcv := { s.rcv with joinAddr := fld v 47 0 / 64 * 64 } })) ∧
  (∀ (c : Instr) (a : Access) (v : Word) (b : MemRead) (s : State), reaches s a aRcvJoin = true → c = .join a v b ∨ c = .leave a v b → fbit v 63 = true →
    ∃ x, x = { s with rcv := { s.rcv with joinAddr := fld v 47 0 / 64 * 64 } } ∧
      ((joinCheck x (fld v 47 0) b).2 = none →
        exec c s = .next (busOk { x with rcv := { x.rcv with joinResult := (joinCheck x (fld v 47 0) b).1, joinDone := none } })) ∧
      (∀ y, (joinCheck x (fld v 47 0) b).2 = some y →
        exec c s = .next (busOk (joinAccept y { x with rcv := { x.rcv with joinResult := (joinCheck x (fld v 47 0) b).1, joinDone := none } })))) ∧
  (∀ (s : State) (n : Nat) (b : MemRead), n % 64 ≠ 0 → joinCheck s n b = (jrBadBlock, none)) ∧
  (∀ (k : Nat) (y : JoinBlk) (s : State), y.leave = false → y.parts = [k] → epoch? s y.epoch = none → inEpoch (part s k) = false →
    ∃ t, joinAccept y s = t ∧ (part t k).state = psPending ∧ (part t k).epoch = y.epoch ∧ (part t k).pending = some (y.epoch, y.stroke) ∧
      t.rcv.joinDone = some y.stroke ∧ t.epochs = s.epochs ++ [{
        id := y.epoch, members := y.members, parent := y.parent, children := y.children
        restore := y.restore, config := y.config, seed := y.seed.getD [], first := y.stroke }]) ∧
  (∀ (k : Nat) (y : JoinBlk) (s : State), y.leave = true → y.parts = [k] →
    ∃ t, joinAccept y s = t ∧ (part t k).leaveAt = some (earlier (part s k).leaveAt y.stroke) ∧ t.epochs = s.epochs) ∧
  (∀ (k e n : Nat) (s : State), k < 64 → (part s k).pending = some (e, n) → (part s k).state = psPending → n ≤ now s →
    ∃ t, exec (.joinStroke k) s = .next (joinPart k e n t) ∧ t = joinTick s) ∧
  (∀ (k e n : Nat) (s : State), k < 64 → (part s k).pending = none ∨ ((part s k).pending = some (e, n) ∧ now s < n) → exec (.joinStroke k) s = .next s) ∧
  (∀ (k n : Nat) (s : State), k < 64 → (part s k).leaveAt = some n → n ≤ now s → inEpoch (part s k) = true →
    exec (.leaveStroke k) s = .next (leavePart k (joinTick s))) ∧
  (∀ (k n : Nat) (s : State), k < 64 → (part s k).leaveAt = none ∨ ((part s k).leaveAt = some n ∧ now s < n) → exec (.leaveStroke k) s = .next s) ∧
  (∀ (l : Nat) (m : AlarmMsg) (s : State), l < s.build.links → m.epoch = 0 →
    exec (.alarm l m) s = .next (modLink l (fun k => { k with err := { k.err with epoch := satInc 8 k.err.epoch } }) s)) ∧
  (∀ (l : Nat) (m : AlarmMsg) (s : State), l < s.build.links → m.epoch ≠ 0 → m.originStroke + 128 < now s ∨ alarmKnown s m = true →
    exec (.alarm l m) s = .next s) ∧
  (∀ (l : Nat) (m : AlarmMsg) (s : State), l < s.build.links → m.epoch ≠ 0 → now s ≤ m.originStroke + 128 → alarmKnown s m = false →
    ∃ t, t = flood (some l) { newFlit s clAlarm mdFlood m.epoch (.alarm m) with src := m.origin } (rememberAlarm m s) ∧
      exec (.alarm l m) s = .next (if epochHere s m.epoch then obeyAlarm m t else t)) ∧
  (∀ (a : Access) (v : Word) (s : State), reaches s a aRcvAlarm = true → fbit v 63 = false → exec (.rcvAlarm a v) s = .next (busOk s)) ∧
  (∀ (a : Access) (v : Word) (s : State), reaches s a aRcvAlarm = true → fbit v 63 = true →
    exec (.rcvAlarm a v) s = .next (busOk (alarmPart acManual (fld v 62 57) noNode (zeros 16) s))) ∧
  (∀ (e t : Nat) (x : Epoch) (s : State), epoch? s e = some x → x.abortAt = some t → t ≤ now s →
    exec (.abortAt e) s = .next (modEpoch e (fun x => { x with abortAt := none }) (forEach (partsIn s e) abortPart s))) ∧
  (∀ (e t : Nat) (x : Epoch) (s : State), epoch? s e = some x → x.abortAt = none ∨ (x.abortAt = some t ∧ now s < t) → exec (.abortAt e) s = .next s)

/-- Checkpoint requests (R281 to R283): the timer asks for a checkpoint CKPT_INTERVAL strokes after the join or the last sealed varnish, once
until the next one, and a request open for the interval is written as CKPT_OVERDUE, once. -/
def Obligations.CheckpointsAreRequestedOnce : Prop :=
  (∀ (k : Nat) (s : State), k < 64 → (part s k).state = psMember → (part s k).ckptDone = false → s.rcv.cfg.ckptSteps = 0 →
    ckptFrom (part s k) + s.gnd.policy.ckptInterval ≤ now s →
    exec (.ckptTimer k) s = .next (modPart k (fun q => { q with ckptDone := true }) (requestCkpt 1 k 0 0 s))) ∧
  (∀ (k : Nat) (s : State), k < 64 → (part s k).state ≠ psMember ∨ (part s k).ckptDone = true ∨
    (s.rcv.cfg.ckptSteps = 0 ∧ now s < ckptFrom (part s k) + s.gnd.policy.ckptInterval) → exec (.ckptTimer k) s = .next s) ∧
  (∀ (k : Nat) (s : State), k < 64 → (part s k).state = psMember → (part s k).ckptDone = false → s.rcv.cfg.ckptSteps = 0 →
    ckptFrom (part s k) + s.gnd.policy.ckptInterval ≤ now s → (part s k).valid = true →
    ∃ t, exec (.ckptTimer k) s = .next t ∧ exec (.ckptTimer k) t = .next t ∧ t.rcv.ckpt = setBit s.rcv.ckpt k ∧
      (part t k).ckptSince = some (now s)) ∧
  (∀ (k n : Nat) (s : State), k < 64 → (part s k).ckptSince = some n → bitOf s.rcv.ckpt k = true → (part s k).ckptOverdue = false →
    n + s.gnd.policy.ckptInterval ≤ now s →
    exec (.ckptOverdue k) s = .next (recPart .ckptOverdue noNode k (le 1 k ++ zeros 1 ++ le 6 n)
      (modPart k (fun q => { q with ckptOverdue := true }) s))) ∧
  (∀ (k n : Nat) (s : State), k < 64 → (part s k).ckptSince = none ∨ bitOf s.rcv.ckpt k = false ∨ (part s k).ckptOverdue = true ∨
    ((part s k).ckptSince = some n ∧ now s < n + s.gnd.policy.ckptInterval) → exec (.ckptOverdue k) s = .next s)

/-- Lanes and training (R290, R291, R428): the first lane that locks brings a waiting link to ALIGN, further ones join it, and the width is
settled once every good lane is in; a lane that is not enabled changes nothing. A lost lane leaves ALIGN, the last one sends the link back.
A single lane is taken after a quarter of TRAIN_WAIT. A link that trains too long is ABSENT with its two records, and retries after 10,000
strokes. -/
def Obligations.LinksTrainOnTheirLanes : Prop :=
  (∀ (n : Nat) (s : State), n < 2 * s.build.links → laneEnable s n = true → (link s (n / 2)).state = lsWaitPhy →
    exec (.laneLock n) s = .next (modLink (n / 2) (fun k => lanesSettled { k with state := lsAlign, lanes := [n % 2], lockAt := now s, good := 0 }) s)) ∧
  (∀ (n : Nat) (s : State), n < 2 * s.build.links → laneEnable s n = true → (link s (n / 2)).state = lsAlign →
    exec (.laneLock n) s = .next (modLink (n / 2) (fun k => lanesSettled { k with lanes := insAsc k.lanes (n % 2) }) s)) ∧
  (∀ (n : Nat) (s : State), n < 2 * s.build.links → laneEnable s n = false → exec (.laneLock n) s = .next s) ∧
  (∀ (n : Nat) (s : State), n < 2 * s.build.links → (link s (n / 2)).state = lsAlign → isTunnel s (n / 2) = false →
    without (link s (n / 2)).lanes (n % 2) = [] → exec (.laneLockLoss n) s = .next (toWait (n / 2) lcNone s)) ∧
  (∀ (n : Nat) (s : State), n < 2 * s.build.links → (link s (n / 2)).state = lsAlign → isTunnel s (n / 2) = false →
    without (link s (n / 2)).lanes (n % 2) ≠ [] → exec (.laneLockLoss n) s =
      .next (modLink (n / 2) (fun k => { k with lanes := without (link s (n / 2)).lanes (n % 2), width := 0, good := 0 }) s)) ∧
  (∀ (n : Nat) (s : State), n < 2 * s.build.links → (link s (n / 2)).state ≠ lsAlign ∨ isTunnel s (n / 2) = true →
    exec (.laneLockLoss n) s = .next s) ∧
  (∀ (l : Nat) (s : State), l < s.build.links → (link s l).state = lsAlign → (link s l).width = 0 → (link s l).lanes.length = 1 →
    ticking s = true → exec (.secondLaneTimeout l) s =
      .next (if (link s l).lockAt + s.wch.eff.trainWait / 4 ≤ now s then modLink l (fun k => { k with width := 1, fallback := true }) s else s)) ∧
  (∀ (l : Nat) (s : State), l < s.build.links → 1 ≤ (link s l).state → (link s l).state ≤ 4 → strokesPassed s (link s l).since s.wch.eff.trainWait = true →
    exec (.trainTimeout l) s = .next (recordBlock .linkAbsent (le 1 l ++ zeros 3 ++ le 4 (expectedPartner s l)) (linkRecord l
      (modLink l (fun k => { k with state := lsAbsent, cause := lcAbsent, width := 0, lanes := [], since := now s }) s)))) ∧
  (∀ (l : Nat) (s : State), l < s.build.links → (link s l).state = 0 ∨ 4 < (link s l).state ∨
      strokesPassed s (link s l).since s.wch.eff.trainWait = false → exec (.trainTimeout l) s = .next s) ∧
  (∀ (l : Nat) (s : State), l < s.build.links → (link s l).state = lsAbsent → ticking s = true →
    exec (.absentRetry l) s = .next (if (link s l).since + 10000 ≤ now s then toWait l lcAbsent s else s)) ∧
  (∀ (l : Nat) (s : State), l < s.build.links → (link s l).state ≠ lsAbsent → exec (.absentRetry l) s = .next s) ∧
  (∀ (l c : Nat) (s : State), goodLanes (link s l) ≠ [] → isTunnel s l = false →
    ∃ t, toWait l c s = linkRecord l t ∧ (link t l).state = lsWaitPhy ∧ (link t l).cause = c ∧ (link t l).lanes = [] ∧ (link t l).width = 0 ∧
      (link t l).queue = [] ∧ (link t l).retry = [] ∧ (link t l).trains = satInc 16 (link s l).trains)

/-- The handshake (R292 to R294, R296): 64 round trips end MEASURE; HELLO, certificate, share, proof and the finished MAC follow in this
order, each answered with the next message; a step out of order changes nothing, and a step that fails its check, or none in 1 ms, is a
failure with its cause, the third in a row a quarantine. What the checks of R293 decide is the cryptography's (log entry 13). -/
def Obligations.HandshakesAuthenticateThePartner : Prop :=
  (∀ (l tx e r n : Nat) (s : State), l < s.build.links → (link s l).state = lsMeasure → e ≠ 0 → (link s l).rtts.length < 63 →
    exec (.echo l tx e r n) s = .next (sendEcho l n tx (modLink l (fun k => { k with rtts := k.rtts ++ [n - e - r] }) s))) ∧
  (∀ (l tx e r n : Nat) (s : State), l < s.build.links → (link s l).state = lsMeasure → e ≠ 0 → 63 ≤ (link s l).rtts.length →
    exec (.echo l tx e r n) s = .next (measured l (modLink l (fun k => { k with rtts := k.rtts ++ [n - e - r] }) s))) ∧
  (∀ (l tx e r n : Nat) (s : State), l < s.build.links → (link s l).state = lsDown ∨ (link s l).state = lsQuarantined →
    exec (.echo l tx e r n) s = .next s) ∧
  (∀ (l : Nat) (h : Hello) (s : State), l < s.build.links → (link s l).state = lsAuth → (link s l).shake.step = 0 → h.major = 4 →
    h.chip ≠ ownChip s → expectedPartner s l = 0x1FFFF ∨ expectedPartner s l = h.chip → isTunnel s l = false →
    exec (.hello l h) s = .next (sendCert l (modShake l (fun x => { x with
        step := 1, major := h.major, chip := h.chip, device := h.device, lanes := h.lanes, role := h.role, hello := helloBytes h })
      (modLink l (fun k => { k with width := ((link s l).lanes.filter (fun i => bitOf h.lanes i)).length }) s)))) ∧
  (∀ (l : Nat) (h : Hello) (s : State), l < s.build.links → (link s l).state = lsAuth → (link s l).shake.step = 0 → h.major ≠ 4 →
    exec (.hello l h) s = .next (authFail l 1 h.chip s)) ∧
  (∀ (l : Nat) (h : Hello) (s : State), l < s.build.links → (link s l).state = lsAuth → (link s l).shake.step = 0 → h.major = 4 →
    h.chip = ownChip s → exec (.hello l h) s = .next (authFail l 5 h.chip s)) ∧
  (∀ (l : Nat) (h : Hello) (s : State), l < s.build.links → (link s l).state = lsAuth → (link s l).shake.step = 0 → h.major = 4 →
    h.chip ≠ ownChip s → expectedPartner s l ≠ 0x1FFFF → expectedPartner s l ≠ h.chip → exec (.hello l h) s = .next (authFail l 6 h.chip s)) ∧
  (∀ (l i n : Nat) (bs : List Byte) (s : State), l < s.build.links → (link s l).state = lsAuth → (link s l).shake.step = 1 →
    i = (link s l).shake.frags → i + 1 < n →
    exec (.cert l i n bs) s = .next (modShake l (fun x => { x with cert := (link s l).shake.cert ++ bs, frags := i + 1 }) s)) ∧
  (∀ (l i n : Nat) (bs : List Byte) (s : State), l < s.build.links → (link s l).state = lsAuth → (link s l).shake.step = 1 →
    i = (link s l).shake.frags → n = i + 1 →
    exec (.cert l i n bs) s = .next (if partnerCert s (link s l).shake ((link s l).shake.cert ++ bs) = none then authFail l 2 (link s l).shake.chip s
      else emit (.control l 18 (Config.publicKey (Config.draw s.fresh 48))) (bumpFresh (modShake l (fun x => { x with
        cert := (link s l).shake.cert ++ bs, frags := i + 1, step := 2, secret := s.fresh, ownShare := Config.publicKey (Config.draw s.fresh 48) }) s)))) ∧
  (∀ (l : Nat) (key : List Byte) (s : State), l < s.build.links → (link s l).state = lsAuth → (link s l).shake.step = 2 →
    ∃ t, t = modShake l (fun x => { x with share := key, step := 3 }) s ∧
      exec (.share l key) s = .next (emit (.control l 19 (ownProof t (link t l).shake)) t)) ∧
  (∀ (l : Nat) (sig : List Byte) (s : State), l < s.build.links → (link s l).state = lsAuth → (link s l).shake.step = 3 →
    ∃ t, t = modShake l (fun x => { x with proof := sig, step := 4 }) s ∧ exec (.proof l sig) s =
      .next (if (partnerCert s (link s l).shake (link s l).shake.cert).any (fun c => Config.ecdsaOk c.key sig (transcript3 s (link s l).shake)) = true
        then emit (.control l 20 (finishedMac t (link t l).shake)) t else authFail l 3 (link s l).shake.chip s)) ∧
  (∀ (l r : Nat) (mac : List Byte) (s : State), l < s.build.links → (link s l).state = lsAuth → (link s l).shake.step = 4 →
    exec (.done l mac r) s = .next (if mac ≠ finishedMac s (link s l).shake then authFail l 4 (link s l).shake.chip s
      else if r ≤ minOf 0 (link s l).rtts + 10 ∧ minOf 0 (link s l).rtts ≤ r + 10 then linkReady l s else authFail l 8 (link s l).shake.chip s)) ∧
  (∀ (l r n : Nat) (h : Hello) (bs : List Byte) (c : Instr) (s : State), l < s.build.links → (link s l).state ≠ lsAuth →
    c = .hello l h ∨ c = .cert l r n bs ∨ c = .share l bs ∨ c = .proof l bs ∨ c = .done l bs r ∨ c = .handshakeTimeout l → exec c s = .next s) ∧
  (∀ (l : Nat) (s : State), l < s.build.links → (link s l).state = lsAuth →
    exec (.handshakeTimeout l) s = .next (authFail l 7 (link s l).shake.chip s)) ∧
  (∀ (l cause chip : Nat) (s : State), authFail l cause chip s =
    (if (link s l).shake.fails < 2 then toWait l lcAuth else toQuarantine l lcAuth)
      (recordBlock .authFail (le 1 l ++ le 1 cause ++ le 1 ((link s l).shake.fails + 1) ++ zeros 1 ++ le 4 chip)
        (modShake l (fun x => { x with fails := (link s l).shake.fails + 1 }) s)))

/-- Flits and control flits (R296, R297, R299, R301): a good flit in sequence is counted, acknowledged and acted on; one with a bad CRC or out of
sequence is asked for again, one with a bad tag quarantines the link. CREDIT and NACK return credits and acknowledge; NACK and a retry
timeout replay, sixteen times at most. Keys change where KEY_UPDATE says, and after 2^40 flits. -/
def Obligations.FlitsAreSequencedAndReplayed : Prop :=
  (∀ (l n t : Nat) (c g : Bool) (f : Flit) (s : State), l < s.build.links → linkOpen (link s l) = false → exec (.flitReceived l n c g f t) s = .next s) ∧
  (∀ (l n t : Nat) (g : Bool) (f : Flit) (s : State), l < s.build.links → linkOpen (link s l) = true →
    exec (.flitReceived l n false g f t) s = .next (sendNack l t (modLink l (fun k => { k with
      err := { k.err with crc := satInc 16 k.err.crc }, crcWin := lbump 2 k.crcWin (n % 2) 1 }) s))) ∧
  (∀ (l n t : Nat) (f : Flit) (s : State), l < s.build.links → linkOpen (link s l) = true →
    exec (.flitReceived l n true false f t) s = .next (irqSet 0 irqSecurity (toQuarantine l lcHostile
      (recordBlock .linkHostile (le 1 l ++ le 1 f.cls ++ le 2 f.lseq ++ le 4 (link s l).partner) (modErr l (fun e => { e with tag := satInc 4 e.tag }) s))))) ∧
  (∀ (l n t : Nat) (f : Flit) (s : State), l < s.build.links → linkOpen (link s l) = true → f.lseq ≠ (link s l).rxSeq % 65536 →
    exec (.flitReceived l n true true f t) s = .next (sendNack l t s)) ∧
  (∀ (l n t : Nat) (f : Flit) (s : State), l < s.build.links → linkOpen (link s l) = true → f.lseq = (link s l).rxSeq % 65536 →
    exec (.flitReceived l n true true f t) s = .next (acceptFlit l f t (takeAck l f.ack (modLink l (fun k => rekeyIn { k with
      rxSeq := (k.rxSeq + 1) % 2 ^ 48, consumed := lmod k.consumed f.cls (fun n => (n + 1) % 65536) }) (gcount 10 1 s))))) ∧
  (∀ (l a : Nat) (r : List Nat) (s : State), l < s.build.links → linkOpen (link s l) = true → (link s l).state ≠ lsAlign →
    exec (.credit l r a) s = .next (takeCredits l r (takeAck l a s))) ∧
  (∀ (l a : Nat) (r : List Nat) (s : State), l < s.build.links → (link s l).state = lsAlign →
    exec (.credit l r a) s = .next (goodControl l s.stk.tickTime s)) ∧
  (∀ (l a : Nat) (r : List Nat) (s : State), l < s.build.links → linkOpen (link s l) = true →
    exec (.nack l a r) s = .next (replay l (takeCredits l r (takeAck l ((a + 65535) % 65536) s)))) ∧
  (∀ (l a : Nat) (s : State), l < s.build.links → linkOpen (link s l) = true →
    exec (.keyUpdate l a) s = .next (modLink l (fun k => rekeyIn { k with rekeyAt := some a }) s)) ∧
  (∀ (l : Nat) (s : State), l < s.build.links → linkOpen (link s l) = true → 2 ^ 40 ≤ (link s l).txSeq - (link s l).txSince →
    exec (.rekey l) s = .next (emit (.control l 4 (le 6 (link s l).txSeq)) (modLink l (fun k => { k with
      txKey := nextKey k.txKey, txKeyGen := k.txKeyGen + 1, txSince := k.txSeq }) s))) ∧
  (∀ (l : Nat) (s : State), l < s.build.links → (link s l).txSeq - (link s l).txSince < 2 ^ 40 → exec (.rekey l) s = .next s) ∧
  (∀ (l a : Nat) (r : List Nat) (c : Instr) (s : State), l < s.build.links → linkOpen (link s l) = false →
    c = .nack l a r ∨ c = .keyUpdate l a ∨ c = .rekey l ∨ c = .retryTimeout l → exec c s = .next s) ∧
  (∀ (l : Nat) (s : State), l < s.build.links → linkOpen (link s l) = true → exec (.retryTimeout l) s = .next (replay l s)) ∧
  (∀ (l t : Nat) (s : State), l < s.build.links → linkOpen (link s l) = true →
    exec (.controlFlitTimer l t) s = .next (modLink l (fun k => { k with sinceControl := 0 })
      (emit (.control l 1 ((List.range 6).flatMap (fun c => le 2 (lget (link s l).consumed c 0)))) s))) ∧
  (∀ (l t : Nat) (s : State), l < s.build.links → (link s l).state = lsMeasure → exec (.controlFlitTimer l t) s = .next (sendEcho l t 0 s)) ∧
  (∀ (l : Nat) (s : State), (link s l).retry ≠ [] → (link s l).replays < 15 →
    replay l s = forEach (link s l).retry (fun f => emit (.flit l f))
      (modLink l (fun k => { k with replays := k.replays + 1, err := { k.err with retry := satInc 12 k.err.retry } }) s)) ∧
  (∀ (l : Nat) (s : State), (link s l).retry ≠ [] → 15 ≤ (link s l).replays →
    replay l s = toWait l lcNone (modErr l (fun e => { e with retry := satInc 12 e.retry }) s)) ∧
  (∀ (l t : Nat) (s : State), (link s l).nackAt = some t → ∀ n, n < t + 1000 → sendNack l n s = s)

/-- Partners that misbehave, and records that arrive (R290, R302, R316): a silent partner sends an open link back to training, a class that
waits for a credit degrades it or, for ALARM and STROKE, makes the link faulty, too many CRC failures on a lane make it faulty, and 10,000
strokes without a credit timeout end DEGRADED. One bad lane of two is given up, otherwise the link is QUARANTINED. A record fragment enters
the ring and raises the interrupt; a full ring counts it. -/
def Obligations.LinksAreWatchedForFaults : Prop :=
  (∀ (l : Nat) (s : State), l < s.build.links → linkOpen (link s l) = true → hbLimit s l ≤ (link s l).hbMissed →
    exec (.heartbeatMiss l) s = .next (toWait l lcSilent s)) ∧
  (∀ (l : Nat) (s : State), l < s.build.links → linkOpen (link s l) = false ∨ (link s l).hbMissed < hbLimit s l →
    exec (.heartbeatMiss l) s = .next s) ∧
  (∀ (l c : Nat) (s : State), l < s.build.links → waitsCredit (link s l) c = false → exec (.creditWait l c) s = .next s) ∧
  (∀ (l c : Nat) (s : State), l < s.build.links → waitsCredit (link s l) c = true → c ≤ 1 →
    exec (.creditWait l c) s = .next (faulty l 1 (modErr l (fun e => { e with creditTo := satInc 8 e.creditTo }) s))) ∧
  (∀ (l c : Nat) (s : State), l < s.build.links → waitsCredit (link s l) c = true → 2 ≤ c →
    exec (.creditWait l c) s = .next (recordBlock .linkSlow (le 1 l ++ le 1 c ++ zeros 2) (modLink l (fun k => { k with
      state := if k.state = lsUp then lsDegraded else k.state, cause := lcSlow, slowAt := now s
      err := { k.err with creditTo := satInc 8 k.err.creditTo } }) s))) ∧
  (∀ (l n : Nat) (s : State), l < s.build.links → linkOpen (link s l) = true → s.wch.eff.crcMax < lget (link s l).crcWin (n % 2) 0 →
    exec (.crcWindow l n) s = .next (faulty l 2 s)) ∧
  (∀ (l n : Nat) (s : State), l < s.build.links → linkOpen (link s l) = false ∨ lget (link s l).crcWin (n % 2) 0 ≤ s.wch.eff.crcMax →
    exec (.crcWindow l n) s = .next s) ∧
  (∀ (l : Nat) (s : State), l < s.build.links → (link s l).state = lsDegraded → (link s l).slowAt + 10000 ≤ now s →
    exec (.degradedRecovery l) s = .next (modLink l (fun k => { k with state := lsUp, cause := lcNone }) s)) ∧
  (∀ (l : Nat) (s : State), l < s.build.links → (link s l).state ≠ lsDegraded ∨ now s < (link s l).slowAt + 10000 →
    exec (.degradedRecovery l) s = .next s) ∧
  (∀ (l c : Nat) (s : State), (link s l).width ≠ 2 ∨ (link s l).crcWin.sum = 0 →
    faulty l c s = toQuarantine l lcFaulty (recordBlock .linkFaulty (le 1 l ++ le 1 0xFF ++ le 1 c ++ zeros 1 ++ le 4 (link s l).crcWin.sum) s)) ∧
  (∀ (l src : Nat) (f : RecFrag) (s : State), l < s.build.links → s.wch.rxBase = 0 → exec (.recordFragment l src f) s = .next s) ∧
  (∀ (l src : Nat) (f : RecFrag) (s : State), l < s.build.links → s.wch.rxBase ≠ 0 → (s.wch.rxHead + 1) % 65536 = s.wch.rxTail →
    exec (.recordFragment l src f) s = .next { s with wch := { s.wch with rxOverflow := satInc 16 s.wch.rxOverflow } }) ∧
  (∀ (l src : Nat) (f : RecFrag) (s : State), l < s.build.links → s.wch.rxBase ≠ 0 → (s.wch.rxHead + 1) % 65536 ≠ s.wch.rxTail →
    ∃ t, exec (.recordFragment l src f) s = .next t ∧ t.wch = { s.wch with rxHead := (s.wch.rxHead + 1) % 65536 } ∧
      Frame [.wch, .slots, .mem, .nextTag, .outs] s t)

/-- Broadcast items and routes (R306, R314, R315, R317): a chunk of an item already known or already taken is dropped and counted; chunk 0 of a
new item that verifies opens it, while fewer than four are open; the next chunk must have the hash that the one before it named; anything
else is BCAST_BAD. An item whose next chunk does not come in 10,000 strokes is forgotten. WCH_BCAST sends an item of host memory. WCH_ROUTE
selects an entry, or rewrites it for the next tick. -/
def Obligations.BroadcastsFloodAndRoutesChange : Prop :=
  (∀ (l src item i : Nat) (bs : List Byte) (s : State), l < s.build.links → s.wch.doneItems.contains item = true →
    exec (.broadcastChunk l src item i bs) s = .next { s with wch := { s.wch with dropChunks := s.wch.dropChunks + 1 } }) ∧
  (∀ (l src item i : Nat) (bs : List Byte) (x : Bcast) (s : State), l < s.build.links → s.wch.doneItems.contains item = false →
    s.wch.items.find? (fun y => y.item == item) = some x → i < x.got →
    exec (.broadcastChunk l src item i bs) s = .next { s with wch := { s.wch with dropChunks := s.wch.dropChunks + 1 } }) ∧
  (∀ (l src item i : Nat) (bs : List Byte) (x : Bcast) (s : State), l < s.build.links → s.wch.doneItems.contains item = false →
    s.wch.items.find? (fun y => y.item == item) = some x → i = x.got →
    exec (.broadcastChunk l src item i bs) s = .next (
      if Config.sha384 bs = x.next ∧ (i + 1 = x.chunks → zeroAt bs 4048 48 = true) then floodChunk (some l) src item i bs (nextChunk x bs s)
      else chunkBad l item i s)) ∧
  (∀ (l src item i : Nat) (bs : List Byte) (s : State), l < s.build.links → s.wch.doneItems.contains item = false →
    s.wch.items.find? (fun y => y.item == item) = none → i ≠ 0 → exec (.broadcastChunk l src item i bs) s = .next s) ∧
  (∀ (l src item : Nat) (bs : List Byte) (s : State), l < s.build.links → s.wch.doneItems.contains item = false →
    s.wch.items.find? (fun y => y.item == item) = none →
    exec (.broadcastChunk l src item 0 bs) s = .next (match chunkHead s bs with
      | some h => if h.item ≠ item then chunkBad l item 0 s
          else if s.wch.items.length < 4 then floodChunk (some l) src item 0 bs (openItem h s) else s
      | none => recordBlock .bcastBad (le 1 l ++ zeros 1 ++ le 2 0 ++ le 4 item) s)) ∧
  (∀ (item : Nat) (s : State), s.wch.items.any (fun x => x.item == item && strokesPassed s x.lastAt 10000) = true →
    exec (.broadcastStall item) s = .next { s with wch := { s.wch with
      items := s.wch.items.filter (fun x => !(x.item == item)), frags := s.wch.frags.filter (fun b => !(b.item == item)) } }) ∧
  (∀ (item : Nat) (s : State), s.wch.items.any (fun x => x.item == item && strokesPassed s x.lastAt 10000) = false →
    exec (.broadcastStall item) s = .next s) ∧
  (∀ (a : Access) (v : Word) (m : MemRead) (s : State), reaches s a aWchBcast = true → fbit v 63 = false →
    exec (.wchBcast a v m) s = .next (busOk { s with wch := { s.wch with bcastAddr := fld v 47 0 } })) ∧
  (∀ (a : Access) (v : Word) (m : MemRead) (s : State), reaches s a aWchBcast = true → fbit v 63 = true → fld v 11 0 ≠ 0 ∨ m = none →
    exec (.wchBcast a v m) s = .next (busOk { s with wch := { s.wch with bcastAddr := fld v 47 0, bcastResult := 4 } })) ∧
  (∀ (a : Access) (v : Word) (bs : List Byte) (s t : State), reaches s a aWchBcast = true → fbit v 63 = true → fld v 11 0 = 0 →
    t = { s with wch := { s.wch with bcastAddr := fld v 47 0 } } →
    exec (.wchBcast a v (some bs)) s = .next (busOk (match itemChunks t bs with
      | none => { t with wch := { t.wch with bcastResult := 4 } }
      | some (h, cs) => if 4 ≤ s.wch.items.length then { t with wch := { t.wch with bcastResult := 3 } }
          else bcResult 2 (forEach (cs.mapIdx (fun i c => (i, c))) (fun p => floodChunk none s.wch.chip h.item p.1 p.2)
            { t with wch := { t.wch with doneItems := (h.item :: s.wch.doneItems).take 16 } })))) ∧
  (∀ (c : Instr) (a : Access) (v : Word) (s : State), c = .routeSelect a v ∨ c = .routeWrite a v → reaches s a aWchRoute = true → fbit v 63 = false →
    routeIndexOk v = true → exec c s = .next (busOk { s with wch := { s.wch with
      selTable := fbit v 62, selIndex := fld v 61 51, sel := routeAt s (fbit v 62) (fld v 61 51) } })) ∧
  (∀ (c : Instr) (a : Access) (v : Word) (s : State), c = .routeSelect a v ∨ c = .routeWrite a v → reaches s a aWchRoute = true → fbit v 63 = true →
    routeIndexOk v = true → exec c s = .next (busOk { s with wch := { s.wch with
      selTable := fbit v 62, selIndex := fld v 61 51, sel := routeFields v
      routeNext := s.wch.routeNext ++ [(fbit v 62, fld v 61 51, routeFields v)] } })) ∧
  (∀ (c : Instr) (a : Access) (v : Word) (s : State), c = .routeSelect a v ∨ c = .routeWrite a v → reaches s a aWchRoute = true →
    routeIndexOk v = false → exec c s = .next (busOk s))

/-- Posting and popping (R325, R330): a write of PTR sets it; a POST commits a notice from PTR, LENGTH and TAG, and PTR keeps its value; a full
TO_BLOCK or a flushing channel answers with a bus error, commits nothing and counts FULL_ERRS. RX0 and RX1 give the oldest response, and read
zero without one. POP frees that entry; on an empty TO_HOST it has no effect but UNDERFLOW. -/
def Obligations.MailboxPostsCommitAndPopsFree : Prop :=
  (∀ (a : Access) (n c : Nat) (v : Word) (s : State), n < 16 → c < 2 → s.boot.inReset = false → denial s a true (aMbx n c 0) 8 = none →
    exec (.registerWrite a (aMbx n c 0) v) s = .next (busOk (modMbx n c (fun m => { m with ptr := fld v 47 0 }) s))) ∧
  (∀ (a : Access) (n c : Nat) (v : Word) (s : State), reachesOwn s a n (c == 1) = true → (mbx s n c).toBlock.length < 4 →
    (mbx s n c).flushing = false → exec (.mailboxPost a n c v) s = .next (busOk (modMbx n c (fun m => { m with
      toBlock := m.toBlock ++ [{ ptr := m.ptr, len := fld v 63 32, tag := fld v 31 0 }], posted := satInc 16 m.posted }) s))) ∧
  (∀ (a : Access) (n c : Nat) (v : Word) (s : State), reachesOwn s a n (c == 1) = true →
    4 ≤ (mbx s n c).toBlock.length ∨ (mbx s n c).flushing = true →
    exec (.mailboxPost a n c v) s = .next (busErr (modMbx n c (fun m => { m with fullErrs := satInc 16 m.fullErrs }) s))) ∧
  (∀ (a : Access) (n c : Nat) (s : State), n < 16 → c < 2 → (mbx s n c).toHost = [] →
    readReg s a (aMbx n c 0x10) = 0 ∧ readReg s a (aMbx n c 0x18) = 0) ∧
  (∀ (a : Access) (n c st len : Nat) (x : Notice) (xs : List Notice) (s : State), n < 16 → c < 2 → (mbx s n c).toHost = x :: xs →
    x.answer = some (st, len) → readReg s a (aMbx n c 0x10) = word [at_ 6 42 (x.ptr / 64), 1] ∧
      readReg s a (aMbx n c 0x18) = word [at_ 60 4 st, at_ 32 28 len, at_ 0 32 x.tag]) ∧
  (∀ (a : Access) (n c : Nat) (s : State), reachesOwn s a n (c == 1) = true → (mbx s n c).toHost = [] →
    exec (.pop a n c) s = .next (busOk (modMbx n c (fun m => { m with underflow := true }) s))) ∧
  (∀ (a : Access) (n c : Nat) (s : State), reachesOwn s a n (c == 1) = true → (mbx s n c).toHost ≠ [] →
    exec (.pop a n c) s = .next (busOk (settleChan n c (modMbx n c (fun m => { m with toHost := m.toHost.tail }) s)))) ∧
  (∀ (n c : Nat) (s : State), leaver (mbx s n c) = none → mbx (settleChan n c s) n c = mbx s n c)

/-- Flushing, doorbells and another slot's window (R321, R331, R333, R334): FLUSH empties TO_BLOCK and TO_HOST, marks what is in service to be
discarded, and flushes until it is gone; DOORBELL ORs its bits into the word; a slot that is not the window's own, or channel 1 without
HS_SEC, is denied. Power returning to a slot's domain takes its wake request away. -/
def Obligations.FlushesDoorbellsAndSlotPower : Prop :=
  (∀ (a : Access) (n c : Nat) (s : State), reachesOwn s a n (c == 1) = true → (mbx s n c).toBlock.length < 4 →
    exec (.flush a n c) s = .next (busOk (modMbx n c (fun m => settle { m with
      toBlock := [], toHost := [], inService := m.inService.map (fun x => { x with discard := true }), flushing := !m.inService.isEmpty }) s))) ∧
  (∀ (a : Access) (n c : Nat) (s : State), reachesOwn s a n (c == 1) = true → 4 ≤ (mbx s n c).toBlock.length →
    exec (.flush a n c) s = .next (busOk (modMbx n c (fun m => settle { m with
      toBlock := [], toHost := [], inService := m.inService.map (fun x => { x with discard := true }), flushing := !m.inService.isEmpty })
        (irqSet n (if c = 0 then irqMb0Space else irqMb1Space) s)))) ∧
  (∀ (m : Mbx), m.inService = [] → m.flushing = false → settle m = m) ∧
  (∀ (m : Mbx) (x : Notice) (a : Nat × Nat), m.inService = [x] → x.answer = some a → x.discard = true →
    settle m = { m with inService := [], flushing := false }) ∧
  (∀ (m : Mbx) (x : Notice) (a : Nat × Nat), m.inService = [x] → x.answer = some a → x.discard = false → m.toHost.length < 4 →
    settle m = { m with inService := [], toHost := m.toHost ++ [x], flushing := false }) ∧
  (∀ (a : Access) (n : Nat) (v : Word) (s : State), reachesOwn s a n false = true →
    exec (.doorbell a n v) s = .next (busOk (modSlot n (fun w => { w with bell := w.bell ||| fld v 15 0 }) s))) ∧
  (∀ (c : Instr) (a : Access) (n k off : Nat) (v : Word) (s : State), (c = .mailboxPost a n k v ∧ off = 0x08) ∨ (c = .pop a n k ∧ off = 0x20) ∨
      (c = .flush a n k ∧ off = 0x20) → s.boot.inReset = false → a.slot ≠ n ∨ (k = 1 ∧ a.sec = false ∧ privileged s a = false) →
    exec c s = .next (busErr (gcount 13 1 (recordBlock .viewDenied (deniedBody a true false (aMbx n k off)) s)))) ∧
  (∀ (a : Access) (n : Nat) (v : Word) (s : State), s.boot.inReset = false → a.slot ≠ n →
    exec (.doorbell a n v) s = .next (busErr (gcount 13 1 (recordBlock .viewDenied (deniedBody a true false (aSlot n + 0x20)) s)))) ∧
  (∀ (n : Nat) (s : State), exec (.slotPowerOn n) s = .next (modSlot n (fun w => { w with pwrOn := true, wakeEvent := false }) s)) ∧
  (∀ (n : Nat) (s : State), exec (.slotPowerOff n) s = .next (modSlot n (fun w => { w with pwrOn := false }) s))

/-- The services (R328, R331, R357, R359): ECHO answers OK with the same data, PART_STATE and COUNTERS write what the view admits, LEDGER_READ writes
the admitted records from FROM_SEQ on that fit, TRUNCATED when some do not; a notice that is flushed is answered without data, and one that
has waited 1,000 strokes is BUSY. A notice that is not of the service, or already answered, changes nothing. -/
def Obligations.ServicesAnswerTheirNotices : Prop :=
  (∀ (n c i svc : Nat) (m : MemRead) (k : Instr) (s : State), (k = .mailboxEcho n c i ∧ svc = svEcho) ∨ (k = .ledgerRead n c i m ∧ svc = svLedger) ∨
      (k = .counters n c i ∧ svc = svCounters) ∨ (k = .partState n c i ∧ svc = svParts) → inServiceOf s n c i svc = none → exec k s = .next s) ∧
  (∀ (n c i : Nat) (x : Notice) (s : State), inServiceOf s n c i svEcho = some x →
    exec (.mailboxEcho n c i) s = .next (answerNotice n c i msOk 0 s)) ∧
  (∀ (n c i : Nat) (x : Notice) (bs : List Byte) (s : State), inServiceOf s n c i svLedger = some x → (sealedRecs s).filter (fun r =>
      recAdmitted s n c r && seqGe r.seq (rd bs 0 4)) = [] → exec (.ledgerRead n c i (some bs)) s = .next (answerNotice n c i msOk 0 s)) ∧
  (∀ (n c i : Nat) (x : Notice) (bs : List Byte) (rs : List Rec) (f : List Byte × Bool) (s : State), inServiceOf s n c i svLedger = some x →
    rs = (sealedRecs s).filter (fun r => recAdmitted s n c r && seqGe r.seq (rd bs 0 4)) → f = fitRecs x.len rs → x.discard = false → f.1 ≠ [] →
    exec (.ledgerRead n c i (some bs)) s = .next (answerNotice n c i (if f.2 = true then msTruncated else msOk) f.1.length
      (issueMem .mailbox (memWrite x.ptr (c == 1) f.1 s)))) ∧
  (∀ (n c i : Nat) (x : Notice) (s : State), inServiceOf s n c i svCounters = some x → x.discard = false →
    exec (.counters n c i) s = .next (answerNotice n c i msOk (snapshot s n c).length
      (issueMem .mailbox (memWrite x.ptr (c == 1) (snapshot s n c) s)))) ∧
  (∀ (n c i : Nat) (x : Notice) (s : State), inServiceOf s n c i svParts = some x → x.discard = false → ownedParts s n ≠ [] →
    ∃ bs, bs = (ownedParts s n).flatMap (fun k => le 8 (readPart s k).toNat ++ le 8 (readPartEpoch s k).toNat) ∧
      exec (.partState n c i) s = .next (answerNotice n c i msOk bs.length (issueMem .mailbox (memWrite x.ptr (c == 1) bs s)))) ∧
  (∀ (n c i : Nat) (x : Notice) (s : State), inServiceOf s n c i svCounters = some x → x.discard = true →
    exec (.counters n c i) s = .next (answerNotice n c i msOk (snapshot s n c).length s)) ∧
  (∀ (n c i : Nat) (x : Notice) (s : State), (mbx s n c).inService[i]? = some x → x.answer = none →
    exec (.serviceBusy n c i) s = .next (if x.taken + 1000 ≤ now s then answerNotice n c i msBusy 0 s else s)) ∧
  (∀ (n c i : Nat) (s : State), (mbx s n c).inService[i]? = none → exec (.serviceBusy n c i) s = .next s) ∧
  (∀ (n c i st len : Nat) (s : State), answerNotice n c i st len s = settleChan n c (modMbx n c (fun m => { m with
    inService := lmod m.inService i (fun x => { x with answer := some (x.answer.getD (st, len)) }) }) s)) ∧
  (∀ (room : Nat) (r : Rec) (rs : List Rec), fitRecs room (r :: rs) =
    if recLen r ≤ room then (recBytes r ++ (fitRecs (room - recLen r) rs).1, (fitRecs (room - recLen r) rs).2) else ([], true)) ∧
  (∀ (n c : Nat) (s : State), (∀ k, k ∈ chanParts s n c → k ∈ ownedParts s n) ∨ chanPriv s n c = true)

/-- Sealing, rate windows and summaries (R346, R347, R360): SEAL strokes seal the open record, which joins the buffer; the end of a rate window
forgets the key and writes its counted occurrences as one record; a period of SUMMARY strokes writes the sums and starts a new period. None of
these does anything before its time. -/
def Obligations.RecordsSealAndWindowsEnd : Prop :=
  (∀ (r : Rec) (s : State), s.ldg.openRec = some r → s.ldg.openSince + Nat.max 1 s.ldg.eff.sealAt ≤ now s →
    ∃ u, u = { s with ldg := { s.ldg with openRec := none, buffer := s.ldg.buffer ++ [r] } } ∧
      exec .sealTimeout s = .next (if s.ldg.eff.fwdSev ≤ r.severity ∨ alwaysSent r.typ = true then forwardRec r u else u)) ∧
  (∀ s : State, s.ldg.openRec = none ∨ now s < s.ldg.openSince + Nat.max 1 s.ldg.eff.sealAt → exec .sealTimeout s = .next s) ∧
  (∀ (i : Nat) (k : RateKey) (s : State), s.ldg.rates[i]? = some k → k.opened + Nat.max 16 s.ldg.eff.rateWindow ≤ now s → k.count = 0 →
    exec (.rateWindow i) s = .next { s with ldg := { s.ldg with rates := s.ldg.rates.filter (fun x => !(x == k)) } }) ∧
  (∀ (i : Nat) (k : RateKey) (s : State), s.ldg.rates[i]? = some k → k.opened + Nat.max 16 s.ldg.eff.rateWindow ≤ now s → 0 < k.count →
    ∃ q u, u = { s with ldg := { s.ldg with rates := s.ldg.rates.filter (fun x => !(x == k)) } } ∧ exec (.rateWindow i) s = .next (writeNew q u) ∧
      q.typ = k.typ ∧ q.node = k.node ∧ q.rept = k.count ∧ q.stroke = k.first ∧ q.span = k.last - k.first ∧ q.body = k.body) ∧
  (∀ (i : Nat) (s : State), s.ldg.rates[i]? = none → exec (.rateWindow i) s = .next s) ∧
  (∀ (i : Nat) (k : RateKey) (s : State), s.ldg.rates[i]? = some k → now s < k.opened + Nat.max 16 s.ldg.eff.rateWindow →
    exec (.rateWindow i) s = .next s) ∧
  (∀ s : State, s.ldg.eff.summary ≠ 0 → s.ldg.eff.summary ≤ s.ldg.acc.period →
    exec .summary s = .next (recordBlock .summary (summaryBody s.ldg.acc) { s with ldg := { s.ldg with acc := {} } })) ∧
  (∀ s : State, s.ldg.eff.summary = 0 ∨ s.ldg.acc.period < s.ldg.eff.summary → exec .summary s = .next s) ∧
  (∀ (r q : Rec) (s : State), s.ldg.openRec = none → makeRoom s.ldg (recLen r) r.severity = some s.ldg.buffer → r.severity < 4 →
    q = { r with seq := s.ldg.next } →
    writeNew r s = occurrence q (gcount 1 1 { s with ldg := { s.ldg with
      openRec := some q, openSince := now s, next := (s.ldg.next + 1) % 2 ^ 32
      ext := if s.ldg.next + 1 = 2 ^ 32 then s.ldg.ext + 1 else s.ldg.ext, acc := { s.ldg.acc with recs := satInc 32 s.ldg.acc.recs } } }))

/-- The record store (R351 to R354, R356): the end of a program puts the oldest sealed record where it belongs, clears the failure and writes a
pending LOSS; a failed one counts against the unit, the third makes it bad. Nothing is programmed without a store, a record or an erased unit.
An erase empties a unit that the clear runs over or that is among the four ahead of the newest; a failed one counts. Units past the store's end
do not exist (R351). -/
def Obligations.TheStoreTakesRecordsInOrder : Prop :=
  (∀ (g : Bool) (s : State), s.ldg.noStore = true ∨ s.ldg.buffer = [] → exec (.recordCommit g) s = .next s) ∧
  (∀ (g : Bool) (r : Rec) (s : State), s.ldg.buffer.head? = some r → programPlace s r = none → exec (.recordCommit g) s = .next s) ∧
  (∀ (i : Nat) (n : Bool) (r : Rec) (rs : List Rec) (s : State), s.ldg.noStore = false → s.ldg.buffer = r :: rs → programPlace s r = some (i, n) →
    exec (.recordCommit true) s = .next (programmed i n r s) ∧ exec (.recordCommit false) s = .next (unitFailed i s)) ∧
  (∀ (i : Nat) (r : Rec) (rs : List Rec) (s : State), s.ldg.noStore = false → s.ldg.buffer = r :: rs → programPlace s r = some (i, false) →
    startsUnit r = false → s.nvm.clearPending = false → s.ldg.loss.count = 0 →
    ∃ t, exec (.recordCommit true) s = .next t ∧ (lunit t i).recs = (lunit s i).recs ++ [r] ∧ t.ldg.buffer = rs ∧ t.ldg.committed = r.seq ∧
      t.ldg.lastFail = false ∧ (∀ j, j ≠ i → lunit t j = lunit s j) ∧ Frame [.nvm, .ldg] s t) ∧
  (∀ (i : Nat) (s : State), ∃ t, t = unitFailed i s ∧ (lunit t i).fails = (lunit s i).fails + 1 ∧
    (lunit t i).bad = ((lunit s i).bad || decide (2 ≤ (lunit s i).fails)) ∧ (lunit t i).recs = (lunit s i).recs ∧ t.ldg.nvmErr = true ∧
    t.ldg.lastFail = true ∧ Frame [.nvm, .ldg] s t) ∧
  (∀ (u : Nat) (g : Bool) (s : State), u < unitCount s → s.ldg.noStore = true ∨ eraseDue s u = false → exec (.unitErase u g) s = .next s) ∧
  (∀ (u : Nat) (s : State), u < unitCount s → s.ldg.noStore = false → eraseDue s u = true →
    exec (.unitErase u true) s = .next (erased u s) ∧ exec (.unitErase u false) s = .next (eraseFailed u s)) ∧
  (∀ (u : Nat) (s : State), s.ldg.clearing = false → ∃ t, t = erased u s ∧ (lunit t u).recs = [] ∧ (lunit t u).written = false ∧
    (lunit t u).erases = (lunit s u).erases + 1 ∧ t.ldg.lastFail = false ∧ (∀ j, j ≠ u → lunit t j = lunit s j) ∧ Frame [.nvm, .ldg] s t) ∧
  (∀ (u : Nat) (g : Bool) (s : State), unitCount s ≤ u → exec (.unitErase u g) s = .fault (.notBuilt "ledger unit" u))

/-- Signed commands, trace buffers and tensor watch (R355, R356, R363, R364, R366, R370): without GO a write of LDG_SIGNED only takes the address; a
block that fails a check of R355 is rejected with its RESULT and a record; one that passes commits its counter before it acts. ARM clears a
buffer under the configuration written; TRIG triggers an armed one. A tensor watch entry is written by who may, when its fields are legal. -/
def Obligations.SignedCommandsTracesAndTensorWatch : Prop :=
  (∀ (c : Instr) (a : Access) (v : Word) (m : MemRead) (s : State), c = .clear a v m ∨ c = .release a v m → reaches s a aLdgSigned = true →
    fbit v 63 = false → exec c s = .next (busOk { s with ldg := { s.ldg with signedAddr := fld v 47 0 } })) ∧
  (∀ (c : Instr) (a : Access) (v : Word) (m : MemRead) (s t : State), c = .clear a v m ∨ c = .release a v m → reaches s a aLdgSigned = true →
    fbit v 63 = true → t = { s with ldg := { s.ldg with signedAddr := fld v 47 0 } } → signedBlk (fld v 47 0) m = none →
    exec c s = .next (busOk (signedReject (match m with | some bs => rd bs 5 1 | none => 0) sgBadBlock t))) ∧
  (∀ (c : Instr) (a : Access) (v : Word) (m : MemRead) (b : SignedBlk) (s t : State), c = .clear a v m ∨ c = .release a v m →
    reaches s a aLdgSigned = true → fbit v 63 = true → t = { s with ldg := { s.ldg with signedAddr := fld v 47 0 } } →
    signedBlk (fld v 47 0) m = some b → exec c s = .next (busOk (if signedCheck t b ≠ sgRunning then signedReject b.op (signedCheck t b) t
      else if b.op = 1 then clearBegin b.counter { t with nvm := { t.nvm with authCtr := b.counter } }
      else releasePort b.target { t with nvm := { t.nvm with authCtr := b.counter } }))) ∧
  (∀ (b : SignedBlk) (s : State), s.life.keys = none → signedCheck s b = sgNoKey) ∧
  (∀ (b : SignedBlk) (k : KeyStore) (s : State), s.life.keys = some k → b.counter ≠ s.nvm.authCtr + 1 → signedCheck s b ≠ sgRunning) ∧
  (∀ (a : Access) (b : Nat) (v : Word) (s : State), b < 4 → reaches s a (aLdgTrace b) = true → fbit v 63 = true → fbit v 62 = false →
    (trace s b).report = false → s.ldg.traces.length = 4 → exec (.traceArm a b v) s = .next (busOk { s with ldg := { s.ldg with
      traces := lmod s.ldg.traces b (fun _ => armed (traceFields v)) } })) ∧
  (∀ (a : Access) (b : Nat) (v : Word) (s : State), b < 4 → reaches s a (aLdgTrace b) = true → fbit v 63 = false → fbit v 62 = true →
    s.ldg.traces.length = 4 → (trace s b).state = 1 → ∃ t e, exec (.traceTrig a b v) s = .next t ∧
      trace t b = traceTrigger { trace s b with cfg := traceFields v, eff := traceFields v } e ∧ e.source = 4 ∧ e.stroke = stampStroke s ∧
      (∀ j, j ≠ b → trace t j = trace s j) ∧ Frame [.ldg, .fresh, .bus] s t) ∧
  (∀ (a : Access) (b : Nat) (v : Word) (c : Instr) (s : State), c = .traceArm a b v ∨ c = .traceTrig a b v → 4 ≤ b →
    exec c s = .fault (.notBuilt "trace buffer" b)) ∧
  (∀ (a : Access) (i : Nat) (v : Word) (s : State), i < 64 → s.boot.inReset = false → controlReset s = false → twMay s a i (twFields v) = true →
    exec (.tensorWatchWrite a i v) s = .next (busOk (if twLegal (twFields v) = true then { s with ldg := { s.ldg with tw := tput s.ldg.tw i (twFields v) } }
      else { s with ldg := { s.ldg with twErr := true } }))) ∧
  (∀ (a : Access) (i : Nat) (v : Word) (s : State), i < 64 → s.boot.inReset = false → twMay s a i (twFields v) = false →
    exec (.tensorWatchWrite a i v) s = .next (busErr (gcount 13 1 (recordBlock .viewDenied (deniedBody a true false (aLdgTw i)) s)))) ∧
  (∀ (a : Access) (i : Nat) (v : Word) (s : State), 64 ≤ i → exec (.tensorWatchWrite a i v) s = .fault (.notBuilt "tensor watch entry" i))

/-- What refuses an access (R6, R7, R322, R347, R402): one that is not a naturally aligned 64-bit access, and one that the view does not admit, ends in
a bus error with a VIEW_DENIED record, folded by rate, and has no other effect; one to a node that is not in use leaves NODE_UNMAPPED; in a
CONTROL reset other windows answer with a bus error alone. A write to a privileged register from an unprivileged view changes nothing else. -/
def Obligations.RefusedAccessesHaveNoEffect : Prop :=
  (∀ (a : Access) (w : Bool) (addr size : Nat) (s : State), s.boot.inReset = false → size ≠ 8 ∨ addr % 8 ≠ 0 →
    exec (.accessDenied a w addr size) s = .next (busErr (gcount 13 1 (recordBlock .viewDenied (deniedBody a w true addr) s)))) ∧
  (∀ (a : Access) (w : Bool) (addr : Nat) (s : State), s.boot.inReset = false → addr % 8 = 0 → privileged s a = false → tenantMay s a w addr = false →
    exec (.accessDenied a w addr 8) s = .next (busErr (gcount 13 1 (recordBlock .viewDenied (deniedBody a w false addr) s)))) ∧
  (∀ (a : Access) (addr : Nat) (v : Word) (s : State), s.boot.inReset = false → addr % 8 = 0 → privileged s a = false →
    tenantMay s a true addr = false →
    exec (.registerWrite a addr v) s = .next (busErr (gcount 13 1 (recordBlock .viewDenied (deniedBody a true false addr) s)))) ∧
  (∀ (a : Access) (addr : Nat) (f : State → State) (s : State), s.boot.inReset = false → privileged s a = false →
    privWrite a addr f s = busErr (gcount 13 1 (recordBlock .viewDenied (deniedBody a true false addr) s))) ∧
  (∀ (w : Bool) (a : Access) (n : Bool) (addr : Nat) (s : State), ∃ t, t = busErr (gcount 13 1 (recordBlock .viewDenied (deniedBody a w n addr) s)) ∧
    t.bus.err = true ∧ Frame (logParts ++ [.bus]) s t) ∧
  (∀ (a : Access) (w n : Bool) (addr : Nat) (s : State), recordBlock .viewDenied (deniedBody a w n addr) s =
    writeByRate (stampRec s .viewDenied noNode none (recSev .viewDenied) (deniedBody a w n addr)) s) ∧
  (∀ (r : Rec) (s : State), s.ldg.rates.any (rateKeyIs r) = true → writeByRate r s = occurrence { r with seq := 0 } { s with ldg := { s.ldg with
    rates := s.ldg.rates.map (fun k => if rateKeyIs r k then rateCount r k else k) } }) ∧
  (∀ (r : Rec) (s : State), s.ldg.rates.any (rateKeyIs r) = false → s.ldg.rates.length < 64 → writeByRate r s = writeOrFold r { s with ldg := { s.ldg with
    rates := s.ldg.rates ++ [{ typ := r.typ, node := r.node, body0 := (r.body.headD 0).toNat, opened := now s }] } }) ∧
  (∀ (a : Access) (w : Bool) (addr : Nat) (s : State), s.boot.inReset = false → addr % 8 = 0 → privileged s a = true → inNodes addr = true →
    nodeUsed s (nodeOfAddr addr) = false → exec (.accessDenied a w addr 8) s =
      .next (busErr (record .nodeUnmapped (nodeOfAddr addr) (deniedBody a w false addr) s))) ∧
  (∀ (a : Access) (w : Bool) (addr : Nat) (s : State), s.boot.inReset = false → denial s a w addr 8 = some .control →
    exec (.accessDenied a w addr 8) s = .next (busErr s)) ∧
  (∀ (a : Access) (w : Bool) (addr size : Nat) (s : State), s.boot.inReset = false → denial s a w addr size = none →
    exec (.accessDenied a w addr size) s = .next (busOk s)) ∧
  (∀ (a : Access) (w : Bool) (addr size : Nat) (v : Word) (s : State), s.boot.inReset = true →
    exec (.accessDenied a w addr size) s = .next s ∧ exec (.registerWrite a addr v) s = .next s)

/-- Register writes by their access codes (R8, R42, R166, R220, R317, R339, R399, R403, R405), and the ends of memory accesses (R153, R232, R269, R427): an
admitted write takes its RW fields, a 1 clears a W1C bit, a locked LK field and a read-only register keep their value. A completed access leaves
the list; a failed or late one is handled by the unit that issued it; a tag that is not outstanding changes nothing. -/
def Obligations.RegisterWritesAndMemoryAnswers : Prop :=
  (∀ (a : Access) (addr : Nat) (v : Word) (s : State), s.boot.inReset = false → denial s a true addr 8 = none →
    exec (.registerWrite a addr v) s = .next (busOk (writeFields a addr v s))) ∧
  (∀ (a : Access) (v : Word) (s : State), writeFields a 0x200008 v s =
    if s.tcfg.enable = true then s else { s with tcfg := { s.tcfg with start := fld v 47 0 } }) ∧
  (∀ (a : Access) (v : Word) (s : State), writeFields a 0x200010 v s = { s with stk := { s.stk with cfgErr := s.stk.cfgErr && !(fbit v 51) } }) ∧
  (∀ (a : Access) (v : Word) (s : State), writeFields a 0x400030 v s =
    if s.cpy.lock = true then s else { s with cpy := { s.cpy with ringBase := fld v 47 0 / 2 ^ 16 * 2 ^ 16 } }) ∧
  (∀ (a : Access) (v : Word) (s : State), writeFields a 0x600028 v s = { s with wch := { s.wch with rxTail := fld v 31 16 } }) ∧
  (∀ (a : Access) (v : Word) (s : State), writeFields a 0x800000 v s = { s with pwr := { s.pwr with
    ramp := if s.pwr.lock = true then s.pwr.ramp else fld v 55 48, restore := fld v 47 40, forceShed := fld v 3 0, lock := s.pwr.lock || fbit v 63 } }) ∧
  (∀ (a : Access) (v : Word) (s : State), writeFields a 0x900000 v s = { s with scr := { s.scr with cfg := scrCfgOf v } }) ∧
  (∀ (a : Access) (n : Nat) (v : Word) (s : State), n < 16 → writeFields a (aSlot n + 0x10) v s = modSlot n (fun w => { w with
    irq := ((irqClearable n).filter (fbit v)).foldl clearBit w.irq }) s) ∧
  (∀ (a : Access) (addr : Nat) (v : Word) (s : State), addr < 0x10000 ∨ (0x300000 ≤ addr ∧ addr < 0x400000) ∨ 0x1000000 ≤ addr →
    writeFields a addr v s = s) ∧
  (∀ (tag : Nat) (e : Bool) (s : State), tget s.mem tag = none →
    exec (.memoryAccessDone tag e) s = .next s ∧ exec (.memoryAccessTimeout tag) s = .next s) ∧
  (∀ (tag : Nat) (w : MemWork) (s : State), tget s.mem tag = some w →
    exec (.memoryAccessDone tag false) s = .next (memDone w { s with mem := tdel s.mem tag }) ∧
    exec (.memoryAccessDone tag true) s = .next (memFailed w { s with mem := tdel s.mem tag }) ∧
    exec (.memoryAccessTimeout tag) s = .next (memFailed w { s with mem := tdel s.mem tag })) ∧
  (∀ (id : Nat) (c : Capture) (s : State), capture? s id = some c →
    memDone (.capture id) s = modCap id (fun y => { y with landing := 0 }) { s with cpy := { s.cpy with heldLanding := s.cpy.heldLanding - c.landing } } ∧
    memFailed (.capture id) s = freeCapture id (dropCheck c.port 0x09 c.last c.tag s)) ∧
  (∀ (n : Nat) (s : State), memDone (.spill n) s = s ∧ memFailed (.spill n) s = recordBlock .spillFail (le 6 n ++ zeros 2)
    { s with taint := { s.taint with spillErr := true, lostRows := addNew s.taint.lostRows n, spilled := tdel s.taint.spilled n } }) ∧
  (∀ (p : Nat) (s : State), memDone (.sample p) s = s ∧ memFailed (.sample p) s =
    record .scratchSkip (nodeOf p) (le 1 (sent s p).level ++ le 1 5 ++ le 2 p) (memWrite (s.rcv.scratchBase + 2 ^ 27 + 16 * p) false
      (le 6 (now s) ++ le 1 (sent s p).level ++ zeros 9) s)) ∧
  (∀ (l : Nat) (s : State), memFailed (.tunnel l) s = s ∧ memDone (.tunnel l) s = s)

/-- A step takes the command at the front of the queue and runs it on the state with the queue's rest; with no command waiting the block idles.
How commands wait, and that nothing happens without one, is the model's choice (log entry 1). -/
def Obligations.AStepRunsTheFrontCommand : Prop :=
  (∀ (c : Instr) (s : State) (rest : List Instr), s.pending = c :: rest → step s = exec c { s with pending := rest }) ∧
  (∀ (c : Instr) (s : State), step { s with pending := c :: s.pending } = exec c s) ∧
  (∀ s : State, s.pending = [] → step s = .next s)

/-- Every command changes only the parts of the block that its rules name, listed in `touches` (R7, R13, R340, R350, R361, R374, R388): what no command of
a run lists keeps its value, whatever the operands. No command changes the build or the queue, and the straps change
in a cold reset alone. No command is refused, and only a unit number past what was built ends one (R3; the numbers built are those of the build,
log entry 11). -/
def Obligations.CommandsRunAndKeepTheRest : Prop :=
  (∀ (c : Instr) (s t : State), exec c s = .next t → Frame (touches c) s t) ∧
  (∀ (c : Instr) (s t : State), exec c s = .next t → t.build = s.build ∧ t.pending = s.pending) ∧
  (∀ (c : Instr) (s t : State), exec c s = .next t → t.straps ≠ s.straps → (∃ x, c = .coldResetAssert x) ∨ (∃ x, c = .coldResetDeassert x)) ∧
  (∀ (c : Instr) (s : State), (∃ t, exec c s = .next t) ∨ (∃ what n, exec c s = .fault (.notBuilt what n))) ∧
  (∀ (l tx e r n : Nat) (s : State), s.build.links ≤ l → exec (.echo l tx e r n) s = .fault (.notBuilt "link" l)) ∧
  (∀ (n : Nat) (s : State), 2 * s.build.links ≤ n → exec (.laneLock n) s = .fault (.notBuilt "lane" n)) ∧
  (∀ (p : Nat) (s : State), s.build.ports ≤ p →
    exec (.tileClockStop p) s = .fault (.notBuilt "port" p) ∧ exec (.tileClockStart p) s = .fault (.notBuilt "port" p) ∧
    exec (.stepDone p) s = .fault (.notBuilt "port" p) ∧ exec (.engineResetAck p) s = .fault (.notBuilt "port" p))

/-- What every step keeps, in every state and not only in those a run reaches: PERIOD and LEAD stay ones that R9 admits, each mailbox queue stays
within its four notices (R324), and a fuse that is blown stays blown (R388, R431). -/
def Obligations.InvariantsHoldAfterEveryStep : Prop :=
  (∀ s t : State, TickLegal s → step s = .next t → TickLegal t) ∧
  (∀ s t : State, MailboxesBounded s → step s = .next t → MailboxesBounded t) ∧
  (∀ s t : State, step s = .next t → FusesKept s t)

/-- The block after reset (R9, R374, R375, R400): in cold reset, with no command waiting, PERIOD and LEAD legal, every mailbox queue empty, no record,
no node in use, no interrupt and every link down. The values that the spec does not state are the model's (log entry 11). -/
def Obligations.ResetLeavesALegalBlock : Prop :=
  TickLegal State.reset ∧ MailboxesBounded State.reset ∧ State.reset.pending = [] ∧ State.reset.boot.inReset = true ∧ State.reset.boot.ready = false ∧
  State.reset.tcfg.period = 100000 ∧ State.reset.tcfg.lead = 1 ∧ State.reset.tcfg.enable = false ∧ State.reset.ldg.next = 0 ∧ State.reset.ldg.buffer = [] ∧
  State.reset.gnd.state = 0 ∧ State.reset.rcv.late = 0 ∧ (∀ n, (slot State.reset n).irq = 0) ∧ (∀ l, (link State.reset l).state = lsDown) ∧
  (∀ (a : Access) (w : Bool) (addr size : Nat), exec (.accessDenied a w addr size) State.reset = .next State.reset)

/-- The stroke is in the WATCH domain (R13): a CORE or a CONTROL reset, however it starts, leaves the stroke generator, the flywheel, the marker
forwarding and the STK registers as they were, and the tick that comes next is the one that would have come. -/
def Obligations.ResetsDoNotStopTheTicks : Prop :=
  (∀ (c : Instr) (a : Access) (v : Word) (s : State), c = .coreReset a v ∨ c = .controlReset a v ∨ c = .clockLoss ∨ c = .wardenWatchdog ∨
      c = .lockstepMismatch 2 ∨ c = .lockstepMismatch 3 →
    ∃ t, exec c s = .next t ∧ t.stk = s.stk ∧ t.tcfg = s.tcfg ∧ t.straps = s.straps ∧ ticking t = ticking s ∧ nextTickOf t = nextTickOf s) ∧
  (∀ (sig : TickSignals) (n τ : Nat) (s : State), controlReset s = true → nextTickOf s = some (n, τ) →
    exec (.strokeTick sig) s = .next (sendMarker (followTick s.stk.flyTick (advanceStroke n τ s)))) ∧
  (∀ (n τ : Nat) (s : State), (advanceStroke n τ s).stk.stroke = n ∧ (advanceStroke n τ s).stk.tickTime = τ ∧ (advanceStroke n τ s).stk.phase = 0)
end

