-- ==== Sys2Proof/Laws/State.lean ====
section
/-!
SUPPORT. What each small change of the state does to each field: the field it names, and every other field unchanged. All true by
computation, so that no proof unfolds a record update.
-/
namespace Sys2Proof.Machine

open Sys2Proof

@[simp] theorem modNvm_fields (f : Nvm → Nvm) (s : State) :
    (modNvm f s).build = s.build ∧ (modNvm f s).straps = s.straps ∧ (modNvm f s).nvm = f s.nvm ∧
    (modNvm f s).life = s.life ∧ (modNvm f s).boot = s.boot ∧ (modNvm f s).pwr = s.pwr ∧
    (modNvm f s).energies = s.energies ∧ (modNvm f s).tcfg = s.tcfg ∧ (modNvm f s).stk = s.stk ∧
    (modNvm f s).gnd = s.gnd ∧ (modNvm f s).sents = s.sents ∧ (modNvm f s).parts = s.parts ∧
    (modNvm f s).epochs = s.epochs ∧ (modNvm f s).chks = s.chks ∧ (modNvm f s).judged = s.judged ∧
    (modNvm f s).judgedStroke = s.judgedStroke ∧ (modNvm f s).cpy = s.cpy ∧ (modNvm f s).dgt = s.dgt ∧
    (modNvm f s).scr = s.scr ∧ (modNvm f s).taint = s.taint ∧ (modNvm f s).rcv = s.rcv ∧
    (modNvm f s).wch = s.wch ∧ (modNvm f s).slots = s.slots ∧ (modNvm f s).mbxs = s.mbxs ∧
    (modNvm f s).bus = s.bus ∧ (modNvm f s).ldg = s.ldg ∧ (modNvm f s).mem = s.mem ∧
    (modNvm f s).nextTag = s.nextTag ∧ (modNvm f s).outs = s.outs ∧ (modNvm f s).fresh = s.fresh ∧
    (modNvm f s).pending = s.pending :=
  ⟨rfl, rfl, rfl, rfl, rfl, rfl, rfl, rfl, rfl, rfl, rfl, rfl, rfl, rfl, rfl, rfl, rfl, rfl, rfl, rfl, rfl, rfl, rfl, rfl, rfl, rfl, rfl, rfl, rfl, rfl, rfl⟩

@[simp] theorem modLife_fields (f : Life → Life) (s : State) :
    (modLife f s).build = s.build ∧ (modLife f s).straps = s.straps ∧ (modLife f s).nvm = s.nvm ∧
    (modLife f s).life = f s.life ∧ (modLife f s).boot = s.boot ∧ (modLife f s).pwr = s.pwr ∧
    (modLife f s).energies = s.energies ∧ (modLife f s).tcfg = s.tcfg ∧ (modLife f s).stk = s.stk ∧
    (modLife f s).gnd = s.gnd ∧ (modLife f s).sents = s.sents ∧ (modLife f s).parts = s.parts ∧
    (modLife f s).epochs = s.epochs ∧ (modLife f s).chks = s.chks ∧ (modLife f s).judged = s.judged ∧
    (modLife f s).judgedStroke = s.judgedStroke ∧ (modLife f s).cpy = s.cpy ∧ (modLife f s).dgt = s.dgt ∧
    (modLife f s).scr = s.scr ∧ (modLife f s).taint = s.taint ∧ (modLife f s).rcv = s.rcv ∧
    (modLife f s).wch = s.wch ∧ (modLife f s).slots = s.slots ∧ (modLife f s).mbxs = s.mbxs ∧
    (modLife f s).bus = s.bus ∧ (modLife f s).ldg = s.ldg ∧ (modLife f s).mem = s.mem ∧
    (modLife f s).nextTag = s.nextTag ∧ (modLife f s).outs = s.outs ∧ (modLife f s).fresh = s.fresh ∧
    (modLife f s).pending = s.pending :=
  ⟨rfl, rfl, rfl, rfl, rfl, rfl, rfl, rfl, rfl, rfl, rfl, rfl, rfl, rfl, rfl, rfl, rfl, rfl, rfl, rfl, rfl, rfl, rfl, rfl, rfl, rfl, rfl, rfl, rfl, rfl, rfl⟩

@[simp] theorem modBoot_fields (f : Boot → Boot) (s : State) :
    (modBoot f s).build = s.build ∧ (modBoot f s).straps = s.straps ∧ (modBoot f s).nvm = s.nvm ∧
    (modBoot f s).life = s.life ∧ (modBoot f s).boot = f s.boot ∧ (modBoot f s).pwr = s.pwr ∧
    (modBoot f s).energies = s.energies ∧ (modBoot f s).tcfg = s.tcfg ∧ (modBoot f s).stk = s.stk ∧
    (modBoot f s).gnd = s.gnd ∧ (modBoot f s).sents = s.sents ∧ (modBoot f s).parts = s.parts ∧
    (modBoot f s).epochs = s.epochs ∧ (modBoot f s).chks = s.chks ∧ (modBoot f s).judged = s.judged ∧
    (modBoot f s).judgedStroke = s.judgedStroke ∧ (modBoot f s).cpy = s.cpy ∧ (modBoot f s).dgt = s.dgt ∧
    (modBoot f s).scr = s.scr ∧ (modBoot f s).taint = s.taint ∧ (modBoot f s).rcv = s.rcv ∧
    (modBoot f s).wch = s.wch ∧ (modBoot f s).slots = s.slots ∧ (modBoot f s).mbxs = s.mbxs ∧
    (modBoot f s).bus = s.bus ∧ (modBoot f s).ldg = s.ldg ∧ (modBoot f s).mem = s.mem ∧
    (modBoot f s).nextTag = s.nextTag ∧ (modBoot f s).outs = s.outs ∧ (modBoot f s).fresh = s.fresh ∧
    (modBoot f s).pending = s.pending :=
  ⟨rfl, rfl, rfl, rfl, rfl, rfl, rfl, rfl, rfl, rfl, rfl, rfl, rfl, rfl, rfl, rfl, rfl, rfl, rfl, rfl, rfl, rfl, rfl, rfl, rfl, rfl, rfl, rfl, rfl, rfl, rfl⟩

@[simp] theorem modPwr_fields (f : Pwr → Pwr) (s : State) :
    (modPwr f s).build = s.build ∧ (modPwr f s).straps = s.straps ∧ (modPwr f s).nvm = s.nvm ∧
    (modPwr f s).life = s.life ∧ (modPwr f s).boot = s.boot ∧ (modPwr f s).pwr = f s.pwr ∧
    (modPwr f s).energies = s.energies ∧ (modPwr f s).tcfg = s.tcfg ∧ (modPwr f s).stk = s.stk ∧
    (modPwr f s).gnd = s.gnd ∧ (modPwr f s).sents = s.sents ∧ (modPwr f s).parts = s.parts ∧
    (modPwr f s).epochs = s.epochs ∧ (modPwr f s).chks = s.chks ∧ (modPwr f s).judged = s.judged ∧
    (modPwr f s).judgedStroke = s.judgedStroke ∧ (modPwr f s).cpy = s.cpy ∧ (modPwr f s).dgt = s.dgt ∧
    (modPwr f s).scr = s.scr ∧ (modPwr f s).taint = s.taint ∧ (modPwr f s).rcv = s.rcv ∧
    (modPwr f s).wch = s.wch ∧ (modPwr f s).slots = s.slots ∧ (modPwr f s).mbxs = s.mbxs ∧
    (modPwr f s).bus = s.bus ∧ (modPwr f s).ldg = s.ldg ∧ (modPwr f s).mem = s.mem ∧
    (modPwr f s).nextTag = s.nextTag ∧ (modPwr f s).outs = s.outs ∧ (modPwr f s).fresh = s.fresh ∧
    (modPwr f s).pending = s.pending :=
  ⟨rfl, rfl, rfl, rfl, rfl, rfl, rfl, rfl, rfl, rfl, rfl, rfl, rfl, rfl, rfl, rfl, rfl, rfl, rfl, rfl, rfl, rfl, rfl, rfl, rfl, rfl, rfl, rfl, rfl, rfl, rfl⟩

@[simp] theorem modStk_fields (f : Stk → Stk) (s : State) :
    (modStk f s).build = s.build ∧ (modStk f s).straps = s.straps ∧ (modStk f s).nvm = s.nvm ∧
    (modStk f s).life = s.life ∧ (modStk f s).boot = s.boot ∧ (modStk f s).pwr = s.pwr ∧
    (modStk f s).energies = s.energies ∧ (modStk f s).tcfg = s.tcfg ∧ (modStk f s).stk = f s.stk ∧
    (modStk f s).gnd = s.gnd ∧ (modStk f s).sents = s.sents ∧ (modStk f s).parts = s.parts ∧
    (modStk f s).epochs = s.epochs ∧ (modStk f s).chks = s.chks ∧ (modStk f s).judged = s.judged ∧
    (modStk f s).judgedStroke = s.judgedStroke ∧ (modStk f s).cpy = s.cpy ∧ (modStk f s).dgt = s.dgt ∧
    (modStk f s).scr = s.scr ∧ (modStk f s).taint = s.taint ∧ (modStk f s).rcv = s.rcv ∧
    (modStk f s).wch = s.wch ∧ (modStk f s).slots = s.slots ∧ (modStk f s).mbxs = s.mbxs ∧
    (modStk f s).bus = s.bus ∧ (modStk f s).ldg = s.ldg ∧ (modStk f s).mem = s.mem ∧
    (modStk f s).nextTag = s.nextTag ∧ (modStk f s).outs = s.outs ∧ (modStk f s).fresh = s.fresh ∧
    (modStk f s).pending = s.pending :=
  ⟨rfl, rfl, rfl, rfl, rfl, rfl, rfl, rfl, rfl, rfl, rfl, rfl, rfl, rfl, rfl, rfl, rfl, rfl, rfl, rfl, rfl, rfl, rfl, rfl, rfl, rfl, rfl, rfl, rfl, rfl, rfl⟩

@[simp] theorem modGnd_fields (f : Gnd → Gnd) (s : State) :
    (modGnd f s).build = s.build ∧ (modGnd f s).straps = s.straps ∧ (modGnd f s).nvm = s.nvm ∧
    (modGnd f s).life = s.life ∧ (modGnd f s).boot = s.boot ∧ (modGnd f s).pwr = s.pwr ∧
    (modGnd f s).energies = s.energies ∧ (modGnd f s).tcfg = s.tcfg ∧ (modGnd f s).stk = s.stk ∧
    (modGnd f s).gnd = f s.gnd ∧ (modGnd f s).sents = s.sents ∧ (modGnd f s).parts = s.parts ∧
    (modGnd f s).epochs = s.epochs ∧ (modGnd f s).chks = s.chks ∧ (modGnd f s).judged = s.judged ∧
    (modGnd f s).judgedStroke = s.judgedStroke ∧ (modGnd f s).cpy = s.cpy ∧ (modGnd f s).dgt = s.dgt ∧
    (modGnd f s).scr = s.scr ∧ (modGnd f s).taint = s.taint ∧ (modGnd f s).rcv = s.rcv ∧
    (modGnd f s).wch = s.wch ∧ (modGnd f s).slots = s.slots ∧ (modGnd f s).mbxs = s.mbxs ∧
    (modGnd f s).bus = s.bus ∧ (modGnd f s).ldg = s.ldg ∧ (modGnd f s).mem = s.mem ∧
    (modGnd f s).nextTag = s.nextTag ∧ (modGnd f s).outs = s.outs ∧ (modGnd f s).fresh = s.fresh ∧
    (modGnd f s).pending = s.pending :=
  ⟨rfl, rfl, rfl, rfl, rfl, rfl, rfl, rfl, rfl, rfl, rfl, rfl, rfl, rfl, rfl, rfl, rfl, rfl, rfl, rfl, rfl, rfl, rfl, rfl, rfl, rfl, rfl, rfl, rfl, rfl, rfl⟩

@[simp] theorem modCpy_fields (f : Cpy → Cpy) (s : State) :
    (modCpy f s).build = s.build ∧ (modCpy f s).straps = s.straps ∧ (modCpy f s).nvm = s.nvm ∧
    (modCpy f s).life = s.life ∧ (modCpy f s).boot = s.boot ∧ (modCpy f s).pwr = s.pwr ∧
    (modCpy f s).energies = s.energies ∧ (modCpy f s).tcfg = s.tcfg ∧ (modCpy f s).stk = s.stk ∧
    (modCpy f s).gnd = s.gnd ∧ (modCpy f s).sents = s.sents ∧ (modCpy f s).parts = s.parts ∧
    (modCpy f s).epochs = s.epochs ∧ (modCpy f s).chks = s.chks ∧ (modCpy f s).judged = s.judged ∧
    (modCpy f s).judgedStroke = s.judgedStroke ∧ (modCpy f s).cpy = f s.cpy ∧ (modCpy f s).dgt = s.dgt ∧
    (modCpy f s).scr = s.scr ∧ (modCpy f s).taint = s.taint ∧ (modCpy f s).rcv = s.rcv ∧
    (modCpy f s).wch = s.wch ∧ (modCpy f s).slots = s.slots ∧ (modCpy f s).mbxs = s.mbxs ∧
    (modCpy f s).bus = s.bus ∧ (modCpy f s).ldg = s.ldg ∧ (modCpy f s).mem = s.mem ∧
    (modCpy f s).nextTag = s.nextTag ∧ (modCpy f s).outs = s.outs ∧ (modCpy f s).fresh = s.fresh ∧
    (modCpy f s).pending = s.pending :=
  ⟨rfl, rfl, rfl, rfl, rfl, rfl, rfl, rfl, rfl, rfl, rfl, rfl, rfl, rfl, rfl, rfl, rfl, rfl, rfl, rfl, rfl, rfl, rfl, rfl, rfl, rfl, rfl, rfl, rfl, rfl, rfl⟩

@[simp] theorem modDgt_fields (f : Dgt → Dgt) (s : State) :
    (modDgt f s).build = s.build ∧ (modDgt f s).straps = s.straps ∧ (modDgt f s).nvm = s.nvm ∧
    (modDgt f s).life = s.life ∧ (modDgt f s).boot = s.boot ∧ (modDgt f s).pwr = s.pwr ∧
    (modDgt f s).energies = s.energies ∧ (modDgt f s).tcfg = s.tcfg ∧ (modDgt f s).stk = s.stk ∧
    (modDgt f s).gnd = s.gnd ∧ (modDgt f s).sents = s.sents ∧ (modDgt f s).parts = s.parts ∧
    (modDgt f s).epochs = s.epochs ∧ (modDgt f s).chks = s.chks ∧ (modDgt f s).judged = s.judged ∧
    (modDgt f s).judgedStroke = s.judgedStroke ∧ (modDgt f s).cpy = s.cpy ∧ (modDgt f s).dgt = f s.dgt ∧
    (modDgt f s).scr = s.scr ∧ (modDgt f s).taint = s.taint ∧ (modDgt f s).rcv = s.rcv ∧
    (modDgt f s).wch = s.wch ∧ (modDgt f s).slots = s.slots ∧ (modDgt f s).mbxs = s.mbxs ∧
    (modDgt f s).bus = s.bus ∧ (modDgt f s).ldg = s.ldg ∧ (modDgt f s).mem = s.mem ∧
    (modDgt f s).nextTag = s.nextTag ∧ (modDgt f s).outs = s.outs ∧ (modDgt f s).fresh = s.fresh ∧
    (modDgt f s).pending = s.pending :=
  ⟨rfl, rfl, rfl, rfl, rfl, rfl, rfl, rfl, rfl, rfl, rfl, rfl, rfl, rfl, rfl, rfl, rfl, rfl, rfl, rfl, rfl, rfl, rfl, rfl, rfl, rfl, rfl, rfl, rfl, rfl, rfl⟩

@[simp] theorem modScr_fields (f : Scr → Scr) (s : State) :
    (modScr f s).build = s.build ∧ (modScr f s).straps = s.straps ∧ (modScr f s).nvm = s.nvm ∧
    (modScr f s).life = s.life ∧ (modScr f s).boot = s.boot ∧ (modScr f s).pwr = s.pwr ∧
    (modScr f s).energies = s.energies ∧ (modScr f s).tcfg = s.tcfg ∧ (modScr f s).stk = s.stk ∧
    (modScr f s).gnd = s.gnd ∧ (modScr f s).sents = s.sents ∧ (modScr f s).parts = s.parts ∧
    (modScr f s).epochs = s.epochs ∧ (modScr f s).chks = s.chks ∧ (modScr f s).judged = s.judged ∧
    (modScr f s).judgedStroke = s.judgedStroke ∧ (modScr f s).cpy = s.cpy ∧ (modScr f s).dgt = s.dgt ∧
    (modScr f s).scr = f s.scr ∧ (modScr f s).taint = s.taint ∧ (modScr f s).rcv = s.rcv ∧
    (modScr f s).wch = s.wch ∧ (modScr f s).slots = s.slots ∧ (modScr f s).mbxs = s.mbxs ∧
    (modScr f s).bus = s.bus ∧ (modScr f s).ldg = s.ldg ∧ (modScr f s).mem = s.mem ∧
    (modScr f s).nextTag = s.nextTag ∧ (modScr f s).outs = s.outs ∧ (modScr f s).fresh = s.fresh ∧
    (modScr f s).pending = s.pending :=
  ⟨rfl, rfl, rfl, rfl, rfl, rfl, rfl, rfl, rfl, rfl, rfl, rfl, rfl, rfl, rfl, rfl, rfl, rfl, rfl, rfl, rfl, rfl, rfl, rfl, rfl, rfl, rfl, rfl, rfl, rfl, rfl⟩

@[simp] theorem modTaint_fields (f : Taint → Taint) (s : State) :
    (modTaint f s).build = s.build ∧ (modTaint f s).straps = s.straps ∧ (modTaint f s).nvm = s.nvm ∧
    (modTaint f s).life = s.life ∧ (modTaint f s).boot = s.boot ∧ (modTaint f s).pwr = s.pwr ∧
    (modTaint f s).energies = s.energies ∧ (modTaint f s).tcfg = s.tcfg ∧ (modTaint f s).stk = s.stk ∧
    (modTaint f s).gnd = s.gnd ∧ (modTaint f s).sents = s.sents ∧ (modTaint f s).parts = s.parts ∧
    (modTaint f s).epochs = s.epochs ∧ (modTaint f s).chks = s.chks ∧ (modTaint f s).judged = s.judged ∧
    (modTaint f s).judgedStroke = s.judgedStroke ∧ (modTaint f s).cpy = s.cpy ∧ (modTaint f s).dgt = s.dgt ∧
    (modTaint f s).scr = s.scr ∧ (modTaint f s).taint = f s.taint ∧ (modTaint f s).rcv = s.rcv ∧
    (modTaint f s).wch = s.wch ∧ (modTaint f s).slots = s.slots ∧ (modTaint f s).mbxs = s.mbxs ∧
    (modTaint f s).bus = s.bus ∧ (modTaint f s).ldg = s.ldg ∧ (modTaint f s).mem = s.mem ∧
    (modTaint f s).nextTag = s.nextTag ∧ (modTaint f s).outs = s.outs ∧ (modTaint f s).fresh = s.fresh ∧
    (modTaint f s).pending = s.pending :=
  ⟨rfl, rfl, rfl, rfl, rfl, rfl, rfl, rfl, rfl, rfl, rfl, rfl, rfl, rfl, rfl, rfl, rfl, rfl, rfl, rfl, rfl, rfl, rfl, rfl, rfl, rfl, rfl, rfl, rfl, rfl, rfl⟩

@[simp] theorem modRcv_fields (f : Rcv → Rcv) (s : State) :
    (modRcv f s).build = s.build ∧ (modRcv f s).straps = s.straps ∧ (modRcv f s).nvm = s.nvm ∧
    (modRcv f s).life = s.life ∧ (modRcv f s).boot = s.boot ∧ (modRcv f s).pwr = s.pwr ∧
    (modRcv f s).energies = s.energies ∧ (modRcv f s).tcfg = s.tcfg ∧ (modRcv f s).stk = s.stk ∧
    (modRcv f s).gnd = s.gnd ∧ (modRcv f s).sents = s.sents ∧ (modRcv f s).parts = s.parts ∧
    (modRcv f s).epochs = s.epochs ∧ (modRcv f s).chks = s.chks ∧ (modRcv f s).judged = s.judged ∧
    (modRcv f s).judgedStroke = s.judgedStroke ∧ (modRcv f s).cpy = s.cpy ∧ (modRcv f s).dgt = s.dgt ∧
    (modRcv f s).scr = s.scr ∧ (modRcv f s).taint = s.taint ∧ (modRcv f s).rcv = f s.rcv ∧
    (modRcv f s).wch = s.wch ∧ (modRcv f s).slots = s.slots ∧ (modRcv f s).mbxs = s.mbxs ∧
    (modRcv f s).bus = s.bus ∧ (modRcv f s).ldg = s.ldg ∧ (modRcv f s).mem = s.mem ∧
    (modRcv f s).nextTag = s.nextTag ∧ (modRcv f s).outs = s.outs ∧ (modRcv f s).fresh = s.fresh ∧
    (modRcv f s).pending = s.pending :=
  ⟨rfl, rfl, rfl, rfl, rfl, rfl, rfl, rfl, rfl, rfl, rfl, rfl, rfl, rfl, rfl, rfl, rfl, rfl, rfl, rfl, rfl, rfl, rfl, rfl, rfl, rfl, rfl, rfl, rfl, rfl, rfl⟩

@[simp] theorem modWch_fields (f : Wch → Wch) (s : State) :
    (modWch f s).build = s.build ∧ (modWch f s).straps = s.straps ∧ (modWch f s).nvm = s.nvm ∧
    (modWch f s).life = s.life ∧ (modWch f s).boot = s.boot ∧ (modWch f s).pwr = s.pwr ∧
    (modWch f s).energies = s.energies ∧ (modWch f s).tcfg = s.tcfg ∧ (modWch f s).stk = s.stk ∧
    (modWch f s).gnd = s.gnd ∧ (modWch f s).sents = s.sents ∧ (modWch f s).parts = s.parts ∧
    (modWch f s).epochs = s.epochs ∧ (modWch f s).chks = s.chks ∧ (modWch f s).judged = s.judged ∧
    (modWch f s).judgedStroke = s.judgedStroke ∧ (modWch f s).cpy = s.cpy ∧ (modWch f s).dgt = s.dgt ∧
    (modWch f s).scr = s.scr ∧ (modWch f s).taint = s.taint ∧ (modWch f s).rcv = s.rcv ∧
    (modWch f s).wch = f s.wch ∧ (modWch f s).slots = s.slots ∧ (modWch f s).mbxs = s.mbxs ∧
    (modWch f s).bus = s.bus ∧ (modWch f s).ldg = s.ldg ∧ (modWch f s).mem = s.mem ∧
    (modWch f s).nextTag = s.nextTag ∧ (modWch f s).outs = s.outs ∧ (modWch f s).fresh = s.fresh ∧
    (modWch f s).pending = s.pending :=
  ⟨rfl, rfl, rfl, rfl, rfl, rfl, rfl, rfl, rfl, rfl, rfl, rfl, rfl, rfl, rfl, rfl, rfl, rfl, rfl, rfl, rfl, rfl, rfl, rfl, rfl, rfl, rfl, rfl, rfl, rfl, rfl⟩

@[simp] theorem modLdg_fields (f : Ldg → Ldg) (s : State) :
    (modLdg f s).build = s.build ∧ (modLdg f s).straps = s.straps ∧ (modLdg f s).nvm = s.nvm ∧
    (modLdg f s).life = s.life ∧ (modLdg f s).boot = s.boot ∧ (modLdg f s).pwr = s.pwr ∧
    (modLdg f s).energies = s.energies ∧ (modLdg f s).tcfg = s.tcfg ∧ (modLdg f s).stk = s.stk ∧
    (modLdg f s).gnd = s.gnd ∧ (modLdg f s).sents = s.sents ∧ (modLdg f s).parts = s.parts ∧
    (modLdg f s).epochs = s.epochs ∧ (modLdg f s).chks = s.chks ∧ (modLdg f s).judged = s.judged ∧
    (modLdg f s).judgedStroke = s.judgedStroke ∧ (modLdg f s).cpy = s.cpy ∧ (modLdg f s).dgt = s.dgt ∧
    (modLdg f s).scr = s.scr ∧ (modLdg f s).taint = s.taint ∧ (modLdg f s).rcv = s.rcv ∧
    (modLdg f s).wch = s.wch ∧ (modLdg f s).slots = s.slots ∧ (modLdg f s).mbxs = s.mbxs ∧
    (modLdg f s).bus = s.bus ∧ (modLdg f s).ldg = f s.ldg ∧ (modLdg f s).mem = s.mem ∧
    (modLdg f s).nextTag = s.nextTag ∧ (modLdg f s).outs = s.outs ∧ (modLdg f s).fresh = s.fresh ∧
    (modLdg f s).pending = s.pending :=
  ⟨rfl, rfl, rfl, rfl, rfl, rfl, rfl, rfl, rfl, rfl, rfl, rfl, rfl, rfl, rfl, rfl, rfl, rfl, rfl, rfl, rfl, rfl, rfl, rfl, rfl, rfl, rfl, rfl, rfl, rfl, rfl⟩

@[simp] theorem modSent_fields (p : Nat) (f : Sentinel → Sentinel) (s : State) :
    (modSent p f s).build = s.build ∧ (modSent p f s).straps = s.straps ∧ (modSent p f s).nvm = s.nvm ∧
    (modSent p f s).life = s.life ∧ (modSent p f s).boot = s.boot ∧ (modSent p f s).pwr = s.pwr ∧
    (modSent p f s).energies = s.energies ∧ (modSent p f s).tcfg = s.tcfg ∧ (modSent p f s).stk = s.stk ∧
    (modSent p f s).gnd = s.gnd ∧ (modSent p f s).sents = tmod s.sents p {} f ∧ (modSent p f s).parts = s.parts ∧
    (modSent p f s).epochs = s.epochs ∧ (modSent p f s).chks = s.chks ∧ (modSent p f s).judged = s.judged ∧
    (modSent p f s).judgedStroke = s.judgedStroke ∧ (modSent p f s).cpy = s.cpy ∧ (modSent p f s).dgt = s.dgt ∧
    (modSent p f s).scr = s.scr ∧ (modSent p f s).taint = s.taint ∧ (modSent p f s).rcv = s.rcv ∧
    (modSent p f s).wch = s.wch ∧ (modSent p f s).slots = s.slots ∧ (modSent p f s).mbxs = s.mbxs ∧
    (modSent p f s).bus = s.bus ∧ (modSent p f s).ldg = s.ldg ∧ (modSent p f s).mem = s.mem ∧
    (modSent p f s).nextTag = s.nextTag ∧ (modSent p f s).outs = s.outs ∧ (modSent p f s).fresh = s.fresh ∧
    (modSent p f s).pending = s.pending :=
  ⟨rfl, rfl, rfl, rfl, rfl, rfl, rfl, rfl, rfl, rfl, rfl, rfl, rfl, rfl, rfl, rfl, rfl, rfl, rfl, rfl, rfl, rfl, rfl, rfl, rfl, rfl, rfl, rfl, rfl, rfl, rfl⟩

@[simp] theorem modTile_fields (p : Nat) (f : Tile → Tile) (s : State) :
    (modTile p f s).build = s.build ∧ (modTile p f s).straps = s.straps ∧ (modTile p f s).nvm = s.nvm ∧
    (modTile p f s).life = s.life ∧ (modTile p f s).boot = s.boot ∧ (modTile p f s).pwr = s.pwr ∧
    (modTile p f s).energies = s.energies ∧ (modTile p f s).tcfg = s.tcfg ∧ (modTile p f s).stk = s.stk ∧
    (modTile p f s).gnd = { s.gnd with tiles := tmod s.gnd.tiles p {} f } ∧ (modTile p f s).sents = s.sents ∧ (modTile p f s).parts = s.parts ∧
    (modTile p f s).epochs = s.epochs ∧ (modTile p f s).chks = s.chks ∧ (modTile p f s).judged = s.judged ∧
    (modTile p f s).judgedStroke = s.judgedStroke ∧ (modTile p f s).cpy = s.cpy ∧ (modTile p f s).dgt = s.dgt ∧
    (modTile p f s).scr = s.scr ∧ (modTile p f s).taint = s.taint ∧ (modTile p f s).rcv = s.rcv ∧
    (modTile p f s).wch = s.wch ∧ (modTile p f s).slots = s.slots ∧ (modTile p f s).mbxs = s.mbxs ∧
    (modTile p f s).bus = s.bus ∧ (modTile p f s).ldg = s.ldg ∧ (modTile p f s).mem = s.mem ∧
    (modTile p f s).nextTag = s.nextTag ∧ (modTile p f s).outs = s.outs ∧ (modTile p f s).fresh = s.fresh ∧
    (modTile p f s).pending = s.pending :=
  ⟨rfl, rfl, rfl, rfl, rfl, rfl, rfl, rfl, rfl, rfl, rfl, rfl, rfl, rfl, rfl, rfl, rfl, rfl, rfl, rfl, rfl, rfl, rfl, rfl, rfl, rfl, rfl, rfl, rfl, rfl, rfl⟩

@[simp] theorem modAsm_fields (n : Nat) (f : Asm → Asm) (s : State) :
    (modAsm n f s).build = s.build ∧ (modAsm n f s).straps = s.straps ∧ (modAsm n f s).nvm = s.nvm ∧
    (modAsm n f s).life = s.life ∧ (modAsm n f s).boot = s.boot ∧ (modAsm n f s).pwr = s.pwr ∧
    (modAsm n f s).energies = s.energies ∧ (modAsm n f s).tcfg = s.tcfg ∧ (modAsm n f s).stk = s.stk ∧
    (modAsm n f s).gnd = { s.gnd with tree := tadj s.gnd.tree n f } ∧ (modAsm n f s).sents = s.sents ∧ (modAsm n f s).parts = s.parts ∧
    (modAsm n f s).epochs = s.epochs ∧ (modAsm n f s).chks = s.chks ∧ (modAsm n f s).judged = s.judged ∧
    (modAsm n f s).judgedStroke = s.judgedStroke ∧ (modAsm n f s).cpy = s.cpy ∧ (modAsm n f s).dgt = s.dgt ∧
    (modAsm n f s).scr = s.scr ∧ (modAsm n f s).taint = s.taint ∧ (modAsm n f s).rcv = s.rcv ∧
    (modAsm n f s).wch = s.wch ∧ (modAsm n f s).slots = s.slots ∧ (modAsm n f s).mbxs = s.mbxs ∧
    (modAsm n f s).bus = s.bus ∧ (modAsm n f s).ldg = s.ldg ∧ (modAsm n f s).mem = s.mem ∧
    (modAsm n f s).nextTag = s.nextTag ∧ (modAsm n f s).outs = s.outs ∧ (modAsm n f s).fresh = s.fresh ∧
    (modAsm n f s).pending = s.pending :=
  ⟨rfl, rfl, rfl, rfl, rfl, rfl, rfl, rfl, rfl, rfl, rfl, rfl, rfl, rfl, rfl, rfl, rfl, rfl, rfl, rfl, rfl, rfl, rfl, rfl, rfl, rfl, rfl, rfl, rfl, rfl, rfl⟩

@[simp] theorem modPart_fields (k : Nat) (f : Part → Part) (s : State) :
    (modPart k f s).build = s.build ∧ (modPart k f s).straps = s.straps ∧ (modPart k f s).nvm = s.nvm ∧
    (modPart k f s).life = s.life ∧ (modPart k f s).boot = s.boot ∧ (modPart k f s).pwr = s.pwr ∧
    (modPart k f s).energies = s.energies ∧ (modPart k f s).tcfg = s.tcfg ∧ (modPart k f s).stk = s.stk ∧
    (modPart k f s).gnd = s.gnd ∧ (modPart k f s).sents = s.sents ∧ (modPart k f s).parts = tmod s.parts k {} f ∧
    (modPart k f s).epochs = s.epochs ∧ (modPart k f s).chks = s.chks ∧ (modPart k f s).judged = s.judged ∧
    (modPart k f s).judgedStroke = s.judgedStroke ∧ (modPart k f s).cpy = s.cpy ∧ (modPart k f s).dgt = s.dgt ∧
    (modPart k f s).scr = s.scr ∧ (modPart k f s).taint = s.taint ∧ (modPart k f s).rcv = s.rcv ∧
    (modPart k f s).wch = s.wch ∧ (modPart k f s).slots = s.slots ∧ (modPart k f s).mbxs = s.mbxs ∧
    (modPart k f s).bus = s.bus ∧ (modPart k f s).ldg = s.ldg ∧ (modPart k f s).mem = s.mem ∧
    (modPart k f s).nextTag = s.nextTag ∧ (modPart k f s).outs = s.outs ∧ (modPart k f s).fresh = s.fresh ∧
    (modPart k f s).pending = s.pending :=
  ⟨rfl, rfl, rfl, rfl, rfl, rfl, rfl, rfl, rfl, rfl, rfl, rfl, rfl, rfl, rfl, rfl, rfl, rfl, rfl, rfl, rfl, rfl, rfl, rfl, rfl, rfl, rfl, rfl, rfl, rfl, rfl⟩

@[simp] theorem modLink_fields (l : Nat) (f : Link → Link) (s : State) :
    (modLink l f s).build = s.build ∧ (modLink l f s).straps = s.straps ∧ (modLink l f s).nvm = s.nvm ∧
    (modLink l f s).life = s.life ∧ (modLink l f s).boot = s.boot ∧ (modLink l f s).pwr = s.pwr ∧
    (modLink l f s).energies = s.energies ∧ (modLink l f s).tcfg = s.tcfg ∧ (modLink l f s).stk = s.stk ∧
    (modLink l f s).gnd = s.gnd ∧ (modLink l f s).sents = s.sents ∧ (modLink l f s).parts = s.parts ∧
    (modLink l f s).epochs = s.epochs ∧ (modLink l f s).chks = s.chks ∧ (modLink l f s).judged = s.judged ∧
    (modLink l f s).judgedStroke = s.judgedStroke ∧ (modLink l f s).cpy = s.cpy ∧ (modLink l f s).dgt = s.dgt ∧
    (modLink l f s).scr = s.scr ∧ (modLink l f s).taint = s.taint ∧ (modLink l f s).rcv = s.rcv ∧
    (modLink l f s).wch = { s.wch with links := tmod s.wch.links l {} f } ∧ (modLink l f s).slots = s.slots ∧ (modLink l f s).mbxs = s.mbxs ∧
    (modLink l f s).bus = s.bus ∧ (modLink l f s).ldg = s.ldg ∧ (modLink l f s).mem = s.mem ∧
    (modLink l f s).nextTag = s.nextTag ∧ (modLink l f s).outs = s.outs ∧ (modLink l f s).fresh = s.fresh ∧
    (modLink l f s).pending = s.pending :=
  ⟨rfl, rfl, rfl, rfl, rfl, rfl, rfl, rfl, rfl, rfl, rfl, rfl, rfl, rfl, rfl, rfl, rfl, rfl, rfl, rfl, rfl, rfl, rfl, rfl, rfl, rfl, rfl, rfl, rfl, rfl, rfl⟩

@[simp] theorem modSlot_fields (n : Nat) (f : Slot → Slot) (s : State) :
    (modSlot n f s).build = s.build ∧ (modSlot n f s).straps = s.straps ∧ (modSlot n f s).nvm = s.nvm ∧
    (modSlot n f s).life = s.life ∧ (modSlot n f s).boot = s.boot ∧ (modSlot n f s).pwr = s.pwr ∧
    (modSlot n f s).energies = s.energies ∧ (modSlot n f s).tcfg = s.tcfg ∧ (modSlot n f s).stk = s.stk ∧
    (modSlot n f s).gnd = s.gnd ∧ (modSlot n f s).sents = s.sents ∧ (modSlot n f s).parts = s.parts ∧
    (modSlot n f s).epochs = s.epochs ∧ (modSlot n f s).chks = s.chks ∧ (modSlot n f s).judged = s.judged ∧
    (modSlot n f s).judgedStroke = s.judgedStroke ∧ (modSlot n f s).cpy = s.cpy ∧ (modSlot n f s).dgt = s.dgt ∧
    (modSlot n f s).scr = s.scr ∧ (modSlot n f s).taint = s.taint ∧ (modSlot n f s).rcv = s.rcv ∧
    (modSlot n f s).wch = s.wch ∧ (modSlot n f s).slots = tmod s.slots n {} f ∧ (modSlot n f s).mbxs = s.mbxs ∧
    (modSlot n f s).bus = s.bus ∧ (modSlot n f s).ldg = s.ldg ∧ (modSlot n f s).mem = s.mem ∧
    (modSlot n f s).nextTag = s.nextTag ∧ (modSlot n f s).outs = s.outs ∧ (modSlot n f s).fresh = s.fresh ∧
    (modSlot n f s).pending = s.pending :=
  ⟨rfl, rfl, rfl, rfl, rfl, rfl, rfl, rfl, rfl, rfl, rfl, rfl, rfl, rfl, rfl, rfl, rfl, rfl, rfl, rfl, rfl, rfl, rfl, rfl, rfl, rfl, rfl, rfl, rfl, rfl, rfl⟩

@[simp] theorem modMbx_fields (n c : Nat) (f : Mbx → Mbx) (s : State) :
    (modMbx n c f s).build = s.build ∧ (modMbx n c f s).straps = s.straps ∧ (modMbx n c f s).nvm = s.nvm ∧
    (modMbx n c f s).life = s.life ∧ (modMbx n c f s).boot = s.boot ∧ (modMbx n c f s).pwr = s.pwr ∧
    (modMbx n c f s).energies = s.energies ∧ (modMbx n c f s).tcfg = s.tcfg ∧ (modMbx n c f s).stk = s.stk ∧
    (modMbx n c f s).gnd = s.gnd ∧ (modMbx n c f s).sents = s.sents ∧ (modMbx n c f s).parts = s.parts ∧
    (modMbx n c f s).epochs = s.epochs ∧ (modMbx n c f s).chks = s.chks ∧ (modMbx n c f s).judged = s.judged ∧
    (modMbx n c f s).judgedStroke = s.judgedStroke ∧ (modMbx n c f s).cpy = s.cpy ∧ (modMbx n c f s).dgt = s.dgt ∧
    (modMbx n c f s).scr = s.scr ∧ (modMbx n c f s).taint = s.taint ∧ (modMbx n c f s).rcv = s.rcv ∧
    (modMbx n c f s).wch = s.wch ∧ (modMbx n c f s).slots = s.slots ∧ (modMbx n c f s).mbxs = tmod s.mbxs (mbxNo n c) {} f ∧
    (modMbx n c f s).bus = s.bus ∧ (modMbx n c f s).ldg = s.ldg ∧ (modMbx n c f s).mem = s.mem ∧
    (modMbx n c f s).nextTag = s.nextTag ∧ (modMbx n c f s).outs = s.outs ∧ (modMbx n c f s).fresh = s.fresh ∧
    (modMbx n c f s).pending = s.pending :=
  ⟨rfl, rfl, rfl, rfl, rfl, rfl, rfl, rfl, rfl, rfl, rfl, rfl, rfl, rfl, rfl, rfl, rfl, rfl, rfl, rfl, rfl, rfl, rfl, rfl, rfl, rfl, rfl, rfl, rfl, rfl, rfl⟩

@[simp] theorem modEpoch_fields (e : Nat) (f : Epoch → Epoch) (s : State) :
    (modEpoch e f s).build = s.build ∧ (modEpoch e f s).straps = s.straps ∧ (modEpoch e f s).nvm = s.nvm ∧
    (modEpoch e f s).life = s.life ∧ (modEpoch e f s).boot = s.boot ∧ (modEpoch e f s).pwr = s.pwr ∧
    (modEpoch e f s).energies = s.energies ∧ (modEpoch e f s).tcfg = s.tcfg ∧ (modEpoch e f s).stk = s.stk ∧
    (modEpoch e f s).gnd = s.gnd ∧ (modEpoch e f s).sents = s.sents ∧ (modEpoch e f s).parts = s.parts ∧
    (modEpoch e f s).epochs = s.epochs.map (fun x => if x.id == e then f x else x) ∧ (modEpoch e f s).chks = s.chks ∧ (modEpoch e f s).judged = s.judged ∧
    (modEpoch e f s).judgedStroke = s.judgedStroke ∧ (modEpoch e f s).cpy = s.cpy ∧ (modEpoch e f s).dgt = s.dgt ∧
    (modEpoch e f s).scr = s.scr ∧ (modEpoch e f s).taint = s.taint ∧ (modEpoch e f s).rcv = s.rcv ∧
    (modEpoch e f s).wch = s.wch ∧ (modEpoch e f s).slots = s.slots ∧ (modEpoch e f s).mbxs = s.mbxs ∧
    (modEpoch e f s).bus = s.bus ∧ (modEpoch e f s).ldg = s.ldg ∧ (modEpoch e f s).mem = s.mem ∧
    (modEpoch e f s).nextTag = s.nextTag ∧ (modEpoch e f s).outs = s.outs ∧ (modEpoch e f s).fresh = s.fresh ∧
    (modEpoch e f s).pending = s.pending :=
  ⟨rfl, rfl, rfl, rfl, rfl, rfl, rfl, rfl, rfl, rfl, rfl, rfl, rfl, rfl, rfl, rfl, rfl, rfl, rfl, rfl, rfl, rfl, rfl, rfl, rfl, rfl, rfl, rfl, rfl, rfl, rfl⟩

@[simp] theorem emit_fields (o : Out) (s : State) :
    (emit o s).build = s.build ∧ (emit o s).straps = s.straps ∧ (emit o s).nvm = s.nvm ∧
    (emit o s).life = s.life ∧ (emit o s).boot = s.boot ∧ (emit o s).pwr = s.pwr ∧
    (emit o s).energies = s.energies ∧ (emit o s).tcfg = s.tcfg ∧ (emit o s).stk = s.stk ∧
    (emit o s).gnd = s.gnd ∧ (emit o s).sents = s.sents ∧ (emit o s).parts = s.parts ∧
    (emit o s).epochs = s.epochs ∧ (emit o s).chks = s.chks ∧ (emit o s).judged = s.judged ∧
    (emit o s).judgedStroke = s.judgedStroke ∧ (emit o s).cpy = s.cpy ∧ (emit o s).dgt = s.dgt ∧
    (emit o s).scr = s.scr ∧ (emit o s).taint = s.taint ∧ (emit o s).rcv = s.rcv ∧
    (emit o s).wch = s.wch ∧ (emit o s).slots = s.slots ∧ (emit o s).mbxs = s.mbxs ∧
    (emit o s).bus = s.bus ∧ (emit o s).ldg = s.ldg ∧ (emit o s).mem = s.mem ∧
    (emit o s).nextTag = s.nextTag ∧ (emit o s).outs = s.outs ++ [o] ∧ (emit o s).fresh = s.fresh ∧
    (emit o s).pending = s.pending :=
  ⟨rfl, rfl, rfl, rfl, rfl, rfl, rfl, rfl, rfl, rfl, rfl, rfl, rfl, rfl, rfl, rfl, rfl, rfl, rfl, rfl, rfl, rfl, rfl, rfl, rfl, rfl, rfl, rfl, rfl, rfl, rfl⟩

@[simp] theorem bumpFresh_fields (s : State) :
    (bumpFresh s).build = s.build ∧ (bumpFresh s).straps = s.straps ∧ (bumpFresh s).nvm = s.nvm ∧
    (bumpFresh s).life = s.life ∧ (bumpFresh s).boot = s.boot ∧ (bumpFresh s).pwr = s.pwr ∧
    (bumpFresh s).energies = s.energies ∧ (bumpFresh s).tcfg = s.tcfg ∧ (bumpFresh s).stk = s.stk ∧
    (bumpFresh s).gnd = s.gnd ∧ (bumpFresh s).sents = s.sents ∧ (bumpFresh s).parts = s.parts ∧
    (bumpFresh s).epochs = s.epochs ∧ (bumpFresh s).chks = s.chks ∧ (bumpFresh s).judged = s.judged ∧
    (bumpFresh s).judgedStroke = s.judgedStroke ∧ (bumpFresh s).cpy = s.cpy ∧ (bumpFresh s).dgt = s.dgt ∧
    (bumpFresh s).scr = s.scr ∧ (bumpFresh s).taint = s.taint ∧ (bumpFresh s).rcv = s.rcv ∧
    (bumpFresh s).wch = s.wch ∧ (bumpFresh s).slots = s.slots ∧ (bumpFresh s).mbxs = s.mbxs ∧
    (bumpFresh s).bus = s.bus ∧ (bumpFresh s).ldg = s.ldg ∧ (bumpFresh s).mem = s.mem ∧
    (bumpFresh s).nextTag = s.nextTag ∧ (bumpFresh s).outs = s.outs ∧ (bumpFresh s).fresh = s.fresh + 1 ∧
    (bumpFresh s).pending = s.pending :=
  ⟨rfl, rfl, rfl, rfl, rfl, rfl, rfl, rfl, rfl, rfl, rfl, rfl, rfl, rfl, rfl, rfl, rfl, rfl, rfl, rfl, rfl, rfl, rfl, rfl, rfl, rfl, rfl, rfl, rfl, rfl, rfl⟩

@[simp] theorem busOk_fields (s : State) :
    (busOk s).build = s.build ∧ (busOk s).straps = s.straps ∧ (busOk s).nvm = s.nvm ∧
    (busOk s).life = s.life ∧ (busOk s).boot = s.boot ∧ (busOk s).pwr = s.pwr ∧
    (busOk s).energies = s.energies ∧ (busOk s).tcfg = s.tcfg ∧ (busOk s).stk = s.stk ∧
    (busOk s).gnd = s.gnd ∧ (busOk s).sents = s.sents ∧ (busOk s).parts = s.parts ∧
    (busOk s).epochs = s.epochs ∧ (busOk s).chks = s.chks ∧ (busOk s).judged = s.judged ∧
    (busOk s).judgedStroke = s.judgedStroke ∧ (busOk s).cpy = s.cpy ∧ (busOk s).dgt = s.dgt ∧
    (busOk s).scr = s.scr ∧ (busOk s).taint = s.taint ∧ (busOk s).rcv = s.rcv ∧
    (busOk s).wch = s.wch ∧ (busOk s).slots = s.slots ∧ (busOk s).mbxs = s.mbxs ∧
    (busOk s).bus = { ack := true, err := false, rdata := 0 } ∧ (busOk s).ldg = s.ldg ∧ (busOk s).mem = s.mem ∧
    (busOk s).nextTag = s.nextTag ∧ (busOk s).outs = s.outs ∧ (busOk s).fresh = s.fresh ∧
    (busOk s).pending = s.pending :=
  ⟨rfl, rfl, rfl, rfl, rfl, rfl, rfl, rfl, rfl, rfl, rfl, rfl, rfl, rfl, rfl, rfl, rfl, rfl, rfl, rfl, rfl, rfl, rfl, rfl, rfl, rfl, rfl, rfl, rfl, rfl, rfl⟩

@[simp] theorem busErr_fields (s : State) :
    (busErr s).build = s.build ∧ (busErr s).straps = s.straps ∧ (busErr s).nvm = s.nvm ∧
    (busErr s).life = s.life ∧ (busErr s).boot = s.boot ∧ (busErr s).pwr = s.pwr ∧
    (busErr s).energies = s.energies ∧ (busErr s).tcfg = s.tcfg ∧ (busErr s).stk = s.stk ∧
    (busErr s).gnd = s.gnd ∧ (busErr s).sents = s.sents ∧ (busErr s).parts = s.parts ∧
    (busErr s).epochs = s.epochs ∧ (busErr s).chks = s.chks ∧ (busErr s).judged = s.judged ∧
    (busErr s).judgedStroke = s.judgedStroke ∧ (busErr s).cpy = s.cpy ∧ (busErr s).dgt = s.dgt ∧
    (busErr s).scr = s.scr ∧ (busErr s).taint = s.taint ∧ (busErr s).rcv = s.rcv ∧
    (busErr s).wch = s.wch ∧ (busErr s).slots = s.slots ∧ (busErr s).mbxs = s.mbxs ∧
    (busErr s).bus = { ack := true, err := true, rdata := 0 } ∧ (busErr s).ldg = s.ldg ∧ (busErr s).mem = s.mem ∧
    (busErr s).nextTag = s.nextTag ∧ (busErr s).outs = s.outs ∧ (busErr s).fresh = s.fresh ∧
    (busErr s).pending = s.pending :=
  ⟨rfl, rfl, rfl, rfl, rfl, rfl, rfl, rfl, rfl, rfl, rfl, rfl, rfl, rfl, rfl, rfl, rfl, rfl, rfl, rfl, rfl, rfl, rfl, rfl, rfl, rfl, rfl, rfl, rfl, rfl, rfl⟩

@[simp] theorem gcount_fields (i n : Nat) (s : State) :
    (gcount i n s).build = s.build ∧ (gcount i n s).straps = s.straps ∧ (gcount i n s).nvm = s.nvm ∧
    (gcount i n s).life = s.life ∧ (gcount i n s).boot = s.boot ∧ (gcount i n s).pwr = s.pwr ∧
    (gcount i n s).energies = s.energies ∧ (gcount i n s).tcfg = s.tcfg ∧ (gcount i n s).stk = s.stk ∧
    (gcount i n s).gnd = s.gnd ∧ (gcount i n s).sents = s.sents ∧ (gcount i n s).parts = s.parts ∧
    (gcount i n s).epochs = s.epochs ∧ (gcount i n s).chks = s.chks ∧ (gcount i n s).judged = s.judged ∧
    (gcount i n s).judgedStroke = s.judgedStroke ∧ (gcount i n s).cpy = s.cpy ∧ (gcount i n s).dgt = s.dgt ∧
    (gcount i n s).scr = s.scr ∧ (gcount i n s).taint = s.taint ∧ (gcount i n s).rcv = s.rcv ∧
    (gcount i n s).wch = s.wch ∧ (gcount i n s).slots = s.slots ∧ (gcount i n s).mbxs = s.mbxs ∧
    (gcount i n s).bus = s.bus ∧ (gcount i n s).ldg = { s.ldg with gNow := lbump 32 s.ldg.gNow i n } ∧ (gcount i n s).mem = s.mem ∧
    (gcount i n s).nextTag = s.nextTag ∧ (gcount i n s).outs = s.outs ∧ (gcount i n s).fresh = s.fresh ∧
    (gcount i n s).pending = s.pending :=
  ⟨rfl, rfl, rfl, rfl, rfl, rfl, rfl, rfl, rfl, rfl, rfl, rfl, rfl, rfl, rfl, rfl, rfl, rfl, rfl, rfl, rfl, rfl, rfl, rfl, rfl, rfl, rfl, rfl, rfl, rfl, rfl⟩

@[simp] theorem gcountJudged_fields (i n : Nat) (s : State) :
    (gcountJudged i n s).build = s.build ∧ (gcountJudged i n s).straps = s.straps ∧ (gcountJudged i n s).nvm = s.nvm ∧
    (gcountJudged i n s).life = s.life ∧ (gcountJudged i n s).boot = s.boot ∧ (gcountJudged i n s).pwr = s.pwr ∧
    (gcountJudged i n s).energies = s.energies ∧ (gcountJudged i n s).tcfg = s.tcfg ∧ (gcountJudged i n s).stk = s.stk ∧
    (gcountJudged i n s).gnd = s.gnd ∧ (gcountJudged i n s).sents = s.sents ∧ (gcountJudged i n s).parts = s.parts ∧
    (gcountJudged i n s).epochs = s.epochs ∧ (gcountJudged i n s).chks = s.chks ∧ (gcountJudged i n s).judged = s.judged ∧
    (gcountJudged i n s).judgedStroke = s.judgedStroke ∧ (gcountJudged i n s).cpy = s.cpy ∧ (gcountJudged i n s).dgt = s.dgt ∧
    (gcountJudged i n s).scr = s.scr ∧ (gcountJudged i n s).taint = s.taint ∧ (gcountJudged i n s).rcv = s.rcv ∧
    (gcountJudged i n s).wch = s.wch ∧ (gcountJudged i n s).slots = s.slots ∧ (gcountJudged i n s).mbxs = s.mbxs ∧
    (gcountJudged i n s).bus = s.bus ∧ (gcountJudged i n s).ldg = { s.ldg with gPrev := lbump 32 s.ldg.gPrev i n } ∧ (gcountJudged i n s).mem = s.mem ∧
    (gcountJudged i n s).nextTag = s.nextTag ∧ (gcountJudged i n s).outs = s.outs ∧ (gcountJudged i n s).fresh = s.fresh ∧
    (gcountJudged i n s).pending = s.pending :=
  ⟨rfl, rfl, rfl, rfl, rfl, rfl, rfl, rfl, rfl, rfl, rfl, rfl, rfl, rfl, rfl, rfl, rfl, rfl, rfl, rfl, rfl, rfl, rfl, rfl, rfl, rfl, rfl, rfl, rfl, rfl, rfl⟩

end Sys2Proof.Machine
end

