-- ==== Sys2Proof/Laws/Access.lean ====
section
/-!
SUPPORT. The shared forms of a command: one that runs, one that names a numbered unit, a change under a condition, and a write to a
register, admitted or denied.
-/
namespace Sys2Proof.Machine

open Sys2Proof

theorem ok_next (s : State) : ok s = .next s := rfl

theorem onUnit_built {w : String} {i n : Nat} (h : i < n) (s : State) : onUnit w i n s = .next s := by simp [onUnit, h]

theorem onUnit_absent {w : String} {i n : Nat} (h : n ≤ i) (s : State) : onUnit w i n s = .fault (.notBuilt w i) := by
  simp [onUnit, Nat.not_lt.mpr h]

@[simp] theorem whenB_true (f : State → State) (s : State) : whenB true f s = f s := rfl

@[simp] theorem whenB_false (f : State → State) (s : State) : whenB false f s = s := rfl

@[simp] theorem whenSome_some {α : Type} (a : α) (f : α → State → State) (s : State) : whenSome (some a) f s = f a s := rfl

@[simp] theorem whenSome_none {α : Type} (f : α → State → State) (s : State) : whenSome none f s = s := rfl

@[simp] theorem forEach_nil {α : Type} (f : α → State → State) (s : State) : forEach [] f s = s := rfl

@[simp] theorem forEach_cons {α : Type} (a : α) (l : List α) (f : α → State → State) (s : State) :
    forEach (a :: l) f s = forEach l f (f a s) := rfl

/-- An admitted write to a register of the privileged view. -/
theorem privWrite_reaches {s : State} {a : Access} {addr : Nat} (h : reaches s a addr = true) (f : State → State) :
    privWrite a addr f s = busOk (f s) := by
  simp only [reaches, Bool.and_eq_true, Bool.not_eq_true', Bool.or_eq_true] at h
  obtain ⟨⟨h1, h2⟩, h3⟩ := h
  cases h3 with
  | inl h3 => simp [privWrite, h1, h2, h3]
  | inr h3 => simp [privWrite, h1, h2, h3]

/-- A view that does not reach the register is denied. -/
theorem privWrite_denied {s : State} {a : Access} {addr : Nat} (h1 : s.boot.inReset = false) (h2 : privileged s a = false)
    (f : State → State) : privWrite a addr f s = deny a true false addr s := by simp [privWrite, h1, h2]

/-- An admitted write to a register of a node. -/
theorem nodeWrite_reaches {s : State} {a : Access} {n : Nat} (h : reachesNode s a n = true) (off : Nat) (f : State → State) :
    nodeWrite a n off f s = busOk (f s) := by
  simp only [reachesNode, Bool.and_eq_true, Bool.not_eq_true'] at h
  obtain ⟨⟨⟨h1, h2⟩, h3⟩, h4⟩ := h
  simp [nodeWrite, h1, h2, h3, h4]

/-- An admitted write to a register that names a partition. -/
theorem ownerWrite_reaches {s : State} {a : Access} {addr k : Nat} (h : reachesPart s a addr k = true) (f : State → State) :
    ownerWrite a addr k f s = busOk (f s) := by
  simp only [reachesPart, Bool.and_eq_true, Bool.not_eq_true', Bool.or_eq_true] at h
  obtain ⟨⟨h1, h2⟩, h3⟩ := h
  cases h3 with
  | inl h3 => simp [ownerWrite, h1, h2, h3]
  | inr h3 => simp [ownerWrite, h1, h2, h3]

/-- An admitted write to a register of a slot's own window. -/
theorem ownWrite_reaches {s : State} {a : Access} {n : Nat} {secure : Bool} (h : reachesOwn s a n secure = true) (addr : Nat)
    (f : State → State) : ownWrite a n secure addr f s = busOk (f s) := by
  simp only [reachesOwn, Bool.and_eq_true, Bool.not_eq_true', Bool.or_eq_true] at h
  obtain ⟨⟨h1, h2⟩, h3⟩ := h
  have hd : (secure && !a.sec && !(privileged s a)) = false := by
    rcases h3 with (h3 | h3) | h3 <;> simp [h3]
  simp [ownWrite, h1, h2, hd]

end Sys2Proof.Machine
end

