-- ==== Sys2Proof/Laws/Frames.lean ====
section
/-!
SUPPORT. What each operation of the model may change: one lemma for each operation, which lists the parts of the state that it touches;
every other part keeps its value. A frame of a command is put together from those of the operations that its meaning calls.
-/
set_option linter.all false
namespace Sys2Proof.Machine

open Sys2Proof

/-! ### Putting frames together -/

/-- Every part of one list is in another. -/
structure Covered (a b : List Comp) : Prop where
  ok : a.all (fun c => b.contains c) = true

theorem Comp.same_refl (c : Comp) (s : State) : c.same s s := by cases c <;> rfl

theorem Comp.same_trans {c : Comp} {s t u : State} (h : c.same s t) (k : c.same t u) : c.same s u := by
  cases c <;> exact Eq.trans h k

theorem Frame.refl (cs : List Comp) (s : State) : Frame cs s s := ⟨fun c _ => c.same_refl s⟩

theorem Frame.trans {l : List Comp} {s t u : State} (k : Frame l s t) (h : Frame l t u) : Frame l s u :=
  ⟨fun c hb => Comp.same_trans (k.same c hb) (h.same c hb)⟩

theorem Frame.mono {a b : List Comp} {s t : State} (hc : Covered a b) (h : Frame a s t) : Frame b s t :=
  ⟨fun c hb => h.same c (fun ha => hb (by simpa using List.all_eq_true.mp hc.ok c ha))⟩

theorem Frame.step {a b : List Comp} {s t u : State} (h : Frame a t u) (hc : Covered a b) (k : Frame b s t) : Frame b s u :=
  k.trans (h.mono hc)

theorem Frame.whenB {l : List Comp} {s t : State} {b : Bool} {f : State → State} (hf : ∀ x, Frame l x (f x)) (k : Frame l s t) :
    Frame l s (whenB b f t) := by
  unfold Sys2Proof.Machine.whenB
  split
  · exact k.trans (hf t)
  · exact k

theorem Frame.whenSome {α : Type} {l : List Comp} {s t : State} {o : Option α} {f : α → State → State}
    (hf : ∀ a x, Frame l x (f a x)) (k : Frame l s t) : Frame l s (whenSome o f t) := by
  unfold Sys2Proof.Machine.whenSome
  split
  · exact k.trans (hf _ t)
  · exact k

theorem Frame.foldl {α : Type} {l : List Comp} {s t : State} {xs : List α} {f : State → α → State}
    (hf : ∀ x a, Frame l x (f x a)) (k : Frame l s t) : Frame l s (xs.foldl f t) := by
  induction xs generalizing t with
  | nil => exact k
  | cons a xs ih => exact ih (k.trans (hf t a))

theorem Frame.forEach {α : Type} {l : List Comp} {s t : State} {xs : List α} {f : α → State → State}
    (hf : ∀ a x, Frame l x (f a x)) (k : Frame l s t) : Frame l s (forEach xs f t) := Frame.foldl (fun x a => hf a x) k


/-! ### Operations -/

theorem modEpoch_frame (e : Nat) (f : Epoch → Epoch) (s : State) : Frame [.epochs] s (modEpoch e f s) := by
  unfold modEpoch
  try extract_lets
  repeat' first
    | with_reducible apply Frame.refl | ((with_reducible apply Covered.mk); decide) | split
    | exact ⟨fun c h => by cases c <;> first | exact rfl | exact absurd (by decide) h⟩

theorem modPart_frame (k : Nat) (f : Part → Part) (s : State) : Frame [.parts] s (modPart k f s) := by
  unfold modPart
  try extract_lets
  repeat' first
    | with_reducible apply Frame.refl | ((with_reducible apply Covered.mk); decide) | split
    | exact ⟨fun c h => by cases c <;> first | exact rfl | exact absurd (by decide) h⟩

theorem pcount_frame (k i n : Nat) (s : State) : Frame [.parts] s (pcount k i n s) := by
  unfold pcount
  try extract_lets
  repeat' first
    | with_reducible apply Frame.refl | ((with_reducible apply Covered.mk); decide)
    | with_reducible apply Frame.step (modPart_frame ..) | split

theorem modDgt_frame (f : Dgt → Dgt) (s : State) : Frame [.dgt] s (modDgt f s) := by
  unfold modDgt
  try extract_lets
  repeat' first
    | with_reducible apply Frame.refl | ((with_reducible apply Covered.mk); decide) | split
    | exact ⟨fun c h => by cases c <;> first | exact rfl | exact absurd (by decide) h⟩

theorem issueMem_frame (w : MemWork) (s : State) : Frame [.mem, .nextTag] s (issueMem w s) := by
  unfold issueMem
  try extract_lets
  repeat' first
    | with_reducible apply Frame.refl | ((with_reducible apply Covered.mk); decide) | split
    | exact ⟨fun c h => by cases c <;> first | exact rfl | exact absurd (by decide) h⟩

theorem pcountJudged_frame (k i n : Nat) (s : State) : Frame [.parts] s (pcountJudged k i n s) := by
  unfold pcountJudged
  try extract_lets
  repeat' first
    | with_reducible apply Frame.refl | ((with_reducible apply Covered.mk); decide)
    | with_reducible apply Frame.step (modPart_frame ..) | split

theorem gcountJudged_frame (i n : Nat) (s : State) : Frame [.ldg] s (gcountJudged i n s) := by
  unfold gcountJudged
  try extract_lets
  repeat' first
    | with_reducible apply Frame.refl | ((with_reducible apply Covered.mk); decide) | split
    | exact ⟨fun c h => by cases c <;> first | exact rfl | exact absurd (by decide) h⟩

theorem modSlot_frame (n : Nat) (f : Slot → Slot) (s : State) : Frame [.slots] s (modSlot n f s) := by
  unfold modSlot
  try extract_lets
  repeat' first
    | with_reducible apply Frame.refl | ((with_reducible apply Covered.mk); decide) | split
    | exact ⟨fun c h => by cases c <;> first | exact rfl | exact absurd (by decide) h⟩

theorem irqSet_frame (n b : Nat) (s : State) : Frame [.slots] s (irqSet n b s) := by
  unfold irqSet
  try extract_lets
  repeat' first
    | with_reducible apply Frame.refl | ((with_reducible apply Covered.mk); decide)
    | with_reducible apply Frame.step (modSlot_frame ..) | split

theorem modAsm_frame (n : Nat) (f : Asm → Asm) (s : State) : Frame [.gnd] s (modAsm n f s) := by
  unfold modAsm
  try extract_lets
  repeat' first
    | with_reducible apply Frame.refl | ((with_reducible apply Covered.mk); decide) | split
    | exact ⟨fun c h => by cases c <;> first | exact rfl | exact absurd (by decide) h⟩

theorem countsTick_frame (s : State) : Frame [.parts, .ldg] s (countsTick s) := by
  unfold countsTick
  try extract_lets
  repeat' first
    | with_reducible apply Frame.refl | ((with_reducible apply Covered.mk); decide) | split
    | exact ⟨fun c h => by cases c <;> first | exact rfl | exact absurd (by decide) h⟩

theorem emit_frame (o : Out) (s : State) : Frame [.outs] s (emit o s) := by
  unfold emit
  try extract_lets
  repeat' first
    | with_reducible apply Frame.refl | ((with_reducible apply Covered.mk); decide) | split
    | exact ⟨fun c h => by cases c <;> first | exact rfl | exact absurd (by decide) h⟩

theorem memWrite_frame (addr : Nat) (secure : Bool) (bs : List Byte) (s : State) :
    Frame [.outs] s (memWrite addr secure bs s) := by
  unfold memWrite
  try extract_lets
  repeat' first
    | with_reducible apply Frame.refl | ((with_reducible apply Covered.mk); decide)
    | with_reducible apply Frame.step (emit_frame ..) | split

theorem gcount_frame (i n : Nat) (s : State) : Frame [.ldg] s (gcount i n s) := by
  unfold gcount
  try extract_lets
  repeat' first
    | with_reducible apply Frame.refl | ((with_reducible apply Covered.mk); decide) | split
    | exact ⟨fun c h => by cases c <;> first | exact rfl | exact absurd (by decide) h⟩

theorem irqPart_frame (k b : Nat) (s : State) : Frame [.slots] s (irqPart k b s) := by
  unfold irqPart
  try extract_lets
  repeat' first
    | with_reducible apply Frame.refl | ((with_reducible apply Covered.mk); decide)
    | with_reducible apply Frame.step (irqSet_frame ..) | split

theorem modSent_frame (p : Nat) (f : Sentinel → Sentinel) (s : State) : Frame [.sents] s (modSent p f s) := by
  unfold modSent
  try extract_lets
  repeat' first
    | with_reducible apply Frame.refl | ((with_reducible apply Covered.mk); decide) | split
    | exact ⟨fun c h => by cases c <;> first | exact rfl | exact absurd (by decide) h⟩

theorem modRcv_frame (f : Rcv → Rcv) (s : State) : Frame [.rcv] s (modRcv f s) := by
  unfold modRcv
  try extract_lets
  repeat' first
    | with_reducible apply Frame.refl | ((with_reducible apply Covered.mk); decide) | split
    | exact ⟨fun c h => by cases c <;> first | exact rfl | exact absurd (by decide) h⟩

theorem modTaint_frame (f : Taint → Taint) (s : State) : Frame [.taint] s (modTaint f s) := by
  unfold modTaint
  try extract_lets
  repeat' first
    | with_reducible apply Frame.refl | ((with_reducible apply Covered.mk); decide) | split
    | exact ⟨fun c h => by cases c <;> first | exact rfl | exact absurd (by decide) h⟩

theorem countsJudge_frame (s : State) : Frame [.parts, .ldg] s (countsJudge s) := by
  unfold countsJudge
  try extract_lets
  repeat' first
    | with_reducible apply Frame.refl | ((with_reducible apply Covered.mk); decide) | split
    | exact ⟨fun c h => by cases c <;> first | exact rfl | exact absurd (by decide) h⟩

theorem modLdg_frame (f : Ldg → Ldg) (s : State) : Frame [.ldg] s (modLdg f s) := by
  unfold modLdg
  try extract_lets
  repeat' first
    | with_reducible apply Frame.refl | ((with_reducible apply Covered.mk); decide) | split
    | exact ⟨fun c h => by cases c <;> first | exact rfl | exact absurd (by decide) h⟩

theorem busErr_frame (s : State) : Frame [.bus] s (busErr s) := by
  unfold busErr
  try extract_lets
  repeat' first
    | with_reducible apply Frame.refl | ((with_reducible apply Covered.mk); decide) | split
    | exact ⟨fun c h => by cases c <;> first | exact rfl | exact absurd (by decide) h⟩

theorem busOk_frame (s : State) : Frame [.bus] s (busOk s) := by
  unfold busOk
  try extract_lets
  repeat' first
    | with_reducible apply Frame.refl | ((with_reducible apply Covered.mk); decide) | split
    | exact ⟨fun c h => by cases c <;> first | exact rfl | exact absurd (by decide) h⟩

theorem modBoot_frame (f : Boot → Boot) (s : State) : Frame [.boot] s (modBoot f s) := by
  unfold modBoot
  try extract_lets
  repeat' first
    | with_reducible apply Frame.refl | ((with_reducible apply Covered.mk); decide) | split
    | exact ⟨fun c h => by cases c <;> first | exact rfl | exact absurd (by decide) h⟩

theorem modGnd_frame (f : Gnd → Gnd) (s : State) : Frame [.gnd] s (modGnd f s) := by
  unfold modGnd
  try extract_lets
  repeat' first
    | with_reducible apply Frame.refl | ((with_reducible apply Covered.mk); decide) | split
    | exact ⟨fun c h => by cases c <;> first | exact rfl | exact absurd (by decide) h⟩

theorem modPwr_frame (f : Pwr → Pwr) (s : State) : Frame [.pwr] s (modPwr f s) := by
  unfold modPwr
  try extract_lets
  repeat' first
    | with_reducible apply Frame.refl | ((with_reducible apply Covered.mk); decide) | split
    | exact ⟨fun c h => by cases c <;> first | exact rfl | exact absurd (by decide) h⟩

theorem modWch_frame (f : Wch → Wch) (s : State) : Frame [.wch] s (modWch f s) := by
  unfold modWch
  try extract_lets
  repeat' first
    | with_reducible apply Frame.refl | ((with_reducible apply Covered.mk); decide) | split
    | exact ⟨fun c h => by cases c <;> first | exact rfl | exact absurd (by decide) h⟩

theorem reportPfm_frame (what : String) (s : State) : Frame [.outs] s (reportPfm what s) := by
  unfold reportPfm
  try extract_lets
  repeat' first
    | with_reducible apply Frame.refl | ((with_reducible apply Covered.mk); decide)
    | with_reducible apply Frame.step (emit_frame ..) | split

theorem modCpy_frame (f : Cpy → Cpy) (s : State) : Frame [.cpy] s (modCpy f s) := by
  unfold modCpy
  try extract_lets
  repeat' first
    | with_reducible apply Frame.refl | ((with_reducible apply Covered.mk); decide) | split
    | exact ⟨fun c h => by cases c <;> first | exact rfl | exact absurd (by decide) h⟩

theorem modStk_frame (f : Stk → Stk) (s : State) : Frame [.stk] s (modStk f s) := by
  unfold modStk
  try extract_lets
  repeat' first
    | with_reducible apply Frame.refl | ((with_reducible apply Covered.mk); decide) | split
    | exact ⟨fun c h => by cases c <;> first | exact rfl | exact absurd (by decide) h⟩

theorem modLife_frame (f : Life → Life) (s : State) : Frame [.life] s (modLife f s) := by
  unfold modLife
  try extract_lets
  repeat' first
    | with_reducible apply Frame.refl | ((with_reducible apply Covered.mk); decide) | split
    | exact ⟨fun c h => by cases c <;> first | exact rfl | exact absurd (by decide) h⟩

theorem modLink_frame (l : Nat) (f : Link → Link) (s : State) : Frame [.wch] s (modLink l f s) := by
  unfold modLink
  try extract_lets
  repeat' first
    | with_reducible apply Frame.refl | ((with_reducible apply Covered.mk); decide) | split
    | exact ⟨fun c h => by cases c <;> first | exact rfl | exact absurd (by decide) h⟩

theorem modTile_frame (p : Nat) (f : Tile → Tile) (s : State) : Frame [.gnd] s (modTile p f s) := by
  unfold modTile
  try extract_lets
  repeat' first
    | with_reducible apply Frame.refl | ((with_reducible apply Covered.mk); decide) | split
    | exact ⟨fun c h => by cases c <;> first | exact rfl | exact absurd (by decide) h⟩

theorem modNvm_frame (f : Nvm → Nvm) (s : State) : Frame [.nvm] s (modNvm f s) := by
  unfold modNvm
  try extract_lets
  repeat' first
    | with_reducible apply Frame.refl | ((with_reducible apply Covered.mk); decide) | split
    | exact ⟨fun c h => by cases c <;> first | exact rfl | exact absurd (by decide) h⟩

theorem modMbx_frame (n c : Nat) (f : Mbx → Mbx) (s : State) : Frame [.mbxs] s (modMbx n c f s) := by
  unfold modMbx
  try extract_lets
  repeat' first
    | with_reducible apply Frame.refl | ((with_reducible apply Covered.mk); decide) | split
    | exact ⟨fun c h => by cases c <;> first | exact rfl | exact absurd (by decide) h⟩

theorem bumpFresh_frame (s : State) : Frame [.fresh] s (bumpFresh s) := by
  unfold bumpFresh
  try extract_lets
  repeat' first
    | with_reducible apply Frame.refl | ((with_reducible apply Covered.mk); decide) | split
    | exact ⟨fun c h => by cases c <;> first | exact rfl | exact absurd (by decide) h⟩

theorem modScr_frame (f : Scr → Scr) (s : State) : Frame [.scr] s (modScr f s) := by
  unfold modScr
  try extract_lets
  repeat' first
    | with_reducible apply Frame.refl | ((with_reducible apply Covered.mk); decide) | split
    | exact ⟨fun c h => by cases c <;> first | exact rfl | exact absurd (by decide) h⟩

theorem modErr_frame (l : Nat) (f : LinkErr → LinkErr) (s : State) : Frame [.wch] s (modErr l f s) := by
  unfold modErr
  try extract_lets
  repeat' first
    | with_reducible apply Frame.refl | ((with_reducible apply Covered.mk); decide)
    | with_reducible apply Frame.step (modLink_frame ..) | split

theorem errUnreach_frame (l : Nat) (s : State) : Frame [.wch] s (errUnreach l s) := by
  unfold errUnreach
  try extract_lets
  repeat' first
    | with_reducible apply Frame.refl | ((with_reducible apply Covered.mk); decide)
    | with_reducible apply Frame.step (modErr_frame ..) | split

theorem errEpoch_frame (l : Nat) (s : State) : Frame [.wch] s (errEpoch l s) := by
  unfold errEpoch
  try extract_lets
  repeat' first
    | with_reducible apply Frame.refl | ((with_reducible apply Covered.mk); decide)
    | with_reducible apply Frame.step (modErr_frame ..) | split

theorem sendNext_frame (l : Nat) (s : State) : Frame [.wch, .ldg, .mem, .nextTag, .outs] s (sendNext l s) := by
  unfold sendNext
  try extract_lets
  repeat' first
    | with_reducible apply Frame.refl | ((with_reducible apply Covered.mk); decide)
    | with_reducible apply Frame.step (gcount_frame ..) | with_reducible apply Frame.step (issueMem_frame ..)
    | with_reducible apply Frame.step (modLink_frame ..) | with_reducible apply Frame.step (emit_frame ..)
    | ((with_reducible apply Frame.whenB) <;> try intro _) | split

theorem pump_frame (n l : Nat) (s : State) : Frame [.wch, .ldg, .mem, .nextTag, .outs] s (pump n l s) := by
  induction n generalizing s with
  | zero => exact Frame.refl _ s
  | succ n ih => exact (sendNext_frame l s).trans (ih (sendNext l s))

theorem pumpLink_frame (l : Nat) (s : State) : Frame [.wch, .ldg, .mem, .nextTag, .outs] s (pumpLink l s) := pump_frame ..

theorem sendOn_frame (l : Nat) (f : Flit) (s : State) : Frame [.wch, .ldg, .mem, .nextTag, .outs] s (sendOn l f s) := by
  unfold sendOn
  try extract_lets
  repeat' first
    | with_reducible apply Frame.refl | ((with_reducible apply Covered.mk); decide)
    | with_reducible apply Frame.step (errEpoch_frame ..) | with_reducible apply Frame.step (pumpLink_frame ..)
    | with_reducible apply Frame.step (modLink_frame ..) | with_reducible apply Frame.step (errUnreach_frame ..) | split

theorem routeFlit_frame (f : Flit) (s : State) : Frame [.wch, .ldg, .mem, .nextTag, .outs] s (routeFlit f s) := by
  unfold routeFlit
  try extract_lets
  repeat' first
    | with_reducible apply Frame.refl | ((with_reducible apply Covered.mk); decide)
    | with_reducible apply Frame.step (errUnreach_frame ..) | with_reducible apply Frame.step (sendOn_frame ..) | split

theorem sendTree_frame (up bypass : Bool) (cls epoch l : Nat) (m : Msg) (s : State) :
    Frame [.wch, .ldg, .mem, .nextTag, .outs] s (sendTree up bypass cls epoch l m s) := by
  unfold sendTree
  try extract_lets
  repeat' first
    | with_reducible apply Frame.refl | ((with_reducible apply Covered.mk); decide)
    | with_reducible apply Frame.step (routeFlit_frame ..) | with_reducible apply Frame.step (sendOn_frame ..) | split

theorem sendDown_frame (cls e : Nat) (m : Msg) (s : State) :
    Frame [.wch, .ldg, .mem, .nextTag, .outs] s (sendDown cls e m s) := by
  unfold sendDown
  try extract_lets
  repeat' first
    | with_reducible apply Frame.refl | ((with_reducible apply Covered.mk); decide)
    | with_reducible apply Frame.step (sendTree_frame ..) | ((with_reducible apply Frame.forEach) <;> try intro _ _) | split

theorem flood_frame (except : Option Nat) (f : Flit) (s : State) :
    Frame [.wch, .ldg, .mem, .nextTag, .outs] s (flood except f s) := by
  unfold flood
  try extract_lets
  repeat' first
    | with_reducible apply Frame.refl | ((with_reducible apply Covered.mk); decide)
    | with_reducible apply Frame.step (sendOn_frame ..) | ((with_reducible apply Frame.forEach) <;> try intro _ _) | split

theorem errTtl_frame (l : Nat) (s : State) : Frame [.wch] s (errTtl l s) := by
  unfold errTtl
  try extract_lets
  repeat' first
    | with_reducible apply Frame.refl | ((with_reducible apply Covered.mk); decide)
    | with_reducible apply Frame.step (modErr_frame ..) | split

theorem bypassUp_frame (cls e : Nat) (m : Msg) (s : State) :
    Frame [.wch, .ldg, .mem, .nextTag, .outs] s (bypassUp cls e m s) := by
  unfold bypassUp
  try extract_lets
  repeat' first
    | with_reducible apply Frame.refl | ((with_reducible apply Covered.mk); decide)
    | with_reducible apply Frame.step (modWch_frame ..) | with_reducible apply Frame.step (sendTree_frame ..) | split

theorem sendUp_frame (cls e : Nat) (m : Msg) (s : State) : Frame [.wch, .ldg, .mem, .nextTag, .outs] s (sendUp cls e m s) := by
  unfold sendUp
  try extract_lets
  repeat' first
    | with_reducible apply Frame.refl | ((with_reducible apply Covered.mk); decide)
    | with_reducible apply Frame.step (sendTree_frame ..) | split

theorem sendRouted_frame (cls dest epoch : Nat) (m : Msg) (s : State) :
    Frame [.wch, .ldg, .mem, .nextTag, .outs] s (sendRouted cls dest epoch m s) := by
  unfold sendRouted
  try extract_lets
  repeat' first
    | with_reducible apply Frame.refl | ((with_reducible apply Covered.mk); decide)
    | with_reducible apply Frame.step (routeFlit_frame ..) | split

theorem rxRing_frame (src : Nat) (f : RecFrag) (s : State) : Frame [.wch, .slots, .mem, .nextTag, .outs] s (rxRing src f s) := by
  unfold rxRing
  try extract_lets
  repeat' first
    | with_reducible apply Frame.refl | ((with_reducible apply Covered.mk); decide)
    | with_reducible apply Frame.step (modWch_frame ..) | with_reducible apply Frame.step (memWrite_frame ..)
    | with_reducible apply Frame.step (issueMem_frame ..) | with_reducible apply Frame.step (irqSet_frame ..) | split

theorem sendFragment_frame (dest : Nat) (f : RecFrag) (s : State) :
    Frame [.wch, .slots, .ldg, .mem, .nextTag, .outs] s (sendFragment dest f s) := by
  unfold sendFragment
  try extract_lets
  repeat' first
    | with_reducible apply Frame.refl | ((with_reducible apply Covered.mk); decide)
    | with_reducible apply Frame.step (sendRouted_frame ..) | with_reducible apply Frame.step (rxRing_frame ..) | split

theorem traceIn_frame (es : List TraceEntry) (s : State) : Frame [.ldg] s (traceIn es s) := by
  unfold traceIn
  try extract_lets
  repeat' first
    | with_reducible apply Frame.refl | ((with_reducible apply Covered.mk); decide)
    | with_reducible apply Frame.step (modLdg_frame ..) | split

theorem enterRing_frame (n : Nat) (e : RingEntry) (s : State) : Frame [.gnd, .sents] s (enterRing n e s) := by
  unfold enterRing
  try extract_lets
  repeat' first
    | with_reducible apply Frame.refl | ((with_reducible apply Covered.mk); decide)
    | with_reducible apply Frame.step (modSent_frame ..) | with_reducible apply Frame.step (modAsm_frame ..) | split

theorem nodeEvent_frame (n code sev detail : Nat) (extra : List TraceEntry) (s : State) :
    Frame [.gnd, .sents, .ldg, .fresh] s (nodeEvent n code sev detail extra s) := by
  unfold nodeEvent
  try extract_lets
  repeat' first
    | with_reducible apply Frame.refl | ((with_reducible apply Covered.mk); decide)
    | with_reducible apply Frame.step (traceIn_frame ..) | with_reducible apply Frame.step (bumpFresh_frame ..)
    | with_reducible apply Frame.step (enterRing_frame ..) | ((with_reducible apply Frame.forEach) <;> try intro _ _) | split

theorem occurrence_frame (r : Rec) (s : State) : Frame [.gnd, .sents, .ldg, .fresh] s (occurrence r s) := by
  unfold occurrence
  try extract_lets
  repeat' first
    | with_reducible apply Frame.refl | ((with_reducible apply Covered.mk); decide)
    | with_reducible apply Frame.step (nodeEvent_frame ..) | split

theorem loseRec_frame (cause : Nat) (r : Rec) (s : State) : Frame [.ldg] s (loseRec cause r s) := by
  unfold loseRec
  try extract_lets
  repeat' first
    | with_reducible apply Frame.refl | ((with_reducible apply Covered.mk); decide)
    | with_reducible apply Frame.step (gcount_frame ..) | with_reducible apply Frame.step (modLdg_frame ..) | split

theorem forwardRec_frame (r : Rec) (s : State) : Frame [.wch, .slots, .ldg, .mem, .nextTag, .outs] s (forwardRec r s) := by
  unfold forwardRec
  try extract_lets
  repeat' first
    | with_reducible apply Frame.refl | ((with_reducible apply Covered.mk); decide)
    | with_reducible apply Frame.step (sendFragment_frame ..) | ((with_reducible apply Frame.forEach) <;> try intro _ _)
    | split

theorem sealRec_frame (s : State) : Frame [.wch, .slots, .ldg, .mem, .nextTag, .outs] s (sealRec s) := by
  unfold sealRec
  try extract_lets
  repeat' first
    | with_reducible apply Frame.refl | ((with_reducible apply Covered.mk); decide)
    | with_reducible apply Frame.step (forwardRec_frame ..) | with_reducible apply Frame.step (modLdg_frame ..)
    | ((with_reducible apply Frame.whenB) <;> try intro _) | split

theorem writeNew_frame (r : Rec) (s : State) :
    Frame [.gnd, .sents, .wch, .slots, .ldg, .mem, .nextTag, .outs, .fresh] s (writeNew r s) := by
  unfold writeNew
  try extract_lets
  repeat' first
    | with_reducible apply Frame.refl | ((with_reducible apply Covered.mk); decide)
    | with_reducible apply Frame.step (gcount_frame ..) | with_reducible apply Frame.step (sealRec_frame ..)
    | with_reducible apply Frame.step (occurrence_frame ..) | with_reducible apply Frame.step (loseRec_frame ..)
    | with_reducible apply Frame.step (modLdg_frame ..) | ((with_reducible apply Frame.whenB) <;> try intro _) | split

theorem foldInto_frame (r q : Rec) (s : State) : Frame [.gnd, .sents, .ldg, .fresh] s (foldInto r q s) := by
  unfold foldInto
  try extract_lets
  repeat' first
    | with_reducible apply Frame.refl | ((with_reducible apply Covered.mk); decide)
    | with_reducible apply Frame.step (occurrence_frame ..) | with_reducible apply Frame.step (modLdg_frame ..) | split

theorem writeOrFold_frame (r : Rec) (s : State) :
    Frame [.gnd, .sents, .wch, .slots, .ldg, .mem, .nextTag, .outs, .fresh] s (writeOrFold r s) := by
  unfold writeOrFold
  try extract_lets
  repeat' first
    | with_reducible apply Frame.refl | ((with_reducible apply Covered.mk); decide)
    | with_reducible apply Frame.step (writeNew_frame ..) | with_reducible apply Frame.step (foldInto_frame ..) | split

theorem writeByRate_frame (r : Rec) (s : State) :
    Frame [.gnd, .sents, .wch, .slots, .ldg, .mem, .nextTag, .outs, .fresh] s (writeByRate r s) := by
  unfold writeByRate
  try extract_lets
  repeat' first
    | with_reducible apply Frame.refl | ((with_reducible apply Covered.mk); decide)
    | with_reducible apply Frame.step (occurrence_frame ..) | with_reducible apply Frame.step (loseRec_frame ..)
    | with_reducible apply Frame.step (writeOrFold_frame ..) | with_reducible apply Frame.step (modLdg_frame ..) | split

theorem recSevPart_frame (t : RecType) (node : Nat) (p : Option Nat) (sev : Nat) (body : List Byte) (s : State) :
    Frame [.gnd, .sents, .wch, .slots, .ldg, .mem, .nextTag, .outs, .fresh] s (recSevPart t node p sev body s) := by
  unfold recSevPart
  try extract_lets
  repeat' first
    | with_reducible apply Frame.refl | ((with_reducible apply Covered.mk); decide)
    | with_reducible apply Frame.step (writeByRate_frame ..) | with_reducible apply Frame.step (writeOrFold_frame ..) | split

theorem record_frame (t : RecType) (node : Nat) (body : List Byte) (s : State) :
    Frame [.gnd, .sents, .wch, .slots, .ldg, .mem, .nextTag, .outs, .fresh] s (record t node body s) := by
  unfold record
  try extract_lets
  repeat' first
    | with_reducible apply Frame.refl | ((with_reducible apply Covered.mk); decide)
    | with_reducible apply Frame.step (recSevPart_frame ..) | split

theorem recordBlock_frame (t : RecType) (body : List Byte) (s : State) :
    Frame [.gnd, .sents, .wch, .slots, .ldg, .mem, .nextTag, .outs, .fresh] s (recordBlock t body s) := by
  unfold recordBlock
  try extract_lets
  repeat' first
    | with_reducible apply Frame.refl | ((with_reducible apply Covered.mk); decide)
    | with_reducible apply Frame.step (record_frame ..) | split

theorem deny_frame (a : Access) (write narrow : Bool) (addr : Nat) (s : State) :
    Frame [.gnd, .sents, .wch, .slots, .bus, .ldg, .mem, .nextTag, .outs, .fresh] s (deny a write narrow addr s) := by
  unfold deny
  try extract_lets
  repeat' first
    | with_reducible apply Frame.refl | ((with_reducible apply Covered.mk); decide)
    | with_reducible apply Frame.step (gcount_frame ..) | with_reducible apply Frame.step (recordBlock_frame ..)
    | with_reducible apply Frame.step (busErr_frame ..) | split

theorem privWrite_frame (a : Access) (addr : Nat) {f : State → State} {l : List Comp} {s t : State} (hf : ∀ x, Frame l x (f x))
    (hc : Covered [.gnd, .sents, .wch, .slots, .bus, .ldg, .mem, .nextTag, .outs, .fresh] l) (k : Frame l s t) :
    Frame l s (privWrite a addr f t) := by
  have hb : Covered [Comp.bus] l := ⟨by simpa using List.all_eq_true.mp hc.ok .bus (by decide)⟩
  unfold privWrite
  repeat' split
  all_goals first
    | exact k
    | exact (k.trans (hf t)).trans ((busOk_frame _).mono hb)
    | exact k.trans ((busErr_frame _).mono hb)
    | exact k.trans ((deny_frame ..).mono hc)

theorem writeLoss_frame (s : State) :
    Frame [.gnd, .sents, .wch, .slots, .ldg, .mem, .nextTag, .outs, .fresh] s (writeLoss s) := by
  unfold writeLoss
  try extract_lets
  repeat' first
    | with_reducible apply Frame.refl | ((with_reducible apply Covered.mk); decide)
    | with_reducible apply Frame.step (recordBlock_frame ..) | with_reducible apply Frame.step (modLdg_frame ..) | split

theorem recPart_frame (t : RecType) (node k : Nat) (body : List Byte) (s : State) :
    Frame [.gnd, .sents, .wch, .slots, .ldg, .mem, .nextTag, .outs, .fresh] s (recPart t node k body s) := by
  unfold recPart
  try extract_lets
  repeat' first
    | with_reducible apply Frame.refl | ((with_reducible apply Covered.mk); decide)
    | with_reducible apply Frame.step (recSevPart_frame ..) | split

theorem event_frame (n code sev detail : Nat) (s : State) : Frame [.gnd, .sents, .ldg, .fresh] s (event n code sev detail s) := by
  unfold event
  try extract_lets
  repeat' first
    | with_reducible apply Frame.refl | ((with_reducible apply Covered.mk); decide)
    | with_reducible apply Frame.step (nodeEvent_frame ..) | split

theorem forgetEnergy_frame (e : Nat) (s : State) : Frame [.energies] s (forgetEnergy e s) := by
  unfold forgetEnergy
  try extract_lets
  repeat' first
    | with_reducible apply Frame.refl | ((with_reducible apply Covered.mk); decide) | split
    | exact ⟨fun c h => by cases c <;> first | exact rfl | exact absurd (by decide) h⟩

theorem rememberAlarm_frame (m : AlarmMsg) (s : State) : Frame [.wch] s (rememberAlarm m s) := by
  unfold rememberAlarm
  try extract_lets
  repeat' first
    | with_reducible apply Frame.refl | ((with_reducible apply Covered.mk); decide)
    | with_reducible apply Frame.step (modWch_frame ..) | split

theorem setPart_frame (k st e : Nat) (s : State) : Frame [.parts, .slots] s (setPart k st e s) := by
  unfold setPart
  try extract_lets
  repeat' first
    | with_reducible apply Frame.refl | ((with_reducible apply Covered.mk); decide)
    | with_reducible apply Frame.step (modPart_frame ..) | with_reducible apply Frame.step (irqPart_frame ..)
    | ((with_reducible apply Frame.whenB) <;> try intro _) | split

theorem energyRecord_frame (last e : Nat) (s : State) :
    Frame [.energies, .gnd, .sents, .wch, .slots, .ldg, .mem, .nextTag, .outs, .fresh] s (energyRecord last e s) := by
  unfold energyRecord
  try extract_lets
  repeat' first
    | with_reducible apply Frame.refl | ((with_reducible apply Covered.mk); decide)
    | with_reducible apply Frame.step (recordBlock_frame ..) | with_reducible apply Frame.step (forgetEnergy_frame ..)
    | split

theorem dropEpoch_frame (last e : Nat) (s : State) :
    Frame [.energies, .gnd, .sents, .epochs, .rcv, .wch, .slots, .ldg, .mem, .nextTag, .outs, .fresh] s (dropEpoch last e s) := by
  unfold dropEpoch
  try extract_lets
  repeat' first
    | with_reducible apply Frame.refl | ((with_reducible apply Covered.mk); decide)
    | with_reducible apply Frame.step (modRcv_frame ..) | with_reducible apply Frame.step (energyRecord_frame ..) | split
    | exact ⟨fun c h => by cases c <;> first | exact rfl | exact absurd (by decide) h⟩

theorem afterLeave_frame (k : Nat) (s : State) :
    Frame [.energies, .gnd, .sents, .parts, .epochs, .rcv, .wch, .slots, .ldg, .mem, .nextTag, .outs, .fresh] s (afterLeave k s) := by
  unfold afterLeave
  try extract_lets
  repeat' first
    | with_reducible apply Frame.refl | ((with_reducible apply Covered.mk); decide)
    | with_reducible apply Frame.step (dropEpoch_frame ..) | with_reducible apply Frame.step (modPart_frame ..)
    | with_reducible apply Frame.step (setPart_frame ..) | ((with_reducible apply Frame.whenSome) <;> try intro _ _) | split

theorem forgetJoins_frame (e : Nat) (s : State) : Frame [.parts] s (forgetJoins e s) := by
  unfold forgetJoins
  try extract_lets
  repeat' first
    | with_reducible apply Frame.refl | ((with_reducible apply Covered.mk); decide) | split
    | exact ⟨fun c h => by cases c <;> first | exact rfl | exact absurd (by decide) h⟩

theorem cancelPending_frame (e : Nat) (s : State) :
    Frame [.energies, .gnd, .sents, .parts, .epochs, .rcv, .wch, .slots, .ldg, .mem, .nextTag, .outs, .fresh] s (cancelPending e s) := by
  unfold cancelPending
  try extract_lets
  repeat' first
    | with_reducible apply Frame.refl | ((with_reducible apply Covered.mk); decide)
    | with_reducible apply Frame.step (dropEpoch_frame ..) | with_reducible apply Frame.step (afterLeave_frame ..)
    | with_reducible apply Frame.step (modRcv_frame ..) | with_reducible apply Frame.step (forgetJoins_frame ..)
    | ((with_reducible apply Frame.forEach) <;> try intro _ _) | split

theorem actOnAlarm_frame (m : AlarmMsg) (role : Nat) (s : State) :
    Frame [.energies, .gnd, .sents, .parts, .epochs, .rcv, .wch, .slots, .ldg, .mem, .nextTag, .outs, .fresh] s (actOnAlarm m role s) := by
  unfold actOnAlarm
  try extract_lets
  repeat' first
    | with_reducible apply Frame.refl | ((with_reducible apply Covered.mk); decide)
    | with_reducible apply Frame.step (gcount_frame ..) | with_reducible apply Frame.step (recordBlock_frame ..)
    | with_reducible apply Frame.step (pcount_frame ..) | with_reducible apply Frame.step (modRcv_frame ..)
    | with_reducible apply Frame.step (setPart_frame ..) | with_reducible apply Frame.step (cancelPending_frame ..)
    | with_reducible apply Frame.step (modEpoch_frame ..) | ((with_reducible apply Frame.forEach) <;> try intro _ _) | split

theorem originate_frame (cause e node k : Nat) (detail : List Byte) (s : State) :
    Frame [.energies, .gnd, .sents, .parts, .epochs, .rcv, .wch, .slots, .ldg, .mem, .nextTag, .outs, .fresh] s (originate cause e node k detail s) := by
  unfold originate
  try extract_lets
  repeat' first
    | with_reducible apply Frame.refl | ((with_reducible apply Covered.mk); decide)
    | with_reducible apply Frame.step (rememberAlarm_frame ..) | with_reducible apply Frame.step (actOnAlarm_frame ..)
    | with_reducible apply Frame.step (modEpoch_frame ..) | with_reducible apply Frame.step (flood_frame ..) | split

theorem alarmPart_frame (cause k node : Nat) (detail : List Byte) (s : State) :
    Frame [.energies, .gnd, .sents, .parts, .epochs, .rcv, .wch, .slots, .ldg, .mem, .nextTag, .outs, .fresh] s (alarmPart cause k node detail s) := by
  unfold alarmPart
  try extract_lets
  repeat' first
    | with_reducible apply Frame.refl | ((with_reducible apply Covered.mk); decide)
    | with_reducible apply Frame.step (originate_frame ..) | split

theorem alarmEpochs_frame (cause : Nat) (es : List Nat) (s : State) :
    Frame [.energies, .gnd, .sents, .parts, .epochs, .rcv, .wch, .slots, .ldg, .mem, .nextTag, .outs, .fresh] s (alarmEpochs cause es s) := by
  unfold alarmEpochs
  try extract_lets
  repeat' first
    | with_reducible apply Frame.refl | ((with_reducible apply Covered.mk); decide)
    | with_reducible apply Frame.step (originate_frame ..) | ((with_reducible apply Frame.forEach) <;> try intro _ _) | split

theorem addEvid_frame (p : Nat) (v : Evid) (s : State) : Frame [.sents] s (addEvid p v s) := by
  unfold addEvid
  try extract_lets
  repeat' first
    | with_reducible apply Frame.refl | ((with_reducible apply Covered.mk); decide)
    | with_reducible apply Frame.step (modSent_frame ..) | split

theorem touchMark_frame (p n : Nat) (failed : Bool) (s : State) :
    Frame [.taint, .mem, .nextTag, .outs] s (touchMark p n failed s) := by
  unfold touchMark
  try extract_lets
  repeat' first
    | with_reducible apply Frame.refl | ((with_reducible apply Covered.mk); decide)
    | with_reducible apply Frame.step (memWrite_frame ..) | with_reducible apply Frame.step (issueMem_frame ..)
    | with_reducible apply Frame.step (modTaint_frame ..) | split

theorem touchCheck_frame (c : Chk) (s : State) : Frame [.taint, .mem, .nextTag, .outs] s (touchCheck c s) := by
  unfold touchCheck
  try extract_lets
  repeat' first
    | with_reducible apply Frame.refl | ((with_reducible apply Covered.mk); decide)
    | with_reducible apply Frame.step (touchMark_frame ..) | split

theorem noteFail_frame (e n : Nat) (s : State) : Frame [.epochs] s (noteFail e n s) := by
  unfold noteFail
  try extract_lets
  repeat' first
    | with_reducible apply Frame.refl | ((with_reducible apply Covered.mk); decide)
    | with_reducible apply Frame.step (modEpoch_frame ..) | split

theorem lateFault_frame (c : Chk) (s : State) :
    Frame [.energies, .gnd, .sents, .parts, .epochs, .rcv, .wch, .slots, .ldg, .mem, .nextTag, .outs, .fresh] s (lateFault c s) := by
  unfold lateFault
  try extract_lets
  repeat' first
    | with_reducible apply Frame.refl | ((with_reducible apply Covered.mk); decide)
    | with_reducible apply Frame.step (sendUp_frame ..) | with_reducible apply Frame.step (originate_frame ..) | split

theorem addChk_frame (c : Chk) (s : State) : Frame [.chks] s (addChk c s) := by
  unfold addChk
  try extract_lets
  repeat' first
    | with_reducible apply Frame.refl | ((with_reducible apply Covered.mk); decide) | split
    | exact ⟨fun c h => by cases c <;> first | exact rfl | exact absurd (by decide) h⟩

theorem landCheck_frame (c : Chk) (s : State) :
    Frame [.energies, .gnd, .sents, .parts, .epochs, .chks, .taint, .rcv, .wch, .slots, .ldg, .mem, .nextTag, .outs, .fresh] s (landCheck c s) := by
  unfold landCheck
  try extract_lets
  repeat' first
    | with_reducible apply Frame.refl | ((with_reducible apply Covered.mk); decide)
    | with_reducible apply Frame.step (touchCheck_frame ..) | with_reducible apply Frame.step (sendUp_frame ..)
    | with_reducible apply Frame.step (noteFail_frame ..) | with_reducible apply Frame.step (addChk_frame ..)
    | with_reducible apply Frame.step (lateFault_frame ..) | ((with_reducible apply Frame.whenB) <;> try intro _) | split

theorem modSweep_frame (p : Nat) (f : Sweep → Sweep) (s : State) : Frame [.rcv] s (modSweep p f s) := by
  unfold modSweep
  try extract_lets
  repeat' first
    | with_reducible apply Frame.refl | ((with_reducible apply Covered.mk); decide)
    | with_reducible apply Frame.step (modRcv_frame ..) | split

theorem modCap_frame (id : Nat) (f : Capture → Capture) (s : State) : Frame [.cpy] s (modCap id f s) := by
  unfold modCap
  try extract_lets
  repeat' first
    | with_reducible apply Frame.refl | ((with_reducible apply Covered.mk); decide)
    | with_reducible apply Frame.step (modCpy_frame ..) | split

theorem startSweep_frame (p : Nat) (s : State) : Frame [.cpy, .rcv] s (startSweep p s) := by
  unfold startSweep
  try extract_lets
  repeat' first
    | with_reducible apply Frame.refl | ((with_reducible apply Covered.mk); decide)
    | with_reducible apply Frame.step (modSweep_frame ..) | with_reducible apply Frame.step (modCap_frame ..)
    | ((with_reducible apply Frame.forEach) <;> try intro _ _) | split

theorem openSweeps_frame (s : State) : Frame [.cpy, .rcv] s (openSweeps s) := by
  unfold openSweeps
  try extract_lets
  repeat' first
    | with_reducible apply Frame.refl | ((with_reducible apply Covered.mk); decide)
    | with_reducible apply Frame.step (startSweep_frame ..) | split

theorem dropRecord_frame (p cause : Nat) (t : TagCmd) (s : State) :
    Frame [.gnd, .sents, .wch, .slots, .ldg, .mem, .nextTag, .outs, .fresh] s (dropRecord p cause t s) := by
  unfold dropRecord
  try extract_lets
  repeat' first
    | with_reducible apply Frame.refl | ((with_reducible apply Covered.mk); decide)
    | with_reducible apply Frame.step (record_frame ..) | split

theorem modUnit_frame (u : Nat) (f : CUnit → CUnit) (s : State) : Frame [.cpy] s (modUnit u f s) := by
  unfold modUnit
  try extract_lets
  repeat' first
    | with_reducible apply Frame.refl | ((with_reducible apply Covered.mk); decide)
    | with_reducible apply Frame.step (modCpy_frame ..) | split

theorem modPiece_frame (id i : Nat) (f : Piece → Piece) (s : State) : Frame [.cpy] s (modPiece id i f s) := by
  unfold modPiece
  try extract_lets
  repeat' first
    | with_reducible apply Frame.refl | ((with_reducible apply Covered.mk); decide)
    | with_reducible apply Frame.step (modCap_frame ..) | split

theorem admitTo_frame (id i g : Nat) (s : State) : Frame [.cpy] s (admitTo id i g s) := by
  unfold admitTo
  try extract_lets
  repeat' first
    | with_reducible apply Frame.refl | ((with_reducible apply Covered.mk); decide)
    | with_reducible apply Frame.step (modCap_frame ..) | with_reducible apply Frame.step (modCpy_frame ..)
    | with_reducible apply Frame.step (modPiece_frame ..) | split

theorem admitPiece_frame (id i : Nat) (s : State) : Frame [.cpy] s (admitPiece id i s) := by
  unfold admitPiece
  try dsimp only
  repeat' first
    | with_reducible apply Frame.refl | ((with_reducible apply Covered.mk); decide)
    | with_reducible apply Frame.step (admitTo_frame ..) | split

theorem freeCapture_frame (id : Nat) (s : State) : Frame [.cpy] s (freeCapture id s) := by
  unfold freeCapture
  try extract_lets
  repeat' first
    | with_reducible apply Frame.refl | ((with_reducible apply Covered.mk); decide)
    | with_reducible apply Frame.step (modCpy_frame ..) | split

theorem discardCapture_frame (id : Nat) (s : State) : Frame [.cpy] s (discardCapture id s) := by
  unfold discardCapture
  try extract_lets
  repeat' first
    | with_reducible apply Frame.refl | ((with_reducible apply Covered.mk); decide)
    | with_reducible apply Frame.step (freeCapture_frame ..) | with_reducible apply Frame.step (modCpy_frame ..) | split

theorem countMflop_frame (cost : Nat) (s : State) : Frame [.ldg] s (countMflop cost s) := by
  unfold countMflop
  try extract_lets
  repeat' first
    | with_reducible apply Frame.refl | ((with_reducible apply Covered.mk); decide)
    | with_reducible apply Frame.step (gcount_frame ..) | split

theorem openCapture_frame (p : Nat) (t : TagCmd) (directed : Bool) (s : State) : Frame [.cpy] s (openCapture p t directed s) := by
  unfold openCapture
  try extract_lets
  repeat' first
    | with_reducible apply Frame.refl | ((with_reducible apply Covered.mk); decide)
    | with_reducible apply Frame.step (modCpy_frame ..) | split

theorem copyDisagree_frame (node kase first second : Nat) (t : TagCmd) (chip : Nat) (s : State) :
    Frame [.gnd, .sents, .wch, .slots, .ldg, .mem, .nextTag, .outs, .fresh] s (copyDisagree node kase first second t chip s) := by
  unfold copyDisagree
  try extract_lets
  repeat' first
    | with_reducible apply Frame.refl | ((with_reducible apply Covered.mk); decide)
    | with_reducible apply Frame.step (record_frame ..) | split

theorem freeStaging_frame (id : Nat) (s : State) : Frame [.cpy] s (freeStaging id s) := by
  unfold freeStaging
  try extract_lets
  repeat' first
    | with_reducible apply Frame.refl | ((with_reducible apply Covered.mk); decide)
    | with_reducible apply Frame.step (modCpy_frame ..) | split

theorem releaseClaim_frame (id : Nat) (s : State) : Frame [.cpy] s (releaseClaim id s) := by
  unfold releaseClaim
  try extract_lets
  repeat' first
    | with_reducible apply Frame.refl | ((with_reducible apply Covered.mk); decide)
    | with_reducible apply Frame.step (freeStaging_frame ..) | with_reducible apply Frame.step (modCap_frame ..) | split

theorem endSweep_frame (p : Nat) (epochEnd : Bool) (s : State) :
    Frame [.gnd, .sents, .chks, .cpy, .rcv, .wch, .slots, .ldg, .mem, .nextTag, .outs, .fresh] s (endSweep p epochEnd s) := by
  unfold endSweep
  try extract_lets
  repeat' first
    | with_reducible apply Frame.refl | ((with_reducible apply Covered.mk); decide)
    | with_reducible apply Frame.step (modRcv_frame ..) | with_reducible apply Frame.step (openSweeps_frame ..)
    | with_reducible apply Frame.step (record_frame ..) | with_reducible apply Frame.step (addChk_frame ..)
    | with_reducible apply Frame.step (releaseClaim_frame ..) | ((with_reducible apply Frame.whenB) <;> try intro _)
    | ((with_reducible apply Frame.forEach) <;> try intro _ _) | split

theorem copyFail_frame (p n kind : Nat) (t : TagCmd) (body : List Byte) (s : State) :
    Frame [.gnd, .sents, .wch, .slots, .ldg, .mem, .nextTag, .outs, .fresh] s (copyFail p n kind t body s) := by
  unfold copyFail
  try extract_lets
  repeat' first
    | with_reducible apply Frame.refl | ((with_reducible apply Covered.mk); decide)
    | with_reducible apply Frame.step (writeOrFold_frame ..) | with_reducible apply Frame.step (addEvid_frame ..) | split

theorem sweptCapture_frame (id : Nat) (c : Capture) (v : Nat) (s : State) :
    Frame [.energies, .gnd, .sents, .parts, .epochs, .chks, .cpy, .taint, .rcv, .wch, .slots, .ldg, .mem, .nextTag, .outs, .fresh] s (sweptCapture id c v s) := by
  unfold sweptCapture
  try dsimp only
  repeat' first
    | with_reducible apply Frame.refl | ((with_reducible apply Covered.mk); decide)
    | with_reducible apply Frame.step (touchMark_frame ..) | with_reducible apply Frame.step (modSweep_frame ..)
    | with_reducible apply Frame.step (freeStaging_frame ..) | with_reducible apply Frame.step (landCheck_frame ..)
    | with_reducible apply Frame.step (endSweep_frame ..) | with_reducible apply Frame.step (modCap_frame ..)
    | with_reducible apply Frame.step (dropRecord_frame ..) | with_reducible apply Frame.step (copyFail_frame ..) | split

theorem judgeCapture_frame (id : Nat) (s : State) :
    Frame [.energies, .gnd, .sents, .parts, .epochs, .chks, .cpy, .taint, .rcv, .wch, .slots, .ldg, .mem, .nextTag, .outs, .fresh] s (judgeCapture id s) := by
  unfold judgeCapture
  try dsimp only
  repeat' first
    | with_reducible apply Frame.refl | ((with_reducible apply Covered.mk); decide)
    | with_reducible apply Frame.step (freeCapture_frame ..) | with_reducible apply Frame.step (freeStaging_frame ..)
    | with_reducible apply Frame.step (landCheck_frame ..) | with_reducible apply Frame.step (modCap_frame ..)
    | with_reducible apply Frame.step (dropRecord_frame ..) | with_reducible apply Frame.step (sweptCapture_frame ..)
    | with_reducible apply Frame.step (copyFail_frame ..) | ((with_reducible apply Frame.whenB) <;> try intro _) | split

theorem endPiece_frame (id i cause : Nat) (s : State) :
    Frame [.energies, .gnd, .sents, .parts, .epochs, .chks, .cpy, .taint, .rcv, .wch, .slots, .ldg, .mem, .nextTag, .outs, .fresh] s (endPiece id i cause s) := by
  unfold endPiece
  try extract_lets
  repeat' first
    | with_reducible apply Frame.refl | ((with_reducible apply Covered.mk); decide)
    | with_reducible apply Frame.step (judgeCapture_frame ..) | with_reducible apply Frame.step (modPiece_frame ..) | split

theorem admitConfirm_frame (id i : Nat) (s : State) :
    Frame [.energies, .gnd, .sents, .parts, .epochs, .chks, .cpy, .taint, .rcv, .wch, .slots, .ldg, .mem, .nextTag, .outs, .fresh] s (admitConfirm id i s) := by
  unfold admitConfirm
  try extract_lets
  repeat' first
    | with_reducible apply Frame.refl | ((with_reducible apply Covered.mk); decide)
    | with_reducible apply Frame.step (admitTo_frame ..) | with_reducible apply Frame.step (copyDisagree_frame ..)
    | with_reducible apply Frame.step (endPiece_frame ..) | with_reducible apply Frame.step (modPiece_frame ..) | split

theorem admitAll_frame (run : Nat) (ids : List Nat) (s : State) :
    Frame [.energies, .gnd, .sents, .parts, .epochs, .chks, .cpy, .taint, .rcv, .wch, .slots, .ldg, .mem, .nextTag, .outs, .fresh] s (admitAll run ids s) := by
  unfold admitAll
  try extract_lets
  repeat' first
    | with_reducible apply Frame.refl | ((with_reducible apply Covered.mk); decide)
    | with_reducible apply Frame.step (admitConfirm_frame ..) | with_reducible apply Frame.step (admitPiece_frame ..)
    | ((with_reducible apply Frame.forEach) <;> try intro _ _) | split

theorem groupCanary_frame (g : Nat) (s : State) : Frame [.cpy] s (groupCanary g s) := by
  unfold groupCanary
  try extract_lets
  repeat' first
    | with_reducible apply Frame.refl | ((with_reducible apply Covered.mk); decide)
    | with_reducible apply Frame.step (modUnit_frame ..) | ((with_reducible apply Frame.forEach) <;> try intro _ _) | split

theorem admitGather_frame (s : State) :
    Frame [.energies, .gnd, .sents, .parts, .epochs, .chks, .cpy, .taint, .rcv, .wch, .slots, .ldg, .mem, .nextTag, .outs, .fresh] s (admitGather s) := by
  unfold admitGather
  try extract_lets
  repeat' first
    | with_reducible apply Frame.refl | ((with_reducible apply Covered.mk); decide)
    | with_reducible apply Frame.step (admitAll_frame ..) | split

theorem dropCheck_frame (p cause n : Nat) (t : TagCmd) (s : State) :
    Frame [.energies, .gnd, .sents, .parts, .epochs, .chks, .taint, .rcv, .wch, .slots, .ldg, .mem, .nextTag, .outs, .fresh] s (dropCheck p cause n t s) := by
  unfold dropCheck
  try extract_lets
  repeat' first
    | with_reducible apply Frame.refl | ((with_reducible apply Covered.mk); decide)
    | with_reducible apply Frame.step (landCheck_frame ..) | with_reducible apply Frame.step (dropRecord_frame ..) | split

theorem dropCapture_frame (id cause n : Nat) (s : State) :
    Frame [.energies, .gnd, .sents, .parts, .epochs, .chks, .cpy, .taint, .rcv, .wch, .slots, .ldg, .mem, .nextTag, .outs, .fresh] s (dropCapture id cause n s) := by
  unfold dropCapture
  try extract_lets
  repeat' first
    | with_reducible apply Frame.refl | ((with_reducible apply Covered.mk); decide)
    | with_reducible apply Frame.step (freeCapture_frame ..) | with_reducible apply Frame.step (dropCheck_frame ..) | split

theorem admitService_frame (id i : Nat) (s : State) : Frame [.cpy] s (admitService id i s) := by
  unfold admitService
  try dsimp only
  repeat' first
    | with_reducible apply Frame.refl | ((with_reducible apply Covered.mk); decide)
    | with_reducible apply Frame.step (modCap_frame ..) | with_reducible apply Frame.step (modCpy_frame ..)
    | with_reducible apply Frame.step (modPiece_frame ..) | split

theorem admitPublish_frame (s : State) : Frame [.cpy] s (admitPublish s) := by
  unfold admitPublish
  try extract_lets
  repeat' first
    | with_reducible apply Frame.refl | ((with_reducible apply Covered.mk); decide)
    | with_reducible apply Frame.step (admitService_frame ..) | ((with_reducible apply Frame.forEach) <;> try intro _ _)
    | split

theorem fenceCaptures_frame (pick : Capture → Bool) (s : State) :
    Frame [.energies, .gnd, .sents, .parts, .epochs, .chks, .cpy, .taint, .rcv, .wch, .slots, .ldg, .mem, .nextTag, .outs, .fresh] s (fenceCaptures pick s) := by
  unfold fenceCaptures
  try extract_lets
  repeat' first
    | with_reducible apply Frame.refl | ((with_reducible apply Covered.mk); decide)
    | with_reducible apply Frame.step (dropCapture_frame ..) | ((with_reducible apply Frame.forEach) <;> try intro _ _)
    | split

theorem craqFailed_frame (e : Craq) (s : State) :
    Frame [.gnd, .sents, .wch, .slots, .ldg, .mem, .nextTag, .outs, .fresh] s (craqFailed e s) := by
  unfold craqFailed
  try extract_lets
  repeat' first
    | with_reducible apply Frame.refl | ((with_reducible apply Covered.mk); decide)
    | with_reducible apply Frame.step (record_frame ..) | split

theorem craqRetry_frame (s : State) :
    Frame [.nvm, .gnd, .sents, .wch, .slots, .ldg, .mem, .nextTag, .outs, .fresh] s (craqRetry s) := by
  unfold craqRetry
  try extract_lets
  repeat' first
    | with_reducible apply Frame.refl | ((with_reducible apply Covered.mk); decide)
    | with_reducible apply Frame.step (craqFailed_frame ..) | with_reducible apply Frame.step (modNvm_frame ..)
    | with_reducible apply Frame.step (modLdg_frame ..) | ((with_reducible apply Frame.forEach) <;> try intro _ _)
    | ((with_reducible apply Frame.foldl) <;> try intro _ _) | split

theorem craqCommit_frame (e : Craq) (s : State) :
    Frame [.nvm, .gnd, .sents, .wch, .slots, .ldg, .mem, .nextTag, .outs, .fresh] s (craqCommit e s) := by
  unfold craqCommit
  try extract_lets
  repeat' first
    | with_reducible apply Frame.refl | ((with_reducible apply Covered.mk); decide)
    | with_reducible apply Frame.step (craqFailed_frame ..) | with_reducible apply Frame.step (modNvm_frame ..)
    | with_reducible apply Frame.step (modLdg_frame ..) | split

theorem craqMod_frame (u i : Nat) (f : Craq → Craq) (s : State) :
    Frame [.nvm, .gnd, .sents, .wch, .slots, .ldg, .mem, .nextTag, .outs, .fresh] s (craqMod u i f s) := by
  unfold craqMod
  try extract_lets
  repeat' first
    | with_reducible apply Frame.refl | ((with_reducible apply Covered.mk); decide)
    | with_reducible apply Frame.step (craqCommit_frame ..) | split

theorem unitPass_frame (u : Nat) (s : State) :
    Frame [.gnd, .sents, .cpy, .wch, .slots, .ldg, .mem, .nextTag, .outs, .fresh] s (unitPass u s) := by
  unfold unitPass
  try extract_lets
  repeat' first
    | with_reducible apply Frame.refl | ((with_reducible apply Covered.mk); decide)
    | with_reducible apply Frame.step (modUnit_frame ..) | with_reducible apply Frame.step (record_frame ..)
    | ((with_reducible apply Frame.whenB) <;> try intro _) | split

theorem endCanary_frame (u : Nat) (s : State) : Frame [.cpy] s (endCanary u s) := by
  unfold endCanary
  try extract_lets
  repeat' first
    | with_reducible apply Frame.refl | ((with_reducible apply Covered.mk); decide)
    | with_reducible apply Frame.step (modUnit_frame ..) | with_reducible apply Frame.step (modCpy_frame ..)
    | ((with_reducible apply Frame.whenB) <;> try intro _) | split

theorem goldenDone_frame (i : Nat) (s : State) : Frame [.boot] s (goldenDone i s) := by
  unfold goldenDone
  try extract_lets
  repeat' first
    | with_reducible apply Frame.refl | ((with_reducible apply Covered.mk); decide)
    | with_reducible apply Frame.step (modBoot_frame ..) | split

theorem modGolden_frame (i : Nat) (f : Golden → Golden) (s : State) : Frame [.gnd] s (modGolden i f s) := by
  unfold modGolden
  try extract_lets
  repeat' first
    | with_reducible apply Frame.refl | ((with_reducible apply Covered.mk); decide)
    | with_reducible apply Frame.step (modGnd_frame ..) | split

theorem startCanary_frame (u : Nat) (s : State) : Frame [.cpy] s (startCanary u s) := by
  unfold startCanary
  try extract_lets
  repeat' first
    | with_reducible apply Frame.refl | ((with_reducible apply Covered.mk); decide)
    | with_reducible apply Frame.step (modUnit_frame ..) | with_reducible apply Frame.step (modCpy_frame ..) | split

theorem startCanaries_frame (s : State) : Frame [.cpy] s (startCanaries s) := by
  unfold startCanaries
  try extract_lets
  repeat' first
    | with_reducible apply Frame.refl | ((with_reducible apply Covered.mk); decide)
    | with_reducible apply Frame.step (startCanary_frame ..) | ((with_reducible apply Frame.forEach) <;> try intro _ _)
    | split

theorem readmit_frame (g : Nat) (s : State) : Frame [.cpy] s (readmit g s) := by
  unfold readmit
  try extract_lets
  repeat' first
    | with_reducible apply Frame.refl | ((with_reducible apply Covered.mk); decide)
    | with_reducible apply Frame.step (modCpy_frame ..) | split

theorem goldenSuspect_frame (e : Golden) (value : Nat) (s : State) :
    Frame [.gnd, .sents, .wch, .slots, .ldg, .mem, .nextTag, .outs, .fresh] s (goldenSuspect e value s) := by
  unfold goldenSuspect
  try extract_lets
  repeat' first
    | with_reducible apply Frame.refl | ((with_reducible apply Covered.mk); decide)
    | with_reducible apply Frame.step (recordBlock_frame ..) | split

theorem unitFail_frame (u kernel : Nat) (s : State) :
    Frame [.nvm, .gnd, .sents, .cpy, .wch, .slots, .ldg, .mem, .nextTag, .outs, .fresh] s (unitFail u kernel s) := by
  unfold unitFail
  try extract_lets
  repeat' first
    | with_reducible apply Frame.refl | ((with_reducible apply Covered.mk); decide)
    | with_reducible apply Frame.step (readmit_frame ..) | with_reducible apply Frame.step (modUnit_frame ..)
    | with_reducible apply Frame.step (craqMod_frame ..) | with_reducible apply Frame.step (record_frame ..)
    | ((with_reducible apply Frame.whenB) <;> try intro _) | split

theorem goldenValue_frame (i g value : Nat) (s : State) :
    Frame [.nvm, .boot, .gnd, .sents, .cpy, .wch, .slots, .ldg, .mem, .nextTag, .outs, .fresh] s (goldenValue i g value s) := by
  unfold goldenValue
  try extract_lets
  repeat' first
    | with_reducible apply Frame.refl | ((with_reducible apply Covered.mk); decide)
    | with_reducible apply Frame.step (modGolden_frame ..) | with_reducible apply Frame.step (goldenSuspect_frame ..)
    | with_reducible apply Frame.step (unitFail_frame ..) | with_reducible apply Frame.step (goldenDone_frame ..)
    | ((with_reducible apply Frame.whenB) <;> try intro _) | ((with_reducible apply Frame.forEach) <;> try intro _ _) | split

theorem peerSend_frame (l : Nat) (o : PeerOut) (s : State) :
    Frame [.cpy, .wch, .ldg, .mem, .nextTag, .outs] s (peerSend l o s) := by
  unfold peerSend
  try extract_lets
  repeat' first
    | with_reducible apply Frame.refl | ((with_reducible apply Covered.mk); decide)
    | with_reducible apply Frame.step (sendOn_frame ..) | with_reducible apply Frame.step (modCpy_frame ..)
    | ((with_reducible apply Frame.forEach) <;> try intro _ _) | split

theorem peerPublish_frame (s : State) : Frame [.cpy, .wch, .ldg, .mem, .nextTag, .outs] s (peerPublish s) := by
  unfold peerPublish
  try dsimp only
  repeat' first
    | with_reducible apply Frame.refl | ((with_reducible apply Covered.mk); decide)
    | with_reducible apply Frame.step (peerSend_frame ..) | with_reducible apply Frame.step (modCpy_frame ..) | split

theorem peerAdmit_frame (s : State) : Frame [.cpy] s (peerAdmit s) := by
  unfold peerAdmit
  try extract_lets
  repeat' first
    | with_reducible apply Frame.refl | ((with_reducible apply Covered.mk); decide)
    | with_reducible apply Frame.step (modCpy_frame ..) | split

theorem peerAnswer_frame (l reqId status len dg : Nat) (s : State) :
    Frame [.wch, .ldg, .mem, .nextTag, .outs] s (peerAnswer l reqId status len dg s) := by
  unfold peerAnswer
  try extract_lets
  repeat' first
    | with_reducible apply Frame.refl | ((with_reducible apply Covered.mk); decide)
    | with_reducible apply Frame.step (sendOn_frame ..) | split

theorem peerDrop_frame (i : Nat) (s : State) : Frame [.cpy] s (peerDrop i s) := by
  unfold peerDrop
  try extract_lets
  repeat' first
    | with_reducible apply Frame.refl | ((with_reducible apply Covered.mk); decide)
    | with_reducible apply Frame.step (modCpy_frame ..) | split

theorem peerVerdict_frame (o : PeerOut) (code : Nat) (s : State) :
    Frame [.energies, .gnd, .sents, .parts, .epochs, .chks, .cpy, .taint, .rcv, .wch, .slots, .ldg, .mem, .nextTag, .outs, .fresh] s (peerVerdict o code s) := by
  unfold peerVerdict
  try extract_lets
  repeat' first
    | with_reducible apply Frame.refl | ((with_reducible apply Covered.mk); decide)
    | with_reducible apply Frame.step (landCheck_frame ..) | with_reducible apply Frame.step (modCpy_frame ..) | split

theorem peerServed_frame (i : Nat) (r : GroupResult) (s : State) :
    Frame [.cpy, .wch, .ldg, .mem, .nextTag, .outs] s (peerServed i r s) := by
  unfold peerServed
  try extract_lets
  repeat' first
    | with_reducible apply Frame.refl | ((with_reducible apply Covered.mk); decide)
    | with_reducible apply Frame.step (peerDrop_frame ..) | with_reducible apply Frame.step (modCpy_frame ..)
    | with_reducible apply Frame.step (peerAnswer_frame ..) | split

theorem peerUncovered_frame (o : PeerOut) (s : State) :
    Frame [.energies, .gnd, .sents, .parts, .epochs, .chks, .cpy, .taint, .rcv, .wch, .slots, .ldg, .mem, .nextTag, .outs, .fresh] s (peerUncovered o s) := by
  unfold peerUncovered
  try dsimp only
  repeat' first
    | with_reducible apply Frame.refl | ((with_reducible apply Covered.mk); decide)
    | with_reducible apply Frame.step (peerVerdict_frame ..) | with_reducible apply Frame.step (record_frame ..) | split

theorem peerDone_frame (o : PeerOut) (dg : Nat) (s : State) :
    Frame [.energies, .gnd, .sents, .parts, .epochs, .chks, .cpy, .taint, .rcv, .wch, .slots, .ldg, .mem, .nextTag, .outs, .fresh] s (peerDone o dg s) := by
  unfold peerDone
  try extract_lets
  repeat' first
    | with_reducible apply Frame.refl | ((with_reducible apply Covered.mk); decide)
    | with_reducible apply Frame.step (sendRouted_frame ..) | with_reducible apply Frame.step (peerVerdict_frame ..)
    | with_reducible apply Frame.step (copyDisagree_frame ..) | with_reducible apply Frame.step (peerUncovered_frame ..)
    | with_reducible apply Frame.step (modCpy_frame ..) | with_reducible apply Frame.step (writeOrFold_frame ..) | split

theorem relayBypass_frame (cls cause e : Nat) (m : Msg) (s : State) :
    Frame [.gnd, .sents, .wch, .slots, .ldg, .mem, .nextTag, .outs, .fresh] s (relayBypass cls cause e m s) := by
  unfold relayBypass
  try extract_lets
  repeat' first
    | with_reducible apply Frame.refl | ((with_reducible apply Covered.mk); decide)
    | with_reducible apply Frame.step (recordBlock_frame ..) | with_reducible apply Frame.step (bypassUp_frame ..) | split

theorem requestCkpt_frame (trigger k eNew eOld : Nat) (s : State) :
    Frame [.gnd, .sents, .parts, .rcv, .wch, .slots, .ldg, .mem, .nextTag, .outs, .fresh] s (requestCkpt trigger k eNew eOld s) := by
  unfold requestCkpt
  try extract_lets
  repeat' first
    | with_reducible apply Frame.refl | ((with_reducible apply Covered.mk); decide)
    | with_reducible apply Frame.step (modPart_frame ..) | with_reducible apply Frame.step (recPart_frame ..)
    | with_reducible apply Frame.step (irqPart_frame ..) | with_reducible apply Frame.step (modRcv_frame ..) | split

theorem ckptStep_frame (k t : Nat) (s : State) :
    Frame [.gnd, .sents, .parts, .rcv, .wch, .slots, .ldg, .mem, .nextTag, .outs, .fresh] s (ckptStep k t s) := by
  unfold ckptStep
  try extract_lets
  repeat' first
    | with_reducible apply Frame.refl | ((with_reducible apply Covered.mk); decide)
    | with_reducible apply Frame.step (modPart_frame ..) | with_reducible apply Frame.step (requestCkpt_frame ..) | split

theorem ownerWrite_frame (a : Access) (addr k : Nat) {f : State → State} {l : List Comp} {s t : State} (hf : ∀ x, Frame l x (f x))
    (hc : Covered [.gnd, .sents, .wch, .slots, .bus, .ldg, .mem, .nextTag, .outs, .fresh] l) (h : Frame l s t) :
    Frame l s (ownerWrite a addr k f t) := by
  have hb : Covered [Comp.bus] l := ⟨by simpa using List.all_eq_true.mp hc.ok .bus (by decide)⟩
  unfold ownerWrite
  repeat' split
  all_goals first
    | exact h
    | exact (h.trans (hf t)).trans ((busOk_frame _).mono hb)
    | exact h.trans ((busErr_frame _).mono hb)
    | exact h.trans ((deny_frame ..).mono hc)

theorem queueRetest_frame (p : Nat) (s : State) : Frame [.scr] s (queueRetest p s) := by
  unfold queueRetest
  try extract_lets
  repeat' first
    | with_reducible apply Frame.refl | ((with_reducible apply Covered.mk); decide)
    | with_reducible apply Frame.step (modScr_frame ..) | split

theorem lowerHold_frame (h : Hold) (s : State) : Frame [.outs] s (lowerHold h s) := by
  unfold lowerHold
  try extract_lets
  repeat' first
    | with_reducible apply Frame.refl | ((with_reducible apply Covered.mk); decide)
    | with_reducible apply Frame.step (emit_frame ..) | ((with_reducible apply Frame.whenB) <;> try intro _)
    | ((with_reducible apply Frame.whenSome) <;> try intro _ _) | ((with_reducible apply Frame.forEach) <;> try intro _ _)
    | split

theorem modHold_frame (f : Hold → Hold) (s : State) : Frame [.scr] s (modHold f s) := by
  unfold modHold
  try extract_lets
  repeat' first
    | with_reducible apply Frame.refl | ((with_reducible apply Covered.mk); decide)
    | with_reducible apply Frame.step (modScr_frame ..) | split

theorem askStress_frame (p : Nat) (mv : Int) (freq awaiting : Nat) (s : State) :
    Frame [.scr, .outs] s (askStress p mv freq awaiting s) := by
  unfold askStress
  try extract_lets
  repeat' first
    | with_reducible apply Frame.refl | ((with_reducible apply Covered.mk); decide)
    | with_reducible apply Frame.step (emit_frame ..) | with_reducible apply Frame.step (modHold_frame ..) | split

theorem recommendTrim_frame (p : Nat) (s : State) :
    Frame [.nvm, .gnd, .sents, .scr, .wch, .slots, .ldg, .mem, .nextTag, .outs, .fresh] s (recommendTrim p s) := by
  unfold recommendTrim
  try extract_lets
  repeat' first
    | with_reducible apply Frame.refl | ((with_reducible apply Covered.mk); decide)
    | with_reducible apply Frame.step (modSent_frame ..) | with_reducible apply Frame.step (modScr_frame ..)
    | with_reducible apply Frame.step (craqMod_frame ..) | with_reducible apply Frame.step (emit_frame ..)
    | with_reducible apply Frame.step (record_frame ..) | split

theorem modSched_frame (p : Nat) (f : Sched → Sched) (s : State) : Frame [.sents] s (modSched p f s) := by
  unfold modSched
  try extract_lets
  repeat' first
    | with_reducible apply Frame.refl | ((with_reducible apply Covered.mk); decide)
    | with_reducible apply Frame.step (modSent_frame ..) | split

theorem advanceSched_frame (h : Hold) (s : State) : Frame [.sents] s (advanceSched h s) := by
  unfold advanceSched
  try extract_lets
  repeat' first
    | with_reducible apply Frame.refl | ((with_reducible apply Covered.mk); decide)
    | with_reducible apply Frame.step (modSched_frame ..) | split

theorem requestDone_frame (h : Hold) (s : State) : Frame [.scr] s (requestDone h s) := by
  unfold requestDone
  try extract_lets
  repeat' first
    | with_reducible apply Frame.refl | ((with_reducible apply Covered.mk); decide)
    | with_reducible apply Frame.step (modScr_frame ..) | split

theorem closeHold_frame (h : Hold) (outcome : Nat) (s : State) :
    Frame [.nvm, .gnd, .sents, .scr, .wch, .slots, .ldg, .mem, .nextTag, .outs, .fresh] s (closeHold h outcome s) := by
  unfold closeHold
  try extract_lets
  repeat' first
    | with_reducible apply Frame.refl | ((with_reducible apply Covered.mk); decide)
    | with_reducible apply Frame.step (recommendTrim_frame ..) | with_reducible apply Frame.step (advanceSched_frame ..)
    | with_reducible apply Frame.step (modScr_frame ..) | with_reducible apply Frame.step (modSched_frame ..)
    | with_reducible apply Frame.step (lowerHold_frame ..) | with_reducible apply Frame.step (requestDone_frame ..)
    | with_reducible apply Frame.step (event_frame ..) | ((with_reducible apply Frame.whenB) <;> try intro _) | split

theorem sliceResult_frame (h : Hold) (outcome cause : Nat) (s : State) :
    Frame [.energies, .gnd, .sents, .parts, .epochs, .chks, .scr, .taint, .rcv, .wch, .slots, .ldg, .mem, .nextTag, .outs, .fresh] s (sliceResult h outcome cause s) := by
  unfold sliceResult
  try extract_lets
  repeat' first
    | with_reducible apply Frame.refl | ((with_reducible apply Covered.mk); decide)
    | with_reducible apply Frame.step (gcount_frame ..) | with_reducible apply Frame.step (modScr_frame ..)
    | with_reducible apply Frame.step (pcount_frame ..) | with_reducible apply Frame.step (modSched_frame ..)
    | with_reducible apply Frame.step (landCheck_frame ..) | split

theorem endHold_frame (outcome cause : Nat) (s : State) :
    Frame [.nvm, .energies, .gnd, .sents, .parts, .epochs, .chks, .scr, .taint, .rcv, .wch, .slots, .ldg, .mem, .nextTag, .outs, .fresh] s (endHold outcome cause s) := by
  unfold endHold
  try extract_lets
  repeat' first
    | with_reducible apply Frame.refl | ((with_reducible apply Covered.mk); decide)
    | with_reducible apply Frame.step (closeHold_frame ..) | with_reducible apply Frame.step (modHold_frame ..)
    | with_reducible apply Frame.step (sliceResult_frame ..) | split

theorem startRun_frame (run : Nat) (s : State) : Frame [.scr] s (startRun run s) := by
  unfold startRun
  try extract_lets
  repeat' first
    | with_reducible apply Frame.refl | ((with_reducible apply Covered.mk); decide)
    | with_reducible apply Frame.step (modHold_frame ..) | split

theorem afterRun_frame (pass : Bool) (obs : Nat) (s : State) :
    Frame [.nvm, .energies, .gnd, .sents, .parts, .epochs, .chks, .scr, .taint, .rcv, .wch, .slots, .ldg, .mem, .nextTag, .outs, .fresh] s (afterRun pass obs s) := by
  unfold afterRun
  try extract_lets
  repeat' first
    | with_reducible apply Frame.refl | ((with_reducible apply Covered.mk); decide)
    | with_reducible apply Frame.step (modGolden_frame ..) | with_reducible apply Frame.step (goldenSuspect_frame ..)
    | with_reducible apply Frame.step (askStress_frame ..) | with_reducible apply Frame.step (emit_frame ..)
    | with_reducible apply Frame.step (modHold_frame ..) | with_reducible apply Frame.step (endHold_frame ..)
    | with_reducible apply Frame.step (startRun_frame ..) | split

theorem holdGoesOn_frame (s : State) :
    Frame [.nvm, .energies, .gnd, .sents, .parts, .epochs, .chks, .scr, .taint, .rcv, .wch, .slots, .ldg, .mem, .nextTag, .outs, .fresh] s (holdGoesOn s) := by
  unfold holdGoesOn
  try extract_lets
  repeat' first
    | with_reducible apply Frame.refl | ((with_reducible apply Covered.mk); decide)
    | with_reducible apply Frame.step (closeHold_frame ..) | with_reducible apply Frame.step (sliceResult_frame ..) | split

theorem applyStress_frame (s : State) : Frame [.scr, .outs] s (applyStress s) := by
  unfold applyStress
  try extract_lets
  repeat' first
    | with_reducible apply Frame.refl | ((with_reducible apply Covered.mk); decide)
    | with_reducible apply Frame.step (askStress_frame ..) | with_reducible apply Frame.step (emit_frame ..)
    | with_reducible apply Frame.step (modHold_frame ..) | ((with_reducible apply Frame.forEach) <;> try intro _ _) | split

theorem abortHold_frame (cause : Nat) (s : State) :
    Frame [.nvm, .energies, .gnd, .sents, .parts, .epochs, .chks, .scr, .taint, .rcv, .wch, .slots, .ldg, .mem, .nextTag, .outs, .fresh] s (abortHold cause s) := by
  unfold abortHold
  try extract_lets
  repeat' first
    | with_reducible apply Frame.refl | ((with_reducible apply Covered.mk); decide)
    | with_reducible apply Frame.step (askStress_frame ..) | with_reducible apply Frame.step (emit_frame ..)
    | with_reducible apply Frame.step (modHold_frame ..) | with_reducible apply Frame.step (endHold_frame ..)
    | ((with_reducible apply Frame.whenB) <;> try intro _) | split

theorem overBudget_frame (s : State) :
    Frame [.nvm, .energies, .gnd, .sents, .parts, .epochs, .chks, .scr, .taint, .rcv, .wch, .slots, .ldg, .mem, .nextTag, .outs, .fresh] s (overBudget s) := by
  unfold overBudget
  try extract_lets
  repeat' first
    | with_reducible apply Frame.refl | ((with_reducible apply Covered.mk); decide)
    | with_reducible apply Frame.step (abortHold_frame ..) | with_reducible apply Frame.step (endHold_frame ..) | split

theorem firstDue_frame (s : State) (p : Nat) : Frame [.sents] s (firstDue s p) := by
  unfold firstDue
  try extract_lets
  repeat' first
    | with_reducible apply Frame.refl | ((with_reducible apply Covered.mk); decide)
    | with_reducible apply Frame.step (modSched_frame ..) | split

theorem canaryTick_frame (slack : List (Nat × Nat)) (s : State) : Frame [.sents] s (canaryTick slack s) := by
  unfold canaryTick
  try dsimp only
  repeat' first
    | with_reducible apply Frame.refl | ((with_reducible apply Covered.mk); decide)
    | with_reducible apply Frame.step (modSent_frame ..) | ((with_reducible apply Frame.forEach) <;> try intro _ _) | split

theorem decideRequest_frame (r : OnDemand) (s : State) : Frame [.sents, .scr] s (decideRequest r s) := by
  unfold decideRequest
  try extract_lets
  repeat' first
    | with_reducible apply Frame.refl | ((with_reducible apply Covered.mk); decide)
    | with_reducible apply Frame.step (modScr_frame ..) | with_reducible apply Frame.step (modSched_frame ..) | split

theorem granted_frame (s : State) : Frame [.scr, .outs] s (granted s) := by
  unfold granted
  try dsimp only
  repeat' first
    | with_reducible apply Frame.refl | ((with_reducible apply Covered.mk); decide)
    | with_reducible apply Frame.step (applyStress_frame ..) | with_reducible apply Frame.step (emit_frame ..)
    | with_reducible apply Frame.step (modHold_frame ..) | with_reducible apply Frame.step (startRun_frame ..)
    | ((with_reducible apply Frame.forEach) <;> try intro _ _) | split

theorem repace_frame (p : Nat) (s : State) : Frame [.sents] s (repace p s) := by
  unfold repace
  try extract_lets
  repeat' first
    | with_reducible apply Frame.refl | ((with_reducible apply Covered.mk); decide)
    | with_reducible apply Frame.step (modSched_frame ..) | split

theorem decideRequests_frame (s : State) : Frame [.sents, .scr] s (decideRequests s) := by
  unfold decideRequests
  try extract_lets
  repeat' first
    | with_reducible apply Frame.refl | ((with_reducible apply Covered.mk); decide)
    | with_reducible apply Frame.step (decideRequest_frame ..) | with_reducible apply Frame.step (modScr_frame ..)
    | ((with_reducible apply Frame.forEach) <;> try intro _ _) | split

theorem meetHold_frame (p cause : Nat) (s : State) :
    Frame [.nvm, .energies, .gnd, .sents, .parts, .epochs, .chks, .scr, .taint, .rcv, .wch, .slots, .ldg, .mem, .nextTag, .outs, .fresh] s (meetHold p cause s) := by
  unfold meetHold
  try extract_lets
  repeat' first
    | with_reducible apply Frame.refl | ((with_reducible apply Covered.mk); decide)
    | with_reducible apply Frame.step (abortHold_frame ..) | with_reducible apply Frame.step (modHold_frame ..)
    | with_reducible apply Frame.step (endHold_frame ..) | split

theorem modCtx_frame (c : Nat) (f : Ctx → Ctx) (s : State) : Frame [.rcv] s (modCtx c f s) := by
  unfold modCtx
  try extract_lets
  repeat' first
    | with_reducible apply Frame.refl | ((with_reducible apply Covered.mk); decide)
    | with_reducible apply Frame.step (modRcv_frame ..) | split

theorem unbindPart_frame (k : Nat) (s : State) : Frame [.rcv] s (unbindPart k s) := by
  unfold unbindPart
  try extract_lets
  repeat' first
    | with_reducible apply Frame.refl | ((with_reducible apply Covered.mk); decide)
    | with_reducible apply Frame.step (modRcv_frame ..) | split

theorem nameContext_frame (p c : Nat) (s : State) :
    Frame [.gnd, .sents, .rcv, .wch, .slots, .ldg, .mem, .nextTag, .outs, .fresh] s (nameContext p c s) := by
  unfold nameContext
  try extract_lets
  repeat' first
    | with_reducible apply Frame.refl | ((with_reducible apply Covered.mk); decide)
    | with_reducible apply Frame.step (modCtx_frame ..) | with_reducible apply Frame.step (record_frame ..) | split

theorem modFence_frame (p : Nat) (f : Fence → Fence) (s : State) : Frame [.sents] s (modFence p f s) := by
  unfold modFence
  try extract_lets
  repeat' first
    | with_reducible apply Frame.refl | ((with_reducible apply Covered.mk); decide)
    | with_reducible apply Frame.step (modSent_frame ..) | split

theorem raiseGate_frame (p : Nat) (g : Gate) (s : State) :
    Frame [.gnd, .sents, .rcv, .ldg, .outs, .fresh] s (raiseGate p g s) := by
  unfold raiseGate
  try extract_lets
  repeat' first
    | with_reducible apply Frame.refl | ((with_reducible apply Covered.mk); decide)
    | with_reducible apply Frame.step (modRcv_frame ..) | with_reducible apply Frame.step (emit_frame ..)
    | with_reducible apply Frame.step (event_frame ..) | with_reducible apply Frame.step (modFence_frame ..) | split

theorem raiseFence_frame (p : Nat) (t : Teardown) (s : State) :
    Frame [.gnd, .sents, .ldg, .outs, .fresh] s (raiseFence p t s) := by
  unfold raiseFence
  try extract_lets
  repeat' first
    | with_reducible apply Frame.refl | ((with_reducible apply Covered.mk); decide)
    | with_reducible apply Frame.step (emit_frame ..) | with_reducible apply Frame.step (event_frame ..)
    | with_reducible apply Frame.step (modFence_frame ..) | split

theorem nextFence_frame (p : Nat) (s : State) : Frame [.gnd, .sents, .rcv, .ldg, .outs, .fresh] s (nextFence p s) := by
  unfold nextFence
  try extract_lets
  repeat' first
    | with_reducible apply Frame.refl | ((with_reducible apply Covered.mk); decide)
    | with_reducible apply Frame.step (raiseGate_frame ..) | with_reducible apply Frame.step (modFence_frame ..)
    | with_reducible apply Frame.step (raiseFence_frame ..) | split

theorem lowerFence_frame (p : Nat) (s : State) : Frame [.sents, .outs] s (lowerFence p s) := by
  unfold lowerFence
  try extract_lets
  repeat' first
    | with_reducible apply Frame.refl | ((with_reducible apply Covered.mk); decide)
    | with_reducible apply Frame.step (emit_frame ..) | with_reducible apply Frame.step (modFence_frame ..) | split

theorem dropGate_frame (g : Gate) (s : State) : Frame [.gnd, .sents, .rcv, .ldg, .outs, .fresh] s (dropGate g s) := by
  unfold dropGate
  try extract_lets
  repeat' first
    | with_reducible apply Frame.refl | ((with_reducible apply Covered.mk); decide)
    | with_reducible apply Frame.step (modCtx_frame ..) | with_reducible apply Frame.step (modRcv_frame ..)
    | with_reducible apply Frame.step (nextFence_frame ..) | with_reducible apply Frame.step (lowerFence_frame ..)
    | ((with_reducible apply Frame.forEach) <;> try intro _ _) | split

theorem endGate_frame (g : Gate) (s : State) :
    Frame [.gnd, .sents, .rcv, .wch, .slots, .ldg, .mem, .nextTag, .outs, .fresh] s (endGate g s) := by
  unfold endGate
  try extract_lets
  repeat' first
    | with_reducible apply Frame.refl | ((with_reducible apply Covered.mk); decide)
    | with_reducible apply Frame.step (recordBlock_frame ..) | with_reducible apply Frame.step (dropGate_frame ..) | split

theorem endGates_frame (hit : Gate → Bool) (s : State) :
    Frame [.gnd, .sents, .rcv, .wch, .slots, .ldg, .mem, .nextTag, .outs, .fresh] s (endGates hit s) := by
  unfold endGates
  try extract_lets
  repeat' first
    | with_reducible apply Frame.refl | ((with_reducible apply Covered.mk); decide)
    | with_reducible apply Frame.step (endGate_frame ..) | ((with_reducible apply Frame.forEach) <;> try intro _ _) | split

theorem sampleTile_frame (level p : Nat) (s : State) :
    Frame [.gnd, .sents, .wch, .slots, .ldg, .mem, .nextTag, .outs, .fresh] s (sampleTile level p s) := by
  unfold sampleTile
  try extract_lets
  repeat' first
    | with_reducible apply Frame.refl | ((with_reducible apply Covered.mk); decide)
    | with_reducible apply Frame.step (memWrite_frame ..) | with_reducible apply Frame.step (issueMem_frame ..)
    | with_reducible apply Frame.step (bumpFresh_frame ..) | with_reducible apply Frame.step (record_frame ..)
    | ((with_reducible apply Frame.whenB) <;> try intro _) | split

theorem holdPart_frame (k : Nat) (s : State) :
    Frame [.energies, .gnd, .sents, .parts, .epochs, .rcv, .wch, .slots, .ldg, .mem, .nextTag, .outs, .fresh] s (holdPart k s) := by
  unfold holdPart
  try extract_lets
  repeat' first
    | with_reducible apply Frame.refl | ((with_reducible apply Covered.mk); decide)
    | with_reducible apply Frame.step (dropEpoch_frame ..) | with_reducible apply Frame.step (modPart_frame ..)
    | with_reducible apply Frame.step (afterLeave_frame ..) | with_reducible apply Frame.step (setPart_frame ..) | split

theorem resetContexts_frame (ps : List Nat) (s : State) : Frame [.rcv] s (resetContexts ps s) := by
  unfold resetContexts
  try extract_lets
  repeat' first
    | with_reducible apply Frame.refl | ((with_reducible apply Covered.mk); decide)
    | with_reducible apply Frame.step (modRcv_frame ..) | split

theorem settleCtx_frame (c : Nat) (s : State) : Frame [.rcv] s (settleCtx c s) := by
  unfold settleCtx
  try extract_lets
  repeat' first
    | with_reducible apply Frame.refl | ((with_reducible apply Covered.mk); decide)
    | with_reducible apply Frame.step (modCtx_frame ..) | ((with_reducible apply Frame.whenB) <;> try intro _) | split

theorem ladderRecord_frame (level outcome cause sampled node part0 start stop : Nat) (s : State) :
    Frame [.gnd, .sents, .wch, .slots, .ldg, .mem, .nextTag, .outs, .fresh] s (ladderRecord level outcome cause sampled node part0 start stop s) := by
  unfold ladderRecord
  try extract_lets
  repeat' first
    | with_reducible apply Frame.refl | ((with_reducible apply Covered.mk); decide)
    | with_reducible apply Frame.step (recPart_frame ..) | with_reducible apply Frame.step (record_frame ..) | split

theorem finishTeardown_frame (id outcome : Nat) (s : State) :
    Frame [.energies, .gnd, .sents, .parts, .epochs, .chks, .cpy, .taint, .rcv, .wch, .slots, .ldg, .mem, .nextTag, .outs, .fresh] s (finishTeardown id outcome s) := by
  unfold finishTeardown
  try extract_lets
  repeat' first
    | with_reducible apply Frame.refl | ((with_reducible apply Covered.mk); decide)
    | with_reducible apply Frame.step (pcount_frame ..) | with_reducible apply Frame.step (modRcv_frame ..)
    | with_reducible apply Frame.step (settleCtx_frame ..) | with_reducible apply Frame.step (ladderRecord_frame ..)
    | with_reducible apply Frame.step (fenceCaptures_frame ..) | ((with_reducible apply Frame.forEach) <;> try intro _ _)
    | split

theorem checkTeardown_frame (id : Nat) (s : State) :
    Frame [.energies, .gnd, .sents, .parts, .epochs, .chks, .cpy, .taint, .rcv, .wch, .slots, .ldg, .mem, .nextTag, .outs, .fresh] s (checkTeardown id s) := by
  unfold checkTeardown
  try extract_lets
  repeat' first
    | with_reducible apply Frame.refl | ((with_reducible apply Covered.mk); decide)
    | with_reducible apply Frame.step (finishTeardown_frame ..) | split

theorem modTeardown_frame (id : Nat) (f : Teardown → Teardown) (s : State) : Frame [.rcv] s (modTeardown id f s) := by
  unfold modTeardown
  try extract_lets
  repeat' first
    | with_reducible apply Frame.refl | ((with_reducible apply Covered.mk); decide)
    | with_reducible apply Frame.step (modRcv_frame ..) | split

theorem portDecided_frame (p id : Nat) (escalated : Bool) (s : State) :
    Frame [.energies, .gnd, .sents, .parts, .epochs, .chks, .cpy, .taint, .rcv, .wch, .slots, .ldg, .mem, .nextTag, .outs, .fresh] s (portDecided p id escalated s) := by
  unfold portDecided
  try extract_lets
  repeat' first
    | with_reducible apply Frame.refl | ((with_reducible apply Covered.mk); decide)
    | with_reducible apply Frame.step (checkTeardown_frame ..) | with_reducible apply Frame.step (modTeardown_frame ..)
    | split

theorem releaseTile_frame (level p : Nat) (s : State) :
    Frame [.energies, .gnd, .sents, .parts, .epochs, .chks, .cpy, .taint, .rcv, .wch, .slots, .ldg, .mem, .nextTag, .outs, .fresh] s (releaseTile level p s) := by
  unfold releaseTile
  try extract_lets
  repeat' first
    | with_reducible apply Frame.refl | ((with_reducible apply Covered.mk); decide)
    | with_reducible apply Frame.step (modSent_frame ..) | with_reducible apply Frame.step (portDecided_frame ..)
    | with_reducible apply Frame.step (nextFence_frame ..) | with_reducible apply Frame.step (settleCtx_frame ..)
    | with_reducible apply Frame.step (event_frame ..) | with_reducible apply Frame.step (lowerFence_frame ..)
    | with_reducible apply Frame.step (modFence_frame ..) | ((with_reducible apply Frame.whenB) <;> try intro _)
    | ((with_reducible apply Frame.forEach) <;> try intro _ _) | split

theorem modLadder_frame (id : Nat) (f : Ladder → Ladder) (s : State) : Frame [.rcv] s (modLadder id f s) := by
  unfold modLadder
  try extract_lets
  repeat' first
    | with_reducible apply Frame.refl | ((with_reducible apply Covered.mk); decide)
    | with_reducible apply Frame.step (modRcv_frame ..) | split

theorem raiseReset_frame (x : Ladder) (s : State) : Frame [.sents, .rcv, .outs] s (raiseReset x s) := by
  unfold raiseReset
  try extract_lets
  repeat' first
    | with_reducible apply Frame.refl | ((with_reducible apply Covered.mk); decide)
    | with_reducible apply Frame.step (modSent_frame ..) | with_reducible apply Frame.step (emit_frame ..)
    | with_reducible apply Frame.step (modLadder_frame ..) | split

theorem raisePm_frame (x : Ladder) (s : State) : Frame [.rcv, .outs] s (raisePm x s) := by
  unfold raisePm
  try extract_lets
  repeat' first
    | with_reducible apply Frame.refl | ((with_reducible apply Covered.mk); decide)
    | with_reducible apply Frame.step (modRcv_frame ..) | with_reducible apply Frame.step (emit_frame ..)
    | with_reducible apply Frame.step (modLadder_frame ..) | split

theorem nextPm_frame (s : State) : Frame [.rcv, .outs] s (nextPm s) := by
  unfold nextPm
  try extract_lets
  repeat' first
    | with_reducible apply Frame.refl | ((with_reducible apply Covered.mk); decide)
    | with_reducible apply Frame.step (raisePm_frame ..) | split

theorem closeLevel_frame (outcome : Nat) (x : Ladder) (s : State) :
    Frame [.gnd, .sents, .rcv, .wch, .slots, .ldg, .mem, .nextTag, .outs, .fresh] s (closeLevel outcome x s) := by
  unfold closeLevel
  try extract_lets
  repeat' first
    | with_reducible apply Frame.refl | ((with_reducible apply Covered.mk); decide)
    | with_reducible apply Frame.step (modRcv_frame ..) | with_reducible apply Frame.step (ladderRecord_frame ..) | split

theorem dropReset_frame (p : Nat) (s : State) : Frame [.sents, .outs] s (dropReset p s) := by
  unfold dropReset
  try extract_lets
  repeat' first
    | with_reducible apply Frame.refl | ((with_reducible apply Covered.mk); decide)
    | with_reducible apply Frame.step (modSent_frame ..) | with_reducible apply Frame.step (emit_frame ..) | split

theorem lowerFabric_frame (s : State) : Frame [.rcv, .outs] s (lowerFabric s) := by
  unfold lowerFabric
  try extract_lets
  repeat' first
    | with_reducible apply Frame.refl | ((with_reducible apply Covered.mk); decide)
    | with_reducible apply Frame.step (modRcv_frame ..) | with_reducible apply Frame.step (emit_frame ..) | split

theorem raiseFabric_frame (t : Teardown) (s : State) : Frame [.rcv, .outs] s (raiseFabric t s) := by
  unfold raiseFabric
  try extract_lets
  repeat' first
    | with_reducible apply Frame.refl | ((with_reducible apply Covered.mk); decide)
    | with_reducible apply Frame.step (modRcv_frame ..) | with_reducible apply Frame.step (emit_frame ..) | split

theorem nextFabric_frame (s : State) : Frame [.rcv, .outs] s (nextFabric s) := by
  unfold nextFabric
  try extract_lets
  repeat' first
    | with_reducible apply Frame.refl | ((with_reducible apply Covered.mk); decide)
    | with_reducible apply Frame.step (raiseFabric_frame ..) | with_reducible apply Frame.step (modRcv_frame ..) | split

theorem releaseFabric_frame (parts0 : List Nat) (s : State) :
    Frame [.energies, .gnd, .sents, .parts, .epochs, .chks, .cpy, .taint, .rcv, .wch, .slots, .ldg, .mem, .nextTag, .outs, .fresh] s (releaseFabric parts0 s) := by
  unfold releaseFabric
  try extract_lets
  repeat' first
    | with_reducible apply Frame.refl | ((with_reducible apply Covered.mk); decide)
    | with_reducible apply Frame.step (lowerFabric_frame ..) | with_reducible apply Frame.step (modRcv_frame ..)
    | with_reducible apply Frame.step (nextFabric_frame ..) | with_reducible apply Frame.step (checkTeardown_frame ..)
    | with_reducible apply Frame.step (modTeardown_frame ..) | ((with_reducible apply Frame.whenB) <;> try intro _)
    | ((with_reducible apply Frame.forEach) <;> try intro _ _) | split

theorem finishLevel_frame (id : Nat) (s : State) :
    Frame [.energies, .gnd, .sents, .parts, .epochs, .chks, .cpy, .taint, .rcv, .wch, .slots, .ldg, .mem, .nextTag, .outs, .fresh] s (finishLevel id s) := by
  unfold finishLevel
  try extract_lets
  repeat' first
    | with_reducible apply Frame.refl | ((with_reducible apply Covered.mk); decide)
    | with_reducible apply Frame.step (nextPm_frame ..) | with_reducible apply Frame.step (closeLevel_frame ..)
    | with_reducible apply Frame.step (releaseTile_frame ..) | with_reducible apply Frame.step (dropReset_frame ..)
    | with_reducible apply Frame.step (releaseFabric_frame ..) | ((with_reducible apply Frame.whenB) <;> try intro _)
    | ((with_reducible apply Frame.forEach) <;> try intro _ _) | split

theorem dropPm_frame (id : Nat) (s : State) : Frame [.rcv, .outs] s (dropPm id s) := by
  unfold dropPm
  try extract_lets
  repeat' first
    | with_reducible apply Frame.refl | ((with_reducible apply Covered.mk); decide)
    | with_reducible apply Frame.step (modRcv_frame ..) | with_reducible apply Frame.step (emit_frame ..) | split

theorem startTeardown_frame (whole : Bool) (c : Nat) (ps : List Nat) (cause node : Nat) (fromFence : Bool) (s : State) :
    Frame [.energies, .gnd, .sents, .parts, .epochs, .rcv, .wch, .slots, .ldg, .mem, .nextTag, .outs, .fresh] s (startTeardown whole c ps cause node fromFence s) := by
  unfold startTeardown
  try extract_lets
  repeat' first
    | with_reducible apply Frame.refl | ((with_reducible apply Covered.mk); decide)
    | with_reducible apply Frame.step (raiseFabric_frame ..) | with_reducible apply Frame.step (modCtx_frame ..)
    | with_reducible apply Frame.step (alarmPart_frame ..) | with_reducible apply Frame.step (modRcv_frame ..)
    | with_reducible apply Frame.step (endGates_frame ..) | with_reducible apply Frame.step (ladderRecord_frame ..)
    | with_reducible apply Frame.step (raiseFence_frame ..) | ((with_reducible apply Frame.forEach) <;> try intro _ _)
    | split

theorem teardownPart_frame (k cause node : Nat) (s : State) :
    Frame [.energies, .gnd, .sents, .parts, .epochs, .rcv, .wch, .slots, .ldg, .mem, .nextTag, .outs, .fresh] s (teardownPart k cause node s) := by
  unfold teardownPart
  try extract_lets
  repeat' first
    | with_reducible apply Frame.refl | ((with_reducible apply Covered.mk); decide)
    | with_reducible apply Frame.step (startTeardown_frame ..) | split

theorem startL5_frame (cause : Nat) (fromReg : Bool) (s : State) :
    Frame [.gnd, .sents, .rcv, .wch, .slots, .ldg, .mem, .nextTag, .outs, .fresh] s (startL5 cause fromReg s) := by
  unfold startL5
  try extract_lets
  repeat' first
    | with_reducible apply Frame.refl | ((with_reducible apply Covered.mk); decide)
    | with_reducible apply Frame.step (sealRec_frame ..) | with_reducible apply Frame.step (modRcv_frame ..)
    | with_reducible apply Frame.step (ladderRecord_frame ..) | split

theorem resetTile_frame (level p : Nat) (s : State) :
    Frame [.nvm, .energies, .gnd, .sents, .parts, .epochs, .chks, .cpy, .scr, .taint, .rcv, .wch, .slots, .ldg, .mem, .nextTag, .outs, .fresh] s (resetTile level p s) := by
  unfold resetTile
  try extract_lets
  repeat' first
    | with_reducible apply Frame.refl | ((with_reducible apply Covered.mk); decide)
    | with_reducible apply Frame.step (modSent_frame ..) | with_reducible apply Frame.step (endGates_frame ..)
    | with_reducible apply Frame.step (event_frame ..) | with_reducible apply Frame.step (fenceCaptures_frame ..)
    | with_reducible apply Frame.step (meetHold_frame ..) | split

theorem beginLevel_frame (level port k cause : Nat) (fromReg : Bool) (s : State) :
    Frame [.nvm, .energies, .gnd, .sents, .parts, .epochs, .chks, .cpy, .scr, .taint, .rcv, .wch, .slots, .ldg, .mem, .nextTag, .outs, .fresh] s (beginLevel level port k cause fromReg s) := by
  unfold beginLevel
  try extract_lets
  repeat' first
    | with_reducible apply Frame.refl | ((with_reducible apply Covered.mk); decide)
    | with_reducible apply Frame.step (resetContexts_frame ..) | with_reducible apply Frame.step (alarmPart_frame ..)
    | with_reducible apply Frame.step (modRcv_frame ..) | with_reducible apply Frame.step (resetTile_frame ..)
    | with_reducible apply Frame.step (raisePm_frame ..) | with_reducible apply Frame.step (dropPm_frame ..)
    | with_reducible apply Frame.step (sampleTile_frame ..) | with_reducible apply Frame.step (raiseReset_frame ..)
    | ((with_reducible apply Frame.forEach) <;> try intro _ _) | ((with_reducible apply Frame.foldl) <;> try intro _ _)
    | split

theorem startLevel_frame (level port k cause : Nat) (fromReg : Bool) (s : State) :
    Frame [.nvm, .energies, .gnd, .sents, .parts, .epochs, .chks, .cpy, .scr, .taint, .rcv, .wch, .slots, .ldg, .mem, .nextTag, .outs, .fresh] s (startLevel level port k cause fromReg s) := by
  unfold startLevel
  try extract_lets
  repeat' first
    | with_reducible apply Frame.refl | ((with_reducible apply Covered.mk); decide)
    | with_reducible apply Frame.step (modRcv_frame ..) | with_reducible apply Frame.step (beginLevel_frame ..)
    | with_reducible apply Frame.step (ladderRecord_frame ..) | with_reducible apply Frame.step (startL5_frame ..) | split

theorem escalate_frame (level port k cause : Nat) (s : State) :
    Frame [.nvm, .energies, .gnd, .sents, .parts, .epochs, .chks, .cpy, .scr, .taint, .rcv, .wch, .slots, .ldg, .mem, .nextTag, .outs, .fresh] s (escalate level port k cause s) := by
  unfold escalate
  try extract_lets
  repeat' first
    | with_reducible apply Frame.refl | ((with_reducible apply Covered.mk); decide)
    | with_reducible apply Frame.step (finishTeardown_frame ..) | with_reducible apply Frame.step (startLevel_frame ..)
    | with_reducible apply Frame.step (reportPfm_frame ..) | with_reducible apply Frame.step (record_frame ..)
    | with_reducible apply Frame.step (holdPart_frame ..) | ((with_reducible apply Frame.forEach) <;> try intro _ _) | split

theorem exhaust_frame (x : Ladder) (s : State) :
    Frame [.energies, .gnd, .sents, .parts, .epochs, .chks, .cpy, .taint, .rcv, .wch, .slots, .ldg, .mem, .nextTag, .outs, .fresh] s (exhaust x s) := by
  unfold exhaust
  try extract_lets
  repeat' first
    | with_reducible apply Frame.refl | ((with_reducible apply Covered.mk); decide)
    | with_reducible apply Frame.step (finishTeardown_frame ..) | with_reducible apply Frame.step (nextPm_frame ..)
    | with_reducible apply Frame.step (closeLevel_frame ..) | with_reducible apply Frame.step (reportPfm_frame ..)
    | with_reducible apply Frame.step (dropPm_frame ..) | with_reducible apply Frame.step (record_frame ..)
    | with_reducible apply Frame.step (holdPart_frame ..) | ((with_reducible apply Frame.forEach) <;> try intro _ _) | split

theorem failLevel_frame (x : Ladder) (s : State) :
    Frame [.nvm, .energies, .gnd, .sents, .parts, .epochs, .chks, .cpy, .scr, .taint, .rcv, .wch, .slots, .ldg, .mem, .nextTag, .outs, .fresh] s (failLevel x s) := by
  unfold failLevel
  try extract_lets
  repeat' first
    | with_reducible apply Frame.refl | ((with_reducible apply Covered.mk); decide)
    | with_reducible apply Frame.step (nextPm_frame ..) | with_reducible apply Frame.step (startLevel_frame ..)
    | with_reducible apply Frame.step (dropPm_frame ..) | with_reducible apply Frame.step (exhaust_frame ..) | split

theorem teardownTile_frame (p cause : Nat) (s : State) :
    Frame [.energies, .gnd, .sents, .parts, .epochs, .rcv, .wch, .slots, .ldg, .mem, .nextTag, .outs, .fresh] s (teardownTile p cause s) := by
  unfold teardownTile
  try extract_lets
  repeat' first
    | with_reducible apply Frame.refl | ((with_reducible apply Covered.mk); decide)
    | with_reducible apply Frame.step (startTeardown_frame ..) | ((with_reducible apply Frame.forEach) <;> try intro _ _)
    | split

theorem dropXport_frame (rx : Bool) (coll step hostLink seq : Nat) (s : State) :
    Frame [.dgt] s (dropXport rx coll step hostLink seq s) := by
  unfold dropXport
  try extract_lets
  repeat' first
    | with_reducible apply Frame.refl | ((with_reducible apply Covered.mk); decide)
    | with_reducible apply Frame.step (modDgt_frame ..) | split

theorem judgeXport_frame (coll step hostLink seq : Nat) (s : State) :
    Frame [.energies, .gnd, .sents, .parts, .epochs, .chks, .dgt, .taint, .rcv, .wch, .slots, .ldg, .mem, .nextTag, .outs, .fresh] s (judgeXport coll step hostLink seq s) := by
  unfold judgeXport
  try extract_lets
  repeat' first
    | with_reducible apply Frame.refl | ((with_reducible apply Covered.mk); decide)
    | with_reducible apply Frame.step (recordBlock_frame ..) | with_reducible apply Frame.step (landCheck_frame ..)
    | with_reducible apply Frame.step (dropXport_frame ..) | with_reducible apply Frame.step (modDgt_frame ..) | split

theorem closeXport_frame (rx : Bool) (k e : Nat) (h : FtHeader) (dg n : Nat) (bad : Bool) (s : State) :
    Frame [.energies, .gnd, .sents, .parts, .epochs, .chks, .dgt, .taint, .rcv, .wch, .slots, .ldg, .mem, .nextTag, .outs, .fresh] s (closeXport rx k e h dg n bad s) := by
  unfold closeXport
  try extract_lets
  repeat' first
    | with_reducible apply Frame.refl | ((with_reducible apply Covered.mk); decide)
    | with_reducible apply Frame.step (dropXport_frame ..) | with_reducible apply Frame.step (judgeXport_frame ..)
    | with_reducible apply Frame.step (modDgt_frame ..) | ((with_reducible apply Frame.whenB) <;> try intro _) | split

theorem modTally_frame (e coll step seg : Nat) (f : Tally → Tally) (s : State) :
    Frame [.dgt] s (modTally e coll step seg f s) := by
  unfold modTally
  try extract_lets
  repeat' first
    | with_reducible apply Frame.refl | ((with_reducible apply Covered.mk); decide)
    | with_reducible apply Frame.step (modDgt_frame ..) | split

theorem tallyVerdict_frame (x : Tally) (c code : Nat) (s : State) :
    Frame [.energies, .gnd, .sents, .parts, .epochs, .chks, .dgt, .taint, .rcv, .wch, .slots, .ldg, .mem, .nextTag, .outs, .fresh] s (tallyVerdict x c code s) := by
  unfold tallyVerdict
  try extract_lets
  repeat' first
    | with_reducible apply Frame.refl | ((with_reducible apply Covered.mk); decide)
    | with_reducible apply Frame.step (modTally_frame ..) | with_reducible apply Frame.step (landCheck_frame ..) | split

theorem modExp_frame (e coll step first : Nat) (f : ExpAgree → ExpAgree) (s : State) :
    Frame [.dgt] s (modExp e coll step first f s) := by
  unfold modExp
  try extract_lets
  repeat' first
    | with_reducible apply Frame.refl | ((with_reducible apply Covered.mk); decide)
    | with_reducible apply Frame.step (modDgt_frame ..) | split

theorem forwardExp_frame (x : ExpAgree) (s : State) : Frame [.dgt, .wch, .ldg, .mem, .nextTag, .outs] s (forwardExp x s) := by
  unfold forwardExp
  try extract_lets
  repeat' first
    | with_reducible apply Frame.refl | ((with_reducible apply Covered.mk); decide)
    | with_reducible apply Frame.step (sendUp_frame ..) | with_reducible apply Frame.step (sendDown_frame ..)
    | with_reducible apply Frame.step (modExp_frame ..) | split

theorem takeProposal_frame (own : Bool) (l : Nat) (p : ExpMsg) (s : State) :
    Frame [.gnd, .sents, .dgt, .wch, .slots, .ldg, .mem, .nextTag, .outs, .fresh] s (takeProposal own l p s) := by
  unfold takeProposal
  try dsimp only
  repeat' first
    | with_reducible apply Frame.refl | ((with_reducible apply Covered.mk); decide)
    | with_reducible apply Frame.step (relayBypass_frame ..) | with_reducible apply Frame.step (forwardExp_frame ..)
    | with_reducible apply Frame.step (modExp_frame ..) | with_reducible apply Frame.step (modDgt_frame ..) | split

theorem tallyFallback_frame (cause k coll step sat : Nat) (s : State) :
    Frame [.gnd, .sents, .wch, .slots, .ldg, .mem, .nextTag, .outs, .fresh] s (tallyFallback cause k coll step sat s) := by
  unfold tallyFallback
  try extract_lets
  repeat' first
    | with_reducible apply Frame.refl | ((with_reducible apply Covered.mk); decide)
    | with_reducible apply Frame.step (recPart_frame ..) | split

theorem tallyFail_frame (x : Tally) (c cause : Nat) (s : State) :
    Frame [.energies, .gnd, .sents, .parts, .epochs, .chks, .dgt, .taint, .rcv, .wch, .slots, .ldg, .mem, .nextTag, .outs, .fresh] s (tallyFail x c cause s) := by
  unfold tallyFail
  try extract_lets
  repeat' first
    | with_reducible apply Frame.refl | ((with_reducible apply Covered.mk); decide)
    | with_reducible apply Frame.step (recordBlock_frame ..) | with_reducible apply Frame.step (tallyVerdict_frame ..)
    | with_reducible apply Frame.step (modPart_frame ..) | with_reducible apply Frame.step (originate_frame ..)
    | with_reducible apply Frame.step (modDgt_frame ..) | split

theorem judgeTally_frame (e coll step seg : Nat) (s : State) :
    Frame [.energies, .gnd, .sents, .parts, .epochs, .chks, .dgt, .taint, .rcv, .wch, .slots, .ldg, .mem, .nextTag, .outs, .fresh] s (judgeTally e coll step seg s) := by
  unfold judgeTally
  try extract_lets
  repeat' first
    | with_reducible apply Frame.refl | ((with_reducible apply Covered.mk); decide)
    | with_reducible apply Frame.step (recordBlock_frame ..) | with_reducible apply Frame.step (tallyVerdict_frame ..)
    | with_reducible apply Frame.step (modTally_frame ..) | with_reducible apply Frame.step (tallyFallback_frame ..)
    | with_reducible apply Frame.step (tallyFail_frame ..) | with_reducible apply Frame.step (modDgt_frame ..) | split

theorem sendTotal_frame (e coll step seg : Nat) (s : State) :
    Frame [.energies, .gnd, .sents, .parts, .epochs, .chks, .dgt, .taint, .rcv, .wch, .slots, .ldg, .mem, .nextTag, .outs, .fresh] s (sendTotal e coll step seg s) := by
  unfold sendTotal
  try extract_lets
  repeat' first
    | with_reducible apply Frame.refl | ((with_reducible apply Covered.mk); decide)
    | with_reducible apply Frame.step (modTally_frame ..) | with_reducible apply Frame.step (judgeTally_frame ..)
    | with_reducible apply Frame.step (sendDown_frame ..) | split

theorem lateContrib_frame (e coll step seg dg cnt sat : Nat) (s : State) :
    Frame [.energies, .gnd, .sents, .parts, .epochs, .chks, .dgt, .taint, .rcv, .wch, .slots, .ldg, .mem, .nextTag, .outs, .fresh] s (lateContrib e coll step seg dg cnt sat s) := by
  unfold lateContrib
  try extract_lets
  repeat' first
    | with_reducible apply Frame.refl | ((with_reducible apply Covered.mk); decide)
    | with_reducible apply Frame.step (modTally_frame ..) | with_reducible apply Frame.step (sendTotal_frame ..) | split

theorem needTally_frame (e coll step seg : Nat) (s : State) : Frame [.dgt] s (needTally e coll step seg s) := by
  unfold needTally
  try extract_lets
  repeat' first
    | with_reducible apply Frame.refl | ((with_reducible apply Covered.mk); decide)
    | with_reducible apply Frame.step (modDgt_frame ..) | split

theorem takeTotalSeg_frame (t : TallyMsg) (p : Nat × Nat) (s : State) :
    Frame [.energies, .gnd, .sents, .parts, .epochs, .chks, .dgt, .taint, .rcv, .wch, .slots, .ldg, .mem, .nextTag, .outs, .fresh] s (takeTotalSeg t p s) := by
  unfold takeTotalSeg
  try extract_lets
  repeat' first
    | with_reducible apply Frame.refl | ((with_reducible apply Covered.mk); decide)
    | with_reducible apply Frame.step (modTally_frame ..) | with_reducible apply Frame.step (judgeTally_frame ..)
    | with_reducible apply Frame.step (needTally_frame ..) | split

theorem forwardTally_frame (e coll step seg : Nat) (s : State) :
    Frame [.energies, .gnd, .sents, .parts, .epochs, .chks, .dgt, .taint, .rcv, .wch, .slots, .ldg, .mem, .nextTag, .outs, .fresh] s (forwardTally e coll step seg s) := by
  unfold forwardTally
  try extract_lets
  repeat' first
    | with_reducible apply Frame.refl | ((with_reducible apply Covered.mk); decide)
    | with_reducible apply Frame.step (modTally_frame ..) | with_reducible apply Frame.step (sendUp_frame ..)
    | with_reducible apply Frame.step (sendTotal_frame ..) | split

theorem takeUpSeg_frame (l : Nat) (bypass : Bool) (t : TallyMsg) (i dg : Nat) (s : State) :
    Frame [.energies, .gnd, .sents, .parts, .epochs, .chks, .dgt, .taint, .rcv, .wch, .slots, .ldg, .mem, .nextTag, .outs, .fresh] s (takeUpSeg l bypass t i dg s) := by
  unfold takeUpSeg
  try dsimp only
  repeat' first
    | with_reducible apply Frame.refl | ((with_reducible apply Covered.mk); decide)
    | with_reducible apply Frame.step (forwardTally_frame ..) | with_reducible apply Frame.step (relayBypass_frame ..)
    | with_reducible apply Frame.step (modTally_frame ..) | with_reducible apply Frame.step (lateContrib_frame ..)
    | with_reducible apply Frame.step (needTally_frame ..) | split

theorem takeTallyUp_frame (l : Nat) (bypass : Bool) (t : TallyMsg) (s : State) :
    Frame [.energies, .gnd, .sents, .parts, .epochs, .chks, .dgt, .taint, .rcv, .wch, .slots, .ldg, .mem, .nextTag, .outs, .fresh] s (takeTallyUp l bypass t s) := by
  unfold takeTallyUp
  try extract_lets
  repeat' first
    | with_reducible apply Frame.refl | ((with_reducible apply Covered.mk); decide)
    | with_reducible apply Frame.step (relayBypass_frame ..) | with_reducible apply Frame.step (takeUpSeg_frame ..)
    | ((with_reducible apply Frame.forEach) <;> try intro _ _) | split

theorem takeAgreed_frame (p : ExpMsg) (s : State) :
    Frame [.gnd, .sents, .dgt, .wch, .slots, .ldg, .mem, .nextTag, .outs, .fresh] s (takeAgreed p s) := by
  unfold takeAgreed
  try extract_lets
  repeat' first
    | with_reducible apply Frame.refl | ((with_reducible apply Covered.mk); decide)
    | with_reducible apply Frame.step (tallyFallback_frame ..) | with_reducible apply Frame.step (sendDown_frame ..)
    | with_reducible apply Frame.step (modDgt_frame ..) | ((with_reducible apply Frame.whenB) <;> try intro _) | split

theorem closeContrib_frame (k e coll step seg nContrib dg : Nat) (s : State) :
    Frame [.dgt, .fresh] s (closeContrib k e coll step seg nContrib dg s) := by
  unfold closeContrib
  try extract_lets
  repeat' first
    | with_reducible apply Frame.refl | ((with_reducible apply Covered.mk); decide)
    | with_reducible apply Frame.step (modTally_frame ..) | with_reducible apply Frame.step (bumpFresh_frame ..) | split

theorem takeTallyTotal_frame (t : TallyMsg) (s : State) :
    Frame [.energies, .gnd, .sents, .parts, .epochs, .chks, .dgt, .taint, .rcv, .wch, .slots, .ldg, .mem, .nextTag, .outs, .fresh] s (takeTallyTotal t s) := by
  unfold takeTallyTotal
  try extract_lets
  repeat' first
    | with_reducible apply Frame.refl | ((with_reducible apply Covered.mk); decide)
    | with_reducible apply Frame.step (takeTotalSeg_frame ..) | with_reducible apply Frame.step (sendDown_frame ..)
    | ((with_reducible apply Frame.forEach) <;> try intro _ _) | split

theorem closeSum_frame (k e coll step seg nContrib dg : Nat) (bad : Bool) (s : State) :
    Frame [.energies, .gnd, .sents, .parts, .epochs, .chks, .dgt, .taint, .rcv, .wch, .slots, .ldg, .mem, .nextTag, .outs, .fresh] s (closeSum k e coll step seg nContrib dg bad s) := by
  unfold closeSum
  try extract_lets
  repeat' first
    | with_reducible apply Frame.refl | ((with_reducible apply Covered.mk); decide)
    | with_reducible apply Frame.step (modTally_frame ..) | with_reducible apply Frame.step (judgeTally_frame ..)
    | with_reducible apply Frame.step (landCheck_frame ..) | split

theorem takeXport_frame (m : XportMsg) (s : State) :
    Frame [.energies, .gnd, .sents, .parts, .epochs, .chks, .dgt, .taint, .rcv, .wch, .slots, .ldg, .mem, .nextTag, .outs, .fresh] s (takeXport m s) := by
  unfold takeXport
  try extract_lets
  repeat' first
    | with_reducible apply Frame.refl | ((with_reducible apply Covered.mk); decide)
    | with_reducible apply Frame.step (judgeXport_frame ..) | with_reducible apply Frame.step (modDgt_frame ..) | split

theorem checkAgreement_frame (k e coll step : Nat) (s : State) :
    Frame [.gnd, .sents, .wch, .slots, .ldg, .mem, .nextTag, .outs, .fresh] s (checkAgreement k e coll step s) := by
  unfold checkAgreement
  try extract_lets
  repeat' first
    | with_reducible apply Frame.refl | ((with_reducible apply Covered.mk); decide)
    | with_reducible apply Frame.step (tallyFallback_frame ..) | split

theorem tallyTick_frame (s : State) : Frame [.dgt] s (tallyTick s) := by
  unfold tallyTick
  try extract_lets
  repeat' first
    | with_reducible apply Frame.refl | ((with_reducible apply Covered.mk); decide)
    | with_reducible apply Frame.step (modDgt_frame ..) | split

theorem publishTally_frame (s : State) :
    Frame [.energies, .gnd, .sents, .parts, .epochs, .chks, .dgt, .taint, .rcv, .wch, .slots, .ldg, .mem, .nextTag, .outs, .fresh] s (publishTally s) := by
  unfold publishTally
  try extract_lets
  repeat' first
    | with_reducible apply Frame.refl | ((with_reducible apply Covered.mk); decide)
    | with_reducible apply Frame.step (forwardTally_frame ..) | with_reducible apply Frame.step (relayBypass_frame ..)
    | with_reducible apply Frame.step (modTally_frame ..) | with_reducible apply Frame.step (lateContrib_frame ..)
    | ((with_reducible apply Frame.forEach) <;> try intro _ _) | split

theorem publishXport_frame (s : State) : Frame [.dgt, .wch, .ldg, .mem, .nextTag, .outs] s (publishXport s) := by
  unfold publishXport
  try extract_lets
  repeat' first
    | with_reducible apply Frame.refl | ((with_reducible apply Covered.mk); decide)
    | with_reducible apply Frame.step (sendRouted_frame ..) | with_reducible apply Frame.step (dropXport_frame ..)
    | ((with_reducible apply Frame.whenB) <;> try intro _) | ((with_reducible apply Frame.forEach) <;> try intro _ _) | split

theorem replVerdict_frame (r : Repl) (n code : Nat) (s : State) :
    Frame [.energies, .gnd, .sents, .parts, .epochs, .chks, .taint, .rcv, .wch, .slots, .ldg, .mem, .nextTag, .outs, .fresh] s (replVerdict r n code s) := by
  unfold replVerdict
  try extract_lets
  repeat' first
    | with_reducible apply Frame.refl | ((with_reducible apply Covered.mk); decide)
    | with_reducible apply Frame.step (landCheck_frame ..) | split

theorem landWaits_frame (r : Repl) (s : State) :
    Frame [.energies, .gnd, .sents, .parts, .epochs, .chks, .taint, .rcv, .wch, .slots, .ldg, .mem, .nextTag, .outs, .fresh] s (landWaits r s) := by
  unfold landWaits
  try extract_lets
  repeat' first
    | with_reducible apply Frame.refl | ((with_reducible apply Covered.mk); decide)
    | with_reducible apply Frame.step (replVerdict_frame ..) | ((with_reducible apply Frame.forEach) <;> try intro _ _)
    | split

theorem modRepl_frame (p : Repl → Bool) (f : Repl → Repl) (s : State) : Frame [.dgt] s (modRepl p f s) := by
  unfold modRepl
  try extract_lets
  repeat' first
    | with_reducible apply Frame.refl | ((with_reducible apply Covered.mk); decide)
    | with_reducible apply Frame.step (modDgt_frame ..) | split

theorem takeResult_frame (v : ShardMsg) (s : State) :
    Frame [.energies, .gnd, .sents, .parts, .epochs, .chks, .dgt, .taint, .rcv, .wch, .slots, .ldg, .mem, .nextTag, .outs, .fresh] s (takeResult v s) := by
  unfold takeResult
  try extract_lets
  repeat' first
    | with_reducible apply Frame.refl | ((with_reducible apply Covered.mk); decide)
    | with_reducible apply Frame.step (landWaits_frame ..) | with_reducible apply Frame.step (modRepl_frame ..)
    | with_reducible apply Frame.step (modDgt_frame ..) | ((with_reducible apply Frame.forEach) <;> try intro _ _) | split

theorem closeVote_frame (v : Vote) (r : Repl) (s : State) :
    Frame [.energies, .gnd, .sents, .parts, .epochs, .chks, .dgt, .taint, .rcv, .wch, .slots, .ldg, .mem, .nextTag, .outs, .fresh] s (closeVote v r s) := by
  unfold closeVote
  try extract_lets
  repeat' first
    | with_reducible apply Frame.refl | ((with_reducible apply Covered.mk); decide)
    | with_reducible apply Frame.step (sendRouted_frame ..) | with_reducible apply Frame.step (recordBlock_frame ..)
    | with_reducible apply Frame.step (takeResult_frame ..) | with_reducible apply Frame.step (modRepl_frame ..)
    | with_reducible apply Frame.step (originate_frame ..) | with_reducible apply Frame.step (modDgt_frame ..)
    | ((with_reducible apply Frame.whenB) <;> try intro _) | ((with_reducible apply Frame.forEach) <;> try intro _ _) | split

theorem takeShard_frame (v : ShardMsg) (s : State) :
    Frame [.energies, .gnd, .sents, .parts, .epochs, .chks, .dgt, .taint, .rcv, .wch, .slots, .ldg, .mem, .nextTag, .outs, .fresh] s (takeShard v s) := by
  unfold takeShard
  try dsimp only
  repeat' first
    | with_reducible apply Frame.refl | ((with_reducible apply Covered.mk); decide)
    | with_reducible apply Frame.step (closeVote_frame ..) | with_reducible apply Frame.step (modDgt_frame ..) | split

theorem publishShards_frame (s : State) :
    Frame [.energies, .gnd, .sents, .parts, .epochs, .chks, .dgt, .taint, .rcv, .wch, .slots, .ldg, .mem, .nextTag, .outs, .fresh] s (publishShards s) := by
  unfold publishShards
  try extract_lets
  repeat' first
    | with_reducible apply Frame.refl | ((with_reducible apply Covered.mk); decide)
    | with_reducible apply Frame.step (sendRouted_frame ..) | with_reducible apply Frame.step (takeShard_frame ..)
    | with_reducible apply Frame.step (modRepl_frame ..) | ((with_reducible apply Frame.forEach) <;> try intro _ _) | split

theorem replSwap_frame (k : Nat) (s : State) : Frame [.dgt] s (replSwap k s) := by
  unfold replSwap
  try extract_lets
  repeat' first
    | with_reducible apply Frame.refl | ((with_reducible apply Covered.mk); decide)
    | with_reducible apply Frame.step (modDgt_frame ..) | ((with_reducible apply Frame.whenSome) <;> try intro _ _) | split

theorem replEnd_frame (k : Nat) (s : State) :
    Frame [.energies, .gnd, .sents, .parts, .epochs, .chks, .dgt, .taint, .rcv, .wch, .slots, .ldg, .mem, .nextTag, .outs, .fresh] s (replEnd k s) := by
  unfold replEnd
  try extract_lets
  repeat' first
    | with_reducible apply Frame.refl | ((with_reducible apply Covered.mk); decide)
    | with_reducible apply Frame.step (replVerdict_frame ..) | with_reducible apply Frame.step (landWaits_frame ..)
    | with_reducible apply Frame.step (modRepl_frame ..) | ((with_reducible apply Frame.whenB) <;> try intro _)
    | ((with_reducible apply Frame.forEach) <;> try intro _ _) | split

theorem replMark_frame (k : Nat) (s : State) :
    Frame [.energies, .gnd, .sents, .parts, .epochs, .chks, .dgt, .taint, .rcv, .wch, .slots, .ldg, .mem, .nextTag, .outs, .fresh] s (replMark k s) := by
  unfold replMark
  try extract_lets
  repeat' first
    | with_reducible apply Frame.refl | ((with_reducible apply Covered.mk); decide)
    | with_reducible apply Frame.step (replEnd_frame ..) | with_reducible apply Frame.step (replSwap_frame ..)
    | with_reducible apply Frame.step (modDgt_frame ..) | split

theorem closeShard_frame (roll : Bool) (k sh step base len dg : Nat) (bad : Bool) (s : State) :
    Frame [.dgt] s (closeShard roll k sh step base len dg bad s) := by
  unfold closeShard
  try extract_lets
  repeat' first
    | with_reducible apply Frame.refl | ((with_reducible apply Covered.mk); decide)
    | with_reducible apply Frame.step (modRepl_frame ..) | split

theorem stepMark_frame (k t : Nat) (s : State) :
    Frame [.energies, .gnd, .sents, .parts, .epochs, .chks, .dgt, .taint, .rcv, .wch, .slots, .ldg, .mem, .nextTag, .outs, .fresh] s (stepMark k t s) := by
  unfold stepMark
  try extract_lets
  repeat' first
    | with_reducible apply Frame.refl | ((with_reducible apply Covered.mk); decide)
    | with_reducible apply Frame.step (modPart_frame ..) | with_reducible apply Frame.step (recPart_frame ..)
    | with_reducible apply Frame.step (ckptStep_frame ..) | with_reducible apply Frame.step (replMark_frame ..)
    | ((with_reducible apply Frame.whenB) <;> try intro _) | split

theorem modDcmd_frame (n : Nat) (f : DgtCmd → DgtCmd) (s : State) : Frame [.dgt] s (modDcmd n f s) := by
  unfold modDcmd
  try extract_lets
  repeat' first
    | with_reducible apply Frame.refl | ((with_reducible apply Covered.mk); decide)
    | with_reducible apply Frame.step (modDgt_frame ..) | split

theorem dgtFinish_frame (n status detail : Nat) (s : State) : Frame [.dgt, .slots] s (dgtFinish n status detail s) := by
  unfold dgtFinish
  try extract_lets
  repeat' first
    | with_reducible apply Frame.refl | ((with_reducible apply Covered.mk); decide)
    | with_reducible apply Frame.step (modDcmd_frame ..) | with_reducible apply Frame.step (irqSet_frame ..) | split

theorem doneRestore_frame (n : Nat) (s : State) :
    Frame [.gnd, .sents, .parts, .dgt, .wch, .slots, .ldg, .mem, .nextTag, .outs, .fresh] s (doneRestore n s) := by
  unfold doneRestore
  try dsimp only
  repeat' first
    | with_reducible apply Frame.refl | ((with_reducible apply Covered.mk); decide)
    | with_reducible apply Frame.step (modPart_frame ..) | with_reducible apply Frame.step (recPart_frame ..)
    | with_reducible apply Frame.step (dgtFinish_frame ..) | split

theorem replLoad_frame (n k : Nat) (table : MemRead) (s : State) : Frame [.dgt, .slots] s (replLoad n k table s) := by
  unfold replLoad
  try extract_lets
  repeat' first
    | with_reducible apply Frame.refl | ((with_reducible apply Covered.mk); decide)
    | with_reducible apply Frame.step (dgtFinish_frame ..) | with_reducible apply Frame.step (modDgt_frame ..) | split

theorem startVarnish_frame (n : Nat) (s : State) : Frame [.dgt, .slots] s (startVarnish n s) := by
  unfold startVarnish
  try extract_lets
  repeat' first
    | with_reducible apply Frame.refl | ((with_reducible apply Covered.mk); decide)
    | with_reducible apply Frame.step (modDcmd_frame ..) | with_reducible apply Frame.step (dgtFinish_frame ..) | split

theorem dgtGo_frame (a : Access) (v : Word) (blk aux : MemRead) (s : State) :
    Frame [.gnd, .sents, .dgt, .wch, .slots, .bus, .ldg, .mem, .nextTag, .outs, .fresh] s (dgtGo a v blk aux s) := by
  unfold dgtGo
  try dsimp only
  repeat' first
    | with_reducible apply Frame.refl | ((with_reducible apply Covered.mk); decide)
    | with_reducible apply Frame.step (modDcmd_frame ..) | with_reducible apply Frame.step (dgtFinish_frame ..)
    | ((with_reducible apply ownerWrite_frame) <;> try intro _) | with_reducible apply Frame.step (replLoad_frame ..) | split

theorem sealVarnish_frame (n : Nat) (writeOk : Bool) (s : State) :
    Frame [.gnd, .sents, .parts, .dgt, .rcv, .wch, .slots, .ldg, .mem, .nextTag, .outs, .fresh] s (sealVarnish n writeOk s) := by
  unfold sealVarnish
  try extract_lets
  repeat' first
    | with_reducible apply Frame.refl | ((with_reducible apply Covered.mk); decide)
    | with_reducible apply Frame.step (memWrite_frame ..) | with_reducible apply Frame.step (modPart_frame ..)
    | with_reducible apply Frame.step (recPart_frame ..) | with_reducible apply Frame.step (modRcv_frame ..)
    | with_reducible apply Frame.step (dgtFinish_frame ..) | with_reducible apply Frame.step (emit_frame ..) | split

theorem addShard_frame (k t sh len dg : Nat) (read bad mixed : Bool) (s : State) :
    Frame [.dgt] s (addShard k t sh len dg read bad mixed s) := by
  unfold addShard
  try extract_lets
  repeat' first
    | with_reducible apply Frame.refl | ((with_reducible apply Covered.mk); decide)
    | with_reducible apply Frame.step (modDgt_frame ..) | split

theorem rejectRestore_frame (n status detail : Nat) (s : State) :
    Frame [.gnd, .sents, .dgt, .wch, .slots, .ldg, .mem, .nextTag, .outs, .fresh] s (rejectRestore n status detail s) := by
  unfold rejectRestore
  try extract_lets
  repeat' first
    | with_reducible apply Frame.refl | ((with_reducible apply Covered.mk); decide)
    | with_reducible apply Frame.step (recPart_frame ..) | with_reducible apply Frame.step (dgtFinish_frame ..) | split

theorem checkRead_frame (n sh : Nat) (s : State) :
    Frame [.gnd, .sents, .parts, .dgt, .wch, .slots, .ldg, .mem, .nextTag, .outs, .fresh] s (checkRead n sh s) := by
  unfold checkRead
  try dsimp only
  repeat' first
    | with_reducible apply Frame.refl | ((with_reducible apply Covered.mk); decide)
    | with_reducible apply Frame.step (modDcmd_frame ..) | with_reducible apply Frame.step (doneRestore_frame ..)
    | with_reducible apply Frame.step (rejectRestore_frame ..) | split

theorem startRestore_frame (n : Nat) (s : State) :
    Frame [.gnd, .sents, .parts, .dgt, .wch, .slots, .ldg, .mem, .nextTag, .outs, .fresh] s (startRestore n s) := by
  unfold startRestore
  try dsimp only
  repeat' first
    | with_reducible apply Frame.refl | ((with_reducible apply Covered.mk); decide)
    | with_reducible apply Frame.step (modDcmd_frame ..) | with_reducible apply Frame.step (dgtFinish_frame ..)
    | with_reducible apply Frame.step (doneRestore_frame ..) | with_reducible apply Frame.step (rejectRestore_frame ..)
    | with_reducible apply Frame.step (modDgt_frame ..) | split

theorem dgtArbitrate_frame (s : State) :
    Frame [.gnd, .sents, .parts, .dgt, .wch, .slots, .ldg, .mem, .nextTag, .outs, .fresh] s (dgtArbitrate s) := by
  unfold dgtArbitrate
  try extract_lets
  repeat' first
    | with_reducible apply Frame.refl | ((with_reducible apply Covered.mk); decide)
    | with_reducible apply Frame.step (startRestore_frame ..) | with_reducible apply Frame.step (startVarnish_frame ..)
    | with_reducible apply Frame.step (dgtFinish_frame ..) | ((with_reducible apply Frame.forEach) <;> try intro _ _) | split

theorem taintedVarnish_frame (s : State) : Frame [.dgt, .slots] s (taintedVarnish s) := by
  unfold taintedVarnish
  try extract_lets
  repeat' first
    | with_reducible apply Frame.refl | ((with_reducible apply Covered.mk); decide)
    | with_reducible apply Frame.step (dgtFinish_frame ..) | ((with_reducible apply Frame.forEach) <;> try intro _ _) | split

theorem endSweeps_frame (k : Nat) (s : State) :
    Frame [.gnd, .sents, .chks, .cpy, .rcv, .wch, .slots, .ldg, .mem, .nextTag, .outs, .fresh] s (endSweeps k s) := by
  unfold endSweeps
  try extract_lets
  repeat' first
    | with_reducible apply Frame.refl | ((with_reducible apply Covered.mk); decide)
    | with_reducible apply Frame.step (endSweep_frame ..) | ((with_reducible apply Frame.forEach) <;> try intro _ _) | split

theorem dropCopies_frame (k : Nat) (s : State) : Frame [.cpy] s (dropCopies k s) := by
  unfold dropCopies
  try extract_lets
  repeat' first
    | with_reducible apply Frame.refl | ((with_reducible apply Covered.mk); decide)
    | with_reducible apply Frame.step (discardCapture_frame ..) | with_reducible apply Frame.step (modCpy_frame ..)
    | ((with_reducible apply Frame.forEach) <;> try intro _ _) | split

theorem endCommands_frame (k : Nat) (s : State) :
    Frame [.gnd, .sents, .dgt, .wch, .slots, .ldg, .mem, .nextTag, .outs, .fresh] s (endCommands k s) := by
  unfold endCommands
  try extract_lets
  repeat' first
    | with_reducible apply Frame.refl | ((with_reducible apply Covered.mk); decide)
    | with_reducible apply Frame.step (dgtFinish_frame ..) | with_reducible apply Frame.step (rejectRestore_frame ..)
    | ((with_reducible apply Frame.forEach) <;> try intro _ _) | split

theorem endRadii_frame (k e : Nat) (s : State) : Frame [.rcv] s (endRadii k e s) := by
  unfold endRadii
  try extract_lets
  repeat' first
    | with_reducible apply Frame.refl | ((with_reducible apply Covered.mk); decide)
    | with_reducible apply Frame.step (modRcv_frame ..) | split

theorem dropDigests_frame (k e : Nat) (s : State) : Frame [.dgt] s (dropDigests k e s) := by
  unfold dropDigests
  try extract_lets
  repeat' first
    | with_reducible apply Frame.refl | ((with_reducible apply Covered.mk); decide)
    | with_reducible apply Frame.step (modDgt_frame ..) | split

theorem leavePart_frame (k : Nat) (s : State) :
    Frame [.energies, .gnd, .sents, .parts, .epochs, .chks, .cpy, .dgt, .rcv, .wch, .slots, .ldg, .mem, .nextTag, .outs, .fresh] s (leavePart k s) := by
  unfold leavePart
  try extract_lets
  repeat' first
    | with_reducible apply Frame.refl | ((with_reducible apply Covered.mk); decide)
    | with_reducible apply Frame.step (dropEpoch_frame ..) | with_reducible apply Frame.step (endCommands_frame ..)
    | with_reducible apply Frame.step (modPart_frame ..) | with_reducible apply Frame.step (endRadii_frame ..)
    | with_reducible apply Frame.step (afterLeave_frame ..) | with_reducible apply Frame.step (dropCopies_frame ..)
    | with_reducible apply Frame.step (endSweeps_frame ..) | with_reducible apply Frame.step (unbindPart_frame ..)
    | with_reducible apply Frame.step (dropDigests_frame ..) | split

theorem abortPart_frame (k : Nat) (s : State) :
    Frame [.energies, .gnd, .sents, .parts, .epochs, .chks, .cpy, .dgt, .rcv, .wch, .slots, .ldg, .mem, .nextTag, .outs, .fresh] s (abortPart k s) := by
  unfold abortPart
  try extract_lets
  repeat' first
    | with_reducible apply Frame.refl | ((with_reducible apply Covered.mk); decide)
    | with_reducible apply Frame.step (leavePart_frame ..) | with_reducible apply Frame.step (teardownPart_frame ..) | split

theorem abortEpoch_frame (e : Nat) (s : State) :
    Frame [.energies, .gnd, .sents, .parts, .epochs, .chks, .cpy, .dgt, .rcv, .wch, .slots, .ldg, .mem, .nextTag, .outs, .fresh] s (abortEpoch e s) := by
  unfold abortEpoch
  try extract_lets
  repeat' first
    | with_reducible apply Frame.refl | ((with_reducible apply Covered.mk); decide)
    | with_reducible apply Frame.step (abortPart_frame ..) | with_reducible apply Frame.step (modEpoch_frame ..)
    | ((with_reducible apply Frame.forEach) <;> try intro _ _) | split

theorem leaveAll_frame (cause : Nat) (s : State) :
    Frame [.energies, .gnd, .sents, .parts, .epochs, .chks, .cpy, .dgt, .rcv, .wch, .slots, .ldg, .mem, .nextTag, .outs, .fresh] s (leaveAll cause s) := by
  unfold leaveAll
  try extract_lets
  repeat' first
    | with_reducible apply Frame.refl | ((with_reducible apply Covered.mk); decide)
    | with_reducible apply Frame.step (alarmEpochs_frame ..) | with_reducible apply Frame.step (cancelPending_frame ..)
    | with_reducible apply Frame.step (abortEpoch_frame ..) | ((with_reducible apply Frame.forEach) <;> try intro _ _)
    | split

theorem obeyAlarm_frame (m : AlarmMsg) (s : State) :
    Frame [.energies, .gnd, .sents, .parts, .epochs, .chks, .cpy, .dgt, .rcv, .wch, .slots, .ldg, .mem, .nextTag, .outs, .fresh] s (obeyAlarm m s) := by
  unfold obeyAlarm
  try extract_lets
  repeat' first
    | with_reducible apply Frame.refl | ((with_reducible apply Covered.mk); decide)
    | with_reducible apply Frame.step (recordBlock_frame ..) | with_reducible apply Frame.step (abortEpoch_frame ..)
    | with_reducible apply Frame.step (actOnAlarm_frame ..) | split

theorem takeAlarm_frame (l : Nat) (f : Flit) (m : AlarmMsg) (s : State) :
    Frame [.energies, .gnd, .sents, .parts, .epochs, .chks, .cpy, .dgt, .rcv, .wch, .slots, .ldg, .mem, .nextTag, .outs, .fresh] s (takeAlarm l f m s) := by
  unfold takeAlarm
  try extract_lets
  repeat' first
    | with_reducible apply Frame.refl | ((with_reducible apply Covered.mk); decide)
    | with_reducible apply Frame.step (rememberAlarm_frame ..) | with_reducible apply Frame.step (obeyAlarm_frame ..)
    | with_reducible apply Frame.step (modLink_frame ..) | with_reducible apply Frame.step (flood_frame ..)
    | ((with_reducible apply Frame.whenB) <;> try intro _) | split

theorem faultAlarm_frame (c : Chk) (s : State) :
    Frame [.energies, .gnd, .sents, .parts, .epochs, .rcv, .wch, .slots, .ldg, .mem, .nextTag, .outs, .fresh] s (faultAlarm c s) := by
  unfold faultAlarm
  try extract_lets
  repeat' first
    | with_reducible apply Frame.refl | ((with_reducible apply Covered.mk); decide)
    | with_reducible apply Frame.step (originate_frame ..) | split

theorem spillRow_frame (n : Nat) (s : State) : Frame [.taint, .mem, .nextTag, .outs] s (spillRow n s) := by
  unfold spillRow
  try extract_lets
  repeat' first
    | with_reducible apply Frame.refl | ((with_reducible apply Covered.mk); decide)
    | with_reducible apply Frame.step (memWrite_frame ..) | with_reducible apply Frame.step (issueMem_frame ..)
    | with_reducible apply Frame.step (modTaint_frame ..) | split

theorem verifyRun_frame (n e : Nat) (s : State) : Frame [.parts, .epochs, .rcv] s (verifyRun n e s) := by
  induction n generalizing s with
  | zero => exact Frame.refl _ s
  | succ n ih =>
    unfold verifyRun
    split
    · exact Frame.refl _ s
    · dsimp only
      repeat' split
      all_goals first
        | exact Frame.refl _ s
        | exact Frame.trans (Frame.step (modRcv_frame ..) (.mk (by decide))
            (Frame.forEach (fun j x => (modPart_frame ..).mono (.mk (by decide))) ((modEpoch_frame ..).mono (.mk (by decide))))) (ih _)

theorem needRelay_frame (e n : Nat) (s : State) : Frame [.rcv] s (needRelay e n s) := by
  unfold needRelay
  try extract_lets
  repeat' first
    | with_reducible apply Frame.refl | ((with_reducible apply Covered.mk); decide)
    | with_reducible apply Frame.step (modRcv_frame ..) | split

theorem modRelay_frame (e n : Nat) (f : VRelay → VRelay) (s : State) : Frame [.rcv] s (modRelay e n f s) := by
  unfold modRelay
  try extract_lets
  repeat' first
    | with_reducible apply Frame.refl | ((with_reducible apply Covered.mk); decide)
    | with_reducible apply Frame.step (modRcv_frame ..) | split

theorem takeDown_frame (v : VerdictMsg) (s : State) : Frame [.parts, .epochs, .rcv] s (takeDown v s) := by
  unfold takeDown
  try dsimp only
  repeat' first
    | with_reducible apply Frame.refl | ((with_reducible apply Covered.mk); decide)
    | with_reducible apply Frame.step (needRelay_frame ..) | with_reducible apply Frame.step (modRelay_frame ..)
    | with_reducible apply Frame.step (noteFail_frame ..) | with_reducible apply Frame.step (verifyRun_frame ..)
    | ((with_reducible apply Frame.whenB) <;> try intro _) | split

theorem forwardRelay_frame (e n : Nat) (s : State) :
    Frame [.parts, .epochs, .rcv, .wch, .ldg, .mem, .nextTag, .outs] s (forwardRelay e n s) := by
  unfold forwardRelay
  try extract_lets
  repeat' first
    | with_reducible apply Frame.refl | ((with_reducible apply Covered.mk); decide)
    | with_reducible apply Frame.step (takeDown_frame ..) | with_reducible apply Frame.step (sendUp_frame ..)
    | with_reducible apply Frame.step (modRelay_frame ..) | with_reducible apply Frame.step (sendDown_frame ..) | split

theorem relayReady_frame (e n : Nat) (s : State) :
    Frame [.parts, .epochs, .rcv, .wch, .ldg, .mem, .nextTag, .outs] s (relayReady e n s) := by
  unfold relayReady
  try extract_lets
  repeat' first
    | with_reducible apply Frame.refl | ((with_reducible apply Covered.mk); decide)
    | with_reducible apply Frame.step (forwardRelay_frame ..) | split

theorem takeUp_frame (l : Nat) (bypass : Bool) (v : VerdictMsg) (s : State) :
    Frame [.gnd, .sents, .parts, .epochs, .rcv, .wch, .slots, .ldg, .mem, .nextTag, .outs, .fresh] s (takeUp l bypass v s) := by
  unfold takeUp
  try dsimp only
  repeat' first
    | with_reducible apply Frame.refl | ((with_reducible apply Covered.mk); decide)
    | with_reducible apply Frame.step (relayBypass_frame ..) | with_reducible apply Frame.step (forwardRelay_frame ..)
    | with_reducible apply Frame.step (needRelay_frame ..) | with_reducible apply Frame.step (modRelay_frame ..)
    | with_reducible apply Frame.step (relayReady_frame ..) | split

theorem countChk_frame (c : Chk) (s : State) : Frame [.parts, .cpy, .ldg] s (countChk c s) := by
  unfold countChk
  try extract_lets
  repeat' first
    | with_reducible apply Frame.refl | ((with_reducible apply Covered.mk); decide)
    | with_reducible apply Frame.step (pcountJudged_frame ..) | with_reducible apply Frame.step (modCpy_frame ..)
    | with_reducible apply Frame.step (gcountJudged_frame ..) | with_reducible apply Frame.step (modLdg_frame ..)
    | ((with_reducible apply Frame.whenB) <;> try intro _) | split

theorem taintSealed_frame (b : Blast) (s : State) :
    Frame [.gnd, .sents, .rcv, .wch, .slots, .ldg, .mem, .nextTag, .outs, .fresh] s (taintSealed b s) := by
  unfold taintSealed
  try dsimp only
  repeat' first
    | with_reducible apply Frame.refl | ((with_reducible apply Covered.mk); decide)
    | with_reducible apply Frame.step (recPart_frame ..) | with_reducible apply Frame.step (modRcv_frame ..)
    | with_reducible apply Frame.step (reportPfm_frame ..) | ((with_reducible apply Frame.forEach) <;> try intro _ _) | split

theorem spillAll_frame (l : List Nat) (s : State) : Frame [.taint, .mem, .nextTag, .outs] s (spillAll l s) := by
  induction l generalizing s with
  | nil => exact (modTaint_frame ..).mono (.mk (by decide))
  | cons n ns ih =>
    unfold spillAll
    split
    · exact (modTaint_frame ..).mono (.mk (by decide))
    · exact (spillRow_frame n s).trans (ih (spillRow n s))

theorem needSweep_frame (p k e f : Nat) (s : State) :
    Frame [.gnd, .sents, .cpy, .rcv, .wch, .slots, .ldg, .mem, .nextTag, .outs, .fresh] s (needSweep p k e f s) := by
  unfold needSweep
  try extract_lets
  repeat' first
    | with_reducible apply Frame.refl | ((with_reducible apply Covered.mk); decide)
    | with_reducible apply Frame.step (modRcv_frame ..) | with_reducible apply Frame.step (openSweeps_frame ..)
    | with_reducible apply Frame.step (modSweep_frame ..) | with_reducible apply Frame.step (record_frame ..)
    | with_reducible apply Frame.step (modCap_frame ..) | ((with_reducible apply Frame.whenB) <;> try intro _)
    | ((with_reducible apply Frame.forEach) <;> try intro _ _) | split

theorem writeBlast_frame (i : Nat) (s : State) :
    Frame [.gnd, .sents, .rcv, .wch, .slots, .ldg, .mem, .nextTag, .outs, .fresh] s (writeBlast i s) := by
  unfold writeBlast
  try extract_lets
  repeat' first
    | with_reducible apply Frame.refl | ((with_reducible apply Covered.mk); decide)
    | with_reducible apply Frame.step (taintSealed_frame ..) | with_reducible apply Frame.step (recPart_frame ..)
    | with_reducible apply Frame.step (modRcv_frame ..) | ((with_reducible apply Frame.foldl) <;> try intro _ _) | split

theorem storeTouches_frame (ended : Nat) (s : State) : Frame [.sents, .taint] s (storeTouches ended s) := by
  unfold storeTouches
  try extract_lets
  repeat' first
    | with_reducible apply Frame.refl | ((with_reducible apply Covered.mk); decide)
    | ((with_reducible apply Frame.foldl) <;> try intro _ _) | split
    | exact ⟨fun c h => by cases c <;> first | exact rfl | exact absurd (by decide) h⟩

theorem spillFailed_frame (n : Nat) (s : State) :
    Frame [.gnd, .sents, .taint, .wch, .slots, .ldg, .mem, .nextTag, .outs, .fresh] s (spillFailed n s) := by
  unfold spillFailed
  try extract_lets
  repeat' first
    | with_reducible apply Frame.refl | ((with_reducible apply Covered.mk); decide)
    | with_reducible apply Frame.step (recordBlock_frame ..) | with_reducible apply Frame.step (modTaint_frame ..) | split

theorem faultRadius_frame (c : Chk) (s : State) :
    Frame [.gnd, .sents, .cpy, .rcv, .wch, .slots, .ldg, .mem, .nextTag, .outs, .fresh] s (faultRadius c s) := by
  unfold faultRadius
  try extract_lets
  repeat' first
    | with_reducible apply Frame.refl | ((with_reducible apply Covered.mk); decide)
    | with_reducible apply Frame.step (modRcv_frame ..) | with_reducible apply Frame.step (needSweep_frame ..) | split

theorem spillWait_frame (s : State) :
    Frame [.gnd, .sents, .taint, .rcv, .wch, .slots, .ldg, .mem, .nextTag, .outs, .fresh] s (spillWait s) := by
  unfold spillWait
  try extract_lets
  repeat' first
    | with_reducible apply Frame.refl | ((with_reducible apply Covered.mk); decide)
    | with_reducible apply Frame.step (writeBlast_frame ..) | with_reducible apply Frame.step (modTaint_frame ..)
    | with_reducible apply Frame.step (modRcv_frame ..) | split

theorem publishSpill_frame (s : State) :
    Frame [.gnd, .sents, .taint, .rcv, .wch, .slots, .ldg, .mem, .nextTag, .outs, .fresh] s (publishSpill s) := by
  unfold publishSpill
  try extract_lets
  repeat' first
    | with_reducible apply Frame.refl | ((with_reducible apply Covered.mk); decide)
    | with_reducible apply Frame.step (spillAll_frame ..) | with_reducible apply Frame.step (spillWait_frame ..) | split

theorem suspectOpc_frame (c : Chk) (s : State) :
    Frame [.gnd, .sents, .rcv, .wch, .slots, .ldg, .mem, .nextTag, .outs, .fresh] s (suspectOpc c s) := by
  unfold suspectOpc
  try dsimp only
  repeat' first
    | with_reducible apply Frame.refl | ((with_reducible apply Covered.mk); decide)
    | with_reducible apply Frame.step (recordBlock_frame ..) | with_reducible apply Frame.step (modRcv_frame ..)
    | ((with_reducible apply Frame.whenB) <;> try intro _) | split

theorem formVerdict_frame (cs : List Chk) (x : Epoch) (s : State) : Frame [.rcv, .slots] s (formVerdict cs x s) := by
  unfold formVerdict
  try extract_lets
  repeat' first
    | with_reducible apply Frame.refl | ((with_reducible apply Covered.mk); decide)
    | with_reducible apply Frame.step (needRelay_frame ..) | with_reducible apply Frame.step (irqPart_frame ..)
    | with_reducible apply Frame.step (modRelay_frame ..) | ((with_reducible apply Frame.whenB) <;> try intro _)
    | ((with_reducible apply Frame.forEach) <;> try intro _ _) | split

theorem modHealth_frame (p : Nat) (f : Health → Health) (s : State) : Frame [.sents] s (modHealth p f s) := by
  unfold modHealth
  try extract_lets
  repeat' first
    | with_reducible apply Frame.refl | ((with_reducible apply Covered.mk); decide)
    | with_reducible apply Frame.step (modSent_frame ..) | split

theorem clearWatch_frame (p : Nat) (s : State) : Frame [.sents] s (clearWatch p s) := by
  unfold clearWatch
  try extract_lets
  repeat' first
    | with_reducible apply Frame.refl | ((with_reducible apply Covered.mk); decide)
    | with_reducible apply Frame.step (modHealth_frame ..) | ((with_reducible apply Frame.forEach) <;> try intro _ _) | split

theorem gazapra_frame (p code : Nat) (mv : Int) (freq rise : Nat) (s : State) :
    Frame [.gnd, .sents, .wch, .slots, .ldg, .mem, .nextTag, .outs, .fresh] s (gazapra p code mv freq rise s) := by
  unfold gazapra
  try extract_lets
  repeat' first
    | with_reducible apply Frame.refl | ((with_reducible apply Covered.mk); decide)
    | with_reducible apply Frame.step (record_frame ..) | split

theorem vacate_frame (p : Nat) (manual : Bool) (s : State) : Frame [.gnd] s (vacate p manual s) := by
  unfold vacate
  try extract_lets
  repeat' first
    | with_reducible apply Frame.refl | ((with_reducible apply Covered.mk); decide)
    | with_reducible apply Frame.step (modGnd_frame ..) | with_reducible apply Frame.step (modTile_frame ..) | split

theorem quarantine_frame (p cause : Nat) (s : State) :
    Frame [.nvm, .energies, .gnd, .sents, .parts, .epochs, .rcv, .wch, .slots, .ldg, .mem, .nextTag, .outs, .fresh] s (quarantine p cause s) := by
  unfold quarantine
  try extract_lets
  repeat' first
    | with_reducible apply Frame.refl | ((with_reducible apply Covered.mk); decide)
    | with_reducible apply Frame.step (modHealth_frame ..) | with_reducible apply Frame.step (vacate_frame ..)
    | with_reducible apply Frame.step (irqPart_frame ..) | with_reducible apply Frame.step (alarmPart_frame ..)
    | with_reducible apply Frame.step (craqMod_frame ..) | with_reducible apply Frame.step (record_frame ..)
    | with_reducible apply Frame.step (modTile_frame ..) | with_reducible apply Frame.step (teardownTile_frame ..)
    | ((with_reducible apply Frame.whenB) <;> try intro _) | split

theorem quarantineFor_frame (w : QuarWait) (s : State) :
    Frame [.nvm, .energies, .gnd, .sents, .parts, .epochs, .rcv, .wch, .slots, .ldg, .mem, .nextTag, .outs, .fresh] s (quarantineFor w s) := by
  unfold quarantineFor
  try extract_lets
  repeat' first
    | with_reducible apply Frame.refl | ((with_reducible apply Covered.mk); decide)
    | with_reducible apply Frame.step (gazapra_frame ..) | with_reducible apply Frame.step (quarantine_frame ..)
    | with_reducible apply Frame.step (record_frame ..) | split

theorem quarantineOrWait_frame (w : QuarWait) (s : State) :
    Frame [.nvm, .energies, .gnd, .sents, .parts, .epochs, .rcv, .wch, .slots, .ldg, .mem, .nextTag, .outs, .fresh] s (quarantineOrWait w s) := by
  unfold quarantineOrWait
  try extract_lets
  repeat' first
    | with_reducible apply Frame.refl | ((with_reducible apply Covered.mk); decide)
    | with_reducible apply Frame.step (modRcv_frame ..) | with_reducible apply Frame.step (quarantineFor_frame ..) | split

theorem substitute_frame (v : Vacancy) (q : Nat) (s : State) :
    Frame [.nvm, .gnd, .sents, .rcv, .wch, .slots, .ldg, .mem, .nextTag, .outs, .fresh] s (substitute v q s) := by
  unfold substitute
  try extract_lets
  repeat' first
    | with_reducible apply Frame.refl | ((with_reducible apply Covered.mk); decide)
    | with_reducible apply Frame.step (modGnd_frame ..) | with_reducible apply Frame.step (modRcv_frame ..)
    | with_reducible apply Frame.step (craqMod_frame ..) | split

theorem noSpare_frame (v : Vacancy) (s : State) : Frame [.gnd, .outs] s (noSpare v s) := by
  unfold noSpare
  try extract_lets
  repeat' first
    | with_reducible apply Frame.refl | ((with_reducible apply Covered.mk); decide)
    | with_reducible apply Frame.step (modGnd_frame ..) | with_reducible apply Frame.step (reportPfm_frame ..) | split

theorem fillVacancy_frame (v : Vacancy) (s : State) :
    Frame [.nvm, .gnd, .sents, .rcv, .wch, .slots, .ldg, .mem, .nextTag, .outs, .fresh] s (fillVacancy v s) := by
  unfold fillVacancy
  try extract_lets
  repeat' first
    | with_reducible apply Frame.refl | ((with_reducible apply Covered.mk); decide)
    | with_reducible apply Frame.step (substitute_frame ..) | with_reducible apply Frame.step (modRcv_frame ..)
    | with_reducible apply Frame.step (noSpare_frame ..) | ((with_reducible apply Frame.whenB) <;> try intro _) | split

theorem duplexEvents_frame (p : Nat) (s : State) : Frame [.sents, .chks] s (duplexEvents p s) := by
  unfold duplexEvents
  try extract_lets
  repeat' first
    | with_reducible apply Frame.refl | ((with_reducible apply Covered.mk); decide)
    | with_reducible apply Frame.step (modHealth_frame ..) | with_reducible apply Frame.step (addChk_frame ..)
    | ((with_reducible apply Frame.whenB) <;> try intro _) | ((with_reducible apply Frame.forEach) <;> try intro _ _) | split

theorem quarantineWaiting_frame (s : State) :
    Frame [.nvm, .energies, .gnd, .sents, .parts, .epochs, .rcv, .wch, .slots, .ldg, .mem, .nextTag, .outs, .fresh] s (quarantineWaiting s) := by
  unfold quarantineWaiting
  try extract_lets
  repeat' first
    | with_reducible apply Frame.refl | ((with_reducible apply Covered.mk); decide)
    | with_reducible apply Frame.step (modRcv_frame ..) | with_reducible apply Frame.step (quarantineFor_frame ..)
    | ((with_reducible apply Frame.forEach) <;> try intro _ _) | split

theorem fillVacancies_frame (s : State) :
    Frame [.nvm, .gnd, .sents, .rcv, .wch, .slots, .ldg, .mem, .nextTag, .outs, .fresh] s (fillVacancies s) := by
  unfold fillVacancies
  try extract_lets
  repeat' first
    | with_reducible apply Frame.refl | ((with_reducible apply Covered.mk); decide)
    | with_reducible apply Frame.step (fillVacancy_frame ..) | ((with_reducible apply Frame.forEach) <;> try intro _ _)
    | split

theorem toHealth_frame (p code cause : Nat) (s : State) :
    Frame [.nvm, .gnd, .sents, .wch, .slots, .ldg, .mem, .nextTag, .outs, .fresh] s (toHealth p code cause s) := by
  unfold toHealth
  try extract_lets
  repeat' first
    | with_reducible apply Frame.refl | ((with_reducible apply Covered.mk); decide)
    | with_reducible apply Frame.step (modHealth_frame ..) | with_reducible apply Frame.step (craqMod_frame ..)
    | with_reducible apply Frame.step (record_frame ..) | split

theorem toSuspect_frame (p cause : Nat) (o : SliceEnd) (s : State) :
    Frame [.nvm, .gnd, .sents, .wch, .slots, .ldg, .mem, .nextTag, .outs, .fresh] s (toSuspect p cause o s) := by
  unfold toSuspect
  try extract_lets
  repeat' first
    | with_reducible apply Frame.refl | ((with_reducible apply Covered.mk); decide)
    | with_reducible apply Frame.step (gazapra_frame ..) | with_reducible apply Frame.step (repace_frame ..)
    | with_reducible apply Frame.step (toHealth_frame ..) | split

theorem toQuarantined_frame (p : Nat) (o : SliceEnd) (s : State) :
    Frame [.nvm, .energies, .gnd, .sents, .parts, .epochs, .rcv, .wch, .slots, .ldg, .mem, .nextTag, .outs, .fresh] s (toQuarantined p o s) := by
  unfold toQuarantined
  try extract_lets
  repeat' first
    | with_reducible apply Frame.refl | ((with_reducible apply Covered.mk); decide)
    | with_reducible apply Frame.step (quarantineOrWait_frame ..) | split

theorem classify_frame (p : Nat) (ev : Bool) (os : List SliceEnd) (s : State) :
    Frame [.nvm, .energies, .gnd, .sents, .parts, .epochs, .scr, .rcv, .wch, .slots, .ldg, .mem, .nextTag, .outs, .fresh] s (classify p ev os s) := by
  unfold classify
  try extract_lets
  repeat' first
    | with_reducible apply Frame.refl | ((with_reducible apply Covered.mk); decide)
    | with_reducible apply Frame.step (modSent_frame ..) | with_reducible apply Frame.step (modHealth_frame ..)
    | with_reducible apply Frame.step (repace_frame ..) | with_reducible apply Frame.step (reportPfm_frame ..)
    | with_reducible apply Frame.step (queueRetest_frame ..) | with_reducible apply Frame.step (toSuspect_frame ..)
    | with_reducible apply Frame.step (toQuarantined_frame ..) | with_reducible apply Frame.step (record_frame ..)
    | with_reducible apply Frame.step (toHealth_frame ..) | ((with_reducible apply Frame.whenB) <;> try intro _)
    | ((with_reducible apply Frame.whenSome) <;> try intro _ _) | split

theorem applySubst_frame (x : Subst) (s : State) : Frame [.gnd] s (applySubst x s) := by
  unfold applySubst
  try extract_lets
  repeat' first
    | with_reducible apply Frame.refl | ((with_reducible apply Covered.mk); decide)
    | with_reducible apply Frame.step (modTile_frame ..) | split

theorem addEvent_frame (p n : Nat) (s : State) :
    Frame [.nvm, .gnd, .sents, .parts, .wch, .slots, .ldg, .mem, .nextTag, .outs, .fresh] s (addEvent p n s) := by
  unfold addEvent
  try extract_lets
  repeat' first
    | with_reducible apply Frame.refl | ((with_reducible apply Covered.mk); decide)
    | with_reducible apply Frame.step (pcountJudged_frame ..) | with_reducible apply Frame.step (modHealth_frame ..)
    | with_reducible apply Frame.step (craqMod_frame ..) | with_reducible apply Frame.step (gcountJudged_frame ..) | split

theorem noteChk_frame (c : Chk) (s : State) :
    Frame [.nvm, .gnd, .sents, .parts, .wch, .slots, .ldg, .mem, .nextTag, .outs, .fresh] s (noteChk c s) := by
  unfold noteChk
  try dsimp only
  repeat' first
    | with_reducible apply Frame.refl | ((with_reducible apply Covered.mk); decide)
    | with_reducible apply Frame.step (modHealth_frame ..) | with_reducible apply Frame.step (clearWatch_frame ..)
    | with_reducible apply Frame.step (addEvent_frame ..) | split

theorem classifySlice_frame (o : SliceEnd) (s : State) :
    Frame [.gnd, .sents, .wch, .slots, .ldg, .mem, .nextTag, .outs, .fresh] s (classifySlice o s) := by
  unfold classifySlice
  try extract_lets
  repeat' first
    | with_reducible apply Frame.refl | ((with_reducible apply Covered.mk); decide)
    | with_reducible apply Frame.step (modHealth_frame ..) | with_reducible apply Frame.step (recSevPart_frame ..)
    | with_reducible apply Frame.step (addEvid_frame ..) | ((with_reducible apply Frame.whenB) <;> try intro _) | split

theorem classifyAll_frame (cs : List Chk) (s : State) :
    Frame [.nvm, .energies, .gnd, .sents, .parts, .epochs, .scr, .rcv, .wch, .slots, .ldg, .mem, .nextTag, .outs, .fresh] s (classifyAll cs s) := by
  unfold classifyAll
  try extract_lets
  repeat' first
    | with_reducible apply Frame.refl | ((with_reducible apply Covered.mk); decide)
    | with_reducible apply Frame.step (modScr_frame ..) | with_reducible apply Frame.step (classify_frame ..)
    | with_reducible apply Frame.step (quarantineWaiting_frame ..) | with_reducible apply Frame.step (noteChk_frame ..)
    | with_reducible apply Frame.step (classifySlice_frame ..) | ((with_reducible apply Frame.forEach) <;> try intro _ _)
    | split

theorem substTick_frame (s : State) : Frame [.gnd, .rcv] s (substTick s) := by
  unfold substTick
  try extract_lets
  repeat' first
    | with_reducible apply Frame.refl | ((with_reducible apply Covered.mk); decide)
    | with_reducible apply Frame.step (applySubst_frame ..) | with_reducible apply Frame.step (modRcv_frame ..)
    | ((with_reducible apply Frame.forEach) <;> try intro _ _) | split

theorem craqLane_frame (lane : Nat) (s : State) :
    Frame [.nvm, .gnd, .sents, .wch, .slots, .ldg, .mem, .nextTag, .outs, .fresh] s (craqLane lane s) := by
  unfold craqLane
  try extract_lets
  repeat' first
    | with_reducible apply Frame.refl | ((with_reducible apply Covered.mk); decide)
    | with_reducible apply Frame.step (craqMod_frame ..) | split

theorem linkRecord_frame (l : Nat) (s : State) :
    Frame [.gnd, .sents, .wch, .slots, .ldg, .mem, .nextTag, .outs, .fresh] s (linkRecord l s) := by
  unfold linkRecord
  try extract_lets
  repeat' first
    | with_reducible apply Frame.refl | ((with_reducible apply Covered.mk); decide)
    | with_reducible apply Frame.step (recordBlock_frame ..) | split

theorem toQuarantine_frame (l cause : Nat) (s : State) :
    Frame [.nvm, .gnd, .sents, .wch, .slots, .ldg, .mem, .nextTag, .outs, .fresh] s (toQuarantine l cause s) := by
  unfold toQuarantine
  try extract_lets
  repeat' first
    | with_reducible apply Frame.refl | ((with_reducible apply Covered.mk); decide)
    | with_reducible apply Frame.step (modLink_frame ..) | with_reducible apply Frame.step (craqLane_frame ..)
    | with_reducible apply Frame.step (linkRecord_frame ..) | split

theorem toWait_frame (l cause : Nat) (s : State) :
    Frame [.nvm, .gnd, .sents, .wch, .slots, .ldg, .mem, .nextTag, .outs, .fresh] s (toWait l cause s) := by
  unfold toWait
  try extract_lets
  repeat' first
    | with_reducible apply Frame.refl | ((with_reducible apply Covered.mk); decide)
    | with_reducible apply Frame.step (toQuarantine_frame ..) | with_reducible apply Frame.step (modLink_frame ..)
    | with_reducible apply Frame.step (linkRecord_frame ..) | split

theorem modShake_frame (l : Nat) (f : Shake → Shake) (s : State) : Frame [.wch] s (modShake l f s) := by
  unfold modShake
  try extract_lets
  repeat' first
    | with_reducible apply Frame.refl | ((with_reducible apply Covered.mk); decide)
    | with_reducible apply Frame.step (modLink_frame ..) | split

theorem authFail_frame (l cause chip : Nat) (s : State) :
    Frame [.nvm, .gnd, .sents, .wch, .slots, .ldg, .mem, .nextTag, .outs, .fresh] s (authFail l cause chip s) := by
  unfold authFail
  try extract_lets
  repeat' first
    | with_reducible apply Frame.refl | ((with_reducible apply Covered.mk); decide)
    | with_reducible apply Frame.step (toQuarantine_frame ..) | with_reducible apply Frame.step (recordBlock_frame ..)
    | with_reducible apply Frame.step (toWait_frame ..) | with_reducible apply Frame.step (modShake_frame ..) | split

theorem sendCert_frame (l : Nat) (s : State) : Frame [.outs] s (sendCert l s) := by
  unfold sendCert
  try extract_lets
  repeat' first
    | with_reducible apply Frame.refl | ((with_reducible apply Covered.mk); decide)
    | with_reducible apply Frame.step (emit_frame ..) | ((with_reducible apply Frame.forEach) <;> try intro _ _) | split

theorem takeHello_frame (l : Nat) (h : Hello) (s : State) :
    Frame [.nvm, .gnd, .sents, .wch, .slots, .ldg, .mem, .nextTag, .outs, .fresh] s (takeHello l h s) := by
  unfold takeHello
  try extract_lets
  repeat' first
    | with_reducible apply Frame.refl | ((with_reducible apply Covered.mk); decide)
    | with_reducible apply Frame.step (authFail_frame ..) | with_reducible apply Frame.step (modLink_frame ..)
    | with_reducible apply Frame.step (modShake_frame ..) | with_reducible apply Frame.step (sendCert_frame ..) | split

theorem linkReady_frame (l : Nat) (s : State) : Frame [.wch] s (linkReady l s) := by
  unfold linkReady
  try extract_lets
  repeat' first
    | with_reducible apply Frame.refl | ((with_reducible apply Covered.mk); decide)
    | with_reducible apply Frame.step (modLink_frame ..) | split

theorem enterAuth_frame (l : Nat) (s : State) : Frame [.wch, .outs, .fresh] s (enterAuth l s) := by
  unfold enterAuth
  try extract_lets
  repeat' first
    | with_reducible apply Frame.refl | ((with_reducible apply Covered.mk); decide)
    | with_reducible apply Frame.step (modLink_frame ..) | with_reducible apply Frame.step (bumpFresh_frame ..)
    | with_reducible apply Frame.step (emit_frame ..) | split

theorem checkHorizon_frame (s : State) :
    Frame [.gnd, .sents, .wch, .slots, .ldg, .mem, .nextTag, .outs, .fresh] s (checkHorizon s) := by
  unfold checkHorizon
  try extract_lets
  repeat' first
    | with_reducible apply Frame.refl | ((with_reducible apply Covered.mk); decide)
    | with_reducible apply Frame.step (modGnd_frame ..) | with_reducible apply Frame.step (recordBlock_frame ..)
    | with_reducible apply Frame.step (reportPfm_frame ..) | split

theorem measured_frame (l : Nat) (s : State) :
    Frame [.stk, .gnd, .sents, .wch, .slots, .ldg, .mem, .nextTag, .outs, .fresh] s (measured l s) := by
  unfold measured
  try extract_lets
  repeat' first
    | with_reducible apply Frame.refl | ((with_reducible apply Covered.mk); decide)
    | with_reducible apply Frame.step (modLink_frame ..) | with_reducible apply Frame.step (modStk_frame ..)
    | with_reducible apply Frame.step (enterAuth_frame ..) | with_reducible apply Frame.step (checkHorizon_frame ..) | split

theorem takeProof_frame (l : Nat) (sig : List Byte) (s : State) :
    Frame [.nvm, .gnd, .sents, .wch, .slots, .ldg, .mem, .nextTag, .outs, .fresh] s (takeProof l sig s) := by
  unfold takeProof
  try extract_lets
  repeat' first
    | with_reducible apply Frame.refl | ((with_reducible apply Covered.mk); decide)
    | with_reducible apply Frame.step (authFail_frame ..) | with_reducible apply Frame.step (emit_frame ..)
    | with_reducible apply Frame.step (modShake_frame ..) | split

theorem replay_frame (l : Nat) (s : State) :
    Frame [.nvm, .gnd, .sents, .wch, .slots, .ldg, .mem, .nextTag, .outs, .fresh] s (replay l s) := by
  unfold replay
  try extract_lets
  repeat' first
    | with_reducible apply Frame.refl | ((with_reducible apply Covered.mk); decide)
    | with_reducible apply Frame.step (modLink_frame ..) | with_reducible apply Frame.step (toWait_frame ..)
    | with_reducible apply Frame.step (emit_frame ..) | with_reducible apply Frame.step (modErr_frame ..)
    | ((with_reducible apply Frame.forEach) <;> try intro _ _) | split

theorem sendNack_frame (l now0 : Nat) (s : State) : Frame [.wch, .outs] s (sendNack l now0 s) := by
  unfold sendNack
  try extract_lets
  repeat' first
    | with_reducible apply Frame.refl | ((with_reducible apply Covered.mk); decide)
    | with_reducible apply Frame.step (modLink_frame ..) | with_reducible apply Frame.step (emit_frame ..) | split

theorem takeShare_frame (l : Nat) (key : List Byte) (s : State) : Frame [.wch, .outs] s (takeShare l key s) := by
  unfold takeShare
  try extract_lets
  repeat' first
    | with_reducible apply Frame.refl | ((with_reducible apply Covered.mk); decide)
    | with_reducible apply Frame.step (emit_frame ..) | with_reducible apply Frame.step (modShake_frame ..) | split

theorem takeAck_frame (l a : Nat) (s : State) : Frame [.wch, .ldg, .mem, .nextTag, .outs] s (takeAck l a s) := by
  unfold takeAck
  try extract_lets
  repeat' first
    | with_reducible apply Frame.refl | ((with_reducible apply Covered.mk); decide)
    | with_reducible apply Frame.step (pumpLink_frame ..) | with_reducible apply Frame.step (modLink_frame ..) | split

theorem sendEcho_frame (l at0 echoed : Nat) (s : State) : Frame [.outs, .fresh] s (sendEcho l at0 echoed s) := by
  unfold sendEcho
  try extract_lets
  repeat' first
    | with_reducible apply Frame.refl | ((with_reducible apply Covered.mk); decide)
    | with_reducible apply Frame.step (bumpFresh_frame ..) | with_reducible apply Frame.step (emit_frame ..) | split

theorem toDown_frame (l : Nat) (s : State) : Frame [.wch] s (toDown l s) := by
  unfold toDown
  try extract_lets
  repeat' first
    | with_reducible apply Frame.refl | ((with_reducible apply Covered.mk); decide)
    | with_reducible apply Frame.step (modLink_frame ..) | split

theorem takeCert_frame (l frag nfrag : Nat) (data : List Byte) (s : State) :
    Frame [.nvm, .gnd, .sents, .wch, .slots, .ldg, .mem, .nextTag, .outs, .fresh] s (takeCert l frag nfrag data s) := by
  unfold takeCert
  try extract_lets
  repeat' first
    | with_reducible apply Frame.refl | ((with_reducible apply Covered.mk); decide)
    | with_reducible apply Frame.step (authFail_frame ..) | with_reducible apply Frame.step (bumpFresh_frame ..)
    | with_reducible apply Frame.step (emit_frame ..) | with_reducible apply Frame.step (modShake_frame ..) | split

theorem syncLinks_frame (s : State) :
    Frame [.nvm, .gnd, .sents, .wch, .slots, .ldg, .mem, .nextTag, .outs, .fresh] s (syncLinks s) := by
  unfold syncLinks
  try dsimp only
  repeat' first
    | with_reducible apply Frame.refl | ((with_reducible apply Covered.mk); decide)
    | with_reducible apply Frame.step (toWait_frame ..) | with_reducible apply Frame.step (toDown_frame ..)
    | ((with_reducible apply Frame.whenB) <;> try intro _) | ((with_reducible apply Frame.forEach) <;> try intro _ _) | split

theorem takeDone_frame (l : Nat) (mac : List Byte) (protectedRtt : Nat) (s : State) :
    Frame [.nvm, .gnd, .sents, .wch, .slots, .ldg, .mem, .nextTag, .outs, .fresh] s (takeDone l mac protectedRtt s) := by
  unfold takeDone
  try extract_lets
  repeat' first
    | with_reducible apply Frame.refl | ((with_reducible apply Covered.mk); decide)
    | with_reducible apply Frame.step (authFail_frame ..) | with_reducible apply Frame.step (linkReady_frame ..) | split

theorem faulty_frame (l cause : Nat) (s : State) :
    Frame [.nvm, .gnd, .sents, .wch, .slots, .ldg, .mem, .nextTag, .outs, .fresh] s (faulty l cause s) := by
  unfold faulty
  try extract_lets
  repeat' first
    | with_reducible apply Frame.refl | ((with_reducible apply Covered.mk); decide)
    | with_reducible apply Frame.step (toQuarantine_frame ..) | with_reducible apply Frame.step (recordBlock_frame ..)
    | with_reducible apply Frame.step (modLink_frame ..) | with_reducible apply Frame.step (craqLane_frame ..)
    | with_reducible apply Frame.step (toWait_frame ..) | split

theorem linkLoaded_frame (l : Nat) (s : State) :
    Frame [.nvm, .gnd, .sents, .wch, .slots, .ldg, .mem, .nextTag, .outs, .fresh] s (linkLoaded l s) := by
  unfold linkLoaded
  try extract_lets
  repeat' first
    | with_reducible apply Frame.refl | ((with_reducible apply Covered.mk); decide)
    | with_reducible apply Frame.step (authFail_frame ..) | with_reducible apply Frame.step (modLink_frame ..)
    | with_reducible apply Frame.step (toDown_frame ..) | split

theorem sendControl_frame (l : Nat) (s : State) : Frame [.wch, .outs] s (sendControl l s) := by
  unfold sendControl
  try extract_lets
  repeat' first
    | with_reducible apply Frame.refl | ((with_reducible apply Covered.mk); decide)
    | with_reducible apply Frame.step (modLink_frame ..) | with_reducible apply Frame.step (emit_frame ..) | split

theorem goodControl_frame (l now0 : Nat) (s : State) : Frame [.wch, .outs, .fresh] s (goodControl l now0 s) := by
  unfold goodControl
  try extract_lets
  repeat' first
    | with_reducible apply Frame.refl | ((with_reducible apply Covered.mk); decide)
    | with_reducible apply Frame.step (modLink_frame ..) | with_reducible apply Frame.step (sendEcho_frame ..) | split

theorem laneFailed_frame (lane : Nat) (s : State) :
    Frame [.nvm, .gnd, .sents, .wch, .slots, .ldg, .mem, .nextTag, .outs, .fresh] s (laneFailed lane s) := by
  unfold laneFailed
  try extract_lets
  repeat' first
    | with_reducible apply Frame.refl | ((with_reducible apply Covered.mk); decide)
    | with_reducible apply Frame.step (modLink_frame ..) | with_reducible apply Frame.step (craqLane_frame ..)
    | with_reducible apply Frame.step (toWait_frame ..) | split

theorem takeCredits_frame (l : Nat) (returned : List Nat) (s : State) :
    Frame [.wch, .ldg, .mem, .nextTag, .outs] s (takeCredits l returned s) := by
  unfold takeCredits
  try extract_lets
  repeat' first
    | with_reducible apply Frame.refl | ((with_reducible apply Covered.mk); decide)
    | with_reducible apply Frame.step (pumpLink_frame ..) | with_reducible apply Frame.step (modLink_frame ..)
    | ((with_reducible apply Frame.foldl) <;> try intro _ _) | split

theorem linksLoaded_frame (s : State) :
    Frame [.nvm, .gnd, .sents, .wch, .slots, .ldg, .mem, .nextTag, .outs, .fresh] s (linksLoaded s) := by
  unfold linksLoaded
  try extract_lets
  repeat' first
    | with_reducible apply Frame.refl | ((with_reducible apply Covered.mk); decide)
    | with_reducible apply Frame.step (syncLinks_frame ..) | with_reducible apply Frame.step (checkHorizon_frame ..)
    | with_reducible apply Frame.step (linkLoaded_frame ..) | ((with_reducible apply Frame.forEach) <;> try intro _ _)
    | split

theorem takeEcho_frame (l sendTime echoed residence now0 : Nat) (s : State) :
    Frame [.stk, .gnd, .sents, .wch, .slots, .ldg, .mem, .nextTag, .outs, .fresh] s (takeEcho l sendTime echoed residence now0 s) := by
  unfold takeEcho
  try dsimp only
  repeat' first
    | with_reducible apply Frame.refl | ((with_reducible apply Covered.mk); decide)
    | with_reducible apply Frame.step (modLink_frame ..) | with_reducible apply Frame.step (goodControl_frame ..)
    | with_reducible apply Frame.step (measured_frame ..) | with_reducible apply Frame.step (sendEcho_frame ..) | split

theorem analogFailed_frame (x : Analog) (s : State) :
    Frame [.nvm, .gnd, .sents, .wch, .slots, .ldg, .mem, .nextTag, .outs, .fresh] s (analogFailed x s) := by
  unfold analogFailed
  try extract_lets
  repeat' first
    | with_reducible apply Frame.refl | ((with_reducible apply Covered.mk); decide)
    | with_reducible apply Frame.step (recordBlock_frame ..) | with_reducible apply Frame.step (reportPfm_frame ..)
    | with_reducible apply Frame.step (laneFailed_frame ..) | ((with_reducible apply Frame.whenB) <;> try intro _) | split

theorem endAnalog_frame (x : Analog) (pass : Bool) (s : State) :
    Frame [.nvm, .boot, .gnd, .sents, .scr, .wch, .slots, .ldg, .mem, .nextTag, .outs, .fresh] s (endAnalog x pass s) := by
  unfold endAnalog
  try extract_lets
  repeat' first
    | with_reducible apply Frame.refl | ((with_reducible apply Covered.mk); decide)
    | with_reducible apply Frame.step (gcount_frame ..) | with_reducible apply Frame.step (modScr_frame ..)
    | with_reducible apply Frame.step (modBoot_frame ..) | with_reducible apply Frame.step (analogFailed_frame ..)
    | ((with_reducible apply Frame.whenB) <;> try intro _) | split

theorem analogAccess_frame (i reg : Nat) (s : State) : Frame [.scr, .outs] s (analogAccess i reg s) := by
  unfold analogAccess
  try extract_lets
  repeat' first
    | with_reducible apply Frame.refl | ((with_reducible apply Covered.mk); decide)
    | with_reducible apply Frame.step (modScr_frame ..) | with_reducible apply Frame.step (emit_frame ..) | split

theorem analogStep_frame (x : Analog) (d : Nat) (s : State) :
    Frame [.nvm, .boot, .gnd, .sents, .scr, .wch, .slots, .ldg, .mem, .nextTag, .outs, .fresh] s (analogStep x d s) := by
  unfold analogStep
  try extract_lets
  repeat' first
    | with_reducible apply Frame.refl | ((with_reducible apply Covered.mk); decide)
    | with_reducible apply Frame.step (analogAccess_frame ..) | with_reducible apply Frame.step (modScr_frame ..)
    | with_reducible apply Frame.step (endAnalog_frame ..) | split

theorem startAnalog_frame (i : Nat) (s : State) : Frame [.scr, .outs] s (startAnalog i s) := by
  unfold startAnalog
  try extract_lets
  repeat' first
    | with_reducible apply Frame.refl | ((with_reducible apply Covered.mk); decide)
    | with_reducible apply Frame.step (analogAccess_frame ..) | with_reducible apply Frame.step (modScr_frame ..) | split

theorem masterConflict_frame (s : State) :
    Frame [.stk, .gnd, .sents, .wch, .slots, .ldg, .mem, .nextTag, .outs, .fresh] s (masterConflict s) := by
  unfold masterConflict
  try extract_lets
  repeat' first
    | with_reducible apply Frame.refl | ((with_reducible apply Covered.mk); decide)
    | with_reducible apply Frame.step (recordBlock_frame ..) | with_reducible apply Frame.step (modStk_frame ..) | split

theorem enterLost_frame (s : State) :
    Frame [.energies, .stk, .gnd, .sents, .parts, .epochs, .chks, .cpy, .dgt, .rcv, .wch, .slots, .ldg, .mem, .nextTag, .outs, .fresh] s (enterLost s) := by
  unfold enterLost
  try extract_lets
  repeat' first
    | with_reducible apply Frame.refl | ((with_reducible apply Covered.mk); decide)
    | with_reducible apply Frame.step (leaveAll_frame ..) | with_reducible apply Frame.step (modStk_frame ..) | split

theorem schedule_frame (n t : Nat) (s : State) : Frame [.stk] s (schedule n t s) := by
  unfold schedule
  try extract_lets
  repeat' first
    | with_reducible apply Frame.refl | ((with_reducible apply Covered.mk); decide)
    | with_reducible apply Frame.step (modStk_frame ..) | split

theorem supply_frame (l : Nat) (m : Marker) (t residence : Nat) (s : State) :
    Frame [.stk, .wch, .ldg, .mem, .nextTag, .outs] s (supply l m t residence s) := by
  unfold supply
  try extract_lets
  repeat' first
    | with_reducible apply Frame.refl | ((with_reducible apply Covered.mk); decide)
    | with_reducible apply Frame.step (schedule_frame ..) | with_reducible apply Frame.step (modStk_frame ..)
    | with_reducible apply Frame.step (flood_frame ..) | split

theorem scheduleOwn_frame (s : State) : Frame [.stk] s (scheduleOwn s) := by
  unfold scheduleOwn
  try extract_lets
  repeat' first
    | with_reducible apply Frame.refl | ((with_reducible apply Covered.mk); decide)
    | with_reducible apply Frame.step (schedule_frame ..) | with_reducible apply Frame.step (modStk_frame ..) | split

theorem mismatched_frame (s : State) :
    Frame [.energies, .stk, .gnd, .sents, .parts, .epochs, .chks, .cpy, .dgt, .rcv, .wch, .slots, .ldg, .mem, .nextTag, .outs, .fresh] s (mismatched s) := by
  unfold mismatched
  try extract_lets
  repeat' first
    | with_reducible apply Frame.refl | ((with_reducible apply Covered.mk); decide)
    | with_reducible apply Frame.step (enterLost_frame ..) | with_reducible apply Frame.step (scheduleOwn_frame ..)
    | with_reducible apply Frame.step (modStk_frame ..) | split

theorem strokeStep_frame (old new cause l : Nat) (s : State) :
    Frame [.gnd, .sents, .wch, .slots, .ldg, .mem, .nextTag, .outs, .fresh] s (strokeStep old new cause l s) := by
  unfold strokeStep
  try extract_lets
  repeat' first
    | with_reducible apply Frame.refl | ((with_reducible apply Covered.mk); decide)
    | with_reducible apply Frame.step (recordBlock_frame ..) | split

theorem followMarker_frame (l : Nat) (m : Marker) (t residence : Nat) (s : State) :
    Frame [.energies, .stk, .gnd, .sents, .parts, .epochs, .chks, .cpy, .dgt, .rcv, .wch, .slots, .ldg, .mem, .nextTag, .outs, .fresh] s (followMarker l m t residence s) := by
  unfold followMarker
  try extract_lets
  repeat' first
    | with_reducible apply Frame.refl | ((with_reducible apply Covered.mk); decide)
    | with_reducible apply Frame.step (supply_frame ..) | with_reducible apply Frame.step (mismatched_frame ..)
    | with_reducible apply Frame.step (modStk_frame ..) | with_reducible apply Frame.step (strokeStep_frame ..)
    | ((with_reducible apply Frame.whenB) <;> try intro _) | split

theorem foreignMarker_frame (s : State) : Frame [.stk] s (foreignMarker s) := by
  unfold foreignMarker
  try extract_lets
  repeat' first
    | with_reducible apply Frame.refl | ((with_reducible apply Covered.mk); decide)
    | with_reducible apply Frame.step (modStk_frame ..) | split

theorem sendHeart_frame (l : Nat) (s : State) : Frame [.wch, .ldg, .mem, .nextTag, .outs, .fresh] s (sendHeart l s) := by
  unfold sendHeart
  try extract_lets
  repeat' first
    | with_reducible apply Frame.refl | ((with_reducible apply Covered.mk); decide)
    | with_reducible apply Frame.step (modLink_frame ..) | with_reducible apply Frame.step (bumpFresh_frame ..)
    | with_reducible apply Frame.step (sendOn_frame ..) | split

theorem pinTryLock_frame (s : State) : Frame [.stk] s (pinTryLock s) := by
  unfold pinTryLock
  try extract_lets
  repeat' first
    | with_reducible apply Frame.refl | ((with_reducible apply Covered.mk); decide)
    | with_reducible apply Frame.step (modStk_frame ..) | split

theorem takeEdge_frame (now0 : Nat) (s : State) : Frame [.stk] s (takeEdge now0 s) := by
  unfold takeEdge
  try extract_lets
  repeat' first
    | with_reducible apply Frame.refl | ((with_reducible apply Covered.mk); decide)
    | with_reducible apply Frame.step (pinTryLock_frame ..) | with_reducible apply Frame.step (schedule_frame ..)
    | with_reducible apply Frame.step (modStk_frame ..) | split

theorem lowNeighbour_frame (l num own chip : Nat) (s : State) :
    Frame [.stk, .gnd, .sents, .wch, .slots, .ldg, .mem, .nextTag, .outs, .fresh] s (lowNeighbour l num own chip s) := by
  unfold lowNeighbour
  try extract_lets
  repeat' first
    | with_reducible apply Frame.refl | ((with_reducible apply Covered.mk); decide)
    | with_reducible apply Frame.step (recordBlock_frame ..) | with_reducible apply Frame.step (modStk_frame ..)
    | ((with_reducible apply Frame.whenB) <;> try intro _) | split

theorem startCheck_frame (s : State) :
    Frame [.gnd, .sents, .wch, .slots, .ldg, .mem, .nextTag, .outs, .fresh] s (startCheck s) := by
  unfold startCheck
  try extract_lets
  repeat' first
    | with_reducible apply Frame.refl | ((with_reducible apply Covered.mk); decide)
    | with_reducible apply Frame.step (strokeStep_frame ..) | ((with_reducible apply Frame.whenB) <;> try intro _) | split

theorem masterStart_frame (s : State) :
    Frame [.stk, .gnd, .sents, .wch, .slots, .ldg, .mem, .nextTag, .outs, .fresh] s (masterStart s) := by
  unfold masterStart
  try extract_lets
  repeat' first
    | with_reducible apply Frame.refl | ((with_reducible apply Covered.mk); decide)
    | with_reducible apply Frame.step (startCheck_frame ..) | with_reducible apply Frame.step (modStk_frame ..)
    | with_reducible apply Frame.step (masterConflict_frame ..) | split

theorem writeEnable_frame (v : Word) (s : State) :
    Frame [.tcfg, .stk, .gnd, .sents, .wch, .slots, .ldg, .mem, .nextTag, .outs, .fresh] s (writeEnable v s) := by
  unfold writeEnable
  try extract_lets
  repeat' first
    | with_reducible apply Frame.refl | ((with_reducible apply Covered.mk); decide)
    | with_reducible apply Frame.step (masterStart_frame ..) | with_reducible apply Frame.step (startCheck_frame ..)
    | with_reducible apply Frame.step (modStk_frame ..) | ((with_reducible apply Frame.whenB) <;> try intro _) | split
    | exact ⟨fun c h => by cases c <;> first | exact rfl | exact absurd (by decide) h⟩

theorem followTick_frame (fly : Bool) (s : State) :
    Frame [.energies, .stk, .gnd, .sents, .parts, .epochs, .chks, .cpy, .dgt, .rcv, .wch, .slots, .ldg, .mem, .nextTag, .outs, .fresh] s (followTick fly s) := by
  unfold followTick
  try extract_lets
  repeat' first
    | with_reducible apply Frame.refl | ((with_reducible apply Covered.mk); decide)
    | with_reducible apply Frame.step (enterLost_frame ..) | with_reducible apply Frame.step (modStk_frame ..) | split

theorem adoptNumber_frame (l num own : Nat) (s : State) :
    Frame [.stk, .gnd, .sents, .wch, .slots, .ldg, .mem, .nextTag, .outs, .fresh] s (adoptNumber l num own s) := by
  unfold adoptNumber
  try extract_lets
  repeat' first
    | with_reducible apply Frame.refl | ((with_reducible apply Covered.mk); decide)
    | with_reducible apply Frame.step (modStk_frame ..) | with_reducible apply Frame.step (strokeStep_frame ..) | split

theorem mapNeighbour_frame (l num own : Nat) (s : State) : Frame [.stk] s (mapNeighbour l num own s) := by
  unfold mapNeighbour
  try extract_lets
  repeat' first
    | with_reducible apply Frame.refl | ((with_reducible apply Covered.mk); decide)
    | with_reducible apply Frame.step (modStk_frame ..) | split

theorem pinHeart_frame (l : Nat) (h : Heart) (now0 : Nat) (s : State) :
    Frame [.energies, .stk, .gnd, .sents, .parts, .epochs, .chks, .cpy, .dgt, .rcv, .wch, .slots, .ldg, .mem, .nextTag, .outs, .fresh] s (pinHeart l h now0 s) := by
  unfold pinHeart
  try extract_lets
  repeat' first
    | with_reducible apply Frame.refl | ((with_reducible apply Covered.mk); decide)
    | with_reducible apply Frame.step (pinTryLock_frame ..) | with_reducible apply Frame.step (adoptNumber_frame ..)
    | with_reducible apply Frame.step (mismatched_frame ..) | with_reducible apply Frame.step (mapNeighbour_frame ..)
    | with_reducible apply Frame.step (lowNeighbour_frame ..) | ((with_reducible apply Frame.whenB) <;> try intro _) | split

theorem tunnelDelay_frame (l : Nat) (h : Heart) (now0 : Nat) (s : State) : Frame [.stk, .wch] s (tunnelDelay l h now0 s) := by
  unfold tunnelDelay
  try extract_lets
  repeat' first
    | with_reducible apply Frame.refl | ((with_reducible apply Covered.mk); decide)
    | with_reducible apply Frame.step (modLink_frame ..) | with_reducible apply Frame.step (modStk_frame ..) | split

theorem missTick_frame (s : State) : Frame [.stk] s (missTick s) := by
  unfold missTick
  try extract_lets
  repeat' first
    | with_reducible apply Frame.refl | ((with_reducible apply Covered.mk); decide)
    | with_reducible apply Frame.step (scheduleOwn_frame ..) | with_reducible apply Frame.step (modStk_frame ..) | split

theorem periodMismatch_frame (cause : Nat) (s : State) :
    Frame [.stk, .gnd, .sents, .wch, .slots, .ldg, .mem, .nextTag, .outs, .fresh] s (periodMismatch cause s) := by
  unfold periodMismatch
  try extract_lets
  repeat' first
    | with_reducible apply Frame.refl | ((with_reducible apply Covered.mk); decide)
    | with_reducible apply Frame.step (recordBlock_frame ..) | with_reducible apply Frame.step (modStk_frame ..) | split

theorem compareRate_frame (s : State) :
    Frame [.stk, .gnd, .sents, .wch, .slots, .ldg, .mem, .nextTag, .outs, .fresh] s (compareRate s) := by
  unfold compareRate
  try extract_lets
  repeat' first
    | with_reducible apply Frame.refl | ((with_reducible apply Covered.mk); decide)
    | with_reducible apply Frame.step (periodMismatch_frame ..) | ((with_reducible apply Frame.whenB) <;> try intro _)
    | split

theorem sendMarker_frame (s : State) : Frame [.wch, .ldg, .mem, .nextTag, .outs] s (sendMarker s) := by
  unfold sendMarker
  try extract_lets
  repeat' first
    | with_reducible apply Frame.refl | ((with_reducible apply Covered.mk); decide)
    | with_reducible apply Frame.step (flood_frame ..) | ((with_reducible apply Frame.whenB) <;> try intro _) | split

theorem configDiffers_frame (l : Nat) (h : Heart) (s : State) :
    Frame [.gnd, .sents, .wch, .slots, .ldg, .mem, .nextTag, .outs, .fresh] s (configDiffers l h s) := by
  unfold configDiffers
  try extract_lets
  repeat' first
    | with_reducible apply Frame.refl | ((with_reducible apply Covered.mk); decide)
    | with_reducible apply Frame.step (recordBlock_frame ..) | with_reducible apply Frame.step (modLink_frame ..)
    | ((with_reducible apply Frame.whenB) <;> try intro _) | split

theorem sendHearts_frame (s : State) : Frame [.wch, .ldg, .mem, .nextTag, .outs, .fresh] s (sendHearts s) := by
  unfold sendHearts
  try extract_lets
  repeat' first
    | with_reducible apply Frame.refl | ((with_reducible apply Covered.mk); decide)
    | with_reducible apply Frame.step (sendHeart_frame ..) | ((with_reducible apply Frame.forEach) <;> try intro _ _) | split

theorem writeLock_frame (v : Word) (s : State) :
    Frame [.tcfg, .stk, .gnd, .sents, .wch, .slots, .ldg, .mem, .nextTag, .outs, .fresh] s (writeLock v s) := by
  unfold writeLock
  try extract_lets
  repeat' first
    | with_reducible apply Frame.refl | ((with_reducible apply Covered.mk); decide)
    | with_reducible apply Frame.step (compareRate_frame ..) | split
    | exact ⟨fun c h => by cases c <;> first | exact rfl | exact absurd (by decide) h⟩

theorem noteSkew_frame (onParent : Bool) (n t : Nat) (s : State) : Frame [.stk] s (noteSkew onParent n t s) := by
  unfold noteSkew
  try extract_lets
  repeat' first
    | with_reducible apply Frame.refl | ((with_reducible apply Covered.mk); decide)
    | with_reducible apply Frame.step (modStk_frame ..) | split

theorem takeHeart_frame (l : Nat) (h : Heart) (now0 : Nat) (s : State) :
    Frame [.energies, .stk, .gnd, .sents, .parts, .epochs, .chks, .cpy, .dgt, .rcv, .wch, .slots, .ldg, .mem, .nextTag, .outs, .fresh] s (takeHeart l h now0 s) := by
  unfold takeHeart
  try extract_lets
  repeat' first
    | with_reducible apply Frame.refl | ((with_reducible apply Covered.mk); decide)
    | with_reducible apply Frame.step (modLink_frame ..) | with_reducible apply Frame.step (pinHeart_frame ..)
    | with_reducible apply Frame.step (tunnelDelay_frame ..) | with_reducible apply Frame.step (configDiffers_frame ..)
    | ((with_reducible apply Frame.whenB) <;> try intro _) | split

theorem writeRate_frame (v : Word) (s : State) : Frame [.tcfg, .stk] s (writeRate v s) := by
  unfold writeRate
  try extract_lets
  repeat' first
    | with_reducible apply Frame.refl | ((with_reducible apply Covered.mk); decide) | split
    | exact ⟨fun c h => by cases c <;> first | exact rfl | exact absurd (by decide) h⟩

theorem writeStkCfg_frame (v : Word) (s : State) :
    Frame [.tcfg, .stk, .gnd, .sents, .wch, .slots, .ldg, .mem, .nextTag, .outs, .fresh] s (writeStkCfg v s) := by
  unfold writeStkCfg
  try extract_lets
  repeat' first
    | with_reducible apply Frame.refl | ((with_reducible apply Covered.mk); decide)
    | with_reducible apply Frame.step (writeRate_frame ..) | with_reducible apply Frame.step (writeLock_frame ..)
    | with_reducible apply Frame.step (writeEnable_frame ..) | split

theorem takeMarker_frame (l : Nat) (m : Marker) (now0 residence : Nat) (s : State) :
    Frame [.energies, .stk, .gnd, .sents, .parts, .epochs, .chks, .cpy, .dgt, .rcv, .wch, .slots, .ldg, .mem, .nextTag, .outs, .fresh] s (takeMarker l m now0 residence s) := by
  unfold takeMarker
  try extract_lets
  repeat' first
    | with_reducible apply Frame.refl | ((with_reducible apply Covered.mk); decide)
    | with_reducible apply Frame.step (noteSkew_frame ..) | with_reducible apply Frame.step (followMarker_frame ..)
    | with_reducible apply Frame.step (foreignMarker_frame ..) | split

theorem rollOverlap_frame (h : FtHeader) (s : State) :
    Frame [.gnd, .sents, .dgt, .wch, .slots, .ldg, .mem, .nextTag, .outs, .fresh] s (rollOverlap h s) := by
  unfold rollOverlap
  try extract_lets
  repeat' first
    | with_reducible apply Frame.refl | ((with_reducible apply Covered.mk); decide)
    | with_reducible apply Frame.step (recordBlock_frame ..) | with_reducible apply Frame.step (modRepl_frame ..)
    | ((with_reducible apply Frame.forEach) <;> try intro _ _) | split

theorem openStream_frame (tap : Nat) (h : FtHeader) (s : State) :
    Frame [.gnd, .sents, .dgt, .wch, .slots, .ldg, .mem, .nextTag, .outs, .fresh] s (openStream tap h s) := by
  unfold openStream
  try extract_lets
  repeat' first
    | with_reducible apply Frame.refl | ((with_reducible apply Covered.mk); decide)
    | with_reducible apply Frame.step (gcount_frame ..) | with_reducible apply Frame.step (checkAgreement_frame ..)
    | with_reducible apply Frame.step (rollOverlap_frame ..) | with_reducible apply Frame.step (needTally_frame ..)
    | with_reducible apply Frame.step (modDgt_frame ..) | ((with_reducible apply Frame.whenB) <;> try intro _) | split

theorem tapProtocol_frame (tap stream case_ purpose : Nat) (dropped : Bool) (s : State) :
    Frame [.gnd, .sents, .dgt, .wch, .slots, .ldg, .mem, .nextTag, .outs, .fresh] s (tapProtocol tap stream case_ purpose dropped s) := by
  unfold tapProtocol
  try extract_lets
  repeat' first
    | with_reducible apply Frame.refl | ((with_reducible apply Covered.mk); decide)
    | with_reducible apply Frame.step (recordBlock_frame ..) | with_reducible apply Frame.step (modDgt_frame ..)
    | ((with_reducible apply Frame.whenB) <;> try intro _) | split

theorem closeWork_frame (x : Stream) (s : State) :
    Frame [.energies, .gnd, .sents, .parts, .epochs, .chks, .dgt, .taint, .rcv, .wch, .slots, .ldg, .mem, .nextTag, .outs, .fresh] s (closeWork x s) := by
  unfold closeWork
  try extract_lets
  repeat' first
    | with_reducible apply Frame.refl | ((with_reducible apply Covered.mk); decide)
    | with_reducible apply Frame.step (closeSum_frame ..) | with_reducible apply Frame.step (addShard_frame ..)
    | with_reducible apply Frame.step (checkRead_frame ..) | with_reducible apply Frame.step (closeShard_frame ..)
    | with_reducible apply Frame.step (closeContrib_frame ..) | with_reducible apply Frame.step (closeXport_frame ..)
    | with_reducible apply Frame.step (modDgt_frame ..) | ((with_reducible apply Frame.whenB) <;> try intro _) | split

theorem closeStream_frame (x : Stream) (whole : Bool) (s : State) :
    Frame [.energies, .gnd, .sents, .parts, .epochs, .chks, .dgt, .taint, .rcv, .wch, .slots, .ldg, .mem, .nextTag, .outs, .fresh] s (closeStream x whole s) := by
  unfold closeStream
  try extract_lets
  repeat' first
    | with_reducible apply Frame.refl | ((with_reducible apply Covered.mk); decide)
    | with_reducible apply Frame.step (closeWork_frame ..) | with_reducible apply Frame.step (modDgt_frame ..) | split

theorem fromTree_frame (up : Bool) (e l : Nat) {f : State → State} {m : List Comp} {s t : State} (hf : ∀ x, Frame m x (f x))
    (hc : Covered [.wch] m) (k : Frame m s t) : Frame m s (fromTree up e l f t) := by
  unfold fromTree
  repeat' split
  all_goals first | exact k.trans (hf t) | exact k.trans ((errEpoch_frame ..).mono hc)

theorem closeOpen_frame (tap stream : Nat) (s : State) :
    Frame [.energies, .gnd, .sents, .parts, .epochs, .chks, .dgt, .taint, .rcv, .wch, .slots, .ldg, .mem, .nextTag, .outs, .fresh] s (closeOpen tap stream s) := by
  unfold closeOpen
  try extract_lets
  repeat' first
    | with_reducible apply Frame.refl | ((with_reducible apply Covered.mk); decide)
    | with_reducible apply Frame.step (tapProtocol_frame ..) | with_reducible apply Frame.step (closeStream_frame ..) | split

theorem refusedCheck_frame (full : Bool) (h : FtHeader) (s : State) :
    Frame [.energies, .gnd, .sents, .parts, .epochs, .chks, .dgt, .taint, .rcv, .wch, .slots, .ldg, .mem, .nextTag, .outs, .fresh] s (refusedCheck full h s) := by
  unfold refusedCheck
  try extract_lets
  repeat' first
    | with_reducible apply Frame.refl | ((with_reducible apply Covered.mk); decide)
    | with_reducible apply Frame.step (landCheck_frame ..) | with_reducible apply Frame.step (modRepl_frame ..) | split

theorem takeHeader_frame (tap : Nat) (h : FtHeader) (s : State) :
    Frame [.energies, .gnd, .sents, .parts, .epochs, .chks, .dgt, .taint, .rcv, .wch, .slots, .ldg, .mem, .nextTag, .outs, .fresh] s (takeHeader tap h s) := by
  unfold takeHeader
  try extract_lets
  repeat' first
    | with_reducible apply Frame.refl | ((with_reducible apply Covered.mk); decide)
    | with_reducible apply Frame.step (recordBlock_frame ..) | with_reducible apply Frame.step (tapProtocol_frame ..)
    | with_reducible apply Frame.step (openStream_frame ..) | with_reducible apply Frame.step (closeOpen_frame ..)
    | with_reducible apply Frame.step (refusedCheck_frame ..) | with_reducible apply Frame.step (modDgt_frame ..) | split

theorem takeBeat_frame (x : Stream) (off count : Nat) (data : List Byte) (s : State) :
    Frame [.energies, .gnd, .sents, .parts, .epochs, .chks, .dgt, .taint, .rcv, .wch, .slots, .ldg, .mem, .nextTag, .outs, .fresh] s (takeBeat x off count data s) := by
  unfold takeBeat
  try extract_lets
  repeat' first
    | with_reducible apply Frame.refl | ((with_reducible apply Covered.mk); decide)
    | with_reducible apply Frame.step (tapProtocol_frame ..) | with_reducible apply Frame.step (closeStream_frame ..)
    | with_reducible apply Frame.step (modDgt_frame ..) | ((with_reducible apply Frame.whenB) <;> try intro _)
    | ((with_reducible apply Frame.foldl) <;> try intro _ _) | split

theorem publishTw_frame (s : State) :
    Frame [.gnd, .sents, .parts, .dgt, .wch, .slots, .ldg, .mem, .nextTag, .outs, .fresh] s (publishTw s) := by
  unfold publishTw
  try extract_lets
  repeat' first
    | with_reducible apply Frame.refl | ((with_reducible apply Covered.mk); decide)
    | with_reducible apply Frame.step (pcount_frame ..) | with_reducible apply Frame.step (recPart_frame ..)
    | with_reducible apply Frame.step (modDgt_frame ..) | ((with_reducible apply Frame.forEach) <;> try intro _ _) | split

theorem countTap_frame (n : Nat) (s : State) : Frame [.dgt, .ldg] s (countTap n s) := by
  unfold countTap
  try extract_lets
  repeat' first
    | with_reducible apply Frame.refl | ((with_reducible apply Covered.mk); decide)
    | with_reducible apply Frame.step (gcount_frame ..) | with_reducible apply Frame.step (modDgt_frame ..) | split

theorem takeLateFail_frame (v : VerdictMsg) (s : State) :
    Frame [.epochs, .wch, .ldg, .mem, .nextTag, .outs] s (takeLateFail v s) := by
  unfold takeLateFail
  try extract_lets
  repeat' first
    | with_reducible apply Frame.refl | ((with_reducible apply Covered.mk); decide)
    | with_reducible apply Frame.step (sendUp_frame ..) | with_reducible apply Frame.step (noteFail_frame ..)
    | ((with_reducible apply Frame.whenB) <;> try intro _) | split

theorem quarRequest_frame (v : Word) (s : State) :
    Frame [.nvm, .energies, .gnd, .sents, .parts, .epochs, .rcv, .wch, .slots, .ldg, .mem, .nextTag, .outs, .fresh] s (quarRequest v s) := by
  unfold quarRequest
  try extract_lets
  repeat' first
    | with_reducible apply Frame.refl | ((with_reducible apply Covered.mk); decide)
    | with_reducible apply Frame.step (quarantineOrWait_frame ..) | with_reducible apply Frame.step (modRcv_frame ..) | split

theorem startConfirm_frame (id i g : Nat) (vals : List Nat) (s : State) :
    Frame [.energies, .gnd, .sents, .parts, .epochs, .chks, .cpy, .taint, .rcv, .wch, .slots, .ldg, .mem, .nextTag, .outs, .fresh] s (startConfirm id i g vals s) := by
  unfold startConfirm
  try extract_lets
  repeat' first
    | with_reducible apply Frame.refl | ((with_reducible apply Covered.mk); decide)
    | with_reducible apply Frame.step (admitConfirm_frame ..) | with_reducible apply Frame.step (modPiece_frame ..)
    | ((with_reducible apply Frame.whenB) <;> try intro _) | split

theorem pieceVerdict_frame (id i code : Nat) (s : State) :
    Frame [.energies, .gnd, .sents, .parts, .epochs, .chks, .cpy, .taint, .rcv, .wch, .slots, .ldg, .mem, .nextTag, .outs, .fresh] s (pieceVerdict id i code s) := by
  unfold pieceVerdict
  try extract_lets
  repeat' first
    | with_reducible apply Frame.refl | ((with_reducible apply Covered.mk); decide)
    | with_reducible apply Frame.step (judgeCapture_frame ..) | with_reducible apply Frame.step (modPiece_frame ..) | split

theorem confirmDone_frame (id i : Nat) (c : Capture) (x : Piece) (vals : List Nat) (d : List (Nat × Nat × Nat)) (s : State) :
    Frame [.energies, .gnd, .sents, .parts, .epochs, .chks, .cpy, .taint, .rcv, .wch, .slots, .ldg, .mem, .nextTag, .outs, .fresh] s (confirmDone id i c x vals d s) := by
  unfold confirmDone
  try extract_lets
  repeat' first
    | with_reducible apply Frame.refl | ((with_reducible apply Covered.mk); decide)
    | with_reducible apply Frame.step (groupCanary_frame ..) | with_reducible apply Frame.step (pieceVerdict_frame ..)
    | with_reducible apply Frame.step (copyDisagree_frame ..) | with_reducible apply Frame.step (endPiece_frame ..)
    | with_reducible apply Frame.step (modCpy_frame ..) | with_reducible apply Frame.step (modPiece_frame ..) | split

theorem pieceRun_frame (id i : Nat) (r : GroupResult) (s : State) :
    Frame [.energies, .gnd, .sents, .parts, .epochs, .chks, .cpy, .taint, .rcv, .wch, .slots, .ldg, .mem, .nextTag, .outs, .fresh] s (pieceRun id i r s) := by
  unfold pieceRun
  try dsimp only
  repeat' first
    | with_reducible apply Frame.refl | ((with_reducible apply Covered.mk); decide)
    | with_reducible apply Frame.step (countMflop_frame ..) | with_reducible apply Frame.step (startConfirm_frame ..)
    | with_reducible apply Frame.step (pieceVerdict_frame ..) | with_reducible apply Frame.step (endPiece_frame ..)
    | with_reducible apply Frame.step (confirmDone_frame ..) | split

theorem takePeerReq_frame (l reqId origin chunks : Nat) (d : CopyDesc) (s : State) :
    Frame [.cpy, .wch, .ldg, .mem, .nextTag, .outs] s (takePeerReq l reqId origin chunks d s) := by
  unfold takePeerReq
  try extract_lets
  repeat' first
    | with_reducible apply Frame.refl | ((with_reducible apply Covered.mk); decide)
    | with_reducible apply Frame.step (modCpy_frame ..) | with_reducible apply Frame.step (peerAnswer_frame ..) | split

theorem closeDuplex_frame (idx : Nat) (s : State) : Frame [.cpy] s (closeDuplex idx s) := by
  unfold closeDuplex
  try extract_lets
  repeat' first
    | with_reducible apply Frame.refl | ((with_reducible apply Covered.mk); decide)
    | with_reducible apply Frame.step (modCpy_frame ..) | split

theorem directFor_frame (p : Nat) (s : State) : Frame [.sents] s (directFor p s) := by
  unfold directFor
  try extract_lets
  repeat' first
    | with_reducible apply Frame.refl | ((with_reducible apply Covered.mk); decide)
    | with_reducible apply Frame.step (modSent_frame ..) | split

theorem judgeDuplex_frame (idx : Nat) (s : State) :
    Frame [.energies, .gnd, .sents, .parts, .epochs, .chks, .cpy, .taint, .rcv, .wch, .slots, .ldg, .mem, .nextTag, .outs, .fresh] s (judgeDuplex idx s) := by
  unfold judgeDuplex
  try dsimp only
  repeat' first
    | with_reducible apply Frame.refl | ((with_reducible apply Covered.mk); decide)
    | with_reducible apply Frame.step (closeDuplex_frame ..) | with_reducible apply Frame.step (directFor_frame ..)
    | with_reducible apply Frame.step (landCheck_frame ..) | with_reducible apply Frame.step (copyFail_frame ..) | split

theorem duplexDone_frame (idx : Nat) (dup : Bool) (s : State) :
    Frame [.energies, .gnd, .sents, .parts, .epochs, .chks, .cpy, .taint, .rcv, .wch, .slots, .ldg, .mem, .nextTag, .outs, .fresh] s (duplexDone idx dup s) := by
  unfold duplexDone
  try extract_lets
  repeat' first
    | with_reducible apply Frame.refl | ((with_reducible apply Covered.mk); decide)
    | with_reducible apply Frame.step (judgeDuplex_frame ..) | with_reducible apply Frame.step (modCpy_frame ..) | split

theorem duplexUncovered_frame (idx n : Nat) (s : State) :
    Frame [.energies, .gnd, .sents, .parts, .epochs, .chks, .cpy, .taint, .rcv, .wch, .slots, .ldg, .mem, .nextTag, .outs, .fresh] s (duplexUncovered idx n s) := by
  unfold duplexUncovered
  try extract_lets
  repeat' first
    | with_reducible apply Frame.refl | ((with_reducible apply Covered.mk); decide)
    | with_reducible apply Frame.step (closeDuplex_frame ..) | with_reducible apply Frame.step (landCheck_frame ..)
    | with_reducible apply Frame.step (dropRecord_frame ..) | split

theorem captureLast_frame (id : Nat) (s : State) :
    Frame [.energies, .gnd, .sents, .parts, .epochs, .chks, .cpy, .taint, .rcv, .wch, .slots, .ldg, .mem, .nextTag, .outs, .fresh] s (captureLast id s) := by
  unfold captureLast
  try extract_lets
  repeat' first
    | with_reducible apply Frame.refl | ((with_reducible apply Covered.mk); decide)
    | with_reducible apply Frame.step (gcount_frame ..) | with_reducible apply Frame.step (freeCapture_frame ..)
    | with_reducible apply Frame.step (issueMem_frame ..) | with_reducible apply Frame.step (landCheck_frame ..)
    | with_reducible apply Frame.step (modCap_frame ..) | with_reducible apply Frame.step (dropCapture_frame ..)
    | with_reducible apply Frame.step (copyFail_frame ..) | split

theorem captureBeat_frame (id : Nat) (b : TapBeat) (s : State) :
    Frame [.energies, .gnd, .sents, .parts, .epochs, .chks, .cpy, .taint, .rcv, .wch, .slots, .ldg, .mem, .nextTag, .outs, .fresh] s (captureBeat id b s) := by
  unfold captureBeat
  try extract_lets
  repeat' first
    | with_reducible apply Frame.refl | ((with_reducible apply Covered.mk); decide)
    | with_reducible apply Frame.step (captureLast_frame ..) | with_reducible apply Frame.step (modCap_frame ..)
    | with_reducible apply Frame.step (dropCapture_frame ..) | ((with_reducible apply Frame.whenB) <;> try intro _) | split

theorem closeSlot_frame (p c : Nat) (s : State) :
    Frame [.energies, .gnd, .sents, .parts, .epochs, .chks, .cpy, .taint, .rcv, .wch, .slots, .ldg, .mem, .nextTag, .outs, .fresh] s (closeSlot p c s) := by
  unfold closeSlot
  try extract_lets
  repeat' first
    | with_reducible apply Frame.refl | ((with_reducible apply Covered.mk); decide)
    | with_reducible apply Frame.step (modSent_frame ..) | with_reducible apply Frame.step (dropCapture_frame ..) | split

theorem enterCmd_frame (p : Nat) (t : TagCmd) (rsp partner : Nat) (cap dup : Option Nat) (s : State) :
    Frame [.gnd, .sents, .parts, .rcv, .wch, .slots, .ldg, .mem, .nextTag, .outs, .fresh] s (enterCmd p t rsp partner cap dup s) := by
  unfold enterCmd
  try extract_lets
  repeat' first
    | with_reducible apply Frame.refl | ((with_reducible apply Covered.mk); decide)
    | with_reducible apply Frame.step (modSent_frame ..) | with_reducible apply Frame.step (pcount_frame ..)
    | with_reducible apply Frame.step (emit_frame ..) | with_reducible apply Frame.step (nameContext_frame ..)
    | ((with_reducible apply Frame.whenB) <;> try intro _) | split

theorem duplexed_frame (p q : Nat) (t : TagCmd) (s : State) :
    Frame [.gnd, .sents, .parts, .cpy, .rcv, .wch, .slots, .ldg, .mem, .nextTag, .outs, .fresh] s (duplexed p q t s) := by
  unfold duplexed
  try extract_lets
  repeat' first
    | with_reducible apply Frame.refl | ((with_reducible apply Covered.mk); decide)
    | with_reducible apply Frame.step (modSent_frame ..) | with_reducible apply Frame.step (pcount_frame ..)
    | with_reducible apply Frame.step (enterCmd_frame ..) | with_reducible apply Frame.step (modCpy_frame ..) | split

theorem copySampled_frame (p : Nat) (t : TagCmd) (s : State) :
    Frame [.energies, .gnd, .sents, .parts, .epochs, .chks, .cpy, .taint, .rcv, .wch, .slots, .ldg, .mem, .nextTag, .outs, .fresh] s (copySampled p t s) := by
  unfold copySampled
  try extract_lets
  repeat' first
    | with_reducible apply Frame.refl | ((with_reducible apply Covered.mk); decide)
    | with_reducible apply Frame.step (openCapture_frame ..) | with_reducible apply Frame.step (modSent_frame ..)
    | with_reducible apply Frame.step (pcount_frame ..) | with_reducible apply Frame.step (enterCmd_frame ..)
    | with_reducible apply Frame.step (dropCheck_frame ..) | split

theorem acceptTag_frame (p : Nat) (t : TagCmd) (s : State) :
    Frame [.energies, .gnd, .sents, .parts, .epochs, .chks, .cpy, .taint, .rcv, .wch, .slots, .ldg, .mem, .nextTag, .outs, .fresh] s (acceptTag p t s) := by
  unfold acceptTag
  try extract_lets
  repeat' first
    | with_reducible apply Frame.refl | ((with_reducible apply Covered.mk); decide)
    | with_reducible apply Frame.step (duplexed_frame ..) | with_reducible apply Frame.step (copySampled_frame ..)
    | with_reducible apply Frame.step (enterCmd_frame ..) | split

theorem takeSuspect_frame (v : VerdictMsg) (s : State) : Frame [.cpy] s (takeSuspect v s) := by
  unfold takeSuspect
  try extract_lets
  repeat' first
    | with_reducible apply Frame.refl | ((with_reducible apply Covered.mk); decide)
    | with_reducible apply Frame.step (groupCanary_frame ..) | ((with_reducible apply Frame.forEach) <;> try intro _ _)
    | split

theorem goldenRun_frame (e g : Nat) (r : GroupResult) (s : State) :
    Frame [.nvm, .boot, .gnd, .sents, .cpy, .wch, .slots, .ldg, .mem, .nextTag, .outs, .fresh] s (goldenRun e g r s) := by
  unfold goldenRun
  try extract_lets
  repeat' first
    | with_reducible apply Frame.refl | ((with_reducible apply Covered.mk); decide)
    | with_reducible apply Frame.step (goldenValue_frame ..) | split

theorem writeCpyCfg_frame (v : Word) (s : State) : Frame [.cpy] s (writeCpyCfg v s) := by
  unfold writeCpyCfg
  try extract_lets
  repeat' first
    | with_reducible apply Frame.refl | ((with_reducible apply Covered.mk); decide)
    | with_reducible apply Frame.step (modCpy_frame ..) | split

theorem takePeerData_frame (l reqId chunk : Nat) (last : Bool) (data : List Byte) (s : State) :
    Frame [.cpy] s (takePeerData l reqId chunk last data s) := by
  unfold takePeerData
  try extract_lets
  repeat' first
    | with_reducible apply Frame.refl | ((with_reducible apply Covered.mk); decide)
    | with_reducible apply Frame.step (peerAdmit_frame ..) | with_reducible apply Frame.step (modCpy_frame ..)
    | ((with_reducible apply Frame.whenB) <;> try intro _) | split

theorem duplexBeat_frame (idx : Nat) (dup : Bool) (b : TapBeat) (s : State) : Frame [.cpy] s (duplexBeat idx dup b s) := by
  unfold duplexBeat
  try extract_lets
  repeat' first
    | with_reducible apply Frame.refl | ((with_reducible apply Covered.mk); decide)
    | with_reducible apply Frame.step (modCpy_frame ..) | split

theorem takePeerResp_frame (l reqId status dg : Nat) (s : State) :
    Frame [.energies, .gnd, .sents, .parts, .epochs, .chks, .cpy, .taint, .rcv, .wch, .slots, .ldg, .mem, .nextTag, .outs, .fresh] s (takePeerResp l reqId status dg s) := by
  unfold takePeerResp
  try extract_lets
  repeat' first
    | with_reducible apply Frame.refl | ((with_reducible apply Covered.mk); decide)
    | with_reducible apply Frame.step (peerDone_frame ..) | with_reducible apply Frame.step (peerUncovered_frame ..)
    | with_reducible apply Frame.step (modCpy_frame ..) | split

theorem takeExps_frame (l : Nat) (e : ExpMsg) (s : State) :
    Frame [.gnd, .sents, .dgt, .wch, .slots, .ldg, .mem, .nextTag, .outs, .fresh] s (takeExps l e s) := by
  unfold takeExps
  try dsimp only
  repeat' first
    | with_reducible apply Frame.refl | ((with_reducible apply Covered.mk); decide)
    | with_reducible apply Frame.step (relayBypass_frame ..) | ((with_reducible apply fromTree_frame) <;> try intro _)
    | with_reducible apply Frame.step (takeAgreed_frame ..) | with_reducible apply Frame.step (takeProposal_frame ..) | split

theorem bcResult_frame (r : Nat) (s : State) : Frame [.wch] s (bcResult r s) := by
  unfold bcResult
  try extract_lets
  repeat' first
    | with_reducible apply Frame.refl | ((with_reducible apply Covered.mk); decide)
    | with_reducible apply Frame.step (modWch_frame ..) | split

theorem floodChunk_frame (except : Option Nat) (src item idx : Nat) (bs : List Byte) (s : State) :
    Frame [.wch, .ldg, .mem, .nextTag, .outs] s (floodChunk except src item idx bs s) := by
  unfold floodChunk
  try extract_lets
  repeat' first
    | with_reducible apply Frame.refl | ((with_reducible apply Covered.mk); decide)
    | with_reducible apply Frame.step (flood_frame ..) | ((with_reducible apply Frame.forEach) <;> try intro _ _) | split

theorem writeBcast_frame (v : Word) (item : MemRead) (s : State) :
    Frame [.wch, .ldg, .mem, .nextTag, .outs] s (writeBcast v item s) := by
  unfold writeBcast
  try extract_lets
  repeat' first
    | with_reducible apply Frame.refl | ((with_reducible apply Covered.mk); decide)
    | with_reducible apply Frame.step (bcResult_frame ..) | with_reducible apply Frame.step (floodChunk_frame ..)
    | with_reducible apply Frame.step (modWch_frame ..) | ((with_reducible apply Frame.forEach) <;> try intro _ _) | split

theorem endItem_frame (x : Bcast) (s : State) : Frame [.wch] s (endItem x s) := by
  unfold endItem
  try extract_lets
  repeat' first
    | with_reducible apply Frame.refl | ((with_reducible apply Covered.mk); decide)
    | with_reducible apply Frame.step (modWch_frame ..) | split

theorem nextChunk_frame (x : Bcast) (bs : List Byte) (s : State) : Frame [.wch] s (nextChunk x bs s) := by
  unfold nextChunk
  try extract_lets
  repeat' first
    | with_reducible apply Frame.refl | ((with_reducible apply Covered.mk); decide)
    | with_reducible apply Frame.step (modWch_frame ..) | with_reducible apply Frame.step (endItem_frame ..)
    | ((with_reducible apply Frame.whenB) <;> try intro _) | split

theorem dropChunk_frame (s : State) : Frame [.wch] s (dropChunk s) := by
  unfold dropChunk
  try extract_lets
  repeat' first
    | with_reducible apply Frame.refl | ((with_reducible apply Covered.mk); decide)
    | with_reducible apply Frame.step (modWch_frame ..) | split

theorem chunkBad_frame (l item idx : Nat) (s : State) :
    Frame [.gnd, .sents, .wch, .slots, .ldg, .mem, .nextTag, .outs, .fresh] s (chunkBad l item idx s) := by
  unfold chunkBad
  try extract_lets
  repeat' first
    | with_reducible apply Frame.refl | ((with_reducible apply Covered.mk); decide)
    | with_reducible apply Frame.step (recordBlock_frame ..) | split

theorem openItem_frame (h : ChunkHead) (s : State) : Frame [.wch] s (openItem h s) := by
  unfold openItem
  try extract_lets
  repeat' first
    | with_reducible apply Frame.refl | ((with_reducible apply Covered.mk); decide)
    | with_reducible apply Frame.step (modWch_frame ..) | split

theorem takeChunk_frame (l src item idx : Nat) (bs : List Byte) (s : State) :
    Frame [.gnd, .sents, .wch, .slots, .ldg, .mem, .nextTag, .outs, .fresh] s (takeChunk l src item idx bs s) := by
  unfold takeChunk
  try extract_lets
  repeat' first
    | with_reducible apply Frame.refl | ((with_reducible apply Covered.mk); decide)
    | with_reducible apply Frame.step (floodChunk_frame ..) | with_reducible apply Frame.step (nextChunk_frame ..)
    | with_reducible apply Frame.step (dropChunk_frame ..) | with_reducible apply Frame.step (chunkBad_frame ..)
    | with_reducible apply Frame.step (openItem_frame ..) | split

theorem sendRec_frame (dest : Nat) (m : Msg) {f : State → State} {l : List Comp} {s t : State} (hf : ∀ x, Frame l x (f x))
    (hc : Covered [.wch, .ldg, .mem, .nextTag, .outs] l) (k : Frame l s t) : Frame l s (sendRec dest m f t) := by
  unfold sendRec
  split
  · exact k.trans (hf t)
  · exact k.trans ((sendRouted_frame ..).mono hc)

theorem takeAsFragment_frame (src kind : Nat) (s : State) :
    Frame [.wch, .slots, .mem, .nextTag, .outs, .fresh] s (takeAsFragment src kind s) := by
  unfold takeAsFragment
  try extract_lets
  repeat' first
    | with_reducible apply Frame.refl | ((with_reducible apply Covered.mk); decide)
    | with_reducible apply Frame.step (rxRing_frame ..) | with_reducible apply Frame.step (bumpFresh_frame ..) | split

theorem takeCubeCensus_frame (src : Nat) (s : State) :
    Frame [.wch, .slots, .mem, .nextTag, .outs, .fresh] s (takeCubeCensus src s) := by
  unfold takeCubeCensus
  try extract_lets
  repeat' first
    | with_reducible apply Frame.refl | ((with_reducible apply Covered.mk); decide)
    | with_reducible apply Frame.step (modWch_frame ..) | with_reducible apply Frame.step (takeAsFragment_frame ..)
    | ((with_reducible apply Frame.whenB) <;> try intro _) | split

theorem sendCube_frame (s : State) : Frame [.wch, .slots, .ldg, .mem, .nextTag, .outs, .fresh] s (sendCube s) := by
  unfold sendCube
  try dsimp only
  repeat' first
    | with_reducible apply Frame.refl | ((with_reducible apply Covered.mk); decide)
    | with_reducible apply Frame.step (modWch_frame ..) | ((with_reducible apply sendRec_frame) <;> try intro _)
    | with_reducible apply Frame.step (takeCubeCensus_frame ..) | ((with_reducible apply Frame.whenB) <;> try intro _)
    | split

theorem takeCensus_frame (c : CensusSummary) (s : State) :
    Frame [.wch, .slots, .ldg, .mem, .nextTag, .outs, .fresh] s (takeCensus c s) := by
  unfold takeCensus
  try extract_lets
  repeat' first
    | with_reducible apply Frame.refl | ((with_reducible apply Covered.mk); decide)
    | with_reducible apply Frame.step (modWch_frame ..) | with_reducible apply Frame.step (takeAsFragment_frame ..)
    | with_reducible apply Frame.step (sendCube_frame ..) | ((with_reducible apply Frame.whenB) <;> try intro _) | split

theorem sendCensus_frame (s : State) : Frame [.wch, .slots, .ldg, .mem, .nextTag, .outs, .fresh] s (sendCensus s) := by
  unfold sendCensus
  try dsimp only
  repeat' first
    | with_reducible apply Frame.refl | ((with_reducible apply Covered.mk); decide)
    | ((with_reducible apply sendRec_frame) <;> try intro _) | with_reducible apply Frame.step (takeCensus_frame ..)
    | ((with_reducible apply Frame.forEach) <;> try intro _ _) | split

theorem takeTally_frame (l : Nat) (bypass : Bool) (t : TallyMsg) (s : State) :
    Frame [.energies, .gnd, .sents, .parts, .epochs, .chks, .dgt, .taint, .rcv, .wch, .slots, .ldg, .mem, .nextTag, .outs, .fresh] s (takeTally l bypass t s) := by
  unfold takeTally
  try dsimp only
  repeat' first
    | with_reducible apply Frame.refl | ((with_reducible apply Covered.mk); decide)
    | with_reducible apply Frame.step (takeTallyUp_frame ..) | ((with_reducible apply fromTree_frame) <;> try intro _)
    | with_reducible apply Frame.step (takeTallyTotal_frame ..) | split

theorem takeVerdict_frame (l : Nat) (bypass : Bool) (v : VerdictMsg) (s : State) :
    Frame [.gnd, .sents, .parts, .epochs, .cpy, .rcv, .wch, .slots, .ldg, .mem, .nextTag, .outs, .fresh] s (takeVerdict l bypass v s) := by
  unfold takeVerdict
  try dsimp only
  repeat' first
    | with_reducible apply Frame.refl | ((with_reducible apply Covered.mk); decide)
    | with_reducible apply Frame.step (takeDown_frame ..) | ((with_reducible apply fromTree_frame) <;> try intro _)
    | with_reducible apply Frame.step (takeSuspect_frame ..) | with_reducible apply Frame.step (takeUp_frame ..)
    | with_reducible apply Frame.step (takeLateFail_frame ..) | with_reducible apply Frame.step (sendDown_frame ..) | split

theorem takeFrag_frame (l src item idx g : Nat) (data : List Byte) (s : State) :
    Frame [.gnd, .sents, .wch, .slots, .ldg, .mem, .nextTag, .outs, .fresh] s (takeFrag l src item idx g data s) := by
  unfold takeFrag
  try extract_lets
  repeat' first
    | with_reducible apply Frame.refl | ((with_reducible apply Covered.mk); decide)
    | with_reducible apply Frame.step (modWch_frame ..) | with_reducible apply Frame.step (takeChunk_frame ..) | split

theorem hostile_frame (l : Nat) (f : Flit) (s : State) :
    Frame [.nvm, .gnd, .sents, .wch, .slots, .ldg, .mem, .nextTag, .outs, .fresh] s (hostile l f s) := by
  unfold hostile
  try extract_lets
  repeat' first
    | with_reducible apply Frame.refl | ((with_reducible apply Covered.mk); decide)
    | with_reducible apply Frame.step (toQuarantine_frame ..) | with_reducible apply Frame.step (recordBlock_frame ..)
    | with_reducible apply Frame.step (irqSet_frame ..) | with_reducible apply Frame.step (modErr_frame ..) | split

theorem deliver_frame (l : Nat) (f : Flit) (now0 : Nat) (s : State) :
    Frame [.energies, .stk, .gnd, .sents, .parts, .epochs, .chks, .cpy, .dgt, .taint, .rcv, .wch, .slots, .ldg, .mem, .nextTag, .outs, .fresh] s (deliver l f now0 s) := by
  unfold deliver
  try extract_lets
  repeat' first
    | with_reducible apply Frame.refl | ((with_reducible apply Covered.mk); decide)
    | with_reducible apply Frame.step (rxRing_frame ..) | with_reducible apply Frame.step (takeTally_frame ..)
    | with_reducible apply Frame.step (takePeerResp_frame ..) | with_reducible apply Frame.step (takeVerdict_frame ..)
    | with_reducible apply Frame.step (takeAlarm_frame ..) | with_reducible apply Frame.step (takePeerData_frame ..)
    | with_reducible apply Frame.step (takeHeart_frame ..) | with_reducible apply Frame.step (bumpFresh_frame ..)
    | with_reducible apply Frame.step (takePeerReq_frame ..) | with_reducible apply Frame.step (takeExps_frame ..)
    | with_reducible apply Frame.step (takeMarker_frame ..) | with_reducible apply Frame.step (takeCubeCensus_frame ..)
    | with_reducible apply Frame.step (takeResult_frame ..) | with_reducible apply Frame.step (takeShard_frame ..)
    | with_reducible apply Frame.step (takeCensus_frame ..) | with_reducible apply Frame.step (takeXport_frame ..)
    | with_reducible apply Frame.step (takeFrag_frame ..) | split

theorem acceptFlit_frame (l : Nat) (f : Flit) (now0 : Nat) (s : State) :
    Frame [.energies, .stk, .gnd, .sents, .parts, .epochs, .chks, .cpy, .dgt, .taint, .rcv, .wch, .slots, .ldg, .mem, .nextTag, .outs, .fresh] s (acceptFlit l f now0 s) := by
  unfold acceptFlit
  try extract_lets
  repeat' first
    | with_reducible apply Frame.refl | ((with_reducible apply Covered.mk); decide)
    | with_reducible apply Frame.step (errEpoch_frame ..) | with_reducible apply Frame.step (routeFlit_frame ..)
    | with_reducible apply Frame.step (errTtl_frame ..) | with_reducible apply Frame.step (deliver_frame ..) | split

theorem crcFailed_frame (l lane now0 : Nat) (s : State) : Frame [.wch, .outs] s (crcFailed l lane now0 s) := by
  unfold crcFailed
  try extract_lets
  repeat' first
    | with_reducible apply Frame.refl | ((with_reducible apply Covered.mk); decide)
    | with_reducible apply Frame.step (modLink_frame ..) | with_reducible apply Frame.step (sendNack_frame ..) | split

theorem takeFlit_frame (l lane : Nat) (crcOk tagOk : Bool) (f : Flit) (now0 : Nat) (s : State) :
    Frame [.nvm, .energies, .stk, .gnd, .sents, .parts, .epochs, .chks, .cpy, .dgt, .taint, .rcv, .wch, .slots, .ldg, .mem, .nextTag, .outs, .fresh] s (takeFlit l lane crcOk tagOk f now0 s) := by
  unfold takeFlit
  try extract_lets
  repeat' first
    | with_reducible apply Frame.refl | ((with_reducible apply Covered.mk); decide)
    | with_reducible apply Frame.step (gcount_frame ..) | with_reducible apply Frame.step (modLink_frame ..)
    | with_reducible apply Frame.step (hostile_frame ..) | with_reducible apply Frame.step (acceptFlit_frame ..)
    | with_reducible apply Frame.step (crcFailed_frame ..) | with_reducible apply Frame.step (sendNack_frame ..)
    | with_reducible apply Frame.step (takeAck_frame ..) | split

theorem admitPart_frame (b : JoinBlk) (k : Nat) (s : State) : Frame [.parts, .slots] s (admitPart b k s) := by
  unfold admitPart
  try extract_lets
  repeat' first
    | with_reducible apply Frame.refl | ((with_reducible apply Covered.mk); decide)
    | with_reducible apply Frame.step (modPart_frame ..) | with_reducible apply Frame.step (setPart_frame ..) | split

theorem noteEpoch_frame (b : JoinBlk) (s : State) : Frame [.epochs] s (noteEpoch b s) := by
  unfold noteEpoch
  try extract_lets
  repeat' first
    | with_reducible apply Frame.refl | ((with_reducible apply Covered.mk); decide) | split
    | exact ⟨fun c h => by cases c <;> first | exact rfl | exact absurd (by decide) h⟩

theorem joinAccept_frame (b : JoinBlk) (s : State) : Frame [.parts, .epochs, .rcv, .slots] s (joinAccept b s) := by
  unfold joinAccept
  try dsimp only
  repeat' first
    | with_reducible apply Frame.refl | ((with_reducible apply Covered.mk); decide)
    | with_reducible apply Frame.step (modPart_frame ..) | with_reducible apply Frame.step (modRcv_frame ..)
    | with_reducible apply Frame.step (admitPart_frame ..) | with_reducible apply Frame.step (noteEpoch_frame ..)
    | ((with_reducible apply Frame.forEach) <;> try intro _ _) | split

theorem rebindPart_frame (k : Nat) (s : State) :
    Frame [.gnd, .sents, .rcv, .wch, .slots, .ldg, .mem, .nextTag, .outs, .fresh] s (rebindPart k s) := by
  unfold rebindPart
  try extract_lets
  repeat' first
    | with_reducible apply Frame.refl | ((with_reducible apply Covered.mk); decide)
    | with_reducible apply Frame.step (nameContext_frame ..) | with_reducible apply Frame.step (unbindPart_frame ..)
    | ((with_reducible apply Frame.forEach) <;> try intro _ _) | split

theorem beginEpoch_frame (k e : Nat) (s : State) :
    Frame [.energies, .gnd, .sents, .wch, .slots, .ldg, .mem, .nextTag, .outs, .fresh] s (beginEpoch k e s) := by
  unfold beginEpoch
  try extract_lets
  repeat' first
    | with_reducible apply Frame.refl | ((with_reducible apply Covered.mk); decide)
    | with_reducible apply Frame.step (recPart_frame ..) | ((with_reducible apply Frame.whenB) <;> try intro _) | split
    | exact ⟨fun c h => by cases c <;> first | exact rfl | exact absurd (by decide) h⟩

theorem joinPart_frame (k e t : Nat) (s : State) :
    Frame [.energies, .gnd, .sents, .parts, .rcv, .wch, .slots, .ldg, .mem, .nextTag, .outs, .fresh] s (joinPart k e t s) := by
  unfold joinPart
  try extract_lets
  repeat' first
    | with_reducible apply Frame.refl | ((with_reducible apply Covered.mk); decide)
    | with_reducible apply Frame.step (beginEpoch_frame ..) | with_reducible apply Frame.step (modPart_frame ..)
    | with_reducible apply Frame.step (setPart_frame ..) | with_reducible apply Frame.step (rebindPart_frame ..) | split

theorem joinTick_frame (s : State) : Frame [.rcv] s (joinTick s) := by
  unfold joinTick
  try extract_lets
  repeat' first
    | with_reducible apply Frame.refl | ((with_reducible apply Covered.mk); decide)
    | with_reducible apply Frame.step (modRcv_frame ..) | split

theorem joinWrite_frame (v : Word) (blk : MemRead) (s : State) : Frame [.parts, .epochs, .rcv, .slots] s (joinWrite v blk s) := by
  unfold joinWrite
  try extract_lets
  repeat' first
    | with_reducible apply Frame.refl | ((with_reducible apply Covered.mk); decide)
    | with_reducible apply Frame.step (joinAccept_frame ..) | with_reducible apply Frame.step (modRcv_frame ..) | split

theorem progTick_frame (ended : Nat) (s : State) : Frame [.gnd, .sents] s (progTick ended s) := by
  unfold progTick
  try extract_lets
  repeat' first
    | with_reducible apply Frame.refl | ((with_reducible apply Covered.mk); decide) | split
    | exact ⟨fun c h => by cases c <;> first | exact rfl | exact absurd (by decide) h⟩

theorem modProg_frame (p n : Nat) (f : Prog → Prog) (s : State) : Frame [.sents] s (modProg p n f s) := by
  unfold modProg
  try extract_lets
  repeat' first
    | with_reducible apply Frame.refl | ((with_reducible apply Covered.mk); decide)
    | with_reducible apply Frame.step (modSent_frame ..) | split

theorem hangRecord_frame (p n : Nat) (c : Prog) (s : State) :
    Frame [.gnd, .sents, .parts, .rcv, .wch, .slots, .ldg, .mem, .nextTag, .outs, .fresh] s (hangRecord p n c s) := by
  unfold hangRecord
  try extract_lets
  repeat' first
    | with_reducible apply Frame.refl | ((with_reducible apply Covered.mk); decide)
    | with_reducible apply Frame.step (pcountJudged_frame ..) | with_reducible apply Frame.step (modRcv_frame ..)
    | with_reducible apply Frame.step (modProg_frame ..) | with_reducible apply Frame.step (record_frame ..) | split

theorem judgeHangs_frame (s : State) :
    Frame [.energies, .gnd, .sents, .parts, .epochs, .rcv, .wch, .slots, .ldg, .mem, .nextTag, .outs, .fresh] s (judgeHangs s) := by
  unfold judgeHangs
  try extract_lets
  repeat' first
    | with_reducible apply Frame.refl | ((with_reducible apply Covered.mk); decide)
    | with_reducible apply Frame.step (hangRecord_frame ..) | with_reducible apply Frame.step (startTeardown_frame ..)
    | ((with_reducible apply Frame.forEach) <;> try intro _ _) | ((with_reducible apply Frame.foldl) <;> try intro _ _)
    | split

theorem settleChan_frame (n c : Nat) (s : State) : Frame [.slots, .mbxs] s (settleChan n c s) := by
  unfold settleChan
  try extract_lets
  repeat' first
    | with_reducible apply Frame.refl | ((with_reducible apply Covered.mk); decide)
    | with_reducible apply Frame.step (modMbx_frame ..) | with_reducible apply Frame.step (modSlot_frame ..)
    | ((with_reducible apply Frame.whenB) <;> try intro _) | split

theorem popNotice_frame (n c : Nat) (s : State) : Frame [.slots, .mbxs] s (popNotice n c s) := by
  unfold popNotice
  try extract_lets
  repeat' first
    | with_reducible apply Frame.refl | ((with_reducible apply Covered.mk); decide)
    | with_reducible apply Frame.step (modMbx_frame ..) | with_reducible apply Frame.step (settleChan_frame ..) | split

theorem takeNotice_frame (n c : Nat) (s : State) : Frame [.slots, .mbxs] s (takeNotice n c s) := by
  unfold takeNotice
  try extract_lets
  repeat' first
    | with_reducible apply Frame.refl | ((with_reducible apply Covered.mk); decide)
    | with_reducible apply Frame.step (irqSet_frame ..) | with_reducible apply Frame.step (modMbx_frame ..)
    | ((with_reducible apply Frame.whenB) <;> try intro _) | split

theorem takeNotices_frame (n c : Nat) (s : State) : Frame [.slots, .mbxs] s (takeNotices n c s) := by
  unfold takeNotices
  try extract_lets
  repeat' first
    | with_reducible apply Frame.refl | ((with_reducible apply Covered.mk); decide)
    | with_reducible apply Frame.step (takeNotice_frame ..) | with_reducible apply Frame.step (settleChan_frame ..) | split

theorem answerNotice_frame (n c i st len : Nat) (s : State) : Frame [.slots, .mbxs] s (answerNotice n c i st len s) := by
  unfold answerNotice
  try extract_lets
  repeat' first
    | with_reducible apply Frame.refl | ((with_reducible apply Covered.mk); decide)
    | with_reducible apply Frame.step (modMbx_frame ..) | with_reducible apply Frame.step (settleChan_frame ..) | split

theorem answerWith_frame (n c i st : Nat) (x : Notice) (bs : List Byte) (s : State) :
    Frame [.slots, .mbxs, .mem, .nextTag, .outs] s (answerWith n c i st x bs s) := by
  unfold answerWith
  try extract_lets
  repeat' first
    | with_reducible apply Frame.refl | ((with_reducible apply Covered.mk); decide)
    | with_reducible apply Frame.step (memWrite_frame ..) | with_reducible apply Frame.step (issueMem_frame ..)
    | with_reducible apply Frame.step (answerNotice_frame ..) | ((with_reducible apply Frame.whenB) <;> try intro _) | split

theorem postNotice_frame (n c : Nat) (v : Word) (s : State) : Frame [.mbxs, .bus] s (postNotice n c v s) := by
  unfold postNotice
  try extract_lets
  repeat' first
    | with_reducible apply Frame.refl | ((with_reducible apply Covered.mk); decide)
    | with_reducible apply Frame.step (busErr_frame ..) | with_reducible apply Frame.step (modMbx_frame ..) | split

theorem flushChan_frame (n c : Nat) (s : State) : Frame [.slots, .mbxs] s (flushChan n c s) := by
  unfold flushChan
  try extract_lets
  repeat' first
    | with_reducible apply Frame.refl | ((with_reducible apply Covered.mk); decide)
    | with_reducible apply Frame.step (irqSet_frame ..) | with_reducible apply Frame.step (modMbx_frame ..)
    | ((with_reducible apply Frame.whenB) <;> try intro _) | split

theorem ownWrite_frame (a : Access) (n : Nat) (secure : Bool) (addr : Nat) {f : State → State} {l : List Comp} {s t : State} (hf : ∀ x, Frame l x (f x))
    (hc : Covered [.gnd, .sents, .wch, .slots, .bus, .ldg, .mem, .nextTag, .outs, .fresh] l) (k : Frame l s t) :
    Frame l s (ownWrite a n secure addr f t) := by
  have hb : Covered [Comp.bus] l := ⟨by simpa using List.all_eq_true.mp hc.ok .bus (by decide)⟩
  unfold ownWrite
  repeat' split
  all_goals first
    | exact k
    | exact (k.trans (hf t)).trans ((busOk_frame _).mono hb)
    | exact k.trans ((busErr_frame _).mono hb)
    | exact k.trans ((deny_frame ..).mono hc)

theorem resetNotices_frame (s : State) : Frame [.slots, .mbxs] s (resetNotices s) := by
  unfold resetNotices
  try extract_lets
  repeat' first
    | with_reducible apply Frame.refl | ((with_reducible apply Covered.mk); decide)
    | with_reducible apply Frame.step (modMbx_frame ..) | with_reducible apply Frame.step (settleChan_frame ..)
    | ((with_reducible apply Frame.forEach) <;> try intro _ _) | split

theorem publishMailboxes_frame (s : State) : Frame [.slots, .mbxs] s (publishMailboxes s) := by
  unfold publishMailboxes
  try extract_lets
  repeat' first
    | with_reducible apply Frame.refl | ((with_reducible apply Covered.mk); decide)
    | with_reducible apply Frame.step (modSlot_frame ..) | with_reducible apply Frame.step (takeNotices_frame ..)
    | ((with_reducible apply Frame.forEach) <;> try intro _ _) | split

theorem ringBell_frame (n : Nat) (v : Word) (s : State) : Frame [.slots] s (ringBell n v s) := by
  unfold ringBell
  try extract_lets
  repeat' first
    | with_reducible apply Frame.refl | ((with_reducible apply Covered.mk); decide)
    | with_reducible apply Frame.step (modSlot_frame ..) | split

theorem modTrace_frame (b : Nat) (f : Trace → Trace) (s : State) : Frame [.ldg] s (modTrace b f s) := by
  unfold modTrace
  try extract_lets
  repeat' first
    | with_reducible apply Frame.refl | ((with_reducible apply Covered.mk); decide)
    | with_reducible apply Frame.step (modLdg_frame ..) | split

theorem traceReport_frame (i : Nat) (s : State) :
    Frame [.gnd, .sents, .wch, .slots, .ldg, .mem, .nextTag, .outs, .fresh] s (traceReport i s) := by
  unfold traceReport
  try extract_lets
  repeat' first
    | with_reducible apply Frame.refl | ((with_reducible apply Covered.mk); decide)
    | with_reducible apply Frame.step (recordBlock_frame ..) | with_reducible apply Frame.step (modTrace_frame ..) | split

theorem traceWrite_frame (b : Nat) (v : Word) (s : State) :
    Frame [.gnd, .sents, .wch, .slots, .ldg, .mem, .nextTag, .outs, .fresh] s (traceWrite b v s) := by
  unfold traceWrite
  try extract_lets
  repeat' first
    | with_reducible apply Frame.refl | ((with_reducible apply Covered.mk); decide)
    | with_reducible apply Frame.step (bumpFresh_frame ..) | with_reducible apply Frame.step (modTrace_frame ..)
    | with_reducible apply Frame.step (traceReport_frame ..) | ((with_reducible apply Frame.whenB) <;> try intro _) | split

theorem endWindow_frame (k : RateKey) (s : State) :
    Frame [.gnd, .sents, .wch, .slots, .ldg, .mem, .nextTag, .outs, .fresh] s (endWindow k s) := by
  unfold endWindow
  try extract_lets
  repeat' first
    | with_reducible apply Frame.refl | ((with_reducible apply Covered.mk); decide)
    | with_reducible apply Frame.step (writeNew_frame ..) | with_reducible apply Frame.step (modLdg_frame ..)
    | ((with_reducible apply Frame.whenB) <;> try intro _) | split

theorem twPut_frame (i : Nat) (x : TwEntry) (s : State) : Frame [.ldg] s (twPut i x s) := by
  unfold twPut
  try extract_lets
  repeat' first
    | with_reducible apply Frame.refl | ((with_reducible apply Covered.mk); decide)
    | with_reducible apply Frame.step (modLdg_frame ..) | split

theorem twWrite_frame (a : Access) (i : Nat) (v : Word) (s : State) :
    Frame [.gnd, .sents, .wch, .slots, .bus, .ldg, .mem, .nextTag, .outs, .fresh] s (twWrite a i v s) := by
  unfold twWrite
  try extract_lets
  repeat' first
    | with_reducible apply Frame.refl | ((with_reducible apply Covered.mk); decide)
    | with_reducible apply Frame.step (busErr_frame ..) | with_reducible apply Frame.step (twPut_frame ..)
    | with_reducible apply Frame.step (deny_frame ..) | with_reducible apply Frame.step (busOk_frame ..) | split

theorem appendSealed_frame (r : Rec) (s : State) :
    Frame [.gnd, .sents, .wch, .slots, .ldg, .mem, .nextTag, .outs, .fresh] s (appendSealed r s) := by
  unfold appendSealed
  try extract_lets
  repeat' first
    | with_reducible apply Frame.refl | ((with_reducible apply Covered.mk); decide)
    | with_reducible apply Frame.step (gcount_frame ..) | with_reducible apply Frame.step (occurrence_frame ..)
    | with_reducible apply Frame.step (forwardRec_frame ..) | with_reducible apply Frame.step (modLdg_frame ..)
    | ((with_reducible apply Frame.whenB) <;> try intro _) | split

theorem clearBegin_frame (ctr : Nat) (s : State) :
    Frame [.gnd, .sents, .wch, .slots, .ldg, .mem, .nextTag, .outs, .fresh] s (clearBegin ctr s) := by
  unfold clearBegin
  try extract_lets
  repeat' first
    | with_reducible apply Frame.refl | ((with_reducible apply Covered.mk); decide)
    | with_reducible apply Frame.step (sealRec_frame ..) | with_reducible apply Frame.step (appendSealed_frame ..)
    | with_reducible apply Frame.step (modLdg_frame ..) | split

theorem releasePort_frame (p : Nat) (s : State) :
    Frame [.nvm, .gnd, .sents, .wch, .slots, .ldg, .mem, .nextTag, .outs, .fresh] s (releasePort p s) := by
  unfold releasePort
  try extract_lets
  repeat' first
    | with_reducible apply Frame.refl | ((with_reducible apply Covered.mk); decide)
    | with_reducible apply Frame.step (craqMod_frame ..) | with_reducible apply Frame.step (modLdg_frame ..) | split

theorem signedReject_frame (op res : Nat) (s : State) :
    Frame [.gnd, .sents, .wch, .slots, .ldg, .mem, .nextTag, .outs, .fresh] s (signedReject op res s) := by
  unfold signedReject
  try extract_lets
  repeat' first
    | with_reducible apply Frame.refl | ((with_reducible apply Covered.mk); decide)
    | with_reducible apply Frame.step (recordBlock_frame ..) | with_reducible apply Frame.step (modLdg_frame ..) | split

theorem signedGo_frame (addr : Nat) (blk : MemRead) (s : State) :
    Frame [.nvm, .gnd, .sents, .wch, .slots, .ldg, .mem, .nextTag, .outs, .fresh] s (signedGo addr blk s) := by
  unfold signedGo
  try dsimp only
  repeat' first
    | with_reducible apply Frame.refl | ((with_reducible apply Covered.mk); decide)
    | with_reducible apply Frame.step (clearBegin_frame ..) | with_reducible apply Frame.step (releasePort_frame ..)
    | with_reducible apply Frame.step (modNvm_frame ..) | with_reducible apply Frame.step (signedReject_frame ..) | split

theorem modLUnit_frame (i : Nat) (f : LUnit → LUnit) (s : State) : Frame [.nvm] s (modLUnit i f s) := by
  unfold modLUnit
  try extract_lets
  repeat' first
    | with_reducible apply Frame.refl | ((with_reducible apply Covered.mk); decide)
    | with_reducible apply Frame.step (modNvm_frame ..) | split

theorem clearDone_frame (s : State) : Frame [.nvm, .ldg] s (clearDone s) := by
  unfold clearDone
  try extract_lets
  repeat' first
    | with_reducible apply Frame.refl | ((with_reducible apply Covered.mk); decide)
    | with_reducible apply Frame.step (modNvm_frame ..) | with_reducible apply Frame.step (modLdg_frame ..) | split

theorem refreshOldest_frame (s : State) : Frame [.ldg] s (refreshOldest s) := by
  unfold refreshOldest
  try extract_lets
  repeat' first
    | with_reducible apply Frame.refl | ((with_reducible apply Covered.mk); decide)
    | with_reducible apply Frame.step (modLdg_frame ..) | split

theorem clearCommitted_frame (i : Nat) (s : State) : Frame [.nvm, .ldg] s (clearCommitted i s) := by
  unfold clearCommitted
  try extract_lets
  repeat' first
    | with_reducible apply Frame.refl | ((with_reducible apply Covered.mk); decide)
    | with_reducible apply Frame.step (modNvm_frame ..) | with_reducible apply Frame.step (modLdg_frame ..) | split

theorem programmed_frame (i : Nat) (fresh : Bool) (r : Rec) (s : State) :
    Frame [.nvm, .gnd, .sents, .wch, .slots, .ldg, .mem, .nextTag, .outs, .fresh] s (programmed i fresh r s) := by
  unfold programmed
  try extract_lets
  repeat' first
    | with_reducible apply Frame.refl | ((with_reducible apply Covered.mk); decide)
    | with_reducible apply Frame.step (clearDone_frame ..) | with_reducible apply Frame.step (modLUnit_frame ..)
    | with_reducible apply Frame.step (refreshOldest_frame ..) | with_reducible apply Frame.step (clearCommitted_frame ..)
    | with_reducible apply Frame.step (writeLoss_frame ..) | with_reducible apply Frame.step (modLdg_frame ..)
    | ((with_reducible apply Frame.whenB) <;> try intro _) | split

theorem unitFailed_frame (i : Nat) (s : State) : Frame [.nvm, .ldg] s (unitFailed i s) := by
  unfold unitFailed
  try extract_lets
  repeat' first
    | with_reducible apply Frame.refl | ((with_reducible apply Covered.mk); decide)
    | with_reducible apply Frame.step (modLUnit_frame ..) | with_reducible apply Frame.step (modLdg_frame ..)
    | ((with_reducible apply Frame.whenB) <;> try intro _) | split

theorem eraseFailed_frame (i : Nat) (s : State) : Frame [.nvm, .ldg] s (eraseFailed i s) := by
  unfold eraseFailed
  try extract_lets
  repeat' first
    | with_reducible apply Frame.refl | ((with_reducible apply Covered.mk); decide)
    | with_reducible apply Frame.step (clearDone_frame ..) | with_reducible apply Frame.step (unitFailed_frame ..)
    | with_reducible apply Frame.step (modLdg_frame ..) | ((with_reducible apply Frame.whenB) <;> try intro _) | split

theorem signedWrite_frame (a : Access) (v : Word) (blk : MemRead) (s : State) :
    Frame [.nvm, .gnd, .sents, .wch, .slots, .bus, .ldg, .mem, .nextTag, .outs, .fresh] s (signedWrite a v blk s) := by
  unfold signedWrite
  try dsimp only
  repeat' first
    | with_reducible apply Frame.refl | ((with_reducible apply Covered.mk); decide)
    | with_reducible apply Frame.step (signedGo_frame ..) | ((with_reducible apply privWrite_frame) <;> try intro _)
    | with_reducible apply Frame.step (modLdg_frame ..) | ((with_reducible apply Frame.whenB) <;> try intro _) | split

theorem writeSummary_frame (s : State) :
    Frame [.gnd, .sents, .wch, .slots, .ldg, .mem, .nextTag, .outs, .fresh] s (writeSummary s) := by
  unfold writeSummary
  try extract_lets
  repeat' first
    | with_reducible apply Frame.refl | ((with_reducible apply Covered.mk); decide)
    | with_reducible apply Frame.step (recordBlock_frame ..) | with_reducible apply Frame.step (modLdg_frame ..) | split

theorem erased_frame (i : Nat) (s : State) : Frame [.nvm, .ldg] s (erased i s) := by
  unfold erased
  try extract_lets
  repeat' first
    | with_reducible apply Frame.refl | ((with_reducible apply Covered.mk); decide)
    | with_reducible apply Frame.step (clearDone_frame ..) | with_reducible apply Frame.step (modLUnit_frame ..)
    | with_reducible apply Frame.step (refreshOldest_frame ..) | with_reducible apply Frame.step (modLdg_frame ..) | split

theorem freezeTraces_frame (s : State) : Frame [.ldg] s (freezeTraces s) := by
  unfold freezeTraces
  try extract_lets
  repeat' first
    | with_reducible apply Frame.refl | ((with_reducible apply Covered.mk); decide)
    | with_reducible apply Frame.step (modLdg_frame ..) | split

theorem traceReports_frame (s : State) :
    Frame [.gnd, .sents, .wch, .slots, .ldg, .mem, .nextTag, .outs, .fresh] s (traceReports s) := by
  unfold traceReports
  try extract_lets
  repeat' first
    | with_reducible apply Frame.refl | ((with_reducible apply Covered.mk); decide)
    | with_reducible apply Frame.step (traceReport_frame ..) | ((with_reducible apply Frame.forEach) <;> try intro _ _)
    | split

theorem takeOver_frame (s : State) (p : Nat) (t : State) : Frame [.gnd] t (takeOver s p t) := by
  unfold takeOver
  try dsimp only
  repeat' first
    | with_reducible apply Frame.refl | ((with_reducible apply Covered.mk); decide)
    | with_reducible apply Frame.step (applySubst_frame ..) | split

theorem loadSentinel_frame (p : Nat) (s : State) : Frame [.sents] s (loadSentinel p s) := by
  unfold loadSentinel
  try extract_lets
  repeat' first
    | with_reducible apply Frame.refl | ((with_reducible apply Covered.mk); decide)
    | with_reducible apply Frame.step (modSent_frame ..) | split

theorem loadSentinels_frame (s : State) : Frame [.sents] s (loadSentinels s) := by
  unfold loadSentinels
  try extract_lets
  repeat' first
    | with_reducible apply Frame.refl | ((with_reducible apply Covered.mk); decide)
    | with_reducible apply Frame.step (loadSentinel_frame ..) | ((with_reducible apply Frame.forEach) <;> try intro _ _)
    | split

theorem takeBroadcast_frame (typ : Nat) (s : State) : Frame [.wch] s (takeBroadcast typ s) := by
  unfold takeBroadcast
  try extract_lets
  repeat' first
    | with_reducible apply Frame.refl | ((with_reducible apply Covered.mk); decide)
    | with_reducible apply Frame.step (modWch_frame ..) | split

theorem leftVacant_frame (p : Nat) (t : State) : Frame [.gnd] t (leftVacant p t) := by
  unfold leftVacant
  try extract_lets
  repeat' first
    | with_reducible apply Frame.refl | ((with_reducible apply Covered.mk); decide)
    | with_reducible apply Frame.step (modGnd_frame ..) | split

theorem effectiveMap_frame (ts : List TreeEnt) (map0 : List Byte) (s : State) : Frame [.gnd] s (effectiveMap ts map0 s) := by
  unfold effectiveMap
  try extract_lets
  repeat' first
    | with_reducible apply Frame.refl | ((with_reducible apply Covered.mk); decide)
    | with_reducible apply Frame.step (modGnd_frame ..) | with_reducible apply Frame.step (takeOver_frame ..)
    | with_reducible apply Frame.step (leftVacant_frame ..) | ((with_reducible apply Frame.forEach) <;> try intro _ _)
    | split

theorem imageLoaded_frame (src : Nat) (bs : List Byte) (s : State) :
    Frame [.nvm, .boot, .stk, .gnd, .sents, .parts, .wch, .slots, .ldg, .mem, .nextTag, .outs, .fresh] s (imageLoaded src bs s) := by
  unfold imageLoaded
  try extract_lets
  repeat' first
    | with_reducible apply Frame.refl | ((with_reducible apply Covered.mk); decide)
    | with_reducible apply Frame.step (loadSentinels_frame ..) | with_reducible apply Frame.step (masterStart_frame ..)
    | with_reducible apply Frame.step (effectiveMap_frame ..) | with_reducible apply Frame.step (modGnd_frame ..)
    | with_reducible apply Frame.step (modWch_frame ..) | with_reducible apply Frame.step (linksLoaded_frame ..)
    | with_reducible apply Frame.step (compareRate_frame ..) | with_reducible apply Frame.step (modStk_frame ..)
    | with_reducible apply Frame.step (modBoot_frame ..) | split
    | exact ⟨fun c h => by cases c <;> first | exact rfl | exact absurd (by decide) h⟩

theorem controlResume_frame (s : State) :
    Frame [.nvm, .boot, .energies, .gnd, .sents, .parts, .epochs, .chks, .scr, .taint, .rcv, .wch, .slots, .mbxs, .ldg, .mem, .nextTag, .outs, .fresh] s (controlResume s) := by
  unfold controlResume
  try extract_lets
  repeat' first
    | with_reducible apply Frame.refl | ((with_reducible apply Covered.mk); decide)
    | with_reducible apply Frame.step (resetNotices_frame ..) | with_reducible apply Frame.step (holdGoesOn_frame ..)
    | with_reducible apply Frame.step (modBoot_frame ..) | split

theorem endReset_frame (d : Nat) (s : State) :
    Frame [.nvm, .boot, .pwr, .energies, .gnd, .sents, .parts, .epochs, .chks, .scr, .taint, .rcv, .wch, .slots, .mbxs, .ldg, .mem, .nextTag, .outs, .fresh] s (endReset d s) := by
  unfold endReset
  try extract_lets
  repeat' first
    | with_reducible apply Frame.refl | ((with_reducible apply Covered.mk); decide)
    | with_reducible apply Frame.step (modPwr_frame ..) | with_reducible apply Frame.step (recordBlock_frame ..)
    | with_reducible apply Frame.step (controlResume_frame ..) | ((with_reducible apply Frame.whenB) <;> try intro _) | split

theorem holdAll_frame (s : State) :
    Frame [.energies, .gnd, .sents, .parts, .epochs, .chks, .cpy, .dgt, .rcv, .wch, .slots, .ldg, .mem, .nextTag, .outs, .fresh] s (holdAll s) := by
  unfold holdAll
  try extract_lets
  repeat' first
    | with_reducible apply Frame.refl | ((with_reducible apply Covered.mk); decide)
    | with_reducible apply Frame.step (leaveAll_frame ..) | with_reducible apply Frame.step (holdPart_frame ..)
    | ((with_reducible apply Frame.forEach) <;> try intro _ _) | split

theorem witnessChange_frame (s : State) :
    Frame [.pwr, .gnd, .sents, .wch, .slots, .ldg, .mem, .nextTag, .outs, .fresh] s (witnessChange s) := by
  unfold witnessChange
  try extract_lets
  repeat' first
    | with_reducible apply Frame.refl | ((with_reducible apply Covered.mk); decide)
    | with_reducible apply Frame.step (modPwr_frame ..) | with_reducible apply Frame.step (recordBlock_frame ..) | split

theorem clearWindows_frame (s : State) : Frame [.life, .boot, .pwr, .scr, .wch, .ldg] s (clearWindows s) := by
  unfold clearWindows
  try extract_lets
  repeat' first
    | with_reducible apply Frame.refl | ((with_reducible apply Covered.mk); decide)
    | with_reducible apply Frame.step (modPwr_frame ..) | with_reducible apply Frame.step (modWch_frame ..)
    | with_reducible apply Frame.step (modScr_frame ..) | with_reducible apply Frame.step (modLife_frame ..)
    | with_reducible apply Frame.step (modBoot_frame ..) | with_reducible apply Frame.step (modLdg_frame ..) | split

theorem clearTree_frame (s : State) : Frame [.gnd, .sents, .chks, .judged] s (clearTree s) := by
  unfold clearTree
  try extract_lets
  repeat' first
    | with_reducible apply Frame.refl | ((with_reducible apply Covered.mk); decide) | split
    | exact ⟨fun c h => by cases c <;> first | exact rfl | exact absurd (by decide) h⟩

theorem clearCopyRegs_frame (s : State) : Frame [.cpy, .dgt] s (clearCopyRegs s) := by
  unfold clearCopyRegs
  try extract_lets
  repeat' first
    | with_reducible apply Frame.refl | ((with_reducible apply Covered.mk); decide)
    | with_reducible apply Frame.step (modCpy_frame ..) | with_reducible apply Frame.step (modDgt_frame ..) | split

theorem clearRecovery_frame (s : State) : Frame [.taint, .rcv] s (clearRecovery s) := by
  unfold clearRecovery
  try extract_lets
  repeat' first
    | with_reducible apply Frame.refl | ((with_reducible apply Covered.mk); decide)
    | with_reducible apply Frame.step (modTaint_frame ..) | with_reducible apply Frame.step (modRcv_frame ..) | split

theorem clearControl_frame (s : State) :
    Frame [.nvm, .life, .boot, .pwr, .energies, .gnd, .sents, .parts, .epochs, .chks, .judged, .cpy, .dgt, .scr, .taint, .rcv, .wch, .slots, .ldg, .mem, .nextTag, .outs, .fresh] s (clearControl s) := by
  unfold clearControl
  try extract_lets
  repeat' first
    | with_reducible apply Frame.refl | ((with_reducible apply Covered.mk); decide)
    | with_reducible apply Frame.step (clearWindows_frame ..) | with_reducible apply Frame.step (clearTree_frame ..)
    | with_reducible apply Frame.step (modGnd_frame ..) | with_reducible apply Frame.step (clearCopyRegs_frame ..)
    | with_reducible apply Frame.step (abortHold_frame ..) | with_reducible apply Frame.step (freezeTraces_frame ..)
    | with_reducible apply Frame.step (modBoot_frame ..) | with_reducible apply Frame.step (clearRecovery_frame ..) | split

theorem resetLeave_frame (cause : Nat) (s : State) :
    Frame [.energies, .gnd, .sents, .parts, .epochs, .chks, .cpy, .dgt, .rcv, .wch, .slots, .ldg, .mem, .nextTag, .outs, .fresh] s (resetLeave cause s) := by
  unfold resetLeave
  try extract_lets
  repeat' first
    | with_reducible apply Frame.refl | ((with_reducible apply Covered.mk); decide)
    | with_reducible apply Frame.step (alarmEpochs_frame ..) | with_reducible apply Frame.step (cancelPending_frame ..)
    | with_reducible apply Frame.step (abortEpoch_frame ..) | ((with_reducible apply Frame.forEach) <;> try intro _ _)
    | split

theorem dropCmdLinks_frame (s : State) : Frame [.sents] s (dropCmdLinks s) := by
  unfold dropCmdLinks
  try extract_lets
  repeat' first
    | with_reducible apply Frame.refl | ((with_reducible apply Covered.mk); decide) | split
    | exact ⟨fun c h => by cases c <;> first | exact rfl | exact absurd (by decide) h⟩

theorem clearCopyist_frame (s : State) : Frame [.cpy] s (clearCopyist s) := by
  unfold clearCopyist
  try extract_lets
  repeat' first
    | with_reducible apply Frame.refl | ((with_reducible apply Covered.mk); decide)
    | with_reducible apply Frame.step (modCpy_frame ..) | split

theorem clearDigests_frame (s : State) : Frame [.dgt] s (clearDigests s) := by
  unfold clearDigests
  try extract_lets
  repeat' first
    | with_reducible apply Frame.refl | ((with_reducible apply Covered.mk); decide)
    | with_reducible apply Frame.step (modDgt_frame ..) | split

theorem clearCore_frame (s : State) : Frame [.sents, .cpy, .dgt] s (clearCore s) := by
  unfold clearCore
  try extract_lets
  repeat' first
    | with_reducible apply Frame.refl | ((with_reducible apply Covered.mk); decide)
    | with_reducible apply Frame.step (dropCmdLinks_frame ..) | with_reducible apply Frame.step (clearCopyist_frame ..)
    | with_reducible apply Frame.step (clearDigests_frame ..) | split

theorem startReset_frame (alarm : Nat) (r : DomReset) (s : State) :
    Frame [.nvm, .life, .boot, .pwr, .energies, .gnd, .sents, .parts, .epochs, .chks, .judged, .cpy, .dgt, .scr, .taint, .rcv, .wch, .slots, .ldg, .mem, .nextTag, .outs, .fresh] s (startReset alarm r s) := by
  unfold startReset
  try extract_lets
  repeat' first
    | with_reducible apply Frame.refl | ((with_reducible apply Covered.mk); decide)
    | with_reducible apply Frame.step (modPwr_frame ..) | with_reducible apply Frame.step (clearControl_frame ..)
    | with_reducible apply Frame.step (resetLeave_frame ..) | with_reducible apply Frame.step (clearCore_frame ..) | split

theorem faultAct_frame (r : DomReset) (unit sub : Nat) (s : State) :
    Frame [.nvm, .life, .boot, .pwr, .energies, .gnd, .sents, .parts, .epochs, .chks, .judged, .cpy, .dgt, .scr, .taint, .rcv, .wch, .slots, .mbxs, .ldg, .mem, .nextTag, .outs, .fresh] s (faultAct r unit sub s) := by
  unfold faultAct
  try extract_lets
  repeat' first
    | with_reducible apply Frame.refl | ((with_reducible apply Covered.mk); decide)
    | with_reducible apply Frame.step (startReset_frame ..) | with_reducible apply Frame.step (flushChan_frame ..)
    | with_reducible apply Frame.step (leaveAll_frame ..) | with_reducible apply Frame.step (toWait_frame ..)
    | with_reducible apply Frame.step (holdAll_frame ..) | split

theorem selfFault_frame (r : DomReset) (unit sub : Nat) (s : State) :
    Frame [.nvm, .life, .boot, .pwr, .energies, .gnd, .sents, .parts, .epochs, .chks, .judged, .cpy, .dgt, .scr, .taint, .rcv, .wch, .slots, .mbxs, .ldg, .mem, .nextTag, .outs, .fresh] s (selfFault r unit sub s) := by
  unfold selfFault
  try extract_lets
  repeat' first
    | with_reducible apply Frame.refl | ((with_reducible apply Covered.mk); decide)
    | with_reducible apply Frame.step (modPwr_frame ..) | with_reducible apply Frame.step (recordBlock_frame ..)
    | with_reducible apply Frame.step (faultAct_frame ..) | with_reducible apply Frame.step (reportPfm_frame ..)
    | with_reducible apply Frame.step (holdAll_frame ..) | ((with_reducible apply Frame.whenB) <;> try intro _) | split

theorem overdraw_frame (s : State) :
    Frame [.pwr, .gnd, .sents, .wch, .slots, .ldg, .mem, .nextTag, .outs, .fresh] s (overdraw s) := by
  unfold overdraw
  try extract_lets
  repeat' first
    | with_reducible apply Frame.refl | ((with_reducible apply Covered.mk); decide)
    | with_reducible apply Frame.step (modPwr_frame ..) | with_reducible apply Frame.step (recordBlock_frame ..) | split

theorem takeGrant_frame (g : Nat) (s : State) :
    Frame [.pwr, .gnd, .sents, .wch, .slots, .ldg, .mem, .nextTag, .outs, .fresh] s (takeGrant g s) := by
  unfold takeGrant
  try extract_lets
  repeat' first
    | with_reducible apply Frame.refl | ((with_reducible apply Covered.mk); decide)
    | with_reducible apply Frame.step (modPwr_frame ..) | with_reducible apply Frame.step (overdraw_frame ..) | split

theorem dividePower_frame (s : State) :
    Frame [.pwr, .gnd, .sents, .wch, .slots, .ldg, .mem, .nextTag, .outs, .fresh] s (dividePower s) := by
  unfold dividePower
  try extract_lets
  repeat' first
    | with_reducible apply Frame.refl | ((with_reducible apply Covered.mk); decide)
    | with_reducible apply Frame.step (modPwr_frame ..) | with_reducible apply Frame.step (witnessChange_frame ..)
    | with_reducible apply Frame.step (recordBlock_frame ..) | ((with_reducible apply Frame.whenB) <;> try intro _) | split

theorem auditCount_frame (x : AuditReading) (s : State) :
    Frame [.nvm, .life, .boot, .pwr, .energies, .gnd, .sents, .parts, .epochs, .chks, .judged, .cpy, .dgt, .scr, .taint, .rcv, .wch, .slots, .mbxs, .ldg, .mem, .nextTag, .outs, .fresh] s (auditCount x s) := by
  unfold auditCount
  try extract_lets
  repeat' first
    | with_reducible apply Frame.refl | ((with_reducible apply Covered.mk); decide)
    | with_reducible apply Frame.step (selfFault_frame ..) | split

theorem takeEstimate_frame (e : Nat) (s : State) : Frame [.pwr] s (takeEstimate e s) := by
  unfold takeEstimate
  try extract_lets
  repeat' first
    | with_reducible apply Frame.refl | ((with_reducible apply Covered.mk); decide)
    | with_reducible apply Frame.step (modPwr_frame ..) | split

theorem timeBase_frame (readable : Bool) (s : State) : Frame [.nvm, .boot] s (timeBase readable s) := by
  unfold timeBase
  try extract_lets
  repeat' first
    | with_reducible apply Frame.refl | ((with_reducible apply Covered.mk); decide)
    | with_reducible apply Frame.step (modNvm_frame ..) | with_reducible apply Frame.step (modBoot_frame ..) | split

theorem firmwareFail_frame (src err serial : Nat) (s : State) :
    Frame [.boot, .gnd, .sents, .wch, .slots, .ldg, .mem, .nextTag, .outs, .fresh] s (firmwareFail src err serial s) := by
  unfold firmwareFail
  try extract_lets
  repeat' first
    | with_reducible apply Frame.refl | ((with_reducible apply Covered.mk); decide)
    | with_reducible apply Frame.step (recordBlock_frame ..) | with_reducible apply Frame.step (modBoot_frame ..) | split

theorem bootGo_frame (s : State) :
    Frame [.boot, .gnd, .sents, .wch, .slots, .ldg, .mem, .nextTag, .outs, .fresh] s (bootGo s) := by
  unfold bootGo
  try extract_lets
  repeat' first
    | with_reducible apply Frame.refl | ((with_reducible apply Covered.mk); decide)
    | with_reducible apply Frame.step (firmwareFail_frame ..) | with_reducible apply Frame.step (modBoot_frame ..) | split

theorem clearSecrets_frame (s : State) : Frame [.life, .epochs, .wch] s (clearSecrets s) := by
  unfold clearSecrets
  try extract_lets
  repeat' first
    | with_reducible apply Frame.refl | ((with_reducible apply Covered.mk); decide) | split
    | exact ⟨fun c h => by cases c <;> first | exact rfl | exact absurd (by decide) h⟩

theorem zeroise_frame (fails : List Nat) (s : State) :
    Frame [.life, .gnd, .sents, .epochs, .wch, .slots, .ldg, .mem, .nextTag, .outs, .fresh] s (zeroise fails s) := by
  unfold zeroise
  try extract_lets
  repeat' first
    | with_reducible apply Frame.refl | ((with_reducible apply Covered.mk); decide)
    | with_reducible apply Frame.step (recordBlock_frame ..) | with_reducible apply Frame.step (modLife_frame ..)
    | with_reducible apply Frame.step (clearSecrets_frame ..) | split

theorem nodeGone_frame (n : Nat) (s : State) :
    Frame [.energies, .gnd, .sents, .parts, .epochs, .rcv, .wch, .slots, .ldg, .mem, .nextTag, .outs, .fresh] s (nodeGone n s) := by
  unfold nodeGone
  try extract_lets
  repeat' first
    | with_reducible apply Frame.refl | ((with_reducible apply Covered.mk); decide)
    | with_reducible apply Frame.step (alarmPart_frame ..) | with_reducible apply Frame.step (record_frame ..)
    | with_reducible apply Frame.step (holdPart_frame ..) | with_reducible apply Frame.step (modAsm_frame ..)
    | ((with_reducible apply Frame.forEach) <;> try intro _ _) | split

theorem censusFill_frame (v : Vacancy) (s : State) : Frame [.gnd] s (censusFill v s) := by
  unfold censusFill
  try extract_lets
  repeat' first
    | with_reducible apply Frame.refl | ((with_reducible apply Covered.mk); decide)
    | with_reducible apply Frame.step (applySubst_frame ..) | split

theorem censusFills_frame (s : State) : Frame [.gnd] s (censusFills s) := by
  unfold censusFills
  try extract_lets
  repeat' first
    | with_reducible apply Frame.refl | ((with_reducible apply Covered.mk); decide)
    | with_reducible apply Frame.step (censusFill_frame ..) | with_reducible apply Frame.step (modGnd_frame ..)
    | ((with_reducible apply Frame.forEach) <;> try intro _ _) | split

theorem blockReady_frame (s : State) :
    Frame [.boot, .stk, .gnd, .sents, .cpy, .wch, .slots, .ldg, .mem, .nextTag, .outs, .fresh] s (blockReady s) := by
  unfold blockReady
  try extract_lets
  repeat' first
    | with_reducible apply Frame.refl | ((with_reducible apply Covered.mk); decide)
    | with_reducible apply Frame.step (recordBlock_frame ..) | with_reducible apply Frame.step (firstDue_frame ..)
    | with_reducible apply Frame.step (sendCensus_frame ..) | with_reducible apply Frame.step (reportPfm_frame ..)
    | with_reducible apply Frame.step (modUnit_frame ..) | with_reducible apply Frame.step (periodMismatch_frame ..)
    | with_reducible apply Frame.step (modCpy_frame ..) | with_reducible apply Frame.step (modBoot_frame ..)
    | ((with_reducible apply Frame.whenB) <;> try intro _) | ((with_reducible apply Frame.forEach) <;> try intro _ _) | split

theorem censusEnd_frame (s : State) :
    Frame [.boot, .stk, .gnd, .sents, .cpy, .wch, .slots, .ldg, .mem, .nextTag, .outs, .fresh] s (censusEnd s) := by
  unfold censusEnd
  try extract_lets
  repeat' first
    | with_reducible apply Frame.refl | ((with_reducible apply Covered.mk); decide)
    | with_reducible apply Frame.step (modGnd_frame ..) | with_reducible apply Frame.step (recordBlock_frame ..)
    | with_reducible apply Frame.step (censusFills_frame ..) | with_reducible apply Frame.step (blockReady_frame ..) | split

theorem tileFailed_frame (p : Nat) (s : State) : Frame [.gnd, .sents] s (tileFailed p s) := by
  unfold tileFailed
  try extract_lets
  repeat' first
    | with_reducible apply Frame.refl | ((with_reducible apply Covered.mk); decide)
    | with_reducible apply Frame.step (modGnd_frame ..) | with_reducible apply Frame.step (modSent_frame ..)
    | with_reducible apply Frame.step (modTile_frame ..) | ((with_reducible apply Frame.whenB) <;> try intro _) | split

theorem censusCut_frame (s : State) :
    Frame [.boot, .stk, .gnd, .sents, .cpy, .wch, .slots, .ldg, .mem, .nextTag, .outs, .fresh] s (censusCut s) := by
  unfold censusCut
  try extract_lets
  repeat' first
    | with_reducible apply Frame.refl | ((with_reducible apply Covered.mk); decide)
    | with_reducible apply Frame.step (censusEnd_frame ..) | with_reducible apply Frame.step (endCanary_frame ..)
    | with_reducible apply Frame.step (modBoot_frame ..) | ((with_reducible apply Frame.forEach) <;> try intro _ _) | split

theorem stepRecord_frame (s : State) :
    Frame [.gnd, .sents, .wch, .slots, .ldg, .mem, .nextTag, .outs, .fresh] s (stepRecord s) := by
  unfold stepRecord
  try extract_lets
  repeat' first
    | with_reducible apply Frame.refl | ((with_reducible apply Covered.mk); decide)
    | with_reducible apply Frame.step (recordBlock_frame ..) | with_reducible apply Frame.step (bumpFresh_frame ..) | split

theorem linkAbsentNow_frame (l : Nat) (s : State) :
    Frame [.gnd, .sents, .wch, .slots, .ldg, .mem, .nextTag, .outs, .fresh] s (linkAbsentNow l s) := by
  unfold linkAbsentNow
  try extract_lets
  repeat' first
    | with_reducible apply Frame.refl | ((with_reducible apply Covered.mk); decide)
    | with_reducible apply Frame.step (modLink_frame ..) | with_reducible apply Frame.step (linkRecord_frame ..) | split

theorem scanLedger_frame (readable : Bool) (s : State) : Frame [.ldg] s (scanLedger readable s) := by
  unfold scanLedger
  try extract_lets
  repeat' first
    | with_reducible apply Frame.refl | ((with_reducible apply Covered.mk); decide)
    | with_reducible apply Frame.step (refreshOldest_frame ..) | with_reducible apply Frame.step (modLdg_frame ..) | split

theorem unwrapKeys_frame (good : Bool) (s : State) : Frame [.life] s (unwrapKeys good s) := by
  unfold unwrapKeys
  try extract_lets
  repeat' first
    | with_reducible apply Frame.refl | ((with_reducible apply Covered.mk); decide)
    | with_reducible apply Frame.step (modLife_frame ..) | split

theorem strapRecords_frame (s : State) :
    Frame [.gnd, .sents, .wch, .slots, .ldg, .mem, .nextTag, .outs, .fresh] s (strapRecords s) := by
  unfold strapRecords
  try extract_lets
  repeat' first
    | with_reducible apply Frame.refl | ((with_reducible apply Covered.mk); decide)
    | with_reducible apply Frame.step (recordBlock_frame ..) | ((with_reducible apply Frame.forEach) <;> try intro _ _)
    | split

theorem romDone_frame (readable keys : Bool) (zeroFail : List Nat) (s : State) :
    Frame [.nvm, .life, .boot, .gnd, .sents, .epochs, .wch, .slots, .ldg, .mem, .nextTag, .outs, .fresh] s (romDone readable keys zeroFail s) := by
  unfold romDone
  try extract_lets
  repeat' first
    | with_reducible apply Frame.refl | ((with_reducible apply Covered.mk); decide)
    | with_reducible apply Frame.step (scanLedger_frame ..) | with_reducible apply Frame.step (recordBlock_frame ..)
    | with_reducible apply Frame.step (modNvm_frame ..) | with_reducible apply Frame.step (timeBase_frame ..)
    | with_reducible apply Frame.step (syncLinks_frame ..) | with_reducible apply Frame.step (unwrapKeys_frame ..)
    | with_reducible apply Frame.step (modBoot_frame ..) | with_reducible apply Frame.step (zeroise_frame ..)
    | with_reducible apply Frame.step (strapRecords_frame ..) | ((with_reducible apply Frame.whenB) <;> try intro _) | split

theorem stepCut_frame (s : State) :
    Frame [.nvm, .life, .boot, .stk, .gnd, .sents, .epochs, .cpy, .wch, .slots, .ldg, .mem, .nextTag, .outs, .fresh] s (stepCut s) := by
  unfold stepCut
  try extract_lets
  repeat' first
    | with_reducible apply Frame.refl | ((with_reducible apply Covered.mk); decide)
    | with_reducible apply Frame.step (tileFailed_frame ..) | with_reducible apply Frame.step (censusCut_frame ..)
    | with_reducible apply Frame.step (stepRecord_frame ..) | with_reducible apply Frame.step (linkAbsentNow_frame ..)
    | with_reducible apply Frame.step (romDone_frame ..) | with_reducible apply Frame.step (modBoot_frame ..)
    | ((with_reducible apply Frame.forEach) <;> try intro _ _) | split

theorem groundAttempt_frame (src : Nat) (s : State) : Frame [.gnd] s (groundAttempt src s) := by
  unfold groundAttempt
  try extract_lets
  repeat' first
    | with_reducible apply Frame.refl | ((with_reducible apply Covered.mk); decide)
    | with_reducible apply Frame.step (modGnd_frame ..) | split

theorem groundNext_frame (s : State) : Frame [.gnd] s (groundNext s) := by
  unfold groundNext
  try extract_lets
  repeat' first
    | with_reducible apply Frame.refl | ((with_reducible apply Covered.mk); decide)
    | with_reducible apply Frame.step (modGnd_frame ..) | with_reducible apply Frame.step (groundAttempt_frame ..) | split

theorem groundFail_frame (src err serial : Nat) (s : State) :
    Frame [.boot, .gnd, .sents, .wch, .slots, .ldg, .mem, .nextTag, .outs, .fresh] s (groundFail src err serial s) := by
  unfold groundFail
  try extract_lets
  repeat' first
    | with_reducible apply Frame.refl | ((with_reducible apply Covered.mk); decide)
    | with_reducible apply Frame.step (groundNext_frame ..) | with_reducible apply Frame.step (modGnd_frame ..)
    | with_reducible apply Frame.step (recordBlock_frame ..) | with_reducible apply Frame.step (modBoot_frame ..) | split

theorem sealQuietly_frame (s : State) : Frame [.ldg] s (sealQuietly s) := by
  unfold sealQuietly
  try extract_lets
  repeat' first
    | with_reducible apply Frame.refl | ((with_reducible apply Covered.mk); decide)
    | with_reducible apply Frame.step (modLdg_frame ..) | split

theorem sampleStraps_frame (x : Straps) (s : State) : Frame [.straps, .boot, .stk, .wch] s (sampleStraps x s) := by
  unfold sampleStraps
  try extract_lets
  repeat' first
    | with_reducible apply Frame.refl | ((with_reducible apply Covered.mk); decide)
    | with_reducible apply Frame.step (modWch_frame ..) | with_reducible apply Frame.step (modStk_frame ..)
    | with_reducible apply Frame.step (modBoot_frame ..) | split
    | exact ⟨fun c h => by cases c <;> first | exact rfl | exact absurd (by decide) h⟩

theorem censusBegin_frame (s : State) : Frame [.boot, .cpy] s (censusBegin s) := by
  unfold censusBegin
  try extract_lets
  repeat' first
    | with_reducible apply Frame.refl | ((with_reducible apply Covered.mk); decide)
    | with_reducible apply Frame.step (startCanary_frame ..) | with_reducible apply Frame.step (modUnit_frame ..)
    | with_reducible apply Frame.step (modBoot_frame ..) | ((with_reducible apply Frame.forEach) <;> try intro _ _) | split

theorem firmwareTimeout_frame (s : State) :
    Frame [.boot, .gnd, .sents, .wch, .slots, .ldg, .mem, .nextTag, .outs, .fresh] s (firmwareTimeout s) := by
  unfold firmwareTimeout
  try extract_lets
  repeat' first
    | with_reducible apply Frame.refl | ((with_reducible apply Covered.mk); decide)
    | with_reducible apply Frame.step (firmwareFail_frame ..) | split

theorem groundGo_frame (s : State) :
    Frame [.boot, .gnd, .sents, .wch, .slots, .ldg, .mem, .nextTag, .outs, .fresh] s (groundGo s) := by
  unfold groundGo
  try extract_lets
  repeat' first
    | with_reducible apply Frame.refl | ((with_reducible apply Covered.mk); decide)
    | with_reducible apply Frame.step (groundAttempt_frame ..) | with_reducible apply Frame.step (groundFail_frame ..)
    | split

theorem groundStart_frame (s : State) :
    Frame [.boot, .gnd, .sents, .wch, .slots, .ldg, .mem, .nextTag, .outs, .fresh] s (groundStart s) := by
  unfold groundStart
  try extract_lets
  repeat' first
    | with_reducible apply Frame.refl | ((with_reducible apply Covered.mk); decide)
    | with_reducible apply Frame.step (groundGo_frame ..) | with_reducible apply Frame.step (groundAttempt_frame ..) | split

theorem firmwarePass_frame (src : Nat) (bs : List Byte) (s : State) :
    Frame [.boot, .gnd, .sents, .wch, .slots, .ldg, .mem, .nextTag, .outs, .fresh] s (firmwarePass src bs s) := by
  unfold firmwarePass
  try extract_lets
  repeat' first
    | with_reducible apply Frame.refl | ((with_reducible apply Covered.mk); decide)
    | with_reducible apply Frame.step (groundStart_frame ..) | with_reducible apply Frame.step (modBoot_frame ..) | split

theorem firmwareTake_frame (src : Nat) (bs : List Byte) (s : State) :
    Frame [.boot, .gnd, .sents, .wch, .slots, .ldg, .mem, .nextTag, .outs, .fresh] s (firmwareTake src bs s) := by
  unfold firmwareTake
  try extract_lets
  repeat' first
    | with_reducible apply Frame.refl | ((with_reducible apply Covered.mk); decide)
    | with_reducible apply Frame.step (firmwarePass_frame ..) | with_reducible apply Frame.step (firmwareFail_frame ..)
    | split

theorem readFwCopy2_frame (src : Nat) (img : List Byte) (s : State) : Frame [.nvm] s (readFwCopy src img s).2 := by
  unfold readFwCopy
  dsimp only
  exact modNvm_frame _ _

theorem firmwareChecked_frame (src : Nat) (img : List Byte) (s : State) :
    Frame [.nvm, .boot, .gnd, .sents, .wch, .slots, .ldg, .mem, .nextTag, .outs, .fresh] s (firmwareChecked src img s) := by
  unfold firmwareChecked
  try dsimp only
  repeat' first
    | with_reducible apply Frame.refl | exact (readFwCopy2_frame ..).mono (.mk (by decide)) | ((with_reducible apply Covered.mk); decide)
    | with_reducible apply Frame.step (firmwareTake_frame ..) | with_reducible apply Frame.step (takeBroadcast_frame ..)
    | ((with_reducible apply Frame.whenB) <;> try intro _) | split

theorem attachPort_frame (a : PortAttach) (s : State) : Frame [.gnd, .sents] s (attachPort a s) := by
  unfold attachPort
  try extract_lets
  repeat' first
    | with_reducible apply Frame.refl | ((with_reducible apply Covered.mk); decide)
    | with_reducible apply Frame.step (modSent_frame ..) | with_reducible apply Frame.step (tileFailed_frame ..) | split

theorem groundTake_frame (src : Nat) (bs : List Byte) (s : State) :
    Frame [.nvm, .boot, .stk, .gnd, .sents, .parts, .wch, .slots, .ldg, .mem, .nextTag, .outs, .fresh] s (groundTake src bs s) := by
  unfold groundTake
  try extract_lets
  repeat' first
    | with_reducible apply Frame.refl | ((with_reducible apply Covered.mk); decide)
    | with_reducible apply Frame.step (groundFail_frame ..) | with_reducible apply Frame.step (imageLoaded_frame ..) | split

theorem readGroundCopy2_frame (src : Nat) (img : List Byte) (s : State) : Frame [.nvm] s (readGroundCopy src img s).2 := by
  unfold readGroundCopy
  dsimp only
  exact modNvm_frame _ _

theorem groundChecked_frame (src : Nat) (img : List Byte) (s : State) :
    Frame [.nvm, .boot, .stk, .gnd, .sents, .parts, .wch, .slots, .ldg, .mem, .nextTag, .outs, .fresh] s (groundChecked src img s) := by
  unfold groundChecked
  try dsimp only
  repeat' first
    | with_reducible apply Frame.refl | exact (readGroundCopy2_frame ..).mono (.mk (by decide)) | ((with_reducible apply Covered.mk); decide)
    | with_reducible apply Frame.step (takeBroadcast_frame ..) | with_reducible apply Frame.step (groundTake_frame ..)
    | split

theorem groundLoadGo_frame (slot : Nat) (s : State) :
    Frame [.boot, .gnd, .sents, .wch, .slots, .ldg, .mem, .nextTag, .outs, .fresh] s (groundLoadGo slot s) := by
  unfold groundLoadGo
  try extract_lets
  repeat' first
    | with_reducible apply Frame.refl | ((with_reducible apply Covered.mk); decide)
    | with_reducible apply Frame.step (modGnd_frame ..) | with_reducible apply Frame.step (recordBlock_frame ..)
    | with_reducible apply Frame.step (groundGo_frame ..) | split

theorem commitOldest_frame (s : State) :
    Frame [.nvm, .gnd, .sents, .wch, .slots, .ldg, .mem, .nextTag, .outs, .fresh] s (commitOldest s) := by
  unfold commitOldest
  try extract_lets
  repeat' first
    | with_reducible apply Frame.refl | ((with_reducible apply Covered.mk); decide)
    | with_reducible apply Frame.step (programmed_frame ..) | split

theorem commitSome_frame (n : Nat) (s : State) : Frame [.nvm, .gnd, .sents, .wch, .slots, .ldg, .mem, .nextTag, .outs, .fresh] s (commitSome n s) := by
  induction n generalizing s with
  | zero => exact Frame.refl _ s
  | succ n ih => exact (commitOldest_frame s).trans (ih (commitOldest s))

theorem lcResult_frame (r : Nat) (s : State) : Frame [.life] s (lcResult r s) := by
  unfold lcResult
  try extract_lets
  repeat' first
    | with_reducible apply Frame.refl | ((with_reducible apply Covered.mk); decide)
    | with_reducible apply Frame.step (modLife_frame ..) | split

theorem lcReject_frame (op r : Nat) (s : State) :
    Frame [.life, .gnd, .sents, .wch, .slots, .ldg, .mem, .nextTag, .outs, .fresh] s (lcReject op r s) := by
  unfold lcReject
  try extract_lets
  repeat' first
    | with_reducible apply Frame.refl | ((with_reducible apply Covered.mk); decide)
    | with_reducible apply Frame.step (recordBlock_frame ..) | with_reducible apply Frame.step (lcResult_frame ..) | split

theorem burn_frame (r : OtpReq) (s : State) : Frame [.life] s (burn r s) := by
  unfold burn
  try extract_lets
  repeat' first
    | with_reducible apply Frame.refl | ((with_reducible apply Covered.mk); decide)
    | with_reducible apply Frame.step (modLife_frame ..) | split

theorem startBurns_frame (rs : List OtpReq) (s : State) : Frame [.life, .outs] s (startBurns rs s) := by
  unfold startBurns
  try extract_lets
  repeat' first
    | with_reducible apply Frame.refl | ((with_reducible apply Covered.mk); decide)
    | with_reducible apply Frame.step (modLife_frame ..) | with_reducible apply Frame.step (emit_frame ..) | split

theorem retrainAll_frame (s : State) :
    Frame [.nvm, .gnd, .sents, .wch, .slots, .ldg, .mem, .nextTag, .outs, .fresh] s (retrainAll s) := by
  unfold retrainAll
  try extract_lets
  repeat' first
    | with_reducible apply Frame.refl | ((with_reducible apply Covered.mk); decide)
    | with_reducible apply Frame.step (syncLinks_frame ..) | with_reducible apply Frame.step (toDown_frame ..)
    | ((with_reducible apply Frame.forEach) <;> try intro _ _) | split

theorem lcDone_frame (op old : Nat) (s : State) :
    Frame [.life, .gnd, .sents, .wch, .slots, .ldg, .mem, .nextTag, .outs, .fresh] s (lcDone op old s) := by
  unfold lcDone
  try extract_lets
  repeat' first
    | with_reducible apply Frame.refl | ((with_reducible apply Covered.mk); decide)
    | with_reducible apply Frame.step (recordBlock_frame ..) | with_reducible apply Frame.step (lcResult_frame ..) | split

theorem provisionEnd_frame (old : Nat) (k : KeyStore) (s : State) :
    Frame [.nvm, .life, .gnd, .sents, .wch, .slots, .ldg, .mem, .nextTag, .outs, .fresh] s (provisionEnd old k s) := by
  unfold provisionEnd
  try extract_lets
  repeat' first
    | with_reducible apply Frame.refl | ((with_reducible apply Covered.mk); decide)
    | with_reducible apply Frame.step (modLife_frame ..) | with_reducible apply Frame.step (modNvm_frame ..)
    | with_reducible apply Frame.step (retrainAll_frame ..) | with_reducible apply Frame.step (lcDone_frame ..) | split

theorem provisionGo_frame (blk : MemRead) (s : State) :
    Frame [.nvm, .life, .gnd, .sents, .wch, .slots, .ldg, .mem, .nextTag, .outs, .fresh] s (provisionGo blk s) := by
  unfold provisionGo
  try extract_lets
  repeat' first
    | with_reducible apply Frame.refl | ((with_reducible apply Covered.mk); decide)
    | with_reducible apply Frame.step (provisionEnd_frame ..) | with_reducible apply Frame.step (lcReject_frame ..)
    | with_reducible apply Frame.step (startBurns_frame ..) | split

theorem commitCounter_frame (blk : MemRead) (s : State) : Frame [.nvm] s (commitCounter blk s) := by
  unfold commitCounter
  try extract_lets
  repeat' first
    | with_reducible apply Frame.refl | ((with_reducible apply Covered.mk); decide)
    | with_reducible apply Frame.step (modNvm_frame ..) | split

theorem returnGo_frame (blk : MemRead) (s : State) :
    Frame [.nvm, .life, .gnd, .sents, .wch, .slots, .ldg, .mem, .nextTag, .outs, .fresh] s (returnGo blk s) := by
  unfold returnGo
  try extract_lets
  repeat' first
    | with_reducible apply Frame.refl | ((with_reducible apply Covered.mk); decide)
    | with_reducible apply Frame.step (lcReject_frame ..) | with_reducible apply Frame.step (startBurns_frame ..)
    | with_reducible apply Frame.step (commitCounter_frame ..) | split

theorem commitCanary_frame (p : Nat) (s : State) :
    Frame [.nvm, .gnd, .sents, .wch, .slots, .ldg, .mem, .nextTag, .outs, .fresh] s (commitCanary p s) := by
  unfold commitCanary
  try extract_lets
  repeat' first
    | with_reducible apply Frame.refl | ((with_reducible apply Covered.mk); decide)
    | with_reducible apply Frame.step (modSent_frame ..) | with_reducible apply Frame.step (craqMod_frame ..) | split

theorem hoursUnit_frame (s : State) :
    Frame [.nvm, .boot, .gnd, .sents, .wch, .slots, .ldg, .mem, .nextTag, .outs, .fresh] s (hoursUnit s) := by
  unfold hoursUnit
  try extract_lets
  repeat' first
    | with_reducible apply Frame.refl | ((with_reducible apply Covered.mk); decide)
    | with_reducible apply Frame.step (modNvm_frame ..) | with_reducible apply Frame.step (commitCanary_frame ..)
    | with_reducible apply Frame.step (modBoot_frame ..) | ((with_reducible apply Frame.whenB) <;> try intro _)
    | ((with_reducible apply Frame.forEach) <;> try intro _ _) | split

theorem returnEnd_frame (old : Nat) (zeroFail : List Nat) (s : State) :
    Frame [.nvm, .life, .energies, .gnd, .sents, .parts, .epochs, .chks, .cpy, .dgt, .rcv, .wch, .slots, .ldg, .mem, .nextTag, .outs, .fresh] s (returnEnd old zeroFail s) := by
  unfold returnEnd
  try extract_lets
  repeat' first
    | with_reducible apply Frame.refl | ((with_reducible apply Covered.mk); decide)
    | with_reducible apply Frame.step (leaveAll_frame ..) | with_reducible apply Frame.step (modNvm_frame ..)
    | with_reducible apply Frame.step (lcDone_frame ..) | with_reducible apply Frame.step (syncLinks_frame ..)
    | with_reducible apply Frame.step (zeroise_frame ..) | split

theorem burnsDone_frame (r : OtpReq) (zeroFail : List Nat) (s : State) :
    Frame [.nvm, .life, .energies, .gnd, .sents, .parts, .epochs, .chks, .cpy, .dgt, .rcv, .wch, .slots, .ldg, .mem, .nextTag, .outs, .fresh] s (burnsDone r zeroFail s) := by
  unfold burnsDone
  try extract_lets
  repeat' first
    | with_reducible apply Frame.refl | ((with_reducible apply Covered.mk); decide)
    | with_reducible apply Frame.step (provisionEnd_frame ..) | with_reducible apply Frame.step (lcDone_frame ..)
    | with_reducible apply Frame.step (returnEnd_frame ..) | split

theorem otpAnswer_frame (err : Bool) (zeroFail : List Nat) (s : State) :
    Frame [.nvm, .life, .energies, .gnd, .sents, .parts, .epochs, .chks, .cpy, .dgt, .rcv, .wch, .slots, .ldg, .mem, .nextTag, .outs, .fresh] s (otpAnswer err zeroFail s) := by
  unfold otpAnswer
  try extract_lets
  repeat' first
    | with_reducible apply Frame.refl | ((with_reducible apply Covered.mk); decide)
    | with_reducible apply Frame.step (burn_frame ..) | with_reducible apply Frame.step (modLife_frame ..)
    | with_reducible apply Frame.step (burnsDone_frame ..) | with_reducible apply Frame.step (lcReject_frame ..)
    | with_reducible apply Frame.step (startBurns_frame ..) | split

theorem resetWrite_frame (v : Word) (s : State) :
    Frame [.nvm, .life, .boot, .pwr, .energies, .gnd, .sents, .parts, .epochs, .chks, .judged, .cpy, .dgt, .scr, .taint, .rcv, .wch, .slots, .ldg, .mem, .nextTag, .outs, .fresh] s (resetWrite v s) := by
  unfold resetWrite
  try extract_lets
  repeat' first
    | with_reducible apply Frame.refl | ((with_reducible apply Covered.mk); decide)
    | with_reducible apply Frame.step (startReset_frame ..) | ((with_reducible apply Frame.whenB) <;> try intro _) | split

theorem lockGo_frame (op : Nat) (blk : MemRead) (s : State) :
    Frame [.nvm, .life, .gnd, .sents, .wch, .slots, .ldg, .mem, .nextTag, .outs, .fresh] s (lockGo op blk s) := by
  unfold lockGo
  try extract_lets
  repeat' first
    | with_reducible apply Frame.refl | ((with_reducible apply Covered.mk); decide)
    | with_reducible apply Frame.step (lcReject_frame ..) | with_reducible apply Frame.step (startBurns_frame ..)
    | with_reducible apply Frame.step (commitCounter_frame ..) | split

theorem devkeyGo_frame (s : State) :
    Frame [.life, .gnd, .sents, .wch, .slots, .ldg, .mem, .nextTag, .outs, .fresh] s (devkeyGo s) := by
  unfold devkeyGo
  try extract_lets
  repeat' first
    | with_reducible apply Frame.refl | ((with_reducible apply Covered.mk); decide)
    | with_reducible apply Frame.step (memWrite_frame ..) | with_reducible apply Frame.step (lcReject_frame ..)
    | with_reducible apply Frame.step (lcResult_frame ..) | split

theorem lcGo_frame (op : Nat) (blk : MemRead) (s : State) :
    Frame [.nvm, .life, .gnd, .sents, .wch, .slots, .ldg, .mem, .nextTag, .outs, .fresh] s (lcGo op blk s) := by
  unfold lcGo
  try extract_lets
  repeat' first
    | with_reducible apply Frame.refl | ((with_reducible apply Covered.mk); decide)
    | with_reducible apply Frame.step (provisionGo_frame ..) | with_reducible apply Frame.step (returnGo_frame ..)
    | with_reducible apply Frame.step (lockGo_frame ..) | with_reducible apply Frame.step (lcReject_frame ..)
    | with_reducible apply Frame.step (devkeyGo_frame ..) | with_reducible apply Frame.step (lcResult_frame ..) | split

theorem lcWrite_frame (v : Word) (blk : MemRead) (s : State) :
    Frame [.nvm, .life, .gnd, .sents, .wch, .slots, .ldg, .mem, .nextTag, .outs, .fresh] s (lcWrite v blk s) := by
  unfold lcWrite
  try extract_lets
  repeat' first
    | with_reducible apply Frame.refl | ((with_reducible apply Covered.mk); decide)
    | with_reducible apply Frame.step (modLife_frame ..) | with_reducible apply Frame.step (lcGo_frame ..)
    | ((with_reducible apply Frame.whenB) <;> try intro _) | split

theorem gateResult_frame (n : Nat) (s : State) : Frame [.rcv] s (gateResult n s) := by
  unfold gateResult
  try extract_lets
  repeat' first
    | with_reducible apply Frame.refl | ((with_reducible apply Covered.mk); decide)
    | with_reducible apply Frame.step (modRcv_frame ..) | split

theorem gateOn_frame (c : Nat) (s : State) : Frame [.gnd, .sents, .rcv, .ldg, .outs, .fresh] s (gateOn c s) := by
  unfold gateOn
  try extract_lets
  repeat' first
    | with_reducible apply Frame.refl | ((with_reducible apply Covered.mk); decide)
    | with_reducible apply Frame.step (modCtx_frame ..) | with_reducible apply Frame.step (modRcv_frame ..)
    | with_reducible apply Frame.step (nextFence_frame ..) | with_reducible apply Frame.step (gateResult_frame ..)
    | ((with_reducible apply Frame.forEach) <;> try intro _ _) | split

theorem modGate_frame (c : Nat) (f : Gate → Gate) (s : State) : Frame [.rcv] s (modGate c f s) := by
  unfold modGate
  try extract_lets
  repeat' first
    | with_reducible apply Frame.refl | ((with_reducible apply Covered.mk); decide)
    | with_reducible apply Frame.step (modRcv_frame ..) | split

theorem gateStep_frame (c : Nat) (s : State) : Frame [.rcv, .outs] s (gateStep c s) := by
  unfold gateStep
  try extract_lets
  repeat' first
    | with_reducible apply Frame.refl | ((with_reducible apply Covered.mk); decide)
    | with_reducible apply Frame.step (modRcv_frame ..) | with_reducible apply Frame.step (emit_frame ..)
    | with_reducible apply Frame.step (modGate_frame ..) | with_reducible apply Frame.step (gateResult_frame ..)
    | ((with_reducible apply Frame.forEach) <;> try intro _ _) | split

theorem gateOff_frame (c : Nat) (s : State) : Frame [.gnd, .sents, .rcv, .ldg, .outs, .fresh] s (gateOff c s) := by
  unfold gateOff
  try extract_lets
  repeat' first
    | with_reducible apply Frame.refl | ((with_reducible apply Covered.mk); decide)
    | with_reducible apply Frame.step (dropGate_frame ..) | with_reducible apply Frame.step (gateResult_frame ..) | split

theorem gateWrite_frame (v : Word) (s : State) : Frame [.gnd, .sents, .rcv, .ldg, .outs, .fresh] s (gateWrite v s) := by
  unfold gateWrite
  try extract_lets
  repeat' first
    | with_reducible apply Frame.refl | ((with_reducible apply Covered.mk); decide)
    | with_reducible apply Frame.step (gateOn_frame ..) | with_reducible apply Frame.step (gateStep_frame ..)
    | with_reducible apply Frame.step (gateOff_frame ..) | with_reducible apply Frame.step (gateResult_frame ..) | split

theorem cycleFailed_frame (x : Ladder) (s : State) :
    Frame [.energies, .gnd, .sents, .parts, .epochs, .rcv, .wch, .slots, .ldg, .mem, .nextTag, .outs, .fresh] s (cycleFailed x s) := by
  unfold cycleFailed
  try extract_lets
  repeat' first
    | with_reducible apply Frame.refl | ((with_reducible apply Covered.mk); decide)
    | with_reducible apply Frame.step (recordBlock_frame ..) | with_reducible apply Frame.step (modRcv_frame ..)
    | with_reducible apply Frame.step (reportPfm_frame ..) | with_reducible apply Frame.step (holdPart_frame ..)
    | ((with_reducible apply Frame.forEach) <;> try intro _ _) | split

theorem fenceWrite_frame (v : Word) (s : State) :
    Frame [.energies, .gnd, .sents, .parts, .epochs, .rcv, .wch, .slots, .ldg, .mem, .nextTag, .outs, .fresh] s (fenceWrite v s) := by
  unfold fenceWrite
  try extract_lets
  repeat' first
    | with_reducible apply Frame.refl | ((with_reducible apply Covered.mk); decide)
    | with_reducible apply Frame.step (modRcv_frame ..) | with_reducible apply Frame.step (startTeardown_frame ..) | split

theorem gateHeld_frame (p c : Nat) (s : State) : Frame [.sents, .rcv] s (gateHeld p c s) := by
  unfold gateHeld
  try extract_lets
  repeat' first
    | with_reducible apply Frame.refl | ((with_reducible apply Covered.mk); decide)
    | with_reducible apply Frame.step (modRcv_frame ..) | with_reducible apply Frame.step (modFence_frame ..) | split

theorem doneEvent_frame (p : Nat) (err : Bool) (ctx : Nat) (s : State) :
    Frame [.gnd, .sents, .ldg, .fresh] s (doneEvent p err ctx s) := by
  unfold doneEvent
  try extract_lets
  repeat' first
    | with_reducible apply Frame.refl | ((with_reducible apply Covered.mk); decide)
    | with_reducible apply Frame.step (event_frame ..) | split

theorem fenceAnswer_frame (p : Nat) (err : Bool) (s : State) :
    Frame [.nvm, .energies, .gnd, .sents, .parts, .epochs, .chks, .cpy, .scr, .taint, .rcv, .wch, .slots, .ldg, .mem, .nextTag, .outs, .fresh] s (fenceAnswer p err s) := by
  unfold fenceAnswer
  try extract_lets
  repeat' first
    | with_reducible apply Frame.refl | ((with_reducible apply Covered.mk); decide)
    | with_reducible apply Frame.step (escalate_frame ..) | with_reducible apply Frame.step (gateHeld_frame ..)
    | with_reducible apply Frame.step (portDecided_frame ..) | with_reducible apply Frame.step (doneEvent_frame ..)
    | with_reducible apply Frame.step (nextFence_frame ..) | with_reducible apply Frame.step (record_frame ..)
    | with_reducible apply Frame.step (lowerFence_frame ..) | split

theorem ladderWrite_frame (v : Word) (s : State) :
    Frame [.nvm, .energies, .gnd, .sents, .parts, .epochs, .chks, .cpy, .scr, .taint, .rcv, .wch, .slots, .ldg, .mem, .nextTag, .outs, .fresh] s (ladderWrite v s) := by
  unfold ladderWrite
  try extract_lets
  repeat' first
    | with_reducible apply Frame.refl | ((with_reducible apply Covered.mk); decide)
    | with_reducible apply Frame.step (modRcv_frame ..) | with_reducible apply Frame.step (startLevel_frame ..) | split

theorem pmAck_frame (s : State) :
    Frame [.energies, .gnd, .sents, .parts, .epochs, .chks, .cpy, .taint, .rcv, .wch, .slots, .ldg, .mem, .nextTag, .outs, .fresh] s (pmAck s) := by
  unfold pmAck
  try extract_lets
  repeat' first
    | with_reducible apply Frame.refl | ((with_reducible apply Covered.mk); decide)
    | with_reducible apply Frame.step (finishLevel_frame ..) | with_reducible apply Frame.step (modRcv_frame ..)
    | with_reducible apply Frame.step (dropPm_frame ..) | split

theorem escalateFabric_frame (f : Fence) (s : State) :
    Frame [.nvm, .energies, .gnd, .sents, .parts, .epochs, .chks, .cpy, .scr, .taint, .rcv, .wch, .slots, .ldg, .mem, .nextTag, .outs, .fresh] s (escalateFabric f s) := by
  unfold escalateFabric
  try extract_lets
  repeat' first
    | with_reducible apply Frame.refl | ((with_reducible apply Covered.mk); decide)
    | with_reducible apply Frame.step (escalate_frame ..) | ((with_reducible apply Frame.forEach) <;> try intro _ _) | split

theorem fabricLimit_frame (s : State) :
    Frame [.nvm, .energies, .gnd, .sents, .parts, .epochs, .chks, .cpy, .scr, .taint, .rcv, .wch, .slots, .ldg, .mem, .nextTag, .outs, .fresh] s (fabricLimit s) := by
  unfold fabricLimit
  try extract_lets
  repeat' first
    | with_reducible apply Frame.refl | ((with_reducible apply Covered.mk); decide)
    | with_reducible apply Frame.step (escalateFabric_frame ..) | with_reducible apply Frame.step (recordBlock_frame ..)
    | with_reducible apply Frame.step (modRcv_frame ..) | split

theorem stepAnswered_frame (p c : Nat) (s : State) : Frame [.rcv] s (stepAnswered p c s) := by
  unfold stepAnswered
  try extract_lets
  repeat' first
    | with_reducible apply Frame.refl | ((with_reducible apply Covered.mk); decide)
    | with_reducible apply Frame.step (modGate_frame ..) | with_reducible apply Frame.step (gateResult_frame ..) | split

theorem ackFall_frame (port : Option Nat) (s : State) : Frame [.sents, .rcv, .outs] s (ackFall port s) := by
  unfold ackFall
  try extract_lets
  repeat' first
    | with_reducible apply Frame.refl | ((with_reducible apply Covered.mk); decide)
    | with_reducible apply Frame.step (modSent_frame ..) | with_reducible apply Frame.step (modRcv_frame ..)
    | with_reducible apply Frame.step (nextPm_frame ..) | with_reducible apply Frame.step (raiseReset_frame ..) | split

theorem advance_frame (p n : Nat) (s : State) : Frame [.sents] s (advance p n s) := by
  unfold advance
  try extract_lets
  repeat' first
    | with_reducible apply Frame.refl | ((with_reducible apply Covered.mk); decide)
    | with_reducible apply Frame.step (modProg_frame ..) | split

theorem rebind_frame (p n c : Nat) (active : Bool) (s : State) :
    Frame [.gnd, .sents, .rcv, .wch, .slots, .ldg, .mem, .nextTag, .outs, .fresh] s (rebind p n c active s) := by
  unfold rebind
  try extract_lets
  repeat' first
    | with_reducible apply Frame.refl | ((with_reducible apply Covered.mk); decide)
    | with_reducible apply Frame.step (nameContext_frame ..) | with_reducible apply Frame.step (modProg_frame ..)
    | ((with_reducible apply Frame.whenB) <;> try intro _) | split

theorem fabricAnswer_frame (err : Bool) (s : State) :
    Frame [.nvm, .energies, .gnd, .sents, .parts, .epochs, .chks, .cpy, .scr, .taint, .rcv, .wch, .slots, .ldg, .mem, .nextTag, .outs, .fresh] s (fabricAnswer err s) := by
  unfold fabricAnswer
  try extract_lets
  repeat' first
    | with_reducible apply Frame.refl | ((with_reducible apply Covered.mk); decide)
    | with_reducible apply Frame.step (escalateFabric_frame ..) | with_reducible apply Frame.step (lowerFabric_frame ..)
    | with_reducible apply Frame.step (recordBlock_frame ..) | with_reducible apply Frame.step (nextFabric_frame ..)
    | with_reducible apply Frame.step (checkTeardown_frame ..) | with_reducible apply Frame.step (modTeardown_frame ..)
    | split

theorem resetAck_frame (p : Nat) (s : State) :
    Frame [.energies, .gnd, .sents, .parts, .epochs, .chks, .cpy, .taint, .rcv, .wch, .slots, .ldg, .mem, .nextTag, .outs, .fresh] s (resetAck p s) := by
  unfold resetAck
  try extract_lets
  repeat' first
    | with_reducible apply Frame.refl | ((with_reducible apply Covered.mk); decide)
    | with_reducible apply Frame.step (modSent_frame ..) | with_reducible apply Frame.step (finishLevel_frame ..)
    | with_reducible apply Frame.step (dropReset_frame ..) | split

theorem fenceLimit_frame (p : Nat) (s : State) :
    Frame [.nvm, .energies, .gnd, .sents, .parts, .epochs, .chks, .cpy, .scr, .taint, .rcv, .wch, .slots, .ldg, .mem, .nextTag, .outs, .fresh] s (fenceLimit p s) := by
  unfold fenceLimit
  try extract_lets
  repeat' first
    | with_reducible apply Frame.refl | ((with_reducible apply Covered.mk); decide)
    | with_reducible apply Frame.step (escalate_frame ..) | with_reducible apply Frame.step (record_frame ..)
    | with_reducible apply Frame.step (modFence_frame ..) | split

theorem lateOne_frame (port : Option Nat) (s : State) : Frame [.sents, .rcv] s (lateOne port s) := by
  unfold lateOne
  try extract_lets
  repeat' first
    | with_reducible apply Frame.refl | ((with_reducible apply Covered.mk); decide)
    | with_reducible apply Frame.step (modSent_frame ..) | with_reducible apply Frame.step (modRcv_frame ..) | split

theorem modRl_frame (p : Nat) (f : Rl → Rl) (s : State) : Frame [.sents] s (modRl p f s) := by
  unfold modRl
  try extract_lets
  repeat' first
    | with_reducible apply Frame.refl | ((with_reducible apply Covered.mk); decide)
    | with_reducible apply Frame.step (modSent_frame ..) | split

theorem takeOutcome_frame (p c : Nat) (r : ResidueReport) (s : State) : Frame [.sents] s (takeOutcome p c r s) := by
  unfold takeOutcome
  try extract_lets
  repeat' first
    | with_reducible apply Frame.refl | ((with_reducible apply Covered.mk); decide)
    | with_reducible apply Frame.step (modRl_frame ..) | split

theorem nodeWrite_frame (a : Access) (n off : Nat) {f : State → State} {l : List Comp} {s t : State} (hf : ∀ x, Frame l x (f x))
    (hc : Covered [.gnd, .sents, .wch, .slots, .bus, .ldg, .mem, .nextTag, .outs, .fresh] l) (k : Frame l s t) :
    Frame l s (nodeWrite a n off f t) := by
  have hb : Covered [Comp.bus] l := ⟨by simpa using List.all_eq_true.mp hc.ok .bus (by decide)⟩
  unfold nodeWrite
  repeat' split
  all_goals first
    | exact k
    | exact (k.trans (hf t)).trans ((busOk_frame _).mono hb)
    | exact k.trans ((busErr_frame _).mono hb)
    | exact k.trans ((deny_frame ..).mono hc)
    | exact k.trans (((record_frame ..).mono ⟨by
        refine List.all_eq_true.mpr (fun c h => List.all_eq_true.mp hc.ok c ?_)
        revert c; decide⟩).trans ((busErr_frame _).mono hb))

theorem pulseInj_frame (p : Nat) (s : State) : Frame [.sents, .outs] s (pulseInj p s) := by
  unfold pulseInj
  try extract_lets
  repeat' first
    | with_reducible apply Frame.refl | ((with_reducible apply Covered.mk); decide)
    | with_reducible apply Frame.step (emit_frame ..) | with_reducible apply Frame.step (modRl_frame ..) | split

theorem collectRl_frame (n p : Nat) (s : State) :
    Frame [.gnd, .sents, .chks, .wch, .slots, .ldg, .mem, .nextTag, .outs, .fresh] s (collectRl n p s) := by
  unfold collectRl
  try extract_lets
  repeat' first
    | with_reducible apply Frame.refl | ((with_reducible apply Covered.mk); decide)
    | with_reducible apply Frame.step (addChk_frame ..) | with_reducible apply Frame.step (writeOrFold_frame ..)
    | with_reducible apply Frame.step (modRl_frame ..) | with_reducible apply Frame.step (addEvid_frame ..)
    | ((with_reducible apply Frame.whenB) <;> try intro _) | split

theorem rlJudge_frame (s : State) :
    Frame [.gnd, .sents, .chks, .wch, .slots, .ldg, .mem, .nextTag, .outs, .fresh] s (rlJudge s) := by
  unfold rlJudge
  try extract_lets
  repeat' first
    | with_reducible apply Frame.refl | ((with_reducible apply Covered.mk); decide)
    | with_reducible apply Frame.step (collectRl_frame ..) | with_reducible apply Frame.step (modRl_frame ..)
    | ((with_reducible apply Frame.forEach) <;> try intro _ _) | split

theorem rlTick_frame (s : State) : Frame [.sents, .outs] s (rlTick s) := by
  unfold rlTick
  try extract_lets
  repeat' first
    | with_reducible apply Frame.refl | ((with_reducible apply Covered.mk); decide)
    | with_reducible apply Frame.step (pulseInj_frame ..) | with_reducible apply Frame.step (modRl_frame ..)
    | ((with_reducible apply Frame.forEach) <;> try intro _ _) | split
    | exact ⟨fun c h => by cases c <;> first | exact rfl | exact absurd (by decide) h⟩

theorem refuse_frame (d : Denial) (a : Access) (write : Bool) (addr : Nat) (s : State) :
    Frame [.gnd, .sents, .wch, .slots, .bus, .ldg, .mem, .nextTag, .outs, .fresh] s (refuse d a write addr s) := by
  unfold refuse
  try extract_lets
  repeat' first
    | with_reducible apply Frame.refl | ((with_reducible apply Covered.mk); decide)
    | with_reducible apply Frame.step (busErr_frame ..) | with_reducible apply Frame.step (deny_frame ..)
    | with_reducible apply Frame.step (record_frame ..) | split

theorem writeCopyist_frame (off : Nat) (v : Word) (s : State) : Frame [.cpy] s (writeCopyist off v s) := by
  unfold writeCopyist
  try extract_lets
  repeat' first
    | with_reducible apply Frame.refl | ((with_reducible apply Covered.mk); decide)
    | with_reducible apply Frame.step (writeCpyCfg_frame ..) | with_reducible apply Frame.step (modCpy_frame ..) | split

theorem sampleFailed_frame (p : Nat) (s : State) :
    Frame [.gnd, .sents, .wch, .slots, .ldg, .mem, .nextTag, .outs, .fresh] s (sampleFailed p s) := by
  unfold sampleFailed
  try extract_lets
  repeat' first
    | with_reducible apply Frame.refl | ((with_reducible apply Covered.mk); decide)
    | with_reducible apply Frame.step (memWrite_frame ..) | with_reducible apply Frame.step (record_frame ..) | split

theorem memFailed_frame (w : MemWork) (s : State) :
    Frame [.energies, .gnd, .sents, .parts, .epochs, .chks, .cpy, .taint, .rcv, .wch, .slots, .ldg, .mem, .nextTag, .outs, .fresh] s (memFailed w s) := by
  unfold memFailed
  try extract_lets
  repeat' first
    | with_reducible apply Frame.refl | ((with_reducible apply Covered.mk); decide)
    | with_reducible apply Frame.step (sampleFailed_frame ..) | with_reducible apply Frame.step (dropCapture_frame ..)
    | with_reducible apply Frame.step (spillFailed_frame ..) | split

theorem endMem_frame (tag : Nat) (s : State) : Frame [.mem] s (endMem tag s) := by
  unfold endMem
  try extract_lets
  repeat' first
    | with_reducible apply Frame.refl | ((with_reducible apply Covered.mk); decide) | split
    | exact ⟨fun c h => by cases c <;> first | exact rfl | exact absurd (by decide) h⟩

theorem captureLanded_frame (id : Nat) (s : State) : Frame [.cpy] s (captureLanded id s) := by
  unfold captureLanded
  try extract_lets
  repeat' first
    | with_reducible apply Frame.refl | ((with_reducible apply Covered.mk); decide)
    | with_reducible apply Frame.step (modCap_frame ..) | with_reducible apply Frame.step (modCpy_frame ..) | split

theorem memDone_frame (w : MemWork) (s : State) : Frame [.cpy] s (memDone w s) := by
  unfold memDone
  try extract_lets
  repeat' first
    | with_reducible apply Frame.refl | ((with_reducible apply Covered.mk); decide)
    | with_reducible apply Frame.step (captureLanded_frame ..) | split

theorem memAnswer_frame (tag : Nat) (err : Bool) (s : State) :
    Frame [.energies, .gnd, .sents, .parts, .epochs, .chks, .cpy, .taint, .rcv, .wch, .slots, .ldg, .mem, .nextTag, .outs, .fresh] s (memAnswer tag err s) := by
  unfold memAnswer
  try extract_lets
  repeat' first
    | with_reducible apply Frame.refl | ((with_reducible apply Covered.mk); decide)
    | with_reducible apply Frame.step (memFailed_frame ..) | with_reducible apply Frame.step (endMem_frame ..)
    | with_reducible apply Frame.step (memDone_frame ..) | split

theorem writeStroke_frame (off : Nat) (v : Word) (s : State) : Frame [.tcfg, .stk] s (writeStroke off v s) := by
  unfold writeStroke
  try extract_lets
  repeat' first
    | with_reducible apply Frame.refl | ((with_reducible apply Covered.mk); decide)
    | with_reducible apply Frame.step (modStk_frame ..) | split
    | exact ⟨fun c h => by cases c <;> first | exact rfl | exact absurd (by decide) h⟩

theorem writeWatch_frame (off : Nat) (v : Word) (s : State) : Frame [.wch] s (writeWatch off v s) := by
  unfold writeWatch
  try extract_lets
  repeat' first
    | with_reducible apply Frame.refl | ((with_reducible apply Covered.mk); decide)
    | with_reducible apply Frame.step (modWch_frame ..) | with_reducible apply Frame.step (modLink_frame ..) | split

theorem writeScreen_frame (off : Nat) (v : Word) (s : State) : Frame [.life, .scr] s (writeScreen off v s) := by
  unfold writeScreen
  try extract_lets
  repeat' first
    | with_reducible apply Frame.refl | ((with_reducible apply Covered.mk); decide)
    | with_reducible apply Frame.step (modScr_frame ..) | with_reducible apply Frame.step (modLife_frame ..) | split

theorem writeIrqEn_frame (n : Nat) (sec : Bool) (v : Word) (s : State) : Frame [.slots] s (writeIrqEn n sec v s) := by
  unfold writeIrqEn
  try extract_lets
  repeat' first
    | with_reducible apply Frame.refl | ((with_reducible apply Covered.mk); decide)
    | with_reducible apply Frame.step (modSlot_frame ..) | ((with_reducible apply Frame.foldl) <;> try intro _ _) | split

theorem writePower_frame (off : Nat) (v : Word) (s : State) : Frame [.pwr] s (writePower off v s) := by
  unfold writePower
  try extract_lets
  repeat' first
    | with_reducible apply Frame.refl | ((with_reducible apply Covered.mk); decide)
    | with_reducible apply Frame.step (modPwr_frame ..) | split

theorem writeLedger_frame (off : Nat) (v : Word) (s : State) :
    Frame [.gnd, .sents, .wch, .slots, .ldg, .mem, .nextTag, .outs, .fresh] s (writeLedger off v s) := by
  unfold writeLedger
  try extract_lets
  repeat' first
    | with_reducible apply Frame.refl | ((with_reducible apply Covered.mk); decide)
    | with_reducible apply Frame.step (traceWrite_frame ..) | with_reducible apply Frame.step (modLdg_frame ..) | split

theorem clearCkpt_frame (v : Word) (s : State) : Frame [.parts, .rcv] s (clearCkpt v s) := by
  unfold clearCkpt
  try extract_lets
  repeat' first
    | with_reducible apply Frame.refl | ((with_reducible apply Covered.mk); decide)
    | with_reducible apply Frame.step (modPart_frame ..) | with_reducible apply Frame.step (modRcv_frame ..)
    | ((with_reducible apply Frame.forEach) <;> try intro _ _) | split

theorem writeRecovery_frame (off : Nat) (v : Word) (s : State) : Frame [.parts, .taint, .rcv] s (writeRecovery off v s) := by
  unfold writeRecovery
  try extract_lets
  repeat' first
    | with_reducible apply Frame.refl | ((with_reducible apply Covered.mk); decide)
    | with_reducible apply Frame.step (clearCkpt_frame ..) | with_reducible apply Frame.step (modTaint_frame ..)
    | with_reducible apply Frame.step (modRcv_frame ..) | split

theorem clearIrq_frame (n : Nat) (v : Word) (s : State) : Frame [.slots] s (clearIrq n v s) := by
  unfold clearIrq
  try extract_lets
  repeat' first
    | with_reducible apply Frame.refl | ((with_reducible apply Covered.mk); decide)
    | with_reducible apply Frame.step (modSlot_frame ..) | ((with_reducible apply Frame.foldl) <;> try intro _ _) | split

theorem writeSlot_frame (a : Access) (n off : Nat) (v : Word) (s : State) : Frame [.slots, .mbxs] s (writeSlot a n off v s) := by
  unfold writeSlot
  try extract_lets
  repeat' first
    | with_reducible apply Frame.refl | ((with_reducible apply Covered.mk); decide)
    | with_reducible apply Frame.step (writeIrqEn_frame ..) | with_reducible apply Frame.step (modMbx_frame ..)
    | with_reducible apply Frame.step (modSlot_frame ..) | with_reducible apply Frame.step (clearIrq_frame ..) | split

theorem writeDigest_frame (n off : Nat) (v : Word) (s : State) : Frame [.dgt] s (writeDigest n off v s) := by
  unfold writeDigest
  try extract_lets
  repeat' first
    | with_reducible apply Frame.refl | ((with_reducible apply Covered.mk); decide)
    | with_reducible apply Frame.step (modDcmd_frame ..) | with_reducible apply Frame.step (modDgt_frame ..) | split

theorem writeFields_frame (a : Access) (addr : Nat) (v : Word) (s : State) :
    Frame [.life, .pwr, .tcfg, .stk, .gnd, .sents, .parts, .cpy, .dgt, .scr, .taint, .rcv, .wch, .slots, .mbxs, .ldg, .mem, .nextTag, .outs, .fresh] s (writeFields a addr v s) := by
  unfold writeFields
  try extract_lets
  repeat' first
    | with_reducible apply Frame.refl | ((with_reducible apply Covered.mk); decide)
    | with_reducible apply Frame.step (writeLedger_frame ..) | with_reducible apply Frame.step (writeCopyist_frame ..)
    | with_reducible apply Frame.step (writeScreen_frame ..) | with_reducible apply Frame.step (writeRecovery_frame ..)
    | with_reducible apply Frame.step (writeSlot_frame ..) | with_reducible apply Frame.step (writeDigest_frame ..)
    | with_reducible apply Frame.step (writeWatch_frame ..) | with_reducible apply Frame.step (writePower_frame ..)
    | with_reducible apply Frame.step (writeStroke_frame ..) | split

theorem registerWrite_frame (a : Access) (addr : Nat) (v : Word) (s : State) :
    Frame [.life, .pwr, .tcfg, .stk, .gnd, .sents, .parts, .cpy, .dgt, .scr, .taint, .rcv, .wch, .slots, .mbxs, .bus, .ldg, .mem, .nextTag, .outs, .fresh] s (registerWrite a addr v s) := by
  unfold registerWrite
  try extract_lets
  repeat' first
    | with_reducible apply Frame.refl | ((with_reducible apply Covered.mk); decide)
    | with_reducible apply Frame.step (busOk_frame ..) | with_reducible apply Frame.step (refuse_frame ..)
    | with_reducible apply Frame.step (writeFields_frame ..) | split

theorem accessDenied_frame (a : Access) (write : Bool) (addr size : Nat) (s : State) :
    Frame [.gnd, .sents, .wch, .slots, .bus, .ldg, .mem, .nextTag, .outs, .fresh] s (accessDenied a write addr size s) := by
  unfold accessDenied
  try extract_lets
  repeat' first
    | with_reducible apply Frame.refl | ((with_reducible apply Covered.mk); decide)
    | with_reducible apply Frame.step (busOk_frame ..) | with_reducible apply Frame.step (refuse_frame ..) | split

theorem deferHold_frame (h : Hold) (s : State) :
    Frame [.energies, .gnd, .sents, .parts, .epochs, .chks, .scr, .taint, .rcv, .wch, .slots, .ldg, .mem, .nextTag, .outs, .fresh] s (deferHold h s) := by
  unfold deferHold
  try extract_lets
  repeat' first
    | with_reducible apply Frame.refl | ((with_reducible apply Covered.mk); decide)
    | with_reducible apply Frame.step (modScr_frame ..) | with_reducible apply Frame.step (modSched_frame ..)
    | with_reducible apply Frame.step (emit_frame ..) | with_reducible apply Frame.step (requestDone_frame ..)
    | with_reducible apply Frame.step (event_frame ..) | with_reducible apply Frame.step (sliceResult_frame ..)
    | ((with_reducible apply Frame.whenB) <;> try intro _) | split

theorem openHold_frame (p kind entry : Nat) (od : Option OnDemand) (rotates : Bool) (s : State) :
    Frame [.energies, .gnd, .sents, .parts, .epochs, .chks, .scr, .taint, .rcv, .wch, .slots, .ldg, .mem, .nextTag, .outs, .fresh] s (openHold p kind entry od rotates s) := by
  unfold openHold
  try extract_lets
  repeat' first
    | with_reducible apply Frame.refl | ((with_reducible apply Covered.mk); decide)
    | with_reducible apply Frame.step (advanceSched_frame ..) | with_reducible apply Frame.step (modScr_frame ..)
    | with_reducible apply Frame.step (emit_frame ..) | with_reducible apply Frame.step (requestDone_frame ..)
    | with_reducible apply Frame.step (event_frame ..) | with_reducible apply Frame.step (sliceResult_frame ..) | split

theorem analogRequest_frame (pattern : Nat) (s : State) : Frame [.scr] s (analogRequest pattern s) := by
  unfold analogRequest
  try dsimp only
  repeat' first
    | with_reducible apply Frame.refl | ((with_reducible apply Covered.mk); decide)
    | with_reducible apply Frame.step (modScr_frame ..) | split

theorem runRequest_frame (v : Word) (s : State) : Frame [.scr] s (runRequest v s) := by
  unfold runRequest
  try extract_lets
  repeat' first
    | with_reducible apply Frame.refl | ((with_reducible apply Covered.mk); decide)
    | with_reducible apply Frame.step (modScr_frame ..) | with_reducible apply Frame.step (analogRequest_frame ..) | split

theorem noStress_frame (h : Hold) (s : State) : Frame [.scr, .outs] s (noStress h s) := by
  unfold noStress
  try extract_lets
  repeat' first
    | with_reducible apply Frame.refl | ((with_reducible apply Covered.mk); decide)
    | with_reducible apply Frame.step (askStress_frame ..) | with_reducible apply Frame.step (modHold_frame ..) | split

theorem openNext_frame (s : State) :
    Frame [.energies, .gnd, .sents, .parts, .epochs, .chks, .scr, .taint, .rcv, .wch, .slots, .ldg, .mem, .nextTag, .outs, .fresh] s (openNext s) := by
  unfold openNext
  try extract_lets
  repeat' first
    | with_reducible apply Frame.refl | ((with_reducible apply Covered.mk); decide)
    | with_reducible apply Frame.step (modScr_frame ..) | with_reducible apply Frame.step (modSched_frame ..)
    | with_reducible apply Frame.step (openHold_frame ..) | ((with_reducible apply Frame.whenB) <;> try intro _) | split

theorem runDone_frame (h : Hold) (obs : Nat) (missed : Bool) (s : State) :
    Frame [.nvm, .energies, .gnd, .sents, .parts, .epochs, .chks, .scr, .taint, .rcv, .wch, .slots, .ldg, .mem, .nextTag, .outs, .fresh] s (runDone h obs missed s) := by
  unfold runDone
  try extract_lets
  repeat' first
    | with_reducible apply Frame.refl | ((with_reducible apply Covered.mk); decide)
    | with_reducible apply Frame.step (emit_frame ..) | with_reducible apply Frame.step (modHold_frame ..)
    | with_reducible apply Frame.step (modRl_frame ..) | with_reducible apply Frame.step (afterRun_frame ..)
    | ((with_reducible apply Frame.whenB) <;> try intro _) | split

theorem restoreFailed_frame (h : Hold) (saveCrc readCrc : Nat) (s : State) :
    Frame [.nvm, .energies, .gnd, .sents, .parts, .epochs, .chks, .scr, .taint, .rcv, .wch, .slots, .ldg, .mem, .nextTag, .outs, .fresh] s (restoreFailed h saveCrc readCrc s) := by
  unfold restoreFailed
  try extract_lets
  repeat' first
    | with_reducible apply Frame.refl | ((with_reducible apply Covered.mk); decide)
    | with_reducible apply Frame.step (modHold_frame ..) | with_reducible apply Frame.step (record_frame ..)
    | with_reducible apply Frame.step (teardownPart_frame ..) | with_reducible apply Frame.step (endHold_frame ..) | split

theorem setSampling_frame (g : Budget) (f : Nat × Nat) (dirs : List Nat) (p a : Nat) (s : State) :
    Frame [.sents, .cpy] s (setSampling g f dirs p a s) := by
  unfold setSampling
  try extract_lets
  repeat' first
    | with_reducible apply Frame.refl | ((with_reducible apply Covered.mk); decide)
    | with_reducible apply Frame.step (modSent_frame ..) | with_reducible apply Frame.step (modCpy_frame ..) | split

theorem computeBudget_frame (s : State) : Frame [.sents, .cpy] s (computeBudget s) := by
  unfold computeBudget
  try extract_lets
  repeat' first
    | with_reducible apply Frame.refl | ((with_reducible apply Covered.mk); decide)
    | with_reducible apply Frame.step (setSampling_frame ..) | with_reducible apply Frame.step (modCpy_frame ..)
    | ((with_reducible apply Frame.forEach) <;> try intro _ _) | split

theorem samplingTick_frame (s : State) : Frame [.sents, .cpy] s (samplingTick s) := by
  unfold samplingTick
  try extract_lets
  repeat' first
    | with_reducible apply Frame.refl | ((with_reducible apply Covered.mk); decide) | split
    | exact ⟨fun c h => by cases c <;> first | exact rfl | exact absurd (by decide) h⟩

theorem decidePhase_frame (k : Nat) (s : State) :
    Frame [.gnd, .sents, .parts, .wch, .slots, .ldg, .mem, .nextTag, .outs, .fresh] s (decidePhase k s) := by
  unfold decidePhase
  try extract_lets
  repeat' first
    | with_reducible apply Frame.refl | ((with_reducible apply Covered.mk); decide)
    | with_reducible apply Frame.step (modPart_frame ..) | with_reducible apply Frame.step (recPart_frame ..)
    | ((with_reducible apply Frame.whenB) <;> try intro _) | ((with_reducible apply Frame.forEach) <;> try intro _ _) | split

theorem phasesTick_frame (s : State) : Frame [.parts] s (phasesTick s) := by
  unfold phasesTick
  try extract_lets
  repeat' first
    | with_reducible apply Frame.refl | ((with_reducible apply Covered.mk); decide) | split
    | exact ⟨fun c h => by cases c <;> first | exact rfl | exact absurd (by decide) h⟩

theorem decidePhases_frame (s : State) :
    Frame [.gnd, .sents, .parts, .wch, .slots, .ldg, .mem, .nextTag, .outs, .fresh] s (decidePhases s) := by
  unfold decidePhases
  try extract_lets
  repeat' first
    | with_reducible apply Frame.refl | ((with_reducible apply Covered.mk); decide)
    | with_reducible apply Frame.step (decidePhase_frame ..) | ((with_reducible apply Frame.forEach) <;> try intro _ _)
    | split

theorem silence_frame (p : Nat) (s : State) : Frame [.sents, .taint] s (silence p s) := by
  unfold silence
  try extract_lets
  repeat' first
    | with_reducible apply Frame.refl | ((with_reducible apply Covered.mk); decide)
    | with_reducible apply Frame.step (modSent_frame ..) | with_reducible apply Frame.step (modTaint_frame ..) | split

theorem overrunsTick_frame (s : State) :
    Frame [.stk, .gnd, .sents, .cpy, .wch, .slots, .ldg, .mem, .nextTag, .outs, .fresh] s (overrunsTick s) := by
  unfold overrunsTick
  try extract_lets
  repeat' first
    | with_reducible apply Frame.refl | ((with_reducible apply Covered.mk); decide)
    | with_reducible apply Frame.step (recordBlock_frame ..) | with_reducible apply Frame.step (modStk_frame ..)
    | with_reducible apply Frame.step (modCpy_frame ..) | ((with_reducible apply Frame.forEach) <;> try intro _ _) | split

theorem configTick_frame (s : State) : Frame [.rcv, .wch, .ldg] s (configTick s) := by
  unfold configTick
  try extract_lets
  repeat' first
    | with_reducible apply Frame.refl | ((with_reducible apply Covered.mk); decide)
    | ((with_reducible apply Frame.foldl) <;> try intro _ _) | split
    | exact ⟨fun c h => by cases c <;> first | exact rfl | exact absurd (by decide) h⟩

theorem sumStroke_frame (s : State) : Frame [.ldg] s (sumStroke s) := by
  unfold sumStroke
  try extract_lets
  repeat' first
    | with_reducible apply Frame.refl | ((with_reducible apply Covered.mk); decide)
    | with_reducible apply Frame.step (modLdg_frame ..) | split

theorem judgeChk_frame (c : Chk) (s : State) :
    Frame [.energies, .gnd, .sents, .parts, .epochs, .cpy, .taint, .rcv, .wch, .slots, .ldg, .mem, .nextTag, .outs, .fresh] s (judgeChk c s) := by
  unfold judgeChk
  try extract_lets
  repeat' first
    | with_reducible apply Frame.refl | ((with_reducible apply Covered.mk); decide)
    | with_reducible apply Frame.step (faultRadius_frame ..) | with_reducible apply Frame.step (touchCheck_frame ..)
    | with_reducible apply Frame.step (suspectOpc_frame ..) | with_reducible apply Frame.step (faultAlarm_frame ..)
    | with_reducible apply Frame.step (countChk_frame ..) | ((with_reducible apply Frame.whenB) <;> try intro _) | split

theorem judgePass_frame (first : Bool) (s : State) :
    Frame [.nvm, .energies, .gnd, .sents, .parts, .epochs, .chks, .judged, .judgedStroke, .cpy, .scr, .taint, .rcv, .wch, .slots, .ldg, .mem, .nextTag, .outs, .fresh] s (judgePass first s) := by
  unfold judgePass
  try extract_lets
  repeat' first
    | with_reducible apply Frame.refl | ((with_reducible apply Covered.mk); decide)
    | with_reducible apply Frame.step (classifyAll_frame ..) | with_reducible apply Frame.step (judgeChk_frame ..)
    | ((with_reducible apply Frame.forEach) <;> try intro _ _) | split
    | exact ⟨fun c h => by cases c <;> first | exact rfl | exact absurd (by decide) h⟩

theorem abortRecord_frame (item g : Nat) (s : State) :
    Frame [.gnd, .sents, .wch, .slots, .ldg, .mem, .nextTag, .outs, .fresh] s (abortRecord item g s) := by
  unfold abortRecord
  try extract_lets
  repeat' first
    | with_reducible apply Frame.refl | ((with_reducible apply Covered.mk); decide)
    | with_reducible apply Frame.step (recordBlock_frame ..) | split

theorem publishVerdicts_frame (s : State) :
    Frame [.parts, .epochs, .rcv, .wch, .ldg, .mem, .nextTag, .outs] s (publishVerdicts s) := by
  unfold publishVerdicts
  try extract_lets
  repeat' first
    | with_reducible apply Frame.refl | ((with_reducible apply Covered.mk); decide)
    | with_reducible apply Frame.step (relayReady_frame ..) | ((with_reducible apply Frame.forEach) <;> try intro _ _)
    | split

theorem closeJudge_frame (s : State) :
    Frame [.nvm, .energies, .gnd, .sents, .parts, .epochs, .chks, .judged, .judgedStroke, .cpy, .scr, .taint, .rcv, .wch, .slots, .ldg, .mem, .nextTag, .outs, .fresh] s (closeJudge s) := by
  unfold closeJudge
  try extract_lets
  repeat' first
    | with_reducible apply Frame.refl | ((with_reducible apply Covered.mk); decide)
    | with_reducible apply Frame.step (judgePass_frame ..) | with_reducible apply Frame.step (formVerdict_frame ..)
    | ((with_reducible apply Frame.forEach) <;> try intro _ _) | split

theorem publish_frame (s : State) :
    Frame [.nvm, .energies, .stk, .gnd, .sents, .parts, .epochs, .chks, .judged, .judgedStroke, .cpy, .dgt, .scr, .taint, .rcv, .wch, .slots, .mbxs, .ldg, .mem, .nextTag, .outs, .fresh] s (publish s) := by
  unfold publish
  try extract_lets
  repeat' first
    | with_reducible apply Frame.refl | ((with_reducible apply Covered.mk); decide)
    | with_reducible apply Frame.step (publishVerdicts_frame ..) | with_reducible apply Frame.step (publishSpill_frame ..)
    | with_reducible apply Frame.step (peerPublish_frame ..) | with_reducible apply Frame.step (closeJudge_frame ..)
    | with_reducible apply Frame.step (countsJudge_frame ..) | with_reducible apply Frame.step (publishXport_frame ..)
    | with_reducible apply Frame.step (startCanaries_frame ..) | with_reducible apply Frame.step (publishTw_frame ..)
    | with_reducible apply Frame.step (peerAdmit_frame ..) | with_reducible apply Frame.step (publishMailboxes_frame ..)
    | with_reducible apply Frame.step (modStk_frame ..) | with_reducible apply Frame.step (sendHearts_frame ..)
    | with_reducible apply Frame.step (admitPublish_frame ..) | with_reducible apply Frame.step (traceReports_frame ..)
    | with_reducible apply Frame.step (publishTally_frame ..) | with_reducible apply Frame.step (publishShards_frame ..)
    | split

theorem abortCanary_frame (u : Nat) (s : State) :
    Frame [.gnd, .sents, .cpy, .wch, .slots, .ldg, .mem, .nextTag, .outs, .fresh] s (abortCanary u s) := by
  unfold abortCanary
  try extract_lets
  repeat' first
    | with_reducible apply Frame.refl | ((with_reducible apply Covered.mk); decide)
    | with_reducible apply Frame.step (modUnit_frame ..) | with_reducible apply Frame.step (endCanary_frame ..)
    | with_reducible apply Frame.step (abortRecord_frame ..) | split

theorem abortPeers_frame (n : Nat) (s : State) : Frame [.gnd, .sents, .cpy, .wch, .slots, .ldg, .mem, .nextTag, .outs, .fresh] s (abortPeers n s) := by
  induction n generalizing s with
  | zero => exact Frame.refl _ s
  | succ n ih =>
    unfold abortPeers
    dsimp only
    split
    · exact Frame.refl _ s
    · refine Frame.trans ?_ (ih _)
      apply Frame.step (peerDrop_frame ..) (.mk (by decide))
      apply Frame.step (peerAnswer_frame ..) (.mk (by decide))
      exact (abortRecord_frame ..).mono (.mk (by decide))

theorem abortOverruns_frame (s : State) :
    Frame [.energies, .gnd, .sents, .parts, .epochs, .chks, .cpy, .taint, .rcv, .wch, .slots, .ldg, .mem, .nextTag, .outs, .fresh] s (abortOverruns s) := by
  unfold abortOverruns
  try extract_lets
  repeat' first
    | with_reducible apply Frame.refl | ((with_reducible apply Covered.mk); decide)
    | with_reducible apply Frame.step (abortPeers_frame ..) | with_reducible apply Frame.step (abortCanary_frame ..)
    | with_reducible apply Frame.step (abortRecord_frame ..) | with_reducible apply Frame.step (endPiece_frame ..)
    | ((with_reducible apply Frame.forEach) <;> try intro _ _) | split

theorem markBorrowed_frame (s : State) : Frame [.sents] s (markBorrowed s) := by
  unfold markBorrowed
  try extract_lets
  repeat' first
    | with_reducible apply Frame.refl | ((with_reducible apply Covered.mk); decide) | split
    | exact ⟨fun c h => by cases c <;> first | exact rfl | exact absurd (by decide) h⟩

theorem linksTick_frame (s : State) :
    Frame [.nvm, .gnd, .sents, .wch, .slots, .ldg, .mem, .nextTag, .outs, .fresh] s (linksTick s) := by
  unfold linksTick
  try extract_lets
  repeat' first
    | with_reducible apply Frame.refl | ((with_reducible apply Covered.mk); decide)
    | with_reducible apply Frame.step (syncLinks_frame ..) | split
    | exact ⟨fun c h => by cases c <;> first | exact rfl | exact absurd (by decide) h⟩

theorem sentinelsTick_frame (sig : TickSignals) (ended : Nat) (s : State) : Frame [.sents] s (sentinelsTick sig ended s) := by
  unfold sentinelsTick
  try extract_lets
  repeat' first
    | with_reducible apply Frame.refl | ((with_reducible apply Covered.mk); decide) | split
    | exact ⟨fun c h => by cases c <;> first | exact rfl | exact absurd (by decide) h⟩

theorem gather_frame (sig : TickSignals) (ended : Nat) (s : State) :
    Frame [.nvm, .energies, .stk, .gnd, .sents, .parts, .epochs, .chks, .cpy, .dgt, .taint, .rcv, .wch, .slots, .ldg, .mem, .nextTag, .outs, .fresh] s (gather sig ended s) := by
  unfold gather
  try extract_lets
  repeat' first
    | with_reducible apply Frame.refl | ((with_reducible apply Covered.mk); decide)
    | with_reducible apply Frame.step (gcount_frame ..) | with_reducible apply Frame.step (configTick_frame ..)
    | with_reducible apply Frame.step (substTick_frame ..) | with_reducible apply Frame.step (overrunsTick_frame ..)
    | with_reducible apply Frame.step (craqRetry_frame ..) | with_reducible apply Frame.step (markBorrowed_frame ..)
    | with_reducible apply Frame.step (rlTick_frame ..) | with_reducible apply Frame.step (progTick_frame ..)
    | with_reducible apply Frame.step (admitGather_frame ..) | with_reducible apply Frame.step (samplingTick_frame ..)
    | with_reducible apply Frame.step (tallyTick_frame ..) | with_reducible apply Frame.step (linksTick_frame ..)
    | with_reducible apply Frame.step (sentinelsTick_frame ..) | with_reducible apply Frame.step (storeTouches_frame ..)
    | with_reducible apply Frame.step (phasesTick_frame ..) | with_reducible apply Frame.step (countsTick_frame ..)
    | with_reducible apply Frame.step (canaryTick_frame ..) | with_reducible apply Frame.step (modCpy_frame ..)
    | with_reducible apply Frame.step (joinTick_frame ..) | split

theorem trendPart_frame (k : Nat) (s : State) :
    Frame [.gnd, .sents, .parts, .rcv, .wch, .slots, .ldg, .mem, .nextTag, .outs, .fresh] s (trendPart k s) := by
  unfold trendPart
  try extract_lets
  repeat' first
    | with_reducible apply Frame.refl | ((with_reducible apply Covered.mk); decide)
    | with_reducible apply Frame.step (modPart_frame ..) | with_reducible apply Frame.step (requestCkpt_frame ..)
    | ((with_reducible apply Frame.whenB) <;> try intro _) | split

theorem traceVerdicts_frame (s : State) : Frame [.ldg, .fresh] s (traceVerdicts s) := by
  unfold traceVerdicts
  try extract_lets
  repeat' first
    | with_reducible apply Frame.refl | ((with_reducible apply Covered.mk); decide)
    | with_reducible apply Frame.step (traceIn_frame ..) | with_reducible apply Frame.step (bumpFresh_frame ..)
    | ((with_reducible apply Frame.forEach) <;> try intro _ _) | split

theorem childSilent_frame (n : Nat) (s : State) :
    Frame [.gnd, .sents, .taint, .wch, .slots, .ldg, .mem, .nextTag, .outs, .fresh] s (childSilent n s) := by
  unfold childSilent
  try extract_lets
  repeat' first
    | with_reducible apply Frame.refl | ((with_reducible apply Covered.mk); decide)
    | with_reducible apply Frame.step (silence_frame ..) | with_reducible apply Frame.step (record_frame ..)
    | ((with_reducible apply Frame.forEach) <;> try intro _ _) | split

theorem judgeTrend_frame (s : State) :
    Frame [.gnd, .sents, .parts, .rcv, .wch, .slots, .ldg, .mem, .nextTag, .outs, .fresh] s (judgeTrend s) := by
  unfold judgeTrend
  try extract_lets
  repeat' first
    | with_reducible apply Frame.refl | ((with_reducible apply Covered.mk); decide)
    | with_reducible apply Frame.step (trendPart_frame ..) | ((with_reducible apply Frame.forEach) <;> try intro _ _) | split

theorem copyCounts_frame (s : State) : Frame [.cpy] s (copyCounts s) := by
  unfold copyCounts
  try extract_lets
  repeat' first
    | with_reducible apply Frame.refl | ((with_reducible apply Covered.mk); decide)
    | with_reducible apply Frame.step (modCpy_frame ..) | split

theorem advanceStroke_frame (n t : Nat) (s : State) : Frame [.stk] s (advanceStroke n t s) := by
  unfold advanceStroke
  try extract_lets
  repeat' first
    | with_reducible apply Frame.refl | ((with_reducible apply Covered.mk); decide) | split
    | exact ⟨fun c h => by cases c <;> first | exact rfl | exact absurd (by decide) h⟩

theorem countMembers_frame (s : State) : Frame [.parts] s (countMembers s) := by
  unfold countMembers
  try extract_lets
  repeat' first
    | with_reducible apply Frame.refl | ((with_reducible apply Covered.mk); decide)
    | with_reducible apply Frame.step (pcountJudged_frame ..) | ((with_reducible apply Frame.forEach) <;> try intro _ _)
    | split

theorem judge_frame (undelivered : List Nat) (s : State) :
    Frame [.nvm, .pwr, .energies, .gnd, .sents, .parts, .epochs, .chks, .judged, .judgedStroke, .cpy, .dgt, .scr, .taint, .rcv, .wch, .slots, .ldg, .mem, .nextTag, .outs, .fresh] s (judge undelivered s) := by
  unfold judge
  try extract_lets
  repeat' first
    | with_reducible apply Frame.refl | ((with_reducible apply Covered.mk); decide)
    | with_reducible apply Frame.step (rlJudge_frame ..) | with_reducible apply Frame.step (decidePhases_frame ..)
    | with_reducible apply Frame.step (taintedVarnish_frame ..) | with_reducible apply Frame.step (countsJudge_frame ..)
    | with_reducible apply Frame.step (abortOverruns_frame ..) | with_reducible apply Frame.step (judgePass_frame ..)
    | with_reducible apply Frame.step (traceVerdicts_frame ..) | with_reducible apply Frame.step (sumStroke_frame ..)
    | with_reducible apply Frame.step (dgtArbitrate_frame ..) | with_reducible apply Frame.step (copyCounts_frame ..)
    | with_reducible apply Frame.step (dividePower_frame ..) | with_reducible apply Frame.step (childSilent_frame ..)
    | with_reducible apply Frame.step (judgeTrend_frame ..) | with_reducible apply Frame.step (computeBudget_frame ..)
    | with_reducible apply Frame.step (decideRequests_frame ..) | with_reducible apply Frame.step (countMembers_frame ..)
    | with_reducible apply Frame.step (judgeHangs_frame ..) | with_reducible apply Frame.step (fillVacancies_frame ..)
    | ((with_reducible apply Frame.forEach) <;> try intro _ _) | split

theorem clockStart_frame (p : Nat) (s : State) : Frame [.gnd, .sents, .cpy, .ldg, .fresh] s (clockStart p s) := by
  unfold clockStart
  try extract_lets
  repeat' first
    | with_reducible apply Frame.refl | ((with_reducible apply Covered.mk); decide)
    | with_reducible apply Frame.step (modSent_frame ..) | with_reducible apply Frame.step (event_frame ..)
    | with_reducible apply Frame.step (modCpy_frame ..) | split

theorem enterPhase_frame (n : Nat) {f : State → State} {l : List Comp} {s t : State} (hf : ∀ x, Frame l x (f x))
    (hc : Covered [.stk] l) (k : Frame l s t) : Frame l s (enterPhase n f t) := by
  unfold enterPhase
  split
  · exact k
  · split
    · exact k.trans ((modStk_frame ..).mono hc)
    · exact (k.trans (hf t)).trans ((modStk_frame ..).mono hc)

theorem judgeWork_frame (undelivered : List Nat) (s : State) :
    Frame [.nvm, .pwr, .energies, .stk, .gnd, .sents, .parts, .epochs, .chks, .judged, .judgedStroke, .cpy, .dgt, .scr, .taint, .rcv, .wch, .slots, .ldg, .mem, .nextTag, .outs, .fresh] s (judgeWork undelivered s) := by
  unfold judgeWork
  try extract_lets
  repeat' first
    | with_reducible apply Frame.refl | ((with_reducible apply Covered.mk); decide)
    | with_reducible apply Frame.step (judge_frame ..) | with_reducible apply Frame.step (modStk_frame ..) | split

theorem tick_frame (sig : TickSignals) (s : State) :
    Frame [.nvm, .energies, .stk, .gnd, .sents, .parts, .epochs, .chks, .cpy, .dgt, .taint, .rcv, .wch, .slots, .ldg, .mem, .nextTag, .outs, .fresh] s (tick sig s) := by
  unfold tick
  try dsimp only
  repeat' first
    | with_reducible apply Frame.refl | ((with_reducible apply Covered.mk); decide)
    | with_reducible apply Frame.step (followTick_frame ..) | with_reducible apply Frame.step (gather_frame ..)
    | with_reducible apply Frame.step (sendMarker_frame ..) | with_reducible apply Frame.step (advanceStroke_frame ..)
    | split

theorem clockStop_frame (p : Nat) (s : State) :
    Frame [.nvm, .energies, .gnd, .sents, .parts, .epochs, .chks, .scr, .taint, .rcv, .wch, .slots, .ldg, .mem, .nextTag, .outs, .fresh] s (clockStop p s) := by
  unfold clockStop
  try extract_lets
  repeat' first
    | with_reducible apply Frame.refl | ((with_reducible apply Covered.mk); decide)
    | with_reducible apply Frame.step (modSent_frame ..) | with_reducible apply Frame.step (bumpFresh_frame ..)
    | with_reducible apply Frame.step (event_frame ..) | with_reducible apply Frame.step (addChk_frame ..)
    | with_reducible apply Frame.step (meetHold_frame ..) | ((with_reducible apply Frame.whenB) <;> try intro _) | split

theorem slowLink_frame (l c : Nat) (s : State) :
    Frame [.gnd, .sents, .wch, .slots, .ldg, .mem, .nextTag, .outs, .fresh] s (slowLink l c s) := by
  unfold slowLink
  try extract_lets
  repeat' first
    | with_reducible apply Frame.refl | ((with_reducible apply Covered.mk); decide)
    | with_reducible apply Frame.step (recordBlock_frame ..) | with_reducible apply Frame.step (modLink_frame ..) | split

theorem rewriteRoute_frame (v : Word) (s : State) : Frame [.wch] s (rewriteRoute v s) := by
  unfold rewriteRoute
  try extract_lets
  repeat' first
    | with_reducible apply Frame.refl | ((with_reducible apply Covered.mk); decide)
    | with_reducible apply Frame.step (modWch_frame ..) | split

theorem selectRoute_frame (v : Word) (s : State) : Frame [.wch] s (selectRoute v s) := by
  unfold selectRoute
  try extract_lets
  repeat' first
    | with_reducible apply Frame.refl | ((with_reducible apply Covered.mk); decide)
    | with_reducible apply Frame.step (modWch_frame ..) | split

theorem writeRoute_frame (v : Word) (s : State) : Frame [.wch] s (writeRoute v s) := by
  unfold writeRoute
  try extract_lets
  repeat' first
    | with_reducible apply Frame.refl | ((with_reducible apply Covered.mk); decide)
    | with_reducible apply Frame.step (rewriteRoute_frame ..) | with_reducible apply Frame.step (selectRoute_frame ..)
    | split

end Sys2Proof.Machine
end

