-- ==== Sys2Proof/Laws/Tables.lean ====
section
/-!
SUPPORT. The tables in which the state keeps numbered things: an entry reads back as written, and every other entry is unchanged;
the same for the ports, partitions, links, slots and mailboxes that they hold.
-/
namespace Sys2Proof.Machine

open Sys2Proof

@[simp] theorem tget_tput_same {α : Type} (t : Table α) (k : Nat) (x : α) : tget (tput t k x) k = some x := by
  induction t with
  | nil => simp [tput, tget]
  | cons e t ih =>
    obtain ⟨j, y⟩ := e
    unfold tput
    split
    · simp [tget]
    · split
      · simp [tget]
      · rename_i h
        simp [tget, h, ih]

theorem tget_tput_other {α : Type} (t : Table α) {k m : Nat} (x : α) (h : m ≠ k) : tget (tput t k x) m = tget t m := by
  induction t with
  | nil => simp [tput, tget, Ne.symm h]
  | cons e t ih =>
    obtain ⟨j, y⟩ := e
    unfold tput
    split
    · simp [tget, Ne.symm h]
    · split
      · rename_i hj
        have hj : j = k := by simpa using hj
        simp [tget, hj, Ne.symm h]
      · simp [tget, ih]

@[simp] theorem tgetD_tmod_same {α : Type} (t : Table α) (k : Nat) (d : α) (f : α → α) :
    tgetD (tmod t k d f) k d = f (tgetD t k d) := by simp [tmod, tgetD]

theorem tgetD_tmod_other {α : Type} (t : Table α) {k m : Nat} (d : α) (f : α → α) (h : m ≠ k) :
    tgetD (tmod t k d f) m d = tgetD t m d := by simp [tmod, tgetD, tget_tput_other _ _ h]

/-- An entry of a changed table is the changed one or was there before. -/
theorem mem_tput {α : Type} {t : Table α} {k : Nat} {x : α} {e : Nat × α} (h : e ∈ tput t k x) : e = (k, x) ∨ e ∈ t := by
  induction t with
  | nil => simpa [tput] using h
  | cons a t ih =>
    obtain ⟨j, y⟩ := a
    unfold tput at h
    split at h
    · simpa using h
    · split at h
      · rcases List.mem_cons.mp h with h | h
        · exact .inl h
        · exact .inr (List.mem_cons_of_mem _ h)
      · rcases List.mem_cons.mp h with h | h
        · exact .inr (h ▸ List.mem_cons_self)
        · exact (ih h).imp id (List.mem_cons_of_mem _)

/-- An entry that a lookup finds is listed. -/
theorem mem_of_tget {α : Type} {t : Table α} {k : Nat} {x : α} (h : tget t k = some x) : (k, x) ∈ t := by
  induction t with
  | nil => simp [tget] at h
  | cons a t ih =>
    obtain ⟨j, y⟩ := a
    unfold tget at h
    split at h
    · rename_i hj
      have hj : j = k := by simpa using hj
      cases h
      simp [hj]
    · exact List.mem_cons_of_mem _ (ih h)

@[simp] theorem sent_modSent_same (s : State) (p : Nat) (f : Sentinel → Sentinel) : sent (modSent p f s) p = f (sent s p) := by
  simp [sent]

theorem sent_modSent_other (s : State) {p q : Nat} (f : Sentinel → Sentinel) (h : q ≠ p) : sent (modSent p f s) q = sent s q := by
  simp [sent, tgetD_tmod_other _ _ _ h]

@[simp] theorem tile_modTile_same (s : State) (p : Nat) (f : Tile → Tile) : tile (modTile p f s) p = f (tile s p) := by simp [tile]

theorem tile_modTile_other (s : State) {p q : Nat} (f : Tile → Tile) (h : q ≠ p) : tile (modTile p f s) q = tile s q := by
  simp [tile, tgetD_tmod_other _ _ _ h]

@[simp] theorem part_modPart_same (s : State) (k : Nat) (f : Part → Part) : part (modPart k f s) k = f (part s k) := by simp [part]

theorem part_modPart_other (s : State) {k m : Nat} (f : Part → Part) (h : m ≠ k) : part (modPart k f s) m = part s m := by
  simp [part, tgetD_tmod_other _ _ _ h]

@[simp] theorem link_modLink_same (s : State) (l : Nat) (f : Link → Link) : link (modLink l f s) l = f (link s l) := by simp [link]

theorem link_modLink_other (s : State) {l m : Nat} (f : Link → Link) (h : m ≠ l) : link (modLink l f s) m = link s m := by
  simp [link, tgetD_tmod_other _ _ _ h]

@[simp] theorem slot_modSlot_same (s : State) (n : Nat) (f : Slot → Slot) : slot (modSlot n f s) n = f (slot s n) := by simp [slot]

theorem slot_modSlot_other (s : State) {n m : Nat} (f : Slot → Slot) (h : m ≠ n) : slot (modSlot n f s) m = slot s m := by
  simp [slot, tgetD_tmod_other _ _ _ h]

@[simp] theorem mbx_modMbx_same (s : State) (n c : Nat) (f : Mbx → Mbx) : mbx (modMbx n c f s) n c = f (mbx s n c) := by simp [mbx]

theorem mbx_modMbx_other (s : State) {n c m d : Nat} (f : Mbx → Mbx) (h : mbxNo m d ≠ mbxNo n c) :
    mbx (modMbx n c f s) m d = mbx s m d := by simp [mbx, tgetD_tmod_other _ _ _ h]

end Sys2Proof.Machine
end

