-- ==== Sys2Proof/Laws/Logged.lean ====
section
/-!
SUPPORT. What writing a record, entering an event and sending on a link change, field by field: every such operation is `Logged`.
-/
set_option linter.all false

namespace Sys2Proof.Machine

open Sys2Proof

theorem Logged.refl (s : State) : Logged s s :=
  ⟨.refl _ s, rfl, rfl, fun _ => rfl, rfl, fun _ => rfl, fun _ => rfl, rfl⟩

theorem Logged.trans {s t u : State} (h : Logged s t) (k : Logged t u) : Logged s u where
  frame := h.frame.trans k.frame
  gnd := by rw [k.gnd, h.gnd]
  tree := k.tree.trans h.tree
  sents p := by rw [k.sents p, h.sents p]
  wch := by rw [k.wch, h.wch]
  links l := by rw [k.links l, h.links l]
  slots n := by rw [k.slots n, h.slots n]
  ldg := by rw [k.ldg, h.ldg]

theorem Logged.step {s t u : State} (k : Logged t u) (h : Logged s t) : Logged s u := h.trans k

theorem Logged.whenB {s t : State} {c : Bool} {f : State → State} (hf : ∀ x, Logged x (f x)) (h : Logged s t) :
    Logged s (whenB c f t) := by
  unfold Sys2Proof.Machine.whenB
  split
  · exact h.trans (hf t)
  · exact h

theorem Logged.foldl {α : Type} {s t : State} {xs : List α} {f : State → α → State} (hf : ∀ x a, Logged x (f x a)) (h : Logged s t) :
    Logged s (xs.foldl f t) := by
  induction xs generalizing t with
  | nil => exact h
  | cons a xs ih => exact ih (h.trans (hf t a))

theorem Logged.forEach {α : Type} {s t : State} {xs : List α} {f : α → State → State} (hf : ∀ a x, Logged x (f a x)) (h : Logged s t) :
    Logged s (forEach xs f t) := Logged.foldl (fun x a => hf a x) h

/-! ### The parts that change -/

theorem emit_logged (o : Out) (s : State) : Logged s (emit o s) :=
  ⟨(emit_frame o s).mono (.mk (by decide)), rfl, rfl, fun _ => rfl, rfl, fun _ => rfl, fun _ => rfl, rfl⟩

theorem issueMem_logged (w : MemWork) (s : State) : Logged s (issueMem w s) :=
  ⟨(issueMem_frame w s).mono (.mk (by decide)), rfl, rfl, fun _ => rfl, rfl, fun _ => rfl, fun _ => rfl, rfl⟩

theorem bumpFresh_logged (s : State) : Logged s (bumpFresh s) :=
  ⟨(bumpFresh_frame s).mono (.mk (by decide)), rfl, rfl, fun _ => rfl, rfl, fun _ => rfl, fun _ => rfl, rfl⟩

theorem memWrite_logged (a : Nat) (b : Bool) (bs : List Byte) (s : State) : Logged s (memWrite a b bs s) := emit_logged _ s

/-- A change of the ledger that keeps every field a record does not write. -/
theorem modLdg_logged {f : Ldg → Ldg} {s : State} (h : ∀ l : Ldg, f l = { l with
    next := (f l).next, ext := (f l).ext, openRec := (f l).openRec, openSince := (f l).openSince, buffer := (f l).buffer, loss := (f l).loss
    lost := (f l).lost, lossCause := (f l).lossCause, rates := (f l).rates, traces := (f l).traces, gNow := (f l).gNow, acc := (f l).acc }) :
    Logged s (modLdg f s) :=
  ⟨(modLdg_frame f s).mono (.mk (by decide)), rfl, rfl, fun _ => rfl, rfl, fun _ => rfl, fun _ => rfl, h s.ldg⟩

theorem gcount_logged (i n : Nat) (s : State) : Logged s (gcount i n s) :=
  ⟨(gcount_frame i n s).mono (.mk (by decide)), rfl, rfl, fun _ => rfl, rfl, fun _ => rfl, fun _ => rfl, rfl⟩

theorem irqSet_logged (n b : Nat) (s : State) : Logged s (irqSet n b s) := by
  refine ⟨(irqSet_frame n b s).mono (.mk (by decide)), rfl, rfl, fun _ => rfl, rfl, fun _ => rfl, fun m => ?_, rfl⟩
  by_cases h : m = n
  · subst h; simp [irqSet, modSlot, slot]
  · simp [irqSet, modSlot, slot, tgetD_tmod_other _ _ _ h]

theorem modLink_logged {l : Nat} {f : Link → Link} {s : State} (h : f (link s l) = { link s l with
    queue := (f (link s l)).queue, passed := (f (link s l)).passed, retry := (f (link s l)).retry
    reserved := (f (link s l)).reserved, shared := (f (link s l)).shared
    borrowed := (f (link s l)).borrowed, outstanding := (f (link s l)).outstanding, txSeq := (f (link s l)).txSeq
    sinceControl := (f (link s l)).sinceControl, err := (f (link s l)).err }) : Logged s (modLink l f s) := by
  refine ⟨(modLink_frame l f s).mono (.mk (by decide)), rfl, rfl, fun _ => rfl, rfl, fun m => ?_, fun _ => rfl, rfl⟩
  by_cases hm : m = l
  · subst hm
    have e : link (modLink m f s) m = f (link s m) := tgetD_tmod_same ..
    exact e ▸ h
  · have e : link (modLink l f s) m = link s m := tgetD_tmod_other _ _ _ hm
    exact e ▸ rfl

theorem enterRing_logged (n : Nat) (e : RingEntry) (s : State) : Logged s (enterRing n e s) := by
  have hf := (enterRing_frame n e s).mono (b := logParts) (.mk (by decide))
  unfold enterRing at hf ⊢
  split
  · rename_i hn
    rw [if_pos hn] at hf
    generalize n - 0x800 = q at hf ⊢
    refine ⟨hf, rfl, rfl, fun p => ?_, rfl, fun _ => rfl, fun _ => rfl, rfl⟩
    by_cases h : p = q
    · subst h; rw [sent_modSent_same]
    · rw [sent_modSent_other _ _ h]
  · rename_i hn
    rw [if_neg hn] at hf
    refine ⟨hf, rfl, ?_, fun _ => rfl, rfl, fun _ => rfl, fun _ => rfl, rfl⟩
    simp only [modAsm, tadj, tmap, List.map_map]
    apply List.map_congr_left
    intro x _
    simp only [Function.comp]
    split <;> rfl

/-! ### Sending -/

theorem modWch_logged {f : Wch → Wch} {s : State}
    (h : f s.wch = { s.wch with links := s.wch.links, rxHead := (f s.wch).rxHead, rxOverflow := (f s.wch).rxOverflow }) :
    Logged s (modWch f s) := by
  have hl : (modWch f s).wch.links = s.wch.links := by simp only [modWch_fields]; rw [h]
  refine ⟨(modWch_frame f s).mono (.mk (by decide)), rfl, rfl, fun _ => rfl, ?_, fun l => ?_, fun _ => rfl, rfl⟩
  · simp only [modWch_fields]; rw [h]
  · have e : link (modWch f s) l = link s l := by simp only [link, hl]
    rw [e]

theorem modErr_logged (l : Nat) (f : LinkErr → LinkErr) (s : State) : Logged s (modErr l f s) := modLink_logged rfl

theorem sendNext_logged (l : Nat) (s : State) : Logged s (sendNext l s) := by
  unfold sendNext
  dsimp only
  split
  · exact .refl s
  · split
    · exact .refl s
    · split
      · exact .refl s
      · refine Logged.whenB (issueMem_logged _) (.step (emit_logged ..) (.step (gcount_logged ..) (modLink_logged ?_)))
        unfold sentLink spendCredit
        split <;> rfl

theorem pump_logged (n l : Nat) (s : State) : Logged s (pump n l s) := by
  induction n generalizing s with
  | zero => exact .refl s
  | succ n ih => exact (sendNext_logged l s).trans (ih _)

theorem pumpLink_logged (l : Nat) (s : State) : Logged s (pumpLink l s) := pump_logged _ l s

theorem errUnreach_logged (l : Nat) (s : State) : Logged s (errUnreach l s) := by
  unfold errUnreach
  try extract_lets
  repeat' first
    | with_reducible apply Logged.refl
    | with_reducible apply Logged.step (modErr_logged ..)
    | (with_reducible apply Logged.step (modLdg_logged (fun _ => rfl)))
    | (with_reducible apply Logged.step (modWch_logged rfl))
    | (with_reducible apply Logged.step (modLink_logged rfl))
    | with_reducible apply Logged.whenB
    | with_reducible apply Logged.forEach
    | with_reducible assumption
    | split
    | intro _
    | dsimp only

theorem errEpoch_logged (l : Nat) (s : State) : Logged s (errEpoch l s) := by
  unfold errEpoch
  try extract_lets
  repeat' first
    | with_reducible apply Logged.refl
    | with_reducible apply Logged.step (modErr_logged ..)
    | (with_reducible apply Logged.step (modLdg_logged (fun _ => rfl)))
    | (with_reducible apply Logged.step (modWch_logged rfl))
    | (with_reducible apply Logged.step (modLink_logged rfl))
    | with_reducible apply Logged.whenB
    | with_reducible apply Logged.forEach
    | with_reducible assumption
    | split
    | intro _
    | dsimp only

theorem errTtl_logged (l : Nat) (s : State) : Logged s (errTtl l s) := by
  unfold errTtl
  try extract_lets
  repeat' first
    | with_reducible apply Logged.refl
    | with_reducible apply Logged.step (modErr_logged ..)
    | (with_reducible apply Logged.step (modLdg_logged (fun _ => rfl)))
    | (with_reducible apply Logged.step (modWch_logged rfl))
    | (with_reducible apply Logged.step (modLink_logged rfl))
    | with_reducible apply Logged.whenB
    | with_reducible apply Logged.forEach
    | with_reducible assumption
    | split
    | intro _
    | dsimp only

theorem sendOn_logged (l : Nat) (f : Flit) (s : State) : Logged s (sendOn l f s) := by
  unfold sendOn
  try extract_lets
  repeat' first
    | with_reducible apply Logged.refl
    | with_reducible apply Logged.step (pumpLink_logged ..)
    | with_reducible apply Logged.step (errUnreach_logged ..)
    | with_reducible apply Logged.step (errEpoch_logged ..)
    | (with_reducible apply Logged.step (modLdg_logged (fun _ => rfl)))
    | (with_reducible apply Logged.step (modWch_logged rfl))
    | (with_reducible apply Logged.step (modLink_logged rfl))
    | with_reducible apply Logged.whenB
    | with_reducible apply Logged.forEach
    | with_reducible assumption
    | split
    | intro _
    | dsimp only

theorem routeFlit_logged (f : Flit) (s : State) : Logged s (routeFlit f s) := by
  unfold routeFlit
  try extract_lets
  repeat' first
    | with_reducible apply Logged.refl
    | with_reducible apply Logged.step (errUnreach_logged ..)
    | with_reducible apply Logged.step (sendOn_logged ..)
    | (with_reducible apply Logged.step (modLdg_logged (fun _ => rfl)))
    | (with_reducible apply Logged.step (modWch_logged rfl))
    | (with_reducible apply Logged.step (modLink_logged rfl))
    | with_reducible apply Logged.whenB
    | with_reducible apply Logged.forEach
    | with_reducible assumption
    | split
    | intro _
    | dsimp only

theorem sendRouted_logged (cls dest epoch : Nat) (m : Msg) (s : State) : Logged s (sendRouted cls dest epoch m s) := by
  unfold sendRouted
  try extract_lets
  repeat' first
    | with_reducible apply Logged.refl
    | with_reducible apply Logged.step (routeFlit_logged ..)
    | (with_reducible apply Logged.step (modLdg_logged (fun _ => rfl)))
    | (with_reducible apply Logged.step (modWch_logged rfl))
    | (with_reducible apply Logged.step (modLink_logged rfl))
    | with_reducible apply Logged.whenB
    | with_reducible apply Logged.forEach
    | with_reducible assumption
    | split
    | intro _
    | dsimp only

theorem sendTree_logged (up bypass : Bool) (cls epoch l : Nat) (m : Msg) (s : State) : Logged s (sendTree up bypass cls epoch l m s) := by
  unfold sendTree
  try extract_lets
  repeat' first
    | with_reducible apply Logged.refl
    | with_reducible apply Logged.step (sendOn_logged ..)
    | with_reducible apply Logged.step (routeFlit_logged ..)
    | (with_reducible apply Logged.step (modLdg_logged (fun _ => rfl)))
    | (with_reducible apply Logged.step (modWch_logged rfl))
    | (with_reducible apply Logged.step (modLink_logged rfl))
    | with_reducible apply Logged.whenB
    | with_reducible apply Logged.forEach
    | with_reducible assumption
    | split
    | intro _
    | dsimp only

theorem sendUp_logged (cls e : Nat) (m : Msg) (s : State) : Logged s (sendUp cls e m s) := by
  unfold sendUp
  try extract_lets
  repeat' first
    | with_reducible apply Logged.refl
    | with_reducible apply Logged.step (sendTree_logged ..)
    | (with_reducible apply Logged.step (modLdg_logged (fun _ => rfl)))
    | (with_reducible apply Logged.step (modWch_logged rfl))
    | (with_reducible apply Logged.step (modLink_logged rfl))
    | with_reducible apply Logged.whenB
    | with_reducible apply Logged.forEach
    | with_reducible assumption
    | split
    | intro _
    | dsimp only

theorem sendDown_logged (cls e : Nat) (m : Msg) (s : State) : Logged s (sendDown cls e m s) := by
  unfold sendDown
  try extract_lets
  repeat' first
    | with_reducible apply Logged.refl
    | with_reducible apply Logged.step (sendTree_logged ..)
    | (with_reducible apply Logged.step (modLdg_logged (fun _ => rfl)))
    | (with_reducible apply Logged.step (modWch_logged rfl))
    | (with_reducible apply Logged.step (modLink_logged rfl))
    | with_reducible apply Logged.whenB
    | with_reducible apply Logged.forEach
    | with_reducible assumption
    | split
    | intro _
    | dsimp only

theorem flood_logged (except : Option Nat) (f : Flit) (s : State) : Logged s (flood except f s) := by
  unfold flood
  try extract_lets
  repeat' first
    | with_reducible apply Logged.refl
    | with_reducible apply Logged.step (sendOn_logged ..)
    | (with_reducible apply Logged.step (modLdg_logged (fun _ => rfl)))
    | (with_reducible apply Logged.step (modWch_logged rfl))
    | (with_reducible apply Logged.step (modLink_logged rfl))
    | with_reducible apply Logged.whenB
    | with_reducible apply Logged.forEach
    | with_reducible assumption
    | split
    | intro _
    | dsimp only

theorem rxRing_logged (src : Nat) (f : RecFrag) (s : State) : Logged s (rxRing src f s) := by
  unfold rxRing
  try extract_lets
  repeat' first
    | with_reducible apply Logged.refl
    | with_reducible apply Logged.step (issueMem_logged ..)
    | with_reducible apply Logged.step (memWrite_logged ..)
    | with_reducible apply Logged.step (irqSet_logged ..)
    | (with_reducible apply Logged.step (modLdg_logged (fun _ => rfl)))
    | (with_reducible apply Logged.step (modWch_logged rfl))
    | (with_reducible apply Logged.step (modLink_logged rfl))
    | with_reducible apply Logged.whenB
    | with_reducible apply Logged.forEach
    | with_reducible assumption
    | split
    | intro _
    | dsimp only

theorem sendFragment_logged (dest : Nat) (f : RecFrag) (s : State) : Logged s (sendFragment dest f s) := by
  unfold sendFragment
  try extract_lets
  repeat' first
    | with_reducible apply Logged.refl
    | with_reducible apply Logged.step (sendRouted_logged ..)
    | with_reducible apply Logged.step (rxRing_logged ..)
    | (with_reducible apply Logged.step (modLdg_logged (fun _ => rfl)))
    | (with_reducible apply Logged.step (modWch_logged rfl))
    | (with_reducible apply Logged.step (modLink_logged rfl))
    | with_reducible apply Logged.whenB
    | with_reducible apply Logged.forEach
    | with_reducible assumption
    | split
    | intro _
    | dsimp only

theorem forwardRec_logged (r : Rec) (s : State) : Logged s (forwardRec r s) := by
  unfold forwardRec
  try extract_lets
  repeat' first
    | with_reducible apply Logged.refl
    | with_reducible apply Logged.step (sendFragment_logged ..)
    | (with_reducible apply Logged.step (modLdg_logged (fun _ => rfl)))
    | (with_reducible apply Logged.step (modWch_logged rfl))
    | (with_reducible apply Logged.step (modLink_logged rfl))
    | with_reducible apply Logged.whenB
    | with_reducible apply Logged.forEach
    | with_reducible assumption
    | split
    | intro _
    | dsimp only

theorem traceIn_logged (es : List TraceEntry) (s : State) : Logged s (traceIn es s) := by
  unfold traceIn
  try extract_lets
  repeat' first
    | with_reducible apply Logged.refl

    | (with_reducible apply Logged.step (modLdg_logged (fun _ => rfl)))
    | (with_reducible apply Logged.step (modWch_logged rfl))
    | (with_reducible apply Logged.step (modLink_logged rfl))
    | with_reducible apply Logged.whenB
    | with_reducible apply Logged.forEach
    | with_reducible assumption
    | split
    | intro _
    | dsimp only

theorem nodeEvent_logged (n code sev detail : Nat) (extra : List TraceEntry) (s : State) : Logged s (nodeEvent n code sev detail extra s) := by
  unfold nodeEvent
  try extract_lets
  repeat' first
    | with_reducible apply Logged.refl
    | with_reducible apply Logged.step (bumpFresh_logged ..)
    | with_reducible apply Logged.step (enterRing_logged ..)
    | with_reducible apply Logged.step (traceIn_logged ..)
    | (with_reducible apply Logged.step (modLdg_logged (fun _ => rfl)))
    | (with_reducible apply Logged.step (modWch_logged rfl))
    | (with_reducible apply Logged.step (modLink_logged rfl))
    | with_reducible apply Logged.whenB
    | with_reducible apply Logged.forEach
    | with_reducible assumption
    | split
    | intro _
    | dsimp only

theorem event_logged (n code sev detail : Nat) (s : State) : Logged s (event n code sev detail s) := by
  unfold event
  try extract_lets
  repeat' first
    | with_reducible apply Logged.refl
    | with_reducible apply Logged.step (nodeEvent_logged ..)
    | (with_reducible apply Logged.step (modLdg_logged (fun _ => rfl)))
    | (with_reducible apply Logged.step (modWch_logged rfl))
    | (with_reducible apply Logged.step (modLink_logged rfl))
    | with_reducible apply Logged.whenB
    | with_reducible apply Logged.forEach
    | with_reducible assumption
    | split
    | intro _
    | dsimp only

theorem occurrence_logged (r : Rec) (s : State) : Logged s (occurrence r s) := by
  unfold occurrence
  try extract_lets
  repeat' first
    | with_reducible apply Logged.refl
    | with_reducible apply Logged.step (nodeEvent_logged ..)
    | (with_reducible apply Logged.step (modLdg_logged (fun _ => rfl)))
    | (with_reducible apply Logged.step (modWch_logged rfl))
    | (with_reducible apply Logged.step (modLink_logged rfl))
    | with_reducible apply Logged.whenB
    | with_reducible apply Logged.forEach
    | with_reducible assumption
    | split
    | intro _
    | dsimp only

theorem loseRec_logged (cause : Nat) (r : Rec) (s : State) : Logged s (loseRec cause r s) := by
  unfold loseRec
  try extract_lets
  repeat' first
    | with_reducible apply Logged.refl
    | with_reducible apply Logged.step (gcount_logged ..)
    | (with_reducible apply Logged.step (modLdg_logged (fun _ => rfl)))
    | (with_reducible apply Logged.step (modWch_logged rfl))
    | (with_reducible apply Logged.step (modLink_logged rfl))
    | with_reducible apply Logged.whenB
    | with_reducible apply Logged.forEach
    | with_reducible assumption
    | split
    | intro _
    | dsimp only

theorem sealRec_logged (s : State) : Logged s (sealRec s) := by
  unfold sealRec
  try extract_lets
  repeat' first
    | with_reducible apply Logged.refl
    | with_reducible apply Logged.step (forwardRec_logged ..)
    | (with_reducible apply Logged.step (modLdg_logged (fun _ => rfl)))
    | (with_reducible apply Logged.step (modWch_logged rfl))
    | (with_reducible apply Logged.step (modLink_logged rfl))
    | with_reducible apply Logged.whenB
    | with_reducible apply Logged.forEach
    | with_reducible assumption
    | split
    | intro _
    | dsimp only

theorem writeNew_logged (r : Rec) (s : State) : Logged s (writeNew r s) := by
  unfold writeNew
  try extract_lets
  repeat' first
    | with_reducible apply Logged.refl
    | with_reducible apply Logged.step (gcount_logged ..)
    | with_reducible apply Logged.step (occurrence_logged ..)
    | with_reducible apply Logged.step (loseRec_logged ..)
    | with_reducible apply Logged.step (sealRec_logged ..)
    | (with_reducible apply Logged.step (modLdg_logged (fun _ => rfl)))
    | (with_reducible apply Logged.step (modWch_logged rfl))
    | (with_reducible apply Logged.step (modLink_logged rfl))
    | with_reducible apply Logged.whenB
    | with_reducible apply Logged.forEach
    | with_reducible assumption
    | split
    | intro _
    | dsimp only

theorem foldInto_logged (r q : Rec) (s : State) : Logged s (foldInto r q s) := by
  unfold foldInto
  try extract_lets
  repeat' first
    | with_reducible apply Logged.refl
    | with_reducible apply Logged.step (occurrence_logged ..)
    | (with_reducible apply Logged.step (modLdg_logged (fun _ => rfl)))
    | (with_reducible apply Logged.step (modWch_logged rfl))
    | (with_reducible apply Logged.step (modLink_logged rfl))
    | with_reducible apply Logged.whenB
    | with_reducible apply Logged.forEach
    | with_reducible assumption
    | split
    | intro _
    | dsimp only

theorem writeOrFold_logged (r : Rec) (s : State) : Logged s (writeOrFold r s) := by
  unfold writeOrFold
  try extract_lets
  repeat' first
    | with_reducible apply Logged.refl
    | with_reducible apply Logged.step (writeNew_logged ..)
    | with_reducible apply Logged.step (foldInto_logged ..)
    | (with_reducible apply Logged.step (modLdg_logged (fun _ => rfl)))
    | (with_reducible apply Logged.step (modWch_logged rfl))
    | (with_reducible apply Logged.step (modLink_logged rfl))
    | with_reducible apply Logged.whenB
    | with_reducible apply Logged.forEach
    | with_reducible assumption
    | split
    | intro _
    | dsimp only

theorem writeByRate_logged (r : Rec) (s : State) : Logged s (writeByRate r s) := by
  unfold writeByRate
  try extract_lets
  repeat' first
    | with_reducible apply Logged.refl
    | with_reducible apply Logged.step (occurrence_logged ..)
    | with_reducible apply Logged.step (loseRec_logged ..)
    | with_reducible apply Logged.step (writeOrFold_logged ..)
    | (with_reducible apply Logged.step (modLdg_logged (fun _ => rfl)))
    | (with_reducible apply Logged.step (modWch_logged rfl))
    | (with_reducible apply Logged.step (modLink_logged rfl))
    | with_reducible apply Logged.whenB
    | with_reducible apply Logged.forEach
    | with_reducible assumption
    | split
    | intro _
    | dsimp only

theorem recSevPart_logged (t : RecType) (node : Nat) (p : Option Nat) (sev : Nat) (body : List Byte) (s : State) : Logged s (recSevPart t node p sev body s) := by
  unfold recSevPart
  try extract_lets
  repeat' first
    | with_reducible apply Logged.refl
    | with_reducible apply Logged.step (writeOrFold_logged ..)
    | with_reducible apply Logged.step (writeByRate_logged ..)
    | (with_reducible apply Logged.step (modLdg_logged (fun _ => rfl)))
    | (with_reducible apply Logged.step (modWch_logged rfl))
    | (with_reducible apply Logged.step (modLink_logged rfl))
    | with_reducible apply Logged.whenB
    | with_reducible apply Logged.forEach
    | with_reducible assumption
    | split
    | intro _
    | dsimp only

theorem recPart_logged (t : RecType) (node k : Nat) (body : List Byte) (s : State) : Logged s (recPart t node k body s) := by
  unfold recPart
  try extract_lets
  repeat' first
    | with_reducible apply Logged.refl
    | with_reducible apply Logged.step (recSevPart_logged ..)
    | (with_reducible apply Logged.step (modLdg_logged (fun _ => rfl)))
    | (with_reducible apply Logged.step (modWch_logged rfl))
    | (with_reducible apply Logged.step (modLink_logged rfl))
    | with_reducible apply Logged.whenB
    | with_reducible apply Logged.forEach
    | with_reducible assumption
    | split
    | intro _
    | dsimp only

theorem record_logged (t : RecType) (node : Nat) (body : List Byte) (s : State) : Logged s (record t node body s) := by
  unfold record
  try extract_lets
  repeat' first
    | with_reducible apply Logged.refl
    | with_reducible apply Logged.step (recSevPart_logged ..)
    | (with_reducible apply Logged.step (modLdg_logged (fun _ => rfl)))
    | (with_reducible apply Logged.step (modWch_logged rfl))
    | (with_reducible apply Logged.step (modLink_logged rfl))
    | with_reducible apply Logged.whenB
    | with_reducible apply Logged.forEach
    | with_reducible assumption
    | split
    | intro _
    | dsimp only

theorem recordBlock_logged (t : RecType) (body : List Byte) (s : State) : Logged s (recordBlock t body s) := by
  unfold recordBlock
  try extract_lets
  repeat' first
    | with_reducible apply Logged.refl
    | with_reducible apply Logged.step (record_logged ..)
    | (with_reducible apply Logged.step (modLdg_logged (fun _ => rfl)))
    | (with_reducible apply Logged.step (modWch_logged rfl))
    | (with_reducible apply Logged.step (modLink_logged rfl))
    | with_reducible apply Logged.whenB
    | with_reducible apply Logged.forEach
    | with_reducible assumption
    | split
    | intro _
    | dsimp only

theorem writeLoss_logged (s : State) : Logged s (writeLoss s) := by
  unfold writeLoss
  try extract_lets
  repeat' first
    | with_reducible apply Logged.refl
    | with_reducible apply Logged.step (recordBlock_logged ..)
    | (with_reducible apply Logged.step (modLdg_logged (fun _ => rfl)))
    | (with_reducible apply Logged.step (modWch_logged rfl))
    | (with_reducible apply Logged.step (modLink_logged rfl))
    | with_reducible apply Logged.whenB
    | with_reducible apply Logged.forEach
    | with_reducible assumption
    | split
    | intro _
    | dsimp only

theorem reportPfm_logged (what : String) (s : State) : Logged s (reportPfm what s) := by
  unfold reportPfm
  try extract_lets
  repeat' first
    | with_reducible apply Logged.refl
    | with_reducible apply Logged.step (emit_logged ..)
    | (with_reducible apply Logged.step (modLdg_logged (fun _ => rfl)))
    | (with_reducible apply Logged.step (modWch_logged rfl))
    | (with_reducible apply Logged.step (modLink_logged rfl))
    | with_reducible apply Logged.whenB
    | with_reducible apply Logged.forEach
    | with_reducible assumption
    | split
    | intro _
    | dsimp only

end Sys2Proof.Machine
end

