-- ==== Sys2Proof/WellFormed.lean ====
section
/-!
DEFINITION. Which operands a command can carry: each number fits the signal, field or payload field that brings it (R127, R173,
R225, R275, R295, R313, R318, R394, R413 to R431). A command that is not well-formed can never reach the block's ports.
-/
namespace Sys2Proof

open Sys2Proof.Machine

/-- A number fits in `w` bits. -/
def fits (w n : Nat) : Bool := decide (n < 2 ^ w)

/-- HS_SLOT has 4 bits (R318). -/
def Access.wf (a : Access) : Bool := fits 4 a.slot

/-- The straps fit their pins (R413). -/
def Straps.wf (t : Straps) : Bool := fits 2 t.strokeSrc && fits 2 t.boot && fits 2 t.mode && fits 8 t.links

/-- The tag signals fit their widths (R418). -/
def TagCmd.wf (t : TagCmd) : Bool :=
  fits 4 t.cslot && fits 12 t.ctx && fits 32 t.seq && fits 8 t.opc && fits 8 t.subop && fits 16 t.fmt && fits 4 t.phase &&
  fits 16 t.layer && fits 16 t.oper && fits 32 t.coll && fits 32 t.m && fits 32 t.n && fits 32 t.k && fits 40 t.bytes

/-- The tap signals fit their widths; a beat carries 1 to 64 bytes at a multiple of 64 (R418). -/
def TapBeat.wf (b : TapBeat) : Bool :=
  fits 4 b.cslot && fits 4 b.stream && fits 40 b.offset && b.offset % 64 == 0 && decide (1 ≤ b.bytes) && decide (b.bytes ≤ 64) &&
  b.data.length == 64

/-- The residue signals fit their widths (R127). -/
def ResidueReport.wf (r : ResidueReport) : Bool :=
  fits 4 r.nchk && fits 4 r.nfail && fits 4 r.nskip && fits 48 r.fdet && fits 20 r.offset

/-- The header fields fit theirs (R173). -/
def FtHeader.wf (h : FtHeader) : Bool :=
  fits 8 h.ftStream && fits 8 h.stream && fits 8 h.purpose && fits 8 h.part && fits 32 h.ident && fits 32 h.step &&
  fits 32 h.aux && fits 16 h.seg && fits 16 h.nseg && fits 32 h.seq && fits 40 h.base && fits 40 h.length

/-- The marker payload fits its fields (R17). -/
def Marker.wf (m : Marker) : Bool :=
  fits 48 m.num && fits 17 m.master && fits 8 m.hops && fits 16 m.flags && fits 32 m.acc && fits 8 m.lead

/-- The heartbeat payload fits its fields (R313). -/
def Heart.wf (h : Heart) : Bool :=
  fits 48 h.num && fits 17 h.chip && fits 8 h.flags && fits 8 h.link && h.config.length == 16 && decide (h.epochs.length ≤ 12) &&
  h.epochs.all (fits 32) && fits 32 h.txOffset && fits 48 h.echoStroke && fits 32 h.echoHold

/-- The ALARM payload fits its fields (R275). -/
def AlarmMsg.wf (a : AlarmMsg) : Bool :=
  fits 32 a.epoch && fits 48 a.originStroke && fits 48 a.abortAt && fits 8 a.cause && fits 8 a.reach && fits 16 a.seq &&
  fits 17 a.origin && fits 16 a.node && fits 6 a.part && a.detail.length == 16

/-- The VERDICT payload fits its fields (R225). -/
def VerdictMsg.wf (v : VerdictMsg) : Bool :=
  fits 32 v.epoch && fits 48 v.stroke && fits 8 v.kind && fits 8 v.worst && v.kinds.all (fits 32) && fits 32 v.blocks &&
  fits 32 v.members && fits 32 v.nfail && fits 64 v.uncovered && fits 64 v.checks && v.chips.all (fits 17)

/-- The tally payloads fit their fields (R177). -/
def TallyMsg.wf (t : TallyMsg) : Bool :=
  fits 32 t.epoch && fits 8 t.kind && fits 32 t.coll && fits 32 t.step && fits 16 t.first && t.digests.all (fits 127) &&
  fits 32 t.count && fits 32 t.sat && fits 128 t.expD
def XportMsg.wf (x : XportMsg) : Bool :=
  fits 32 x.epoch && fits 32 x.coll && fits 32 x.step && fits 16 x.hostLink && fits 32 x.seq && fits 17 x.sender &&
  fits 128 x.digest && fits 40 x.elems
def ShardMsg.wf (v : ShardMsg) : Bool :=
  fits 32 v.epoch && fits 8 v.kind && fits 32 v.group && fits 32 v.step && fits 32 v.member && fits 8 v.outcome &&
  fits 32 v.shard && fits 32 v.reporting && fits 128 v.digest && fits 32 v.holding

/-- The exponent payload fits its fields (R108). -/
def ExpMsg.wf (e : ExpMsg) : Bool :=
  fits 32 e.epoch && fits 32 e.coll && fits 32 e.step && fits 32 e.first && fits 8 e.kind &&
  e.exps.all (fun x => decide (-128 ≤ x) && decide (x ≤ 127))

/-- The copy descriptor fits its fields (R152). -/
def CopyDesc.wf (d : CopyDesc) : Bool :=
  fits 8 d.kind && fits 8 d.opc && fits 8 d.subop && fits 8 d.fmtAB && fits 8 d.fmtCD && fits 8 d.flags && fits 16 d.node &&
  fits 48 d.stroke && fits 32 d.m && fits 32 d.n && fits 32 d.k && fits 32 d.j0 && fits 32 d.jn && fits 32 d.seq

/-- A fragment carries at most 208 bytes of at most 20 fragments (R316). -/
def RecFrag.wf (f : RecFrag) : Bool :=
  fits 32 f.rseq && decide (f.frag < f.nfrag) && decide (f.nfrag ≤ 20) && decide (1 ≤ f.kind) && decide (f.kind ≤ 3) &&
  decide (1 ≤ f.data.length) && decide (f.data.length ≤ 208)

/-- The CENSUS summary names a chip. -/
def CensusSummary.wf (c : CensusSummary) : Bool := fits 17 c.chip && c.digest.length == 16

/-- A message fits its payload. -/
def Msg.wf : Msg → Bool
  | .alarm a => a.wf
  | .marker m => m.wf
  | .heartbeat h => h.wf
  | .verdict v => v.wf
  | .tally t => t.wf
  | .xport x => x.wf
  | .shard v => v.wf
  | .exps e => e.wf
  | .peerReq r o c d => fits 32 r && fits 17 o && fits 16 c && d.wf
  | .peerData r c _ d => fits 32 r && fits 16 c && decide (d.length ≤ 208)
  | .peerResp r t b d => fits 32 r && fits 8 t && fits 32 b && fits 128 d
  | .chunk i n g d => fits 32 i && fits 16 n && decide (g < 20) && d.length == (if g == 19 then 144 else 208)
  | .record f => f.wf
  | .census c => c.wf
  | .cubeCensus _ _ _ _ => true

/-- The epoch that a message repeats from its flit. -/
def Msg.epoch? : Msg → Option Nat
  | .alarm a => some a.epoch
  | .verdict v => some v.epoch
  | .tally t => some t.epoch
  | .xport x => some x.epoch
  | .shard v => some v.epoch
  | .exps e => some e.epoch
  | _ => none

/-- The header of a flit fits its fields, and its message repeats its epoch (R295). -/
def Flit.wf (f : Flit) : Bool :=
  fits 3 f.cls && fits 3 f.mode && fits 17 f.dest && fits 7 f.ttl && fits 17 f.src && fits 32 f.epoch && fits 16 f.lseq &&
  fits 16 f.ack && f.msg.wf && (match f.msg.epoch? with | some e => e == f.epoch | none => true)

/-- HELLO fits its fields (R293). -/
def Hello.wf (h : Hello) : Bool :=
  fits 4 h.major && fits 4 h.minor && fits 17 h.chip && fits 64 h.device && fits 2 h.lanes && fits 8 h.role && fits 8 h.linkIdx &&
  h.nonce.length == 32

/-- Ports, links, taps, lanes and units by their largest builds (R3). -/
def portNo (p : Nat) : Bool := decide (p < 2048)
def linkNo (l : Nat) : Bool := decide (l < 8)
def laneNo (l : Nat) : Bool := decide (l < 16)
def tapNo (t : Nat) : Bool := decide (t < 16)
def copyNo (u : Nat) : Bool := decide (u < 32)
def slotNo (n : Nat) : Bool := decide (n < 16)
def chanNo (c : Nat) : Bool := decide (c < 2)
def partNo (k : Nat) : Bool := decide (k < 64)

/-- The tick signals name built ports and 8-bit readings (R418). -/
def TickSignals.wf (t : TickSignals) : Bool :=
  t.noEdge.all portNo && t.stretched.all portNo && t.slack.all (fun e => portNo e.1 && fits 8 e.2) &&
  t.temps.all (fun e => portNo e.1 && fits 8 e.2)

/-- Every operand of a command fits what brings it. -/
def Instr.wf : Instr → Bool
  | .coldResetDeassert t => t.wf
  | .firmwareImageCheck src _ => fits 3 src
  | .groundImageCheck src _ => fits 3 src
  | .sentinelAttach ps => ps.all (fun a => portNo a.port && fits 4 a.channels)
  | .domainResetDone d => d == 2 || d == 3
  | .lockstepMismatch d => d == 2 || d == 3
  | .powerEstimate e => fits 10 e
  | .grantStrobe g => fits 10 g
  | .strokeTick t => t.wf
  | .guardPhase audits => audits.all (fun r => decide (1 ≤ r.row) && decide (r.row ≤ 6))
  | .strokeMarker l m _ _ => linkNo l && m.wf
  | .heartbeat l h _ => linkNo l && h.wf
  | .nodeAbsent n => fits 12 n
  | .censusSummary c => c.wf
  | .tileClockStop p => portNo p
  | .tileClockStart p => portNo p
  | .residueOutcome p c r => portNo p && decide (c < 4) && r.wf
  | .residueCountClose p => portNo p
  | .residueInject a n => a.wf && fits 12 n
  | .forceDualWrite a n _ => a.wf && fits 12 n
  | .rlStatusClear a n _ => a.wf && fits 12 n
  | .commandTag p t => portNo p && t.wf
  | .tapBeat p b => portNo p && b.wf
  | .cmdDone p c => portNo p && fits 4 c
  | .duplexRefuse p c => portNo p && fits 4 c
  | .canaryDue u => copyNo u
  | .canaryComplete u k => copyNo u && (match k with | some i => decide (i < 12) | none => true)
  | .peerReq l r o c d => linkNo l && fits 32 r && fits 17 o && fits 16 c && d.wf
  | .peerData l r c _ d => linkNo l && fits 32 r && fits 16 c && decide (d.length ≤ 208)
  | .peerResp l r t b d => linkNo l && fits 32 r && fits 8 t && fits 32 b && fits 128 d
  | .copySuspect l v => linkNo l && v.wf
  | .tapHeader t h => tapNo t && h.wf
  | .tapData t st o c d => tapNo t && fits 8 st && fits 40 o && fits 6 c && decide (d.length ≤ 128)
  | .streamTimeout t st => tapNo t && fits 8 st
  | .tallyUp l t => linkNo l && t.wf
  | .tallyTotal l t => linkNo l && t.wf
  | .exponentProposal l e => linkNo l && e.wf
  | .exponentAgreed l e => linkNo l && e.wf
  | .xport x => x.wf
  | .varnishCommitted n _ => slotNo n
  | .varnishTimeout n => slotNo n
  | .restoreShardTimeout n => slotNo n
  | .shard v => v.wf
  | .voteResult v => v.wf
  | .sliceGrant p => portNo p
  | .sliceEligible p => portNo p
  | .mbistRestore x y => fits 32 x && fits 32 y
  | .stressAck mv f => decide (-32 ≤ mv) && decide (mv ≤ 31) && fits 4 f
  | .heatReached r => fits 8 r
  | .testPortAck d => fits 32 d
  | .trimRecommend p => portNo p
  | .verdictUp l _ v => linkNo l && v.wf
  | .verdictDown l v => linkNo l && v.wf
  | .lateFail l v => linkNo l && v.wf
  | .duplexDirectedExpiry p => portNo p
  | .progressInc p n => portNo p && decide (n < 4)
  | .progressRebind p n c _ => portNo p && decide (n < 4) && fits 12 c
  | .fenceDone p _ => portNo p
  | .fenceTimeout p => decide (p ≤ 2048)
  | .lateArrival p => (match p with | some i => portNo i | none => true)
  | .engineResetAck p => portNo p
  | .resetAckFall p => (match p with | some i => portNo i | none => true)
  | .joinStroke k => partNo k
  | .leaveStroke k => partNo k
  | .alarm l a => linkNo l && a.wf
  | .stepDone p => portNo p
  | .ckptTimer k => partNo k
  | .ckptOverdue k => partNo k
  | .laneLock l => laneNo l
  | .laneLockLoss l => laneNo l
  | .echo l _ _ _ _ => linkNo l
  | .hello l h => linkNo l && h.wf
  | .cert l f n d => linkNo l && decide (f < n) && decide (n ≤ 6) && decide (d.length ≤ 208)
  | .share l k => linkNo l && k.length == 96
  | .proof l g => linkNo l && g.length == 96
  | .done l m _ => linkNo l && m.length == 32
  | .handshakeTimeout l => linkNo l
  | .trainTimeout l => linkNo l
  | .absentRetry l => linkNo l
  | .secondLaneTimeout l => linkNo l
  | .flitReceived l n _ _ f _ => linkNo l && decide (n < 2) && f.wf
  | .credit l r k => linkNo l && r.length == 6 && r.all (fits 16) && fits 16 k
  | .nack l n r => linkNo l && fits 16 n && r.length == 6 && r.all (fits 16)
  | .keyUpdate l n => linkNo l && fits 48 n
  | .rekey l => linkNo l
  | .retryTimeout l => linkNo l
  | .controlFlitTimer l _ => linkNo l
  | .heartbeatMiss l => linkNo l
  | .creditWait l c => linkNo l && decide (c < 6)
  | .crcWindow l n => linkNo l && decide (n < 2)
  | .degradedRecovery l => linkNo l
  | .broadcastChunk l r i n d => linkNo l && fits 17 r && fits 32 i && fits 16 n && d.length == 4096
  | .recordFragment l r f => linkNo l && fits 17 r && f.wf
  | .mailboxPost a w c _ => a.wf && slotNo w && chanNo c
  | .pop a w c => a.wf && slotNo w && chanNo c
  | .flush a w c => a.wf && slotNo w && chanNo c
  | .doorbell a w _ => a.wf && slotNo w
  | .mailboxEcho n c _ => slotNo n && chanNo c
  | .ledgerRead n c _ _ => slotNo n && chanNo c
  | .counters n c _ => slotNo n && chanNo c
  | .partState n c _ => slotNo n && chanNo c
  | .serviceBusy n c _ => slotNo n && chanNo c
  | .slotPowerOn n => slotNo n
  | .slotPowerOff n => slotNo n
  | .accessDenied a _ addr size => a.wf && fits 25 addr && fits 3 size
  | .registerWrite a addr _ => a.wf && fits 25 addr
  | .traceArm a b _ => a.wf && decide (b < 4)
  | .traceTrig a b _ => a.wf && decide (b < 4)
  | .tensorWatchWrite a i _ => a.wf && decide (i < 64)
  | .firmwareLoadGo a _ => a.wf
  | .coreReset a _ => a.wf
  | .controlReset a _ => a.wf
  | .devkey a _ => a.wf
  | .provision a _ _ => a.wf
  | .lifecycleReturn a _ _ => a.wf
  | .serial a _ _ => a.wf
  | .revoke a _ _ => a.wf
  | .strokeEnable a _ => a.wf
  | .strokeLock a _ => a.wf
  | .periodWrite a _ => a.wf
  | .gndLoadGo a _ => a.wf
  | .canaryRun a _ => a.wf
  | .cpyStoreWrite a _ => a.wf
  | .cpyLock a _ => a.wf
  | .stepMark a _ => a.wf
  | .varnish a _ _ _ => a.wf
  | .restore a _ _ _ => a.wf
  | .replLoad a _ _ => a.wf
  | .scrRun a _ => a.wf
  | .quarantine a _ => a.wf
  | .teardown a _ => a.wf
  | .teardownPart a _ => a.wf
  | .ladderL2 a _ => a.wf
  | .ladderL3 a _ => a.wf
  | .ladderL4 a _ => a.wf
  | .ladderL5 a _ => a.wf
  | .join a _ _ => a.wf
  | .leave a _ _ => a.wf
  | .rcvAlarm a _ => a.wf
  | .gateOn a _ => a.wf
  | .gateStep a _ => a.wf
  | .gateOff a _ => a.wf
  | .wchBcast a _ _ => a.wf
  | .routeSelect a _ => a.wf
  | .routeWrite a _ => a.wf
  | .clear a _ _ => a.wf
  | .release a _ _ => a.wf
  | .coldResetAssert _ | .bringupRom _ _ _ | .bringupStepTimeout | .censusStart | .censusComplete | .clockLoss | .coreClockReturn
  | .wardenWatchdog | .otpAccessDone _ _ | .judgePhase _ | .publishPhase | .missingMarker | .pinEdge _ | .strokeConflictRepeat
  | .groundSourceTimeout | .cubeCensusTimeout | .deputyTimeout | .duplexMissing _ | .captureTooLong _ | .pieceComplete _ _ _
  | .backlogDrop _ _ | .peerTimeout _ | .tallyRelayTimeout _ _ _ | .tallyTotalTimeout _ _ _ | .xportTimeout _ _ _ _
  | .voteTimeout _ _ _ | .holdOpen | .grantTimeout | .holdLimit | .sliceRunComplete _ | .sliceBudgetExpiry
  | .witnessGrantTimeout | .stressTimeout | .heatLimit | .analogDue _ | .testPortTimeout | .deepTestAccess
  | .verdictRelayTimeout _ _ | .horizonMiss _ _ | .verdictLost _ _ | .blastRecord _ _ | .fabricFenceDone _ | .pmResetAck
  | .ladderLevelTimeout _ | .trCycleRequest | .powerCycleTimeout | .abortAt _ | .broadcastStall _ | .sealTimeout | .rateWindow _
  | .recordCommit _ | .unitErase _ _ | .summary | .memoryAccessDone _ _ | .memoryAccessTimeout _ | .firmwareSourceTimeout
  | .operatingHoursUnit => true

end Sys2Proof
end

