-- ==== Sys2Proof/Tests/Slice0.lean ====
section
/-! SUPPORT. A well-formedness smoke test, a few checks of the encodings on fixed values taken from the spec, and, for every statement of
`Certificates/Slice0/Obligations.lean` with hypotheses, states and operands that meet them together (`wit_…`). -/

namespace Sys2Proof.Tests

open Sys2Proof Sys2Proof.Machine

/-- A block out of cold reset, otherwise as after reset. -/
def up : State := { State.reset with boot := { State.reset.boot with inReset := false } }
/-- A secure access of slot 0. -/
def slot0 : Access := { slot := 0, sec := true }
/-- A block with a key store and every link enabled. -/
def keyed : State := { up with
  life := { up.life with otp := [(0x0A, 1)], keys := some { certChain := [0] } }, straps := { up.straps with links := 255 }
  wch := { up.wch with eff := { up.wch.eff with linkEn := 255 } } }

def inEpoch0 : State := { up with
  gnd := { up.gnd with tiles := [(2, { state := 0, part := 0, logical := 2 })] }, sents := [(2, { attached := true })]
  parts := [(0, { valid := true, state := 2, epoch := 7, count := 1 })], epochs := [{ id := 7 }] }
def aTag : TagCmd := {
  cslot := 1, ctx := 0, seq := 1, opc := 1, subop := 0, fmt := 0, dup := false, cPresent := false, maskPresent := false
  collValid := false, phase := 0, layer := 0, oper := 0, coll := 0, m := 1, n := 1, k := 1, bytes := 64 }
theorem draw_lt (s : State) (p : Nat) (t : TagCmd) : drawOf s p t < 2 ^ 32 := Nat.mod_lt _ (by decide)
def captured : State := { inEpoch0 with
  sents := [(2, { attached := true, cmds := [(1, { tag := aTag, capture := some 0 })] })]
  cpy := { up.cpy with captures := [(0, { port := 2, tag := aTag })], nextCap := 1 } }
def duplexing : State := { inEpoch0 with
  sents := [(2, { attached := true, cmds := [(1, { tag := aTag, dupIdx := some 0, resp := 2 })] })]
  cpy := { up.cpy with duplexes := [(0, { port := 2, partner := 3, seq := 1, tag := { aTag with m := 64, n := 64 } })], nextDup := 1 } }
def aBeat : TapBeat := { cslot := 1, stream := 0, offset := 0, bytes := 64, last := false, data := [] }
def tallying (x : Tally) : State := { inEpoch0 with
  build := { up.build with taps := 4 }, epochs := [{ id := 7, parent := 2, children := [0, 1] }]
  dgt := { up.dgt with tally := [x] } }
def aTally : Tally := { epoch := 7, coll := 1, step := 2, seg := 0, reported := [1] }
def holding (h : Hold) (strokes : Nat) : State := { inEpoch0 with
  scr := { up.scr with hold := some h }, stk := { up.stk with stroke := strokes }, boot := { up.boot with ready := true }
  gnd := { inEpoch0.gnd with golden := [{ pattern := 3, kind := 3, enabled := true, reference := some 9 }] } }
/-- Slices allowed. -/
def screening : State := { holding {} 5 with
  scr := { up.scr with cfg := { up.scr.cfg with slicesEn := true, analogEn := true } }
  life := { up.life with otp := [(0x0A, 1)] }
  pwr := { up.pwr with shedSlices := false, witness := false } }
/-- A block whose first link has the given state. -/
def oneLink (k : Link) : State := { keyed with wch := { keyed.wch with links := [(0, k)] }, stk := { keyed.stk with ticked := true, stroke := 20000, source := 1, state := 2 } }
/-- A flit of a class that is not defined. -/
def aFlit : Flit := {
  cls := 6, mode := 0, lseq := 0, ack := 0, dest := 0, src := 0, ttl := 0, epoch := 0, bypass := false
  msg := .xport { epoch := 0, coll := 0, step := 0, hostLink := 0, seq := 0, sender := 0, digest := 0, elems := 0 } }
/-- A block whose slot 1 has a channel 0 as given. -/
def boxed (m : Mbx) : State := { up with mbxs := [(2, m)] }
/-- An access of slot 1. -/
def slot1 : Access := { slot := 1, sec := false }

theorem wit_ColdReset : (∃ s : State, s.boot.inReset = true) ∧ (∃ s : State, s.boot.inReset = false) :=
  ⟨⟨State.reset, by decide⟩, ⟨up, by decide⟩⟩

theorem wit_Core : ∃ (s : State) (a : Access) (v : Word), reaches s a aPwrReset = true ∧ fbit v 63 = true ∧ fbit v 62 = false ∧
    domainReset s 2 = false ∧ s.boot.inReset = false ∧ s.pwr.clockLost = false := ⟨up, slot0, 0x8000000000000000, by decide⟩

theorem wit_Control : ∃ (s : State) (a : Access) (v : Word), reaches s a aPwrReset = true ∧ fbit v 62 = true ∧ fbit v 63 = false ∧
    domainReset s 3 = false ∧ s.boot.inReset = false := ⟨up, slot0, 0x4000000000000000, by decide⟩

theorem wit_Power : ∃ s : State, s.boot.inReset = false ∧ s.pwr.overdraw = decide (36 % 1024 < 36) := ⟨up, by decide⟩
theorem wit_End : (∃ (s : State) (r : DomReset), s.pwr.running.find? (fun x => x.domain == 2) = some r ∧ s.pwr.clockLost = false) ∧
    (∃ (s : State) (r : DomReset), s.pwr.running.find? (fun x => x.domain == 3) = some r) ∧
    (∃ (s : State), s.pwr.running.find? (fun x => x.domain == 3) = none) ∧
    (∃ s : State, s.boot.inReset = false ∧ 3 ≤ s.boot.stage ∧ satInc 32 s.boot.hours % 64 ≠ 0 ∧ s.nvm.readable = true) :=
  ⟨⟨{ up with pwr := { up.pwr with running := [{ domain := 2, cause := 1 }] } }, _, rfl, rfl⟩,
   ⟨{ up with pwr := { up.pwr with running := [{ domain := 3, cause := 1 }] } }, _, rfl⟩, ⟨up, rfl⟩,
   ⟨{ up with boot := { up.boot with stage := 3 } }, by decide⟩⟩

theorem wit_Rom : ∃ s : State, atStage s 2 = true := ⟨{ up with boot := { up.boot with stage := 2 } }, by decide⟩

theorem wit_Fw : (∃ s : State, atStage s 3 = true ∧ s.boot.fw = none ∧ s.boot.loading = true ∧ nextAuto s s.boot.tried = some srcA) ∧
    (∃ (s : State) (a : Access) (v : Word), reaches s a aPwrBoot = true ∧ fbit v 63 = true ∧ s.boot.stage ≤ 3 ∧ s.boot.fw = none ∧
      s.boot.loading = false ∧ nextAuto s s.boot.tried = none ∧ fld v 47 0 % 64 = 0) ∧
    (∃ (s : State), atStage s 3 = true ∧ s.boot.fw = none ∧ s.boot.loading = false ∧ nextAuto s s.boot.tried = some srcA) :=
  ⟨⟨{ up with boot := { up.boot with stage := 3, loading := true } }, by decide⟩,
   ⟨{ up with boot := { up.boot with stage := 3, tried := [srcA, srcB, srcWatch] } }, slot0, 0x8000000000000000, by decide⟩,
   ⟨{ up with boot := { up.boot with stage := 3 } }, by decide⟩⟩

theorem wit_Census : (∃ (s : State) (x : PortAttach), atStage s 5 = true ∧ s.gnd.state = 3 ∧ s.boot.attached = false ∧ shownPort s x.port = true ∧
      (tile s x.port).state ≠ tsFailed) ∧
    (∃ s : State, atStage s 5 = true ∧ s.gnd.state = 3 ∧ s.boot.attached = true ∧ linksDone s = true) ∧
    (∃ s : State, atStage s 7 = true ∧ s.boot.canaryTodo = [] ∧ s.boot.goldenTodo = [] ∧ s.boot.analogTodo = []) ∧
    (∃ s : State, atStage s 5 = true ∧ s.boot.attached = true ∧ linksDone s = false) ∧ (∃ s : State, atStage s 2 = true) :=
  ⟨⟨{ up with boot := { up.boot with stage := 5 }, gnd := { up.gnd with state := 3, tiles := [(0, { state := 0 })] } },
      { port := 0, ok := true, channels := 4, canary := true }, by decide⟩,
   ⟨{ up with boot := { up.boot with stage := 5, attached := true, linksSettled := true }, gnd := { up.gnd with state := 3 } }, by decide⟩,
   ⟨{ up with boot := { up.boot with stage := 7 } }, by decide⟩,
   ⟨{ keyed with boot := { up.boot with stage := 5, attached := true } }, by decide⟩,
   ⟨{ up with boot := { up.boot with stage := 2 } }, by decide⟩⟩

theorem wit_Gnd : (∃ (s : State) (a : Access) (v : Word), reaches s a aGndLoad = true ∧ fbit v 63 = true ∧ s.gnd.state ≠ 3 ∧ s.gnd.state ≠ 1 ∧
      s.boot.stage = 4 ∧ fld v 47 0 % 64 = 0) ∧
    (∃ (s : State) (a : Access) (v : Word), reaches s a aGndLoad = true ∧ fbit v 63 = true ∧ s.gnd.state = 3) ∧
    (∃ s : State, atStage s 4 = true ∧ s.gnd.state = 1 ∧ s.gnd.source = srcSlot ∧ nextAuto s (triedToo srcSlot s.boot.gTried) = none) :=
  ⟨⟨{ up with boot := { up.boot with stage := 4 } }, slot0, 0x8000000000000040, by decide⟩,
   ⟨{ up with gnd := { up.gnd with state := 3 } }, slot0, 0x8000000000000000, by decide⟩,
   ⟨{ up with boot := { up.boot with stage := 4, gTried := [srcA, srcB] }, gnd := { up.gnd with state := 1, source := srcSlot } }, by decide⟩⟩

theorem wit_Cube : (∃ (s : State) (n : Nat), n < 0x800 ∧ nodeUsed s n = true ∧ (asm s n).absent = false) ∧
    (∃ (s : State) (c : CensusSummary), (s.wch.warden = 1 ∨ s.wch.warden = 2) ∧ c.chip / 64 = s.wch.chip / 64) ∧
    (∃ s : State, s.wch.warden = 1 ∧ cubeDue s 1000 = true ∧ s.wch.cubeSent = false) ∧
    (∃ s : State, s.wch.warden = 2 ∧ cubeDue s 2000 = true ∧ s.wch.cubeCopy = false ∧ s.wch.cubeSent = false) :=
  ⟨⟨{ up with gnd := { up.gnd with tree := [(0, {}), (1, { parent := 0 })] } }, 1, by decide⟩,
   ⟨{ up with wch := { up.wch with warden := 1 } }, { chip := 3, digest := [], ready := true }, by decide⟩,
   ⟨{ up with wch := { up.wch with warden := 1, censusAt := some 0 }, stk := { up.stk with stroke := 1000 } }, by decide⟩,
   ⟨{ up with wch := { up.wch with warden := 2, censusAt := some 0 }, stk := { up.stk with stroke := 2000 } }, by decide⟩⟩

theorem wit_Tick : (∃ (s : State) (n x : Nat), nextTickOf s = some (n, x)) ∧ (∃ s : State, nextTickOf s = none) ∧
    (∃ s : State, s.stk.ticked = true ∧ s.stk.phase = 0 ∧ controlReset s = false) ∧ (∃ s : State, s.stk.ticked = true ∧ s.stk.phase = 1) ∧
    (∃ (s : State) (l : List AuditReading), s.stk.ticked = true ∧ s.stk.phase = 2 ∧ ∀ x ∈ l, x.expected = x.found) ∧
    (∃ s : State, s.stk.ticked = false) ∧ (∃ s : State, s.stk.phase ≠ 0 ∧ s.stk.phase ≠ 1 ∧ s.stk.phase ≠ 2) :=
  ⟨⟨{ up with stk := { up.stk with source := 1, sched := [(7, 100)] } }, 7, 100, by decide⟩, ⟨{ up with stk := { up.stk with source := 1 } }, by decide⟩,
   ⟨{ up with stk := { up.stk with ticked := true } }, by decide⟩, ⟨{ up with stk := { up.stk with ticked := true, phase := 1 } }, by decide⟩,
   ⟨{ up with stk := { up.stk with ticked := true, phase := 2 } }, [{ row := 1, unit := 0, sub := 0, expected := 5, found := 5 }], by decide⟩,
   ⟨up, by decide⟩, ⟨{ up with stk := { up.stk with ticked := true, phase := 3 } }, by decide⟩⟩

theorem wit_Follow : (∃ (s : State) (l : Nat) (m : Marker) (now0 : Nat), l < s.build.links ∧ s.stk.source = 1 ∧ s.gnd.state = 3 ∧
      m.master = s.gnd.pod.master ∧ m.hops < 255 ∧ (l = s.gnd.chip.parentLink ∨ s.gnd.chip.backups.contains l = true) ∧
      (s.stk.state = 2 ∨ s.stk.state = 3) ∧ m.acc + tgetD s.stk.linkDelay l 0 ≤ m.lead * s.tcfg.period ∧
      s.stk.seen.any (fun e => e.1 == m.num) = false ∧
      m.num = ownAt s (now0 + m.lead * s.tcfg.period - (m.acc + tgetD s.stk.linkDelay l 0))) ∧
    (∃ (s : State) (l : Nat) (m : Marker), l < s.build.links ∧ s.gnd.state = 3 ∧ m.master ≠ s.gnd.pod.master) ∧
    (∃ (s : State) (l : Nat) (m : Marker), l < s.build.links ∧ s.gnd.state = 3 ∧ m.master = s.gnd.pod.master ∧ s.stk.source = 1 ∧ 255 ≤ m.hops) ∧
    (∃ (s : State) (l : Nat) (m : Marker), l < s.build.links ∧ s.stk.source ≠ 1 ∧ s.gnd.state = 3 ∧ m.master = s.gnd.pod.master) ∧
    (∃ (s : State), s.stk.source ≠ 0 ∧ s.stk.sched.any (fun e => e.1 == now s + 1) = false ∧ s.stk.state = 1) ∧
    (∃ (s : State) (n : Nat), s.stk.source = 2 ∧ s.stk.state ≠ 0 ∧ s.stk.ticked = true ∧ n + s.tcfg.period / 100 < s.stk.nextTick) ∧
    (∃ (s : State) (n : Nat), s.stk.source = 2 ∧ (s.stk.state = 2 ∨ s.stk.state = 3) ∧ s.stk.ticked = true ∧
      s.stk.nextTick ≤ n + s.tcfg.period / 100 ∧ n ≤ s.stk.nextTick + s.tcfg.period / 100) ∧
    (∃ s : State, s.stk.source = 2 ∧ s.stk.state ≠ 0 ∧ s.stk.ticked = false) :=
  ⟨⟨{ up with stk := { up.stk with source := 1, state := 2, ticked := true, stroke := 9, tickTime := 900000 }, gnd := { up.gnd with state := 3 } }, 0,
      { num := 11, master := 0x1FFFF, hops := 0, flags := 0, acc := 0, lead := 1 }, 1000000, by decide⟩,
   ⟨{ up with gnd := { up.gnd with state := 3 } }, 0, { num := 11, master := 5, hops := 0, flags := 0, acc := 0, lead := 1 }, by decide⟩,
   ⟨{ up with stk := { up.stk with source := 1 }, gnd := { up.gnd with state := 3 } }, 0,
      { num := 11, master := 0x1FFFF, hops := 255, flags := 0, acc := 0, lead := 1 }, by decide⟩,
   ⟨{ up with gnd := { up.gnd with state := 3 } }, 0, { num := 11, master := 0x1FFFF, hops := 0, flags := 0, acc := 0, lead := 1 }, by decide⟩,
   ⟨{ up with stk := { up.stk with source := 1, state := 1 } }, by decide⟩,
   ⟨{ up with stk := { up.stk with source := 2, state := 2, ticked := true, nextTick := 500000 } }, 400000, by decide⟩,
   ⟨{ up with stk := { up.stk with source := 2, state := 2, ticked := true, nextTick := 500000 } }, 500000, by decide⟩,
   ⟨{ up with stk := { up.stk with source := 2, state := 1 } }, by decide⟩⟩

theorem wit_Cfg : (∃ (s : State) (a : Access) (v : Word), reaches s a aStkCfg = true ∧ fbit v 63 = true ∧ fbit v 32 = false ∧ s.tcfg.lock = false ∧
      s.gnd.state ≠ 3 ∧ 50000 ≤ fld v 19 0 ∧ fld v 19 0 ≤ 400000 ∧ 1 ≤ fld v 31 28) ∧
    (∃ (s : State) (a : Access) (v : Word), reaches s a aStkCfg = true ∧ fbit v 63 = false ∧ fbit v 32 = false ∧ s.tcfg.lock = false) ∧
    (∃ (s : State) (a : Access) (v : Word), reaches s a aStkCfg = true ∧ fbit v 63 = false ∧ fbit v 32 = true ∧ s.tcfg.lock = true ∧
      s.tcfg.enable = false ∧ s.stk.source = 0 ∧ s.gnd.state = 3 ∧ s.wch.chip ≠ s.gnd.pod.master) ∧
    (∃ (s : State) (a : Access) (v : Word), reaches s a aStkCfg = true ∧ fbit v 63 = false ∧ fbit v 32 = true ∧ s.tcfg.lock = true ∧
      s.tcfg.enable = false ∧ s.stk.source = 1) ∧
    (∃ s : State, s.stk.conflictMaster = true ∧ s.stk.source = 0 ∧ ticking s = false) :=
  ⟨⟨up, slot0, 0x80000000100186A0, by decide⟩, ⟨up, slot0, 0x00000000100186A0, by decide⟩,
   ⟨{ up with tcfg := { up.tcfg with lock := true }, gnd := { up.gnd with state := 3 } }, slot0, 0x0000000100000000, by decide⟩,
   ⟨{ up with tcfg := { up.tcfg with lock := true }, stk := { up.stk with source := 1 } }, slot0, 0x0000000100000000, by decide⟩,
   ⟨{ up with stk := { up.stk with conflictMaster := true } }, by decide⟩⟩

def linked : State := { up with
  wch := { up.wch with links := [(0, { state := 6 })] }, stk := { up.stk with ticked := true, stroke := 5, tickTime := 500000 } }
theorem wit_Hb : (∃ (s : State) (l : Nat) (h : Heart), l < s.build.links ∧ linkOpen (link s l) = true ∧ s.stk.source ≠ 2 ∧ isTunnel s l = false ∧
      fit 16 h.config = fit 16 s.gnd.configDigest) ∧
    (∃ (s : State) (l : Nat) (h : Heart), l < s.build.links ∧ linkOpen (link s l) = true ∧ s.stk.source ≠ 2 ∧ isTunnel s l = false ∧
      fit 16 h.config ≠ fit 16 s.gnd.configDigest ∧ (link s l).mismatchAt = some 0 ∧ now s < 0 + 1024) ∧
    (∃ (s : State) (l n : Nat) (h : Heart), l < s.build.links ∧ linkOpen (link s l) = true ∧ s.stk.source = 2 ∧ isTunnel s l = false ∧
      fit 16 h.config = fit 16 s.gnd.configDigest ∧ s.stk.ticked = true ∧ s.stk.state = 1 ∧
      ownAt s (n - tgetD s.stk.linkDelay l 0 - h.txOffset) < h.num) ∧
    (∃ (s : State) (l : Nat), l < s.build.links ∧ linkOpen (link s l) = false) :=
  ⟨⟨linked, 0, { num := 5, chip := 1, flags := 0, link := 0, config := [], epochs := [], txOffset := 0, echoStroke := 0, echoHold := 0 }, by decide⟩,
   ⟨{ linked with wch := { linked.wch with links := [(0, { state := 6, mismatchAt := some 0 })] } }, 0,
     { num := 5, chip := 1, flags := 0, link := 0, config := [1], epochs := [], txOffset := 0, echoStroke := 0, echoHold := 0 }, by decide⟩,
   ⟨{ linked with stk := { linked.stk with source := 2, state := 1 } }, 0, 500000,
     { num := 9, chip := 1, flags := 0, link := 0, config := [], epochs := [], txOffset := 0, echoStroke := 0, echoHold := 0 }, by decide⟩,
   ⟨up, 0, by decide⟩⟩

theorem wit_Clk : (∃ (s : State) (p : Nat), p < s.build.ports ∧ (sent s p).attached = true ∧ (sent s p).clkStop = false) ∧
    (∃ (s : State) (p : Nat), p < s.build.ports ∧ (sent s p).clkStop = true) ∧ (∃ (s : State) (p : Nat), s.build.ports ≤ p) :=
  ⟨⟨{ up with sents := [(3, { attached := true })] }, 3, by decide⟩, ⟨{ up with sents := [(3, { clkStop := true })] }, 3, by decide⟩, ⟨up, 2048, by decide⟩⟩

def wiredOne : State := { up with gnd := { up.gnd with tiles := [(3, { state := 0 })] }, sents := [(3, { attached := true, rl := { channels := 15 } })], stk := { up.stk with stroke := 4, ticked := true } }
theorem wit_Rl : (∃ (s : State) (p c : Nat) (r : ResidueReport), p < s.build.ports ∧ sentinelOn s p = true ∧ wired (sent s p).rl c = true ∧
      (r.nchk ≠ 0 ∨ r.nskip ≠ 0) ∧ (sent s p).rl.closed ≤ outcomeStroke s p r) ∧
    (∃ (s : State) (p c : Nat) (r : ResidueReport), p < s.build.ports ∧ sentinelOn s p = true ∧ wired (sent s p).rl c = true ∧
      (r.nchk ≠ 0 ∨ r.nskip ≠ 0) ∧ outcomeStroke s p r < (sent s p).rl.closed) ∧
    (∃ (s : State) (p : Nat), p < s.build.ports ∧ sentinelOn s p = true ∧ (sent s p).clkStop = false ∧ wired (sent s p).rl 9 = false) ∧
    (∃ (s : State) (p : Nat), p < s.build.ports ∧ (sent s p).clkStop = true) :=
  ⟨⟨wiredOne, 3, 1, { nchk := 2, nfail := 0, nskip := 0, parity := 0, fdet := 0, offset := 0 }, by decide⟩,
   ⟨{ wiredOne with sents := [(3, { attached := true, rl := { channels := 15, closed := 9 } })] }, 3, 1,
     { nchk := 2, nfail := 0, nskip := 0, parity := 0, fdet := 0, offset := 0 }, by decide⟩,
   ⟨wiredOne, 3, by decide⟩, ⟨{ up with sents := [(3, { clkStop := true })] }, 3, by decide⟩⟩

theorem wit_RlReg : (∃ (s : State) (a : Access) (p : Nat), reachesNode s a (0x800 + p) = true) ∧
    (∃ (s : State) (a : Access) (n : Nat), n < 0x800 ∧ reachesNode s a n = true) ∧
    (∃ (s : State) (a : Access) (n : Nat), s.boot.inReset = false ∧ privileged s a = true ∧ nodeUsed s n = false) :=
  ⟨⟨{ up with gnd := { up.gnd with tiles := [(2, { state := 0 })] } }, slot0, 2, by decide⟩,
   ⟨{ up with gnd := { up.gnd with tree := [(0, {})] } }, slot0, 0, by decide⟩, ⟨up, slot0, 5, by decide⟩⟩

theorem wit_Tag : (∃ (s : State) (p : Nat) (t : TagCmd), p < s.build.ports ∧ sentinelOn s p = true ∧ tget (sent s p).cmds t.cslot = none ∧
      opcDefined t.opc t.subop = true ∧ t.opc ≠ 0 ∧ t.dup = false ∧ inEpoch (part s (tile s p).part) = true ∧
      (sent s p).samp.thetaC + (sent s p).samp.thetaD ≤ drawOf s p t) ∧
    (∃ (s : State) (p : Nat) (t : TagCmd), p < s.build.ports ∧ sentinelOn s p = true ∧ tget (sent s p).cmds t.cslot = none ∧
      opcDefined t.opc t.subop = true ∧ t.opc ≠ 0 ∧ t.dup = false ∧ inEpoch (part s (tile s p).part) = true ∧
      drawOf s p t < (sent s p).samp.thetaC ∧ drawBlocked s t = 0) ∧
    (∃ (s : State) (p q : Nat) (t : TagCmd), p < s.build.ports ∧ sentinelOn s p = true ∧ tget (sent s p).cmds t.cslot = none ∧
      opcDefined t.opc t.subop = true ∧ t.opc ≠ 0 ∧ t.dup = false ∧ inEpoch (part s (tile s p).part) = true ∧
      (sent s p).samp.thetaC ≤ drawOf s p t ∧ drawOf s p t < (sent s p).samp.thetaC + (sent s p).samp.thetaD ∧
      (sent s p).samp.partner = some q) ∧
    (∃ (s : State) (p : Nat) (t : TagCmd), p < s.build.ports ∧ sentinelOn s p = true ∧ tget (sent s p).cmds t.cslot = none ∧
      opcDefined t.opc t.subop = true ∧ t.dup = true) ∧
    (∃ (s : State) (p : Nat) (t : TagCmd), p < s.build.ports ∧ sentinelOn s p = true ∧ tget (sent s p).cmds t.cslot = none ∧
      opcDefined t.opc t.subop = false ∧ t.opc ≠ 0) ∧
    (∃ (s : State) (p : Nat), p < s.build.ports ∧ sentinelOn s p = false) :=
  ⟨⟨inEpoch0, 2, aTag, by decide, by decide, by decide, by decide, by decide, by decide, by decide, Nat.zero_le _⟩,
   ⟨{ inEpoch0 with
        sents := [(2, { attached := true, samp := { thetaC := 2 ^ 32 } })], pwr := { up.pwr with unitsServed := 8 }
        cpy := { up.cpy with ringSize := 4096, units := [(0, { up := true })] } }, 2, aTag,
      by decide, by decide, by decide, by decide, by decide, by decide, by decide, draw_lt .., by decide⟩,
   ⟨{ inEpoch0 with sents := [(2, { attached := true, samp := { thetaD := 2 ^ 32, partner := some 3 } })] }, 2, 3, aTag,
      by decide, by decide, by decide, by decide, by decide, by decide, by decide, Nat.zero_le _,
      Nat.lt_of_lt_of_le (draw_lt ..) (Nat.le_add_left ..), by decide⟩,
   ⟨inEpoch0, 2, { aTag with dup := true }, by decide⟩, ⟨inEpoch0, 2, { aTag with opc := 200 }, by decide⟩, ⟨up, 0, by decide⟩⟩

theorem wit_Beat : (∃ (s : State) (p id : Nat) (b : TapBeat) (x : CmdSlot) (c : Capture), p < s.build.ports ∧ tget (sent s p).cmds b.cslot = some x ∧
      x.capture = some id ∧ capture? s id = some c ∧ c.state = 0 ∧ b.overflow = false ∧ b.last = false ∧ beatOk c.tag b = true) ∧
    (∃ (s : State) (p id : Nat) (b : TapBeat) (x : CmdSlot) (c : Capture), p < s.build.ports ∧ tget (sent s p).cmds b.cslot = some x ∧
      x.capture = some id ∧ capture? s id = some c ∧ c.state = 0 ∧ b.overflow = true) ∧
    (∃ (s : State) (p id : Nat) (b : TapBeat) (x : CmdSlot) (c : Capture), p < s.build.ports ∧ tget (sent s p).cmds b.cslot = some x ∧
      x.capture = some id ∧ capture? s id = some c ∧ c.state = 0 ∧ b.overflow = false ∧ b.last = true) ∧
    (∃ (s : State) (p i : Nat) (b : TapBeat) (x : CmdSlot) (d : Duplex), p < s.build.ports ∧ tget (sent s p).cmds b.cslot = some x ∧
      x.capture = none ∧ x.dupIdx = some i ∧ s.cpy.duplexes = [(i, d)] ∧ (b.stream = 6 ∨ b.stream = 7) ∧ beatOk d.tag b = true) ∧
    (∃ (s : State) (p c : Nat) (x : CmdSlot), p < s.build.ports ∧ tget (sent s p).cmds c = some x ∧ x.capture = none ∧ x.dupIdx = none) ∧
    (∃ (s : State) (p c : Nat), p < s.build.ports ∧ tget (sent s p).cmds c = none) :=
  ⟨⟨captured, 2, 0, aBeat, { tag := aTag, capture := some 0 }, { port := 2, tag := aTag }, by decide⟩,
   ⟨captured, 2, 0, { aBeat with overflow := true }, { tag := aTag, capture := some 0 }, { port := 2, tag := aTag }, by decide⟩,
   ⟨captured, 2, 0, { aBeat with last := true }, { tag := aTag, capture := some 0 }, { port := 2, tag := aTag }, by decide⟩,
   ⟨duplexing, 2, 0, { aBeat with stream := 6 }, { tag := aTag, dupIdx := some 0, resp := 2 },
      { port := 2, partner := 3, seq := 1, tag := { aTag with m := 64, n := 64 } }, by decide⟩,
   ⟨{ inEpoch0 with sents := [(2, { cmds := [(1, { tag := aTag })] })] }, 2, 1, { tag := aTag }, by decide⟩, ⟨up, 0, 0, by decide⟩⟩

def duplex1 : State := { duplexing with
  cpy := { up.cpy with duplexes := [(0, { port := 2, partner := 3, seq := 1, tag := aTag, ownDone := some 1 })] }, stk := { up.stk with stroke := 9 } }
def captured1 : State := { captured with
  cpy := { captured.cpy with captures := [(0, { port := 2, tag := aTag, state := 1, pieces := [{ cost := 5 }] })] }, stk := { up.stk with stroke := 5000 } }
theorem wit_End2 : (∃ (s : State) (p c i : Nat) (x : CmdSlot) (d : Duplex), p < s.build.ports ∧ tget (sent s p).cmds c = some x ∧
      x.dupIdx = some i ∧ x.tag.dup = false ∧ tget s.cpy.duplexes i = some d ∧ d.closed = false ∧ d.ownDone = some 1 ∧ d.dupDone = none ∧
      1 + 5 ≤ now s) ∧
    (∃ (s : State) (i : Nat) (d : Duplex), tget s.cpy.duplexes i = some d ∧ d.ownDone = some 6 ∧ now s < 6 + 5) ∧
    (∃ (s : State) (id : Nat) (c : Capture), capture? s id = some c ∧ c.state = 0 ∧ c.accepted + 4096 + c.stopped + stoppedFor s c.port c ≤ now s) ∧
    (∃ (s : State) (id : Nat) (c : Capture), capture? s id = some c ∧ now s < c.accepted + 4096 + c.stopped + stoppedFor s c.port c) ∧
    (∃ (s : State) (id i : Nat) (c : Capture) (x : Piece), capture? s id = some c ∧ c.pieces[i]? = some x ∧ c.state = 1 ∧ x.state = 0 ∧ x.run = 1 ∧
      c.last + 3 ≤ now s) ∧
    (∃ (s : State) (id i : Nat) (c : Capture) (x : Piece), capture? s id = some c ∧ c.pieces[i]? = some x ∧ now s < c.last + 3) :=
  ⟨⟨duplex1, 2, 1, 0, _, _, by decide, rfl, rfl, rfl, rfl, rfl, rfl, rfl, by decide⟩,
   ⟨{ duplex1 with cpy := { up.cpy with duplexes := [(0, { port := 2, partner := 3, tag := aTag, ownDone := some 6 })] } }, 0, _, rfl, rfl, by decide⟩,
   ⟨{ captured with stk := { up.stk with stroke := 5000 } }, 0, _, rfl, rfl, by decide⟩, ⟨captured, 0, _, rfl, by decide⟩,
   ⟨captured1, 0, 0, _, _, rfl, rfl, rfl, rfl, rfl, by decide⟩, ⟨{ captured1 with stk := up.stk }, 0, 0, _, _, rfl, rfl, by decide⟩⟩

def running (run : Nat) (first : List Nat) : State := { captured with
  cpy := { captured.cpy with captures := [(0, { port := 2, tag := { aTag with opc := 0 }, state := 1, pieces := [{ state := 1, run := run, firstRun := first }] })] } }
theorem wit_Piece : (∃ (s : State) (id i : Nat) (c : Capture) (x : Piece), id < 2 ^ 40 ∧ capture? s id = some c ∧ c.pieces[i]? = some x ∧ x.state = 1 ∧
      x.run ≠ 2 ∧ (diffs c.bytes (pieceResult c.bytes c.tag x.j0 x.jn) (groupValues (pieceResult c.bytes c.tag x.j0 x.jn) .contract) = [])) ∧
    (∃ (s : State) (id i : Nat) (c : Capture) (x : Piece), id < 2 ^ 40 ∧ capture? s id = some c ∧ c.pieces[i]? = some x ∧ x.state = 1 ∧
      x.run = 2 ∧ groupValues (pieceResult c.bytes c.tag x.j0 x.jn) .contract = x.firstRun) ∧
    (∃ (s : State) (id i : Nat) (c : Capture) (x : Piece), id < 2 ^ 40 ∧ capture? s id = some c ∧ c.pieces[i]? = some x ∧ x.state = 1 ∧
      x.run = 2 ∧ groupValues (pieceResult c.bytes c.tag x.j0 x.jn) .contract ≠ x.firstRun) ∧
    (∃ (s : State) (id i : Nat) (c : Capture) (x : Piece), id < 2 ^ 40 ∧ capture? s id = some c ∧ c.pieces[i]? = some x ∧ x.state ≠ 1) :=
  ⟨⟨running 1 [], 0, 0, _, _, by decide, rfl, rfl, rfl, by decide, by decide⟩, ⟨running 2 [], 0, 0, _, _, by decide, rfl, rfl, rfl, by decide, by decide⟩,
   ⟨running 2 [1], 0, 0, _, _, by decide, rfl, rfl, rfl, by decide, by decide⟩, ⟨captured1, 0, 0, _, _, by decide, rfl, rfl, by decide⟩⟩

theorem wit_Can : (∃ (s : State) (u : Nat), u < s.build.units ∧ (cunit s u).up = true ∧ (cunit s u).due ≤ now s ∧ (cunit s u).running = true) ∧
    (∃ (s : State) (u : Nat), u < s.build.units ∧ (cunit s u).up = false ∧ (cunit s u).running = false) ∧
    (∃ (s : State) (a : Access) (v : Word), reaches s a aCpyCanary = true ∧ reaches s a aCpyCfg = true ∧ fbit v 63 = true) ∧
    (∃ (s : State) (a : Access) (v : Word), reaches s a aCpyStore = true ∧ s.cpy.lock = false ∧ poolsOk s (fld v 63 52) (fld v 51 40) (fld v 39 28) = true) ∧
    (∃ (s : State) (a : Access) (v : Word), reaches s a aCpyStore = true ∧ s.cpy.lock = false ∧ poolsOk s (fld v 63 52) (fld v 51 40) (fld v 39 28) = false) ∧
    (∃ (s : State) (a : Access), reaches s a aCpyStore = true ∧ s.cpy.lock = true) :=
  ⟨⟨{ up with cpy := { up.cpy with units := [(0, { up := true, running := true })] } }, 0, by decide⟩, ⟨up, 0, by decide⟩,
   ⟨up, slot0, 0x8000000000000000, by decide⟩, ⟨up, slot0, 0x2005C00400000000, by decide⟩, ⟨up, slot0, 0, by decide⟩,
   ⟨{ up with cpy := { up.cpy with lock := true } }, slot0, by decide⟩⟩

def aDesc : CopyDesc := {
  kind := 4, opc := 1, subop := 0, fmtAB := 0, fmtCD := 0, flags := 0, node := 0x7FF, stroke := 0, piece := 0, m := 1, n := 1, k := 1
  j0 := 0, jn := 1, seq := 1, src := 0, layer := 0, oper := 0, phase := 0, crcOk := true }
def aPeerIn : PeerIn := { reqId := 1, origin := 5, link := 0, chunks := 2, desc := aDesc, tokens := 1 }
def serving (x : PeerIn) : State := { up with
  pwr := { up.pwr with shedPeer := false }
  cpy := { up.cpy with
    eff := { up.cpy.eff with peerEn := true, peerServeMax := 4 }
    service := 64, heldService := 1, peerIn := [x], units := [(0, { up := true })] } }
theorem wit_Peer1 : (∃ (s : State) (l n : Nat) (d : CopyDesc), l < s.build.links ∧ descOk d = true ∧ 1 ≤ n ∧ n ≤ 5042 ∧ s.cpy.eff.peerEn = false) ∧
    (∃ (s : State) (l n : Nat) (d : CopyDesc), l < s.build.links ∧ descOk d = true ∧ 1 ≤ n ∧ n ≤ 5042 ∧ s.cpy.eff.peerEn = true ∧
      s.pwr.shedPeer = false ∧ s.cpy.served < Nat.min 16 s.cpy.eff.peerServeMax ∧ s.cpy.heldService + ceilDiv (208 * n) 65536 ≤ s.cpy.service) ∧
    (∃ (s : State) (l : Nat) (p : PeerIn), l < s.build.links ∧ s.stk.phase ≠ 2 ∧ s.cpy.peerIn = [p] ∧ p.reqId = 1 ∧ p.link = l ∧ p.state = 0 ∧ p.got = 1 ∧
      true = (1 + 1 == p.chunks)) ∧
    (∃ (s : State) (i : Nat) (p : PeerIn), i < 2 ^ 40 ∧ s.cpy.peerIn[i]? = some p ∧ p.state = 2) ∧
    (∃ (s : State) (e g : Nat) (x : Golden), s.gnd.golden[e]? = some x ∧ (liveGroups s).contains g = true) :=
  ⟨⟨{ up with cpy := { up.cpy with eff := { up.cpy.eff with peerEn := false } } }, 0, 5042, aDesc, by decide⟩, ⟨serving aPeerIn, 0, 5042, aDesc, by decide⟩, ⟨serving { aPeerIn with got := 1 }, 0, _, by decide, by decide, rfl, by decide⟩,
   ⟨serving { aPeerIn with state := 2 }, 0, _, by decide, rfl, by decide⟩,
   ⟨{ serving aPeerIn with gnd := { up.gnd with golden := [{ pattern := 0, seed := 0 }] } }, 0, 0, _, rfl, by decide⟩⟩

def aPeerOut : PeerOut := { reqId := 1, epoch := 7, stroke := 3, capture := 0, piece := 0, digest := 9, link := 0, chip := 6, sent := 4, waiting := true }
def asking (o : PeerOut) : State := { captured with
  cpy := { captured.cpy with peerOut := [o] }
  stk := { up.stk with stroke := 20 } }
theorem wit_Peer2 : (∃ (s : State) (l r : Nat) (o : PeerOut) (c : Capture), l < s.build.links ∧ s.cpy.peerOut = [o] ∧ o.reqId = r ∧ o.link = l ∧ o.waiting = true ∧
      o.tie = none ∧ 9 = o.digest ∧ 8 ≠ o.digest ∧ o.busy < 2 ∧ o.sent + 16 ≤ now s ∧ capture? s o.capture = some c ∧
      s.cpy.peerOut.find? (fun o => o.reqId == r && o.link == l && o.waiting) = some o ∧ s.cpy.peerOut.find? (fun o => o.reqId == r) = some o) ∧
    (∃ (s : State) (l r c g : Nat) (o : PeerOut), l < s.build.links ∧ s.cpy.peerOut.find? (fun o => o.reqId == r && o.link == l && o.waiting) = some o ∧
      o.tie = some (c, g) ∧ 2 ≤ o.busy) ∧
    (∃ (s : State) (r : Nat) (o : PeerOut), s.cpy.peerOut.find? (fun o => o.reqId == r) = some o ∧ now s < o.sent + 16) ∧
    (∃ (s : State) (l : Nat) (v : VerdictMsg), l < s.build.links ∧ v.kind = 4 ∧ v.chips.contains s.wch.chip = true) ∧
    (∃ (s : State) (p : Nat), p < s.build.ports ∧ (sent s p).samp.directedUntil ≤ now s ∧ (sent s p).health.dupWatch ≠ []) ∧
    (∃ (s : State) (p : Nat), p < s.build.ports ∧ (sent s p).health.dupWatch = []) :=
  ⟨⟨asking aPeerOut, 0, 1, _, _, by decide, rfl, rfl, rfl, rfl, rfl, rfl, by decide, by decide, by decide, rfl, rfl, rfl⟩,
   ⟨asking { aPeerOut with tie := some (6, 2), busy := 2 }, 0, 1, 6, 2, _, by decide, rfl, rfl, by decide⟩,
   ⟨{ asking aPeerOut with stk := up.stk }, 1, _, rfl, by decide⟩,
   ⟨up, 0, { epoch := 7, stroke := 1, kind := 4, worst := 0, kinds := [], blocks := 0, members := 0, nfail := 0, uncovered := 0, checks := 0, chips := [0] },
     by decide⟩,
   ⟨{ up with sents := [(2, { health := { dupWatch := [(3, 1)] } })] }, 2, by decide⟩, ⟨up, 0, by decide⟩⟩

def aHdr : FtHeader := {
  ftStream := 3, stream := 3, purpose := 5, part := 0, ident := 1, step := 2, aux := 0, seg := 0, nseg := 1, seq := 0, base := 0, length := 64 }
def aStream : Stream := { tap := 0, hdr := aHdr, epoch := 7, opened := 0 }
def streaming : State := { inEpoch0 with dgt := { up.dgt with streams := [aStream] }, build := { up.build with taps := 4 } }
theorem wit_Hdr : (∃ (s : State) (p : Nat) (h : FtHeader), p < s.build.taps ∧ coreReset s = false ∧ stream? s p h.stream = none ∧ h.ftStream = h.stream ∧
      h.purpose ∈ [3, 4, 5, 7, 8] ∧ 1 ≤ h.purpose ∧ h.purpose ≤ 9 ∧ inEpoch (part s h.part) = true ∧ h.length ≠ 0 ∧ isXport h = false ∧
      (s.dgt.streams.filter (fun x => x.tap == p)).length < 256 ∧ s.dgt.streams.any (fun x => sameKey x.hdr h) = false) ∧
    (∃ (s : State) (p : Nat) (h : FtHeader), p < s.build.taps ∧ coreReset s = false ∧ stream? s p h.stream = none ∧ h.ftStream = h.stream ∧
      h.purpose ∈ [1, 2, 6, 9] ∧ inEpoch (part s h.part) = true ∧ h.length ≠ 0 ∧
      (s.dgt.streams.filter (fun x => x.tap == p)).length < 256 ∧ s.dgt.streams.any (fun x => sameKey x.hdr h) = false) ∧
    (∃ (s : State) (p : Nat) (h : FtHeader), p < s.build.taps ∧ coreReset s = false ∧ h.ftStream ≠ h.stream) ∧
    (∃ (s : State) (p : Nat) (h : FtHeader), p < s.build.taps ∧ coreReset s = false ∧ stream? s p h.stream = none ∧ h.ftStream = h.stream ∧
      isXport h = false ∧ h.length = 0) ∧
    (∃ (s : State) (p : Nat) (h : FtHeader) (x : Stream), p < s.build.taps ∧ coreReset s = false ∧ stream? s p h.stream = some x ∧
      h.ftStream = h.stream ∧ isXport h = false ∧ h.length = 0) ∧
    (∃ (s : State) (p : Nat) (h : FtHeader), p < s.build.taps ∧ coreReset s = false ∧ h.ftStream = h.stream ∧
      isXport h = true ∧ s.dgt.xportEn = false) ∧
    (∃ (s : State) (p : Nat) (h : FtHeader), p < s.build.taps ∧ coreReset s = false ∧ stream? s p h.stream = none ∧ h.ftStream = h.stream ∧
      1 ≤ h.purpose ∧ h.purpose ≤ 9 ∧ inEpoch (part s h.part) = true ∧ h.length ≠ 0 ∧ isXport h = false ∧
      256 ≤ (s.dgt.streams.filter (fun x => x.tap == p)).length) ∧
    (∃ (s : State) (p : Nat) (h : FtHeader), p < s.build.taps ∧ coreReset s = false ∧ stream? s p h.stream = none ∧ h.ftStream = h.stream ∧
      1 ≤ h.purpose ∧ h.purpose ≤ 9 ∧ inEpoch (part s h.part) = true ∧ h.length ≠ 0 ∧ isXport h = false ∧
      (s.dgt.streams.filter (fun x => x.tap == p)).length < 256 ∧ s.dgt.streams.any (fun x => sameKey x.hdr h) = true) ∧
    (∃ (s : State) (p : Nat), p < s.build.taps ∧ coreReset s = true) :=
  ⟨⟨streaming, 0, { aHdr with ftStream := 4, stream := 4, ident := 2 }, by decide⟩,
   ⟨streaming, 0, { aHdr with ftStream := 4, stream := 4, purpose := 1 }, by decide⟩,
   ⟨streaming, 0, { aHdr with stream := 4 }, by decide⟩, ⟨streaming, 0, { aHdr with ftStream := 4, stream := 4, length := 0 }, by decide⟩,
   ⟨streaming, 0, { aHdr with length := 0 }, aStream, by decide⟩,
   ⟨{ streaming with dgt := { streaming.dgt with xportEn := false } }, 0, { aHdr with ftStream := 4, stream := 4, purpose := 3 }, by decide⟩,
   ⟨{ streaming with dgt := { up.dgt with streams := List.replicate 256 { aStream with hdr := { aHdr with stream := 9 } } } }, 0, aHdr,
     by decide +kernel⟩,
   ⟨streaming, 0, { aHdr with ftStream := 4, stream := 4 }, by decide⟩,
   ⟨{ streaming with pwr := { up.pwr with running := [{ domain := 2 }] } }, 0, by decide⟩⟩

theorem wit_Dat : (∃ (s : State) (p st : Nat), p < s.build.taps ∧ coreReset s = false ∧ stream? s p st = none) ∧
    (∃ (s : State) (p o c : Nat) (x : Stream), p < s.build.taps ∧ coreReset s = false ∧ stream? s p x.hdr.stream = some x ∧
      x.hdr.purpose ∈ [1, 2, 3, 4, 5, 9] ∧ c ≤ (if tallyForm x.hdr then 32 else 16) ∧ o + c ≤ x.hdr.length ∧ x.got + c < x.hdr.length ∧ x.tw = none ∧
      x.tap = p) ∧
    (∃ (s : State) (p o c : Nat) (x : Stream), p < s.build.taps ∧ coreReset s = false ∧ stream? s p x.hdr.stream = some x ∧
      x.hdr.purpose ∈ [1, 2, 3, 4, 5, 9] ∧ c ≤ (if tallyForm x.hdr then 32 else 16) ∧ o + c ≤ x.hdr.length ∧ x.hdr.length ≤ x.got + c ∧ x.tw = none ∧
      x.tap = p) ∧
    (∃ (s : State) (p : Nat), p < s.build.taps ∧ coreReset s = true) ∧
    (∃ (s : State) (p st : Nat) (x : Stream), p < s.build.taps ∧ stream? s p st = some x ∧ x.opened + 4096 ≤ now s) ∧
    (∃ (s : State) (p st : Nat) (x : Stream), p < s.build.taps ∧ stream? s p st = some x ∧ now s < x.opened + 4096) :=
  ⟨⟨streaming, 0, 4, by decide⟩, ⟨streaming, 0, 0, 16, aStream, by decide⟩,
   ⟨{ streaming with dgt := { up.dgt with streams := [{ aStream with got := 48 }] } }, 0, 48, 16, { aStream with got := 48 }, by decide⟩,
   ⟨{ streaming with pwr := { up.pwr with running := [{ domain := 2 }] } }, 0, by decide⟩,
   ⟨{ streaming with stk := { up.stk with stroke := 4096 } }, 0, 3, aStream, by decide⟩, ⟨streaming, 0, 3, aStream, by decide⟩⟩

def aTallyMsg : TallyMsg := {
  epoch := 7, kind := 1, coll := 1, step := 2, first := 0, digests := [9], count := 1, sat := 0, expD := 0 }
theorem wit_Tally : (∃ (s : State) (l d : Nat) (t : TallyMsg) (x : Tally), l < s.build.links ∧ memberOf s t.epoch = true ∧ isChild s t.epoch l = true ∧
      coreReset s = false ∧ t.digests = [d] ∧ s.dgt.tally = [x] ∧ tallyIs t.epoch t.coll t.step t.first x = true ∧ x.sent = false ∧
      x.reported ≠ [] ∧ allChildren s t.epoch (addNew x.reported l) = false) ∧
    (∃ (s : State) (l d : Nat) (t : TallyMsg) (x : Tally), l < s.build.links ∧ memberOf s t.epoch = true ∧ isChild s t.epoch l = true ∧
      coreReset s = false ∧ t.digests = [d] ∧ s.dgt.tally = [x] ∧ tallyIs t.epoch t.coll t.step t.first x = true ∧ x.sent = false ∧
      x.reported ≠ [] ∧ allChildren s t.epoch (addNew x.reported l) = true) ∧
    (∃ (s : State) (l : Nat) (t : TallyMsg), l < s.build.links ∧ memberOf s t.epoch = true ∧ isChild s t.epoch l = true ∧ coreReset s = true) ∧
    (∃ (s : State) (l : Nat) (t : TallyMsg), l < s.build.links ∧ memberOf s t.epoch = false) ∧
    (∃ (s : State) (x : Tally), s.dgt.tally = [x] ∧ x.coll = 1 ∧ x.step = 2 ∧ x.seg = 0 ∧ x.sent = false ∧ x.reported ≠ [] ∧
      x.firstAt + Nat.max 8 s.dgt.tallyWait ≤ now s) ∧
    (∃ (s : State) (x : Tally), s.dgt.tally = [x] ∧ now s < x.firstAt + Nat.max 8 s.dgt.tallyWait) ∧
    (∃ (s : State) (l d : Nat) (t : TallyMsg) (x : Tally), l < s.build.links ∧ memberOf s t.epoch = true ∧ isParent s t.epoch l = true ∧ t.digests = [d] ∧
      s.dgt.tally = [x] ∧ tallyIs t.epoch t.coll t.step t.first x = true ∧ x.judged = false ∧ x.sum = none) ∧
    (∃ (s : State) (e c p g a b d n k y : Nat) (x : Tally), tally? s e c p g = some x ∧ x.sum = some (a, n) ∧ x.total = some (b, d, k, y) ∧
      x.judged = false ∧ x.bad = true) ∧
    (∃ (s : State) (e c p g a b d n y : Nat) (x : Tally), tally? s e c p g = some x ∧ x.sum = some (a, n) ∧ x.total = some (b, d, 0, y) ∧
      x.judged = false ∧ x.bad = false ∧ d = x.nContrib ∧ collSat s e c p = 0 ∧ y = expDigest s e c p) ∧
    (∃ (s : State) (c p g a n : Nat) (x : Tally), s.dgt.tally = [x] ∧ x.coll = c ∧ x.step = p ∧ x.seg = g ∧ x.total = none ∧
      x.sum = some (a, n) ∧ x.judged = false ∧ n + 4096 ≤ now s) ∧
    (∃ (s : State) (a n : Nat) (x : Tally), s.dgt.tally = [x] ∧ x.sum = some (a, n) ∧ now s < n + 4096) :=
  ⟨⟨tallying { aTally with reported := [0] }, 0, 9, aTallyMsg, _, by decide, by decide, by decide, by decide, rfl, rfl, by decide⟩,
   ⟨tallying aTally, 0, 9, aTallyMsg, _, by decide, by decide, by decide, by decide, rfl, rfl, by decide⟩,
   ⟨{ tallying aTally with pwr := { up.pwr with running := [{ domain := 2 }] } }, 0, aTallyMsg, by decide⟩,
   ⟨up, 0, aTallyMsg, by decide⟩, ⟨{ tallying aTally with stk := { up.stk with stroke := 300 } }, _, rfl, by decide⟩, ⟨tallying aTally, _, rfl, by decide⟩,
   ⟨tallying aTally, 2, 9, aTallyMsg, _, by decide, by decide, by decide, rfl, rfl, by decide⟩,
   ⟨tallying { aTally with sum := some (9, 1), total := some (9, 2, 0, 0), bad := true }, 7, 1, 2, 0, 9, 9, 2, 1, 0, 0, _, rfl, by decide⟩,
   ⟨tallying { aTally with sum := some (9, 1), total := some (9, 2, 0, 0), nContrib := 2 }, 7, 1, 2, 0, 9, 9, 2, 1, 0, _, rfl, by decide⟩,
   ⟨{ tallying { aTally with sum := some (9, 1) } with stk := { up.stk with stroke := 5000 } }, 1, 2, 0, 9, 1, _, rfl, by decide⟩,
   ⟨tallying { aTally with sum := some (9, 1) }, 9, 1, _, rfl, by decide⟩⟩

def anExp : ExpMsg := { epoch := 7, coll := 1, step := 2, first := 0, kind := 1, exps := [3] }
def agreeing (own : Bool) (rep : List Nat) : State := { tallying aTally with
  dgt := { up.dgt with exps := [{ epoch := 7, coll := 1, step := 2, first := 0, acc := [1], own := own, reported := rep }] } }
def anXport : XportMsg := { epoch := 7, coll := 1, step := 2, hostLink := 3, seq := 4, sender := 5, digest := 9, elems := 16 }
def carrying (dg : Nat) : State := { inEpoch0 with
  dgt := { up.dgt with xports := [{ epoch := 7, coll := 1, step := 2, hostLink := 3, seq := 4, rx := true, closed := some 1, digest := dg, elems := 16 }] } }
theorem wit_Exp : (∃ (s : State) (l : Nat) (p : ExpMsg) (x : ExpAgree), l < s.build.links ∧ memberOf s p.epoch = true ∧ isChild s p.epoch l = true ∧
      coreReset s = false ∧ s.dgt.exps = [x] ∧ expIs p.epoch p.coll p.step p.first x = true ∧ x.sent = false ∧ x.own = false) ∧
    (∃ (s : State) (l : Nat) (p : ExpMsg) (x : ExpAgree), l < s.build.links ∧ memberOf s p.epoch = true ∧ isChild s p.epoch l = true ∧
      coreReset s = false ∧ s.dgt.exps = [x] ∧ expIs p.epoch p.coll p.step p.first x = true ∧ x.sent = false ∧ x.own = true ∧
      allChildren s p.epoch (addNew x.reported l) = true) ∧
    (∃ (s : State) (p : ExpMsg), (epoch? s p.epoch).isSome = true ∧ s.dgt.exps = [] ∧ allChildren s p.epoch [] = false) ∧
    (∃ (s : State) (l : Nat) (p : ExpMsg), l < s.build.links ∧ memberOf s p.epoch = true ∧ isChild s p.epoch l = true ∧ coreReset s = true) ∧
    (∃ (s : State) (l : Nat) (p : ExpMsg), l < s.build.links ∧ memberOf s p.epoch = false) ∧
    (∃ (s : State) (l : Nat) (p : ExpMsg), l < s.build.links ∧ memberOf s p.epoch = true ∧ isParent s p.epoch l = true ∧
      p.exps.any (fun x => x == -128) = false) ∧
    (∃ (s : State) (l : Nat) (p : ExpMsg), l < s.build.links ∧ memberOf s p.epoch = true ∧ isParent s p.epoch l = true ∧
      p.exps.any (fun x => x == -128) = true) ∧
    (∃ (s : State) (m : XportMsg), memberOf s m.epoch = true ∧ s.dgt.xportEn = true ∧
      s.dgt.xports.any (xportIs true m.coll m.step m.hostLink m.seq) = false) ∧
    (∃ (s : State) (m : XportMsg) (x : Xport) (c : Nat), memberOf s m.epoch = true ∧ s.dgt.xportEn = true ∧ s.dgt.xports = [x] ∧
      xportIs true m.coll m.step m.hostLink m.seq x = true ∧ x.closed = some c ∧ x.bad = false ∧ m.digest = x.digest ∧ m.elems = x.elems) ∧
    (∃ (s : State) (m : XportMsg) (x : Xport) (c : Nat), memberOf s m.epoch = true ∧ s.dgt.xportEn = true ∧ s.dgt.xports = [x] ∧
      xportIs true m.coll m.step m.hostLink m.seq x = true ∧ x.closed = some c ∧ x.bad = false ∧ m.digest ≠ x.digest) ∧
    (∃ (s : State) (m : XportMsg), memberOf s m.epoch = false) ∧
    (∃ (s : State) (a b h q c : Nat) (x : Xport), s.dgt.xports = [x] ∧ xportIs true a b h q x = true ∧ x.closed = some c ∧ x.msg = none ∧ c + 16 ≤ now s) ∧
    (∃ (s : State) (c : Nat) (x : Xport), s.dgt.xports = [x] ∧ x.closed = some c ∧ now s < c + 16) :=
  ⟨⟨agreeing false [], 0, anExp, _, by decide, by decide, by decide, by decide, rfl, by decide⟩,
   ⟨agreeing true [1], 0, anExp, _, by decide, by decide, by decide, by decide, rfl, by decide⟩,
   ⟨tallying aTally, anExp, by decide⟩,
   ⟨{ tallying aTally with pwr := { up.pwr with running := [{ domain := 2 }] } }, 0, anExp, by decide⟩, ⟨up, 0, anExp, by decide⟩,
   ⟨tallying aTally, 2, anExp, by decide⟩, ⟨tallying aTally, 2, { anExp with exps := [-128] }, by decide⟩, ⟨inEpoch0, anXport, by decide⟩,
   ⟨carrying 9, anXport, _, _, by decide, by decide, rfl, rfl, rfl, by decide⟩, ⟨carrying 8, anXport, _, _, by decide, by decide, rfl, rfl, rfl, by decide⟩,
   ⟨up, anXport, by decide⟩, ⟨{ carrying 9 with stk := { up.stk with stroke := 17 } }, 1, 2, 3, 4, 1, _, rfl, by decide⟩,
   ⟨carrying 9, 1, _, rfl, by decide⟩⟩

def marked (u : Nat) : State := { inEpoch0 with parts := [(0, { valid := true, state := 2, epoch := 7, count := 1, marks := [(u, 1)], firstMark := false })] }
theorem wit_Step : (∃ (s : State) (a : Access) (v : Word), reachesPart s a aDgtStep (fld v 53 48) = true ∧ s.dgt.repl = [] ∧ s.dgt.staged = [] ∧
      s.rcv.cfg.ckptSteps = 0 ∧ (part s (fld v 53 48)).marks = []) ∧
    (∃ (s : State) (a : Access) (v : Word) (u n : Nat), reachesPart s a aDgtStep (fld v 53 48) = true ∧ (part s (fld v 53 48)).marks = [(u, n)] ∧
      (part s (fld v 53 48)).firstMark = false ∧ fld v 47 0 ≠ u + 1) ∧
    (∃ (s : State) (a : Access) (v : Word) (u n : Nat), reachesPart s a aDgtStep (fld v 53 48) = true ∧ (part s (fld v 53 48)).marks = [(u, n)] ∧
      fld v 47 0 = u + 1) ∧
    (∃ (s : State) (a : Access) (v : Word), s.boot.inReset = false ∧ mayPart s a (fld v 53 48) = false) ∧
    (∃ (s : State) (a : Access) (v : Word), reachesPart s a aDgtCmd (fld v 55 50) = true ∧ fld v 62 59 = 1 ∧ fbit v 63 = true ∧
      (dcmd s a.slot).status ≠ dsBusy ∧ fld v 5 0 = 0) ∧
    (∃ (s : State) (a : Access) (v : Word), reachesPart s a aDgtCmd (fld v 55 50) = true ∧ fld v 62 59 = 2 ∧ fbit v 63 = true ∧
      (dcmd s a.slot).status ≠ dsBusy ∧ fld v 5 0 = 0) ∧
    (∃ (s : State) (a : Access) (v : Word), reachesPart s a aDgtCmd (fld v 55 50) = true ∧ fbit v 63 = true ∧ (dcmd s a.slot).status = dsBusy) ∧
    (∃ (s : State) (a : Access) (v : Word), reachesPart s a aDgtCmd (fld v 55 50) = true ∧ fbit v 63 = true ∧ (dcmd s a.slot).status ≠ dsBusy ∧ fld v 5 0 ≠ 0) ∧
    (∃ (s : State) (a : Access) (v : Word), reachesPart s a aDgtCmd (fld v 55 50) = true ∧ fbit v 63 = false) ∧
    (∃ (s : State) (a : Access) (v : Word) (b : List Byte) (l : List Repl), reachesPart s a aDgtCmd (fld v 55 50) = true ∧ fbit v 63 = true ∧
      (dcmd s a.slot).status ≠ dsBusy ∧ fld v 5 0 = 0 ∧ fld v 62 59 = 3 ∧
      replTable (fld v 55 50) (s.dgt.repl.filter (fun r => !(r.part == fld v 55 50))).length b = .inr l) :=
  ⟨⟨inEpoch0, slot0, 5, by decide⟩, ⟨marked 7, slot0, 5, 7, 1, by decide⟩, ⟨marked 4, slot0, 5, 4, 1, by decide⟩,
   ⟨up, { slot := 3, sec := false }, 0, by decide⟩, ⟨up, slot0, 0x8800000000000000, by decide⟩, ⟨up, slot0, 0x9000000000000000, by decide⟩,
   ⟨{ up with dgt := { up.dgt with cmds := [(0, { status := dsBusy })] } }, slot0, 0x8800000000000000, by decide⟩,
   ⟨up, slot0, 0x8800000000000001, by decide⟩, ⟨up, slot0, 0, by decide⟩, ⟨up, slot0, 0x9800000000000000, [], [], by decide +kernel⟩⟩

/-- Slot 3 seals or restores step 5 of partition 0. -/
def sealing (op strokes : Nat) : State := { inEpoch0 with
  parts := [(0, { valid := true, state := 2, epoch := 7, count := 1, marks := [(6, 4), (5, 1)], joined := 9 })]
  dgt := { up.dgt with cmds := [(3, { op := op, status := 1, running := true, step := 5 })] }, stk := { up.stk with stroke := strokes } }
theorem wit_Varn : (∃ (s : State) (n : Nat), n < 16 ∧ (dcmd s n).running = true ∧ (dcmd s n).op = 1 ∧
      stepTainted s (dcmd s n).part (dcmd s n).step = false ∧ committed s (dcmd s n).part (dcmd s n).step = true) ∧
    (∃ (s : State) (n : Nat), n < 16 ∧ (dcmd s n).running = true ∧ (dcmd s n).op = 1 ∧ stepTainted s (dcmd s n).part (dcmd s n).step = true) ∧
    (∃ (s : State) (n : Nat), n < 16 ∧ (dcmd s n).running = true ∧ (dcmd s n).op = 1 ∧ (dcmd s n).started + 10000 ≤ now s) ∧
    (∃ (s : State) (n : Nat), n < 16 ∧ (dcmd s n).running = true ∧ (dcmd s n).op = 2 ∧ (dcmd s n).started + 1000000 ≤ now s) ∧
    (∃ (s : State) (n : Nat), n < 16 ∧ (dcmd s n).running = false) ∧
    (∃ (s : State) (n : Nat), n < 16 ∧ now s < (dcmd s n).started + 10000 ∧ now s < (dcmd s n).started + 1000000) :=
  ⟨⟨sealing 1 9, 3, by decide⟩, ⟨{ sealing 1 9 with rcv := { up.rcv with blasts := [{ epoch := 7, f := 2, a := 2, written := true }] } }, 3, by decide⟩,
   ⟨sealing 1 10000, 3, by decide⟩, ⟨sealing 2 1000000, 3, by decide⟩, ⟨up, 0, by decide⟩, ⟨sealing 1 9, 3, by decide⟩⟩

def voting (v : List Vote) (w : List (Nat × Nat × Option Nat × Option Nat)) : State := { inEpoch0 with
  dgt := { up.dgt with repl := [{ part := 0, group := 1, shard := 2, n := 3, index := 0, root := 0, waits := w }], votes := v } }
def aShard (k : Nat) : ShardMsg := {
  epoch := 7, kind := 4, group := 1, step := 5, member := k, outcome := 0, shard := 2, reporting := 0, digest := 9, holding := 0, src := 3 }
def aVote : Vote := { epoch := 7, part := 0, group := 1, shard := 2, step := 5, firstAt := 0, reports := [(0, 0, 9), (1, 1, 9)] }
theorem wit_Vote : (∃ (s : State) (m : ShardMsg) (r : Repl), memberOf s m.epoch = true ∧ s.dgt.repl.find? (isGroup m.group m.shard) = some r ∧
      r.gone.contains m.member = false ∧ m.member < r.n ∧ s.dgt.votes = [] ∧ 1 < r.n - r.gone.length) ∧
    (∃ (s : State) (m : ShardMsg) (r : Repl) (v : Vote), memberOf s m.epoch = true ∧ s.dgt.repl.find? (isGroup m.group m.shard) = some r ∧
      r.gone.contains m.member = false ∧ m.member < r.n ∧ s.dgt.votes = [v] ∧ voteIs m.epoch m.group m.shard m.step v = true ∧
      v.closed = false ∧ v.reports.any (fun x => x.1 == m.member) = false ∧ r.n - r.gone.length ≤ v.reports.length + 1) ∧
    (∃ (s : State) (m : ShardMsg) (r : Repl) (v : Vote), memberOf s m.epoch = true ∧ s.dgt.repl.find? (isGroup m.group m.shard) = some r ∧
      s.dgt.votes.find? (voteIs m.epoch m.group m.shard m.step) = some v ∧ v.closed = true) ∧
    (∃ (s : State) (m : ShardMsg), memberOf s m.epoch = false) ∧
    (∃ (s : State) (g h t : Nat) (v : Vote) (r : Repl), s.dgt.votes.find? (fun v => v.group == g && v.shard == h && v.step == t && !v.closed) = some v ∧
      s.dgt.repl.find? (isGroup g h) = some r ∧ v.firstAt + Nat.max 16 s.dgt.replWait ≤ now s) ∧
    (∃ (s : State) (g h t : Nat) (v : Vote), s.dgt.votes.find? (fun v => v.group == g && v.shard == h && v.step == t && !v.closed) = some v ∧
      now s < v.firstAt + Nat.max 16 s.dgt.replWait) ∧
    (∃ (s : State) (m : ShardMsg) (r : Repl) (t d : Nat) (c : Option Nat), memberOf s m.epoch = true ∧ s.dgt.repl = [r] ∧
      isGroup m.group m.shard r = true ∧ r.waits = [(t, d, none, c)] ∧ low32 t = m.step ∧ m.outcome ≠ 2) :=
  ⟨⟨voting [] [], aShard 0, _, by decide, rfl, by decide⟩, ⟨voting [aVote] [], aShard 2, _, _, by decide, rfl, rfl, by decide, rfl, by decide⟩,
   ⟨voting [{ aVote with closed := true }] [], aShard 2, _, _, by decide, rfl, rfl, by decide⟩, ⟨up, aShard 0, by decide⟩,
   ⟨{ voting [aVote] [] with stk := { up.stk with stroke := 9000 } }, 1, 2, 5, _, _, rfl, rfl, by decide⟩, ⟨voting [aVote] [], 1, 2, 5, _, rfl, by decide⟩,
   ⟨voting [] [(5, 9, none, none)], aShard 0, _, 5, 9, none, by decide, rfl, by decide, rfl, by decide, by decide⟩⟩

/-- A signed RETURN block of a BLANK block. -/
def returnBlock : List Byte := bytes [0x44, 0x57, 0x52, 0x54, 4, 3] ++ zeros 10 ++ bytes [1] ++ zeros 207
theorem wit_Life : (∃ (s : State) (a : Access) (v : Word), reaches s a aPwrLcCmd = true ∧ fbit v 63 = false) ∧
    (∃ (s : State) (a : Access) (v : Word), reaches s a aPwrLcCmd = true ∧ fbit v 63 = true ∧ s.life.req.isSome = true) ∧
    (∃ (s : State) (a : Access) (v : Word), reaches s a aPwrLcCmd = true ∧ fbit v 63 = true ∧ s.life.req = none ∧ 5 < fld v 62 60) ∧
    (∃ (s : State) (a : Access) (v : Word), reaches s a aPwrLcCmd = true ∧ fbit v 63 = true ∧ fld v 62 60 = 1 ∧ s.life.req = none ∧
      fld v 47 0 % 64 = 0 ∧ lifeState s ≠ 2) ∧
    (∃ (s : State) (a : Access) (v : Word), reaches s a aPwrLcCmd = true ∧ fbit v 63 = true ∧ fld v 62 60 = 2 ∧ s.life.req = none) ∧
    (∃ (s : State) (a : Access) (v : Word) (b : MemRead), reaches s a aPwrLcCmd = true ∧ fbit v 63 = true ∧ fld v 62 60 = 3 ∧ s.life.req = none ∧
      returnCheck { s with life := { s.life with addr := fld v 47 0 } } b = plRunning) ∧
    (∃ (s : State) (a : Access) (v : Word) (b : MemRead), reaches s a aPwrLcCmd = true ∧ fbit v 63 = true ∧ fld v 62 60 = 3 ∧ s.life.req = none ∧
      returnCheck { s with life := { s.life with addr := fld v 47 0 } } b ≠ plRunning) ∧
    (∃ (s : State) (a : Access) (v : Word), reaches s a aPwrLcCmd = true ∧ fbit v 63 = true ∧ fld v 62 60 = 4 ∧ s.life.req = none) ∧
    (∃ (s : State) (a : Access) (v : Word), reaches s a aPwrLcCmd = true ∧ fbit v 63 = true ∧ fld v 62 60 = 5 ∧ s.life.req = none) :=
  ⟨⟨up, slot0, 0, by decide⟩, ⟨{ up with life := { up.life with req := some { addr := 0xA, bits := 1, op := 2 } } }, slot0, 0x8000000000000000, by decide⟩,
   ⟨up, slot0, 0xE000000000000000, by decide⟩, ⟨up, slot0, 0x9000000000000000, by decide⟩, ⟨up, slot0, 0xA000000000000000, by decide⟩,
   ⟨up, slot0, 0xB000000000000000, some returnBlock, by decide +kernel⟩, ⟨up, slot0, 0xB000000000000000, none, by decide⟩,
   ⟨up, slot0, 0xC000000000000000, by decide⟩, ⟨up, slot0, 0xD000000000000000, by decide⟩⟩

theorem wit_Burn : (∃ s : State, s.life.req = none) ∧ (∃ (s : State) (r q : OtpReq) (l : List OtpReq), s.life.req = some r ∧ s.life.queue = q :: l) ∧
    (∃ (s : State) (r : OtpReq), s.life.req = some r ∧ s.life.queue = [] ∧ r.op = 4) ∧
    (∃ (s : State) (r : OtpReq) (k : KeyStore), s.life.req = some r ∧ s.life.queue = [] ∧ r.op = 2 ∧ r.store = some k) ∧
    (∃ (s : State) (r : OtpReq), s.life.req = some r ∧ s.life.queue = [] ∧ r.op = 3) ∧
    (∃ s : State, lifeState s ≠ 1 ∧ s.life.scanOk = true) ∧ (∃ s : State, s.life.scanOk = false) :=
  ⟨⟨up, rfl⟩,
   ⟨{ up with life := { up.life with req := some { addr := 0x70, bits := 5, op := 2 }, queue := [{ addr := 0xA, bits := 1, op := 2 }] } }, _, _, _, rfl, rfl⟩,
   ⟨{ up with life := { up.life with req := some { addr := 0xA0, bits := 5, op := 4 } } }, _, rfl, rfl, rfl⟩,
   ⟨{ up with life := { up.life with req := some { addr := 0xA, bits := 1, op := 2, store := some {} } } }, _, _, rfl, rfl, rfl, rfl⟩,
   ⟨{ up with life := { up.life with req := some { addr := 0xA, bits := 2, op := 3 } } }, _, rfl, rfl, rfl⟩,
   ⟨{ up with life := { up.life with scanOk := true } }, by decide⟩, ⟨{ up with life := { up.life with scanOk := false } }, rfl⟩⟩

theorem wit_Hold : (∃ s : State, s.scr.hold = none ∧ s.boot.ready = true ∧ holdsSuspended s = false) ∧ (∃ s : State, s.boot.ready = false) ∧
    (∃ (s : State) (e : Nat), (s.gnd.golden.getD e {}).reference.isSome = true) ∧
    (∃ (s : State) (p : Nat) (h : Hold), p < s.build.ports ∧ s.scr.hold = some h ∧ h.port = p ∧ h.stage = 1 ∧ h.ending = none ∧ h.kind ≠ skMargin) ∧
    (∃ (s : State) (p : Nat) (h : Hold), p < s.build.ports ∧ s.scr.hold = some h ∧ h.port = p ∧ h.stage = 1 ∧ h.ending = none ∧ h.kind = skMargin ∧
      h.setup = false) ∧
    (∃ (s : State) (p : Nat), p < s.build.ports ∧ s.scr.hold = none) ∧
    (∃ (s : State) (h : Hold), s.scr.hold = some h ∧ h.stage = 1 ∧ h.granted = none ∧ h.ending = none ∧
      h.opened + Nat.max 4 s.scr.eff.grantWait ≤ now s ∧ (sent s h.port).sched.deferrals + 1 < 64 ∧ h.od = none) ∧
    (∃ (s : State) (h : Hold), s.scr.hold = some h ∧ now s < h.opened + Nat.max 4 s.scr.eff.grantWait) ∧
    (∃ (s : State) (p : Nat), p < s.build.ports ∧ (sent s p).sched.eligibleAt ≤ now s) ∧
    (∃ (s : State) (p : Nat), p < s.build.ports ∧ now s < (sent s p).sched.eligibleAt) ∧
    (∃ (s : State) (h : Hold) (g : Nat), s.scr.hold = some h ∧ h.granted = some g ∧ g + 200 ≤ now s ∧ h.ending = none ∧ h.awaiting = 0 ∧
      h.onStress = false ∧ h.dirty = false) ∧
    (∃ (s : State) (h : Hold) (g : Nat), s.scr.hold = some h ∧ h.granted = some g ∧ now s < g + 200) :=
  ⟨⟨screening, by decide⟩, ⟨up, by decide⟩, ⟨holding {} 0, 0, by decide⟩, ⟨holding { port := 2, kind := 3 } 1, 2, _, by decide, rfl, by decide⟩,
   ⟨holding { port := 2, kind := 5, setup := false } 1, 2, _, by decide, rfl, by decide⟩, ⟨up, 0, by decide⟩,
   ⟨holding { port := 2, kind := 3 } 9000, _, rfl, by decide⟩, ⟨holding { port := 2, kind := 3 } 1, _, rfl, by decide⟩, ⟨up, 0, by decide⟩,
   ⟨{ up with sents := [(2, { sched := { eligibleAt := 9 } })] }, 2, by decide⟩,
   ⟨holding { port := 2, kind := 3, stage := 4, granted := some 1 } 201, _, 1, rfl, by decide⟩,
   ⟨holding { port := 2, kind := 3, stage := 4, granted := some 1 } 200, _, 1, rfl, by decide⟩⟩

theorem wit_Run : (∃ (s : State) (h : Hold), s.scr.hold = some h ∧ runOn h = true ∧ h.dirty = false ∧ (holdEntry s h).kind ≠ skArith ∧
      (sent s (runPort h)).stretch = false) ∧
    (∃ (s : State) (h : Hold), s.scr.hold = some h ∧ runOn h = true ∧ h.dirty = true ∧ (holdEntry s h).kind ≠ skArith ∧
      (sent s (runPort h)).stretch = false) ∧
    (∃ (s : State) (h : Hold), s.scr.hold = some h ∧ runOn h = false) ∧ (∃ s : State, s.scr.hold = none) ∧
    (∃ (s : State) (h : Hold), s.scr.hold = some h ∧ h.run = 1) ∧
    (∃ (s : State) (w : Nat) (h : Hold), s.scr.hold = some h ∧ h.run = 2 ∧ h.observed.isSome = true ∧ pickWitness s h.port = some w) ∧
    (∃ (s : State) (h : Hold), s.scr.hold = some h ∧ h.run = 3) ∧
    (∃ (s : State) (h : Hold), s.scr.hold = some h ∧ h.stage = 7 ∧ h.witnessGranted = false ∧ h.ending = none ∧ h.witnessAt + 100 ≤ now s) ∧
    (∃ (s : State) (h : Hold), s.scr.hold = some h ∧ h.stage ≠ 7) ∧
    (∃ (s : State) (h : Hold) (p : Bool) (o : Nat), s.scr.hold = some h ∧ h.dirty = true ∧ h.march = some (p, o) ∧ h.ending = none ∧ h.second = false ∧
      canRestore s (runPort h) = true) ∧
    (∃ (s : State) (h : Hold), s.scr.hold = some h ∧ h.second = true ∧ h.dirty = true ∧ h.march.isSome = true ∧ canRestore s (runPort h) = true) :=
  ⟨⟨holding { port := 2, kind := 1, entry := 1, stage := 4 } 5, _, rfl, by decide⟩,
   ⟨holding { port := 2, kind := 2, entry := 1, stage := 4, dirty := true } 5, _, rfl, by decide⟩,
   ⟨holding { port := 2, kind := 1 } 5, _, rfl, by decide⟩, ⟨up, by decide⟩, ⟨holding { port := 2, kind := 1, stage := 4 } 5, _, rfl, by decide⟩,
   ⟨{ holding { port := 2, kind := 1, run := 2, stage := 6, observed := some 4 } 5 with
        gnd := { up.gnd with tiles := [(2, { state := 0, logical := 2 }), (3, { state := 0, logical := 3 })] }
        sents := [(2, { attached := true }), (3, { attached := true })] }, 3, _, rfl, by decide⟩,
   ⟨holding { port := 2, kind := 1, run := 3, stage := 7 } 5, _, rfl, by decide⟩, ⟨holding { port := 2, kind := 1, run := 3, stage := 7 } 105, _, rfl, by decide⟩,
   ⟨holding { port := 2, kind := 1, run := 3, stage := 4 } 105, _, rfl, by decide⟩,
   ⟨holding { port := 2, kind := 2, stage := 4, dirty := true, march := some (true, 5) } 5, _, _, _, rfl, by decide, rfl, by decide⟩,
   ⟨holding { port := 2, kind := 2, stage := 4, dirty := true, march := some (true, 5), second := true } 5, _, rfl, by decide⟩⟩

def testing (x : Analog) : State := { screening with
  scr := { screening.scr with analog := some x }, gnd := { up.gnd with golden := [{ pattern := 0, kind := 4, enabled := true }] } }
theorem wit_Stress : (∃ (s : State) (h : Hold) (m : Int) (f : Nat), s.scr.hold = some h ∧ h.awaiting = 1 ∧ ¬(m = 0 ∧ f = 0) ∧ m.natAbs ≤ h.askMv.natAbs ∧
      f ≤ h.askFreq) ∧
    (∃ (s : State) (h : Hold) (f : Nat), s.scr.hold = some h ∧ h.awaiting = 1 ∧ h.askFreq < f ∧ h.stressAt + s.scr.eff.stressWait ≤ now s) ∧
    (∃ (s : State) (h : Hold), s.scr.hold = some h ∧ h.awaiting = 2 ∧ h.ending = none) ∧
    (∃ (s : State) (h : Hold) (o c : Nat), s.scr.hold = some h ∧ h.awaiting = 2 ∧ h.ending = some (o, c) ∧ h.dirty = false) ∧
    (∃ s : State, s.scr.hold = none ∧ s.scr.analog = none) ∧
    (∃ (s : State) (h : Hold) (r : Nat), s.scr.hold = some h ∧ h.stage = 2 ∧ h.ending = none ∧ Nat.min 30 s.scr.eff.heatDelta ≤ r ∧
      h.heatAt + s.scr.eff.heatMax ≤ now s) ∧
    (∃ (s : State) (h : Hold), s.scr.hold = some h ∧ h.stage ≠ 2 ∧ h.awaiting ≠ 1) ∧
    (∃ (s : State) (i : Nat), analogReady s i = true) ∧ (∃ (s : State) (i : Nat), analogReady s i = false) ∧
    (∃ (s : State) (x : Analog), s.scr.analog = some x ∧ x.reg = 0) ∧
    (∃ (s : State) (x : Analog), s.scr.analog = some x ∧ x.reg = 1 ∧ x.loopback = false) ∧
    (∃ (s : State) (x : Analog), s.scr.analog = some x ∧ x.reg = 4) :=
  ⟨⟨holding { port := 2, kind := 5, awaiting := 1, askMv := -40, askFreq := 3 } 5, _, -20, 2, rfl, by decide⟩,
   ⟨holding { port := 2, kind := 5, awaiting := 1, stressAt := 1 } 100000000, _, 1, rfl, by decide⟩,
   ⟨holding { port := 2, kind := 5, awaiting := 2 } 5, _, rfl, by decide⟩, ⟨holding { port := 2, kind := 5, awaiting := 2, ending := some (7, 5) } 5, _, 7, 5, rfl, by decide⟩,
   ⟨up, by decide⟩, ⟨holding { port := 2, kind := 5, stage := 2 } 100000000, _, 30, rfl, by decide⟩, ⟨holding { port := 2, kind := 3 } 5, _, rfl, by decide⟩,
   ⟨{ testing {} with scr := { (testing {}).scr with analog := none, analogTodo := [0] } }, 0, by decide⟩, ⟨up, 0, by decide⟩,
   ⟨testing { entry := 0, reg := 0 }, _, rfl, rfl⟩, ⟨testing { entry := 0, reg := 1 }, _, rfl, rfl, rfl⟩, ⟨testing { entry := 0, reg := 4 }, _, rfl, rfl⟩⟩

def relaying (r : VRelay) (strokes : Nat) : State := { tallying aTally with
  rcv := { up.rcv with relays := [r] }, stk := { up.stk with stroke := strokes, phase := 2 } }
def aVerdict : VerdictMsg := {
  epoch := 7, stroke := 5, kind := 1, worst := 0, kinds := [], blocks := 1, members := 3, nfail := 0, uncovered := 0, checks := 1, chips := [] }
theorem wit_Verd : (∃ (s : State) (l : Nat) (v : VerdictMsg) (r : VRelay), l < s.build.links ∧ memberOf s v.epoch = true ∧ isChild s v.epoch l = true ∧
      coreReset s = false ∧ s.rcv.relays = [r] ∧ relayIs v.epoch v.stroke r = true ∧ r.sent = false ∧ r.own = false) ∧
    (∃ (s : State) (l : Nat) (v : VerdictMsg) (r : VRelay), l < s.build.links ∧ memberOf s v.epoch = true ∧ isChild s v.epoch l = true ∧
      coreReset s = false ∧ s.rcv.relays = [r] ∧ relayIs v.epoch v.stroke r = true ∧ r.sent = false ∧ r.own = true ∧
      allChildren s v.epoch (addNew r.reported l) = true ∧ 2 ≤ s.stk.phase) ∧
    (∃ (s : State) (l : Nat) (v : VerdictMsg), l < s.build.links ∧ memberOf s v.epoch = true ∧ isChild s v.epoch l = true ∧ coreReset s = true) ∧
    (∃ (s : State) (l : Nat) (v : VerdictMsg), l < s.build.links ∧ memberOf s v.epoch = false) ∧
    (∃ (s : State) (e n : Nat) (r : VRelay), relay? s e n = some r ∧ r.sent = false ∧ n + Nat.max 3 s.gnd.h ≤ now s) ∧
    (∃ (s : State) (n : Nat), now s < n + Nat.max 3 s.gnd.h) ∧
    (∃ (s : State) (e n : Nat) (r : VRelay) (x : Epoch), relay? s e n = some r ∧ epoch? s e = some x ∧ isRoot x = false) ∧
    (∃ (s : State) (l : Nat) (v : VerdictMsg), l < s.build.links ∧ memberOf s v.epoch = true ∧ isParent s v.epoch l = true) ∧
    (∃ (s : State) (e f : Nat) (x : Epoch), epoch? s e = some x ∧ x.failedAt = some f ∧ nextVerify x ≤ f) ∧
    (∃ (s : State) (e n : Nat) (x : Epoch), epoch? s e = some x ∧ partsIn s e ≠ [] ∧ x.first ≤ n ∧ n + 2 * Nat.max 3 s.gnd.h ≤ now s ∧
      n + Nat.max 3 s.gnd.h ≤ now s ∧ downComplete s e n = false ∧ x.missWritten.contains n = false ∧ x.lostRaised.contains n = false) ∧
    (∃ (s : State) (e n : Nat), downComplete s e n = true) :=
  ⟨⟨relaying { epoch := 7, stroke := 5, acc := noVerdict 7 5 3 } 6, 0, aVerdict, _, by decide, by decide, by decide, by decide, rfl, by decide⟩,
   ⟨relaying { epoch := 7, stroke := 5, acc := noVerdict 7 5 3, own := true, reported := [1] } 6, 0, aVerdict, _, by decide, by decide, by decide, by decide, rfl, by decide⟩,
   ⟨{ tallying aTally with pwr := { up.pwr with running := [{ domain := 2 }] } }, 0, aVerdict, by decide⟩, ⟨up, 0, aVerdict, by decide⟩,
   ⟨relaying { epoch := 7, stroke := 5, acc := noVerdict 7 5 3 } 5000, 7, 5, _, rfl, by decide⟩, ⟨up, 1, by decide⟩, ⟨relaying { epoch := 7, stroke := 5, acc := noVerdict 7 5 3 } 5000, 7, 5, _, _, rfl, rfl, by decide⟩,
   ⟨tallying aTally, 2, aVerdict, by decide⟩, ⟨{ up with epochs := [{ id := 7, failedAt := some 9 }] }, 7, 9, _, rfl, by decide⟩,
   ⟨relaying { epoch := 7, stroke := 5, acc := noVerdict 7 5 3 } 5000, 7, 5, _, rfl, by decide⟩,
   ⟨relaying { epoch := 7, stroke := 5, acc := noVerdict 7 5 3, down := some { aVerdict with blocks := 3 } } 6, 7, 5, by decide⟩⟩

theorem wit_Quar : (∃ (s : State) (i : Nat) (b : Blast), s.rcv.blasts[i]? = some b ∧ b.q.isSome = true ∧ b.written = false) ∧
    (∃ (s : State) (i : Nat) (b : Blast), s.rcv.blasts[i]? = some b ∧ b.q.isSome = true ∧ b.written = true ∧ b.revise = true) ∧
    (∃ (s : State) (i : Nat) (b : Blast), s.rcv.blasts[i]? = some b ∧ b.q = none ∧ now s < b.f + 1000) ∧
    (∃ (s : State) (i : Nat), s.rcv.blasts[i]? = none) ∧
    (∃ (s : State) (a : Access) (v : Word), reaches s a aRcvQuar = true ∧ fbit v 63 = true ∧ fld v 62 60 ≠ 1) ∧
    (∃ (s : State) (a : Access) (v : Word), reaches s a aRcvQuar = true ∧ fbit v 63 = true ∧ fld v 62 60 = 1 ∧ fld v 55 44 < 0x800) ∧
    (∃ (s : State) (a : Access) (v : Word) (p : Nat), reaches s a aRcvQuar = true ∧ fbit v 63 = true ∧ fld v 62 60 = 1 ∧ fld v 55 44 = 0x800 + p ∧
      nodeUsed s (0x800 + p) = true ∧ (tile s p).state = tsActive) ∧
    (∃ (s : State) (a : Access) (v : Word), reaches s a aScrRun = true ∧ fbit v 63 = true ∧ fld v 62 60 ≠ skAnalog ∧ fld v 55 44 < 0x800) ∧
    (∃ (s : State) (a : Access) (v : Word) (p : Nat) (r : OnDemand), reaches s a aScrRun = true ∧ fbit v 63 = true ∧ fld v 62 60 ≠ skAnalog ∧
      fld v 55 44 = 0x800 + p ∧ tested s p = true ∧
      r = { port := p, kind := fld v 62 60, pattern := fld v 31 16, issued := if s.stk.phase == 0 then now s else now s + 1 } ∧
      fld v 62 60 ≠ 0 ∧ fld v 62 60 ≤ 5 ∧ (requestEntry s r).isSome = true ∧ holdsSuspended s = false) ∧
    (∃ (s : State) (a : Access) (v : Word) (p : Nat) (r : OnDemand), reaches s a aScrRun = true ∧ fbit v 63 = true ∧ fld v 62 60 ≠ skAnalog ∧
      fld v 55 44 = 0x800 + p ∧ tested s p = true ∧
      r = { port := p, kind := fld v 62 60, pattern := fld v 31 16, issued := if s.stk.phase == 0 then now s else now s + 1 } ∧
      fld v 62 60 ≠ 0 ∧ fld v 62 60 ≤ 5 ∧ (requestEntry s r).isSome = true ∧ holdsSuspended s = true) ∧
    (∃ (s : State) (p : Nat), p < s.build.ports ∧ s.scr.cfg.trimEn = false) ∧
    (∃ (s : State) (p : Nat), p < s.build.ports ∧ s.scr.cfg.trimEn = true ∧ (sent s p).attached = true ∧ 10000 ≤ (sent s p).canary.below ∧
      (sent s p).canary.lastTrim = none ∧ s.scr.hold = none) ∧
    (∃ (s : State) (p : Nat) (h : Hold), p < s.build.ports ∧ s.scr.cfg.trimEn = true ∧ (sent s p).attached = true ∧ 10000 ≤ (sent s p).canary.below ∧
      (sent s p).canary.lastTrim = none ∧ s.scr.hold = some h ∧ h.port = p) :=
  ⟨⟨{ up with rcv := { up.rcv with blasts := [{ q := some 3 }] } }, 0, _, rfl, rfl, rfl⟩,
   ⟨{ up with rcv := { up.rcv with blasts := [{ q := some 3, written := true, revise := true }] } }, 0, _, rfl, rfl, rfl, rfl⟩,
   ⟨{ up with rcv := { up.rcv with blasts := [{ f := 3 }] } }, 0, _, rfl, rfl, by decide⟩, ⟨up, 0, rfl⟩, ⟨up, slot0, 0xA000000000000000, by decide⟩,
   ⟨up, slot0, 0x9000000000000000, by decide⟩, ⟨inEpoch0, slot0, 0x9080200000000000, 2, by decide⟩, ⟨up, slot0, 0x9000000000000000, by decide⟩,
   ⟨screening, slot0, 0xB0802000FFFF0000, 2, _, by decide, by decide, by decide, by decide, by decide, rfl, by decide⟩,
   ⟨{ screening with pwr := { up.pwr with shedSlices := true } }, slot0, 0xB0802000FFFF0000, 2, _, by decide, by decide, by decide, by decide, by decide, rfl, by decide⟩,
   ⟨{ up with scr := { up.scr with cfg := { up.scr.cfg with trimEn := false } } }, 0, by decide⟩,
   ⟨{ up with scr := { up.scr with cfg := { up.scr.cfg with trimEn := true } }, sents := [(2, { attached := true, canary := { below := 10000 } })] }, 2, by decide⟩,
   ⟨{ up with
        scr := { up.scr with cfg := { up.scr.cfg with trimEn := true }, hold := some { port := 2 } }
        sents := [(2, { attached := true, canary := { below := 10000 } })] }, 2, _, by decide, by decide, by decide, by decide, by decide, rfl, rfl⟩⟩

/-- A context bound to partition 1 on port 2, and a gate. -/
def gating (g : List Gate) : State := { inEpoch0 with
  gnd := { up.gnd with tiles := [(2, { state := 0, part := 1, logical := 2 })] }
  rcv := { up.rcv with ctxs := [(5, { state := 1, parts := [1], ports := [2] }), (6, { state := 1, parts := [0], ports := [2] })], gates := g } }
theorem wit_Prog : (∃ (s : State) (p n : Nat), p < s.build.ports ∧ n < 4 ∧ (sent s p).attached = true ∧ (prog s p n).ctx = 0) ∧
    (∃ (s : State) (p n : Nat), p < s.build.ports ∧ n < 4 ∧ (sent s p).attached = false) ∧
    (∃ (s : State) (p n : Nat), p < s.build.ports ∧ n < 4 ∧ (sent s p).attached = true ∧ (prog s p n).ctx ≠ 4095) ∧
    (∃ (s : State) (a : Access) (v : Word), reaches s a aRcvGate = true ∧ fbit v 63 = false) ∧
    (∃ (s : State) (a : Access) (v : Word), reaches s a aRcvGate = true ∧ fbit v 63 = true ∧ fld v 62 61 = 1 ∧ (ctx s (fld v 55 44)).parts = []) ∧
    (∃ (s : State) (a : Access) (v : Word) (c : Nat), reaches s a aRcvGate = true ∧ fbit v 63 = true ∧ fld v 62 61 = 1 ∧ fld v 55 44 = c ∧
      (ctx s c).parts ≠ [] ∧ (ctx s c).parts.any (fun k => (part s k).state == psPending || inEpoch (part s k)) = true) ∧
    (∃ (s : State) (a : Access) (v : Word) (c : Nat), reaches s a aRcvGate = true ∧ fbit v 63 = true ∧ fld v 62 61 = 1 ∧ fld v 55 44 = c ∧
      (ctx s c).parts ≠ [] ∧ (ctx s c).parts.any (fun k => (part s k).state == psPending || inEpoch (part s k)) = false ∧
      gate? s c = none ∧ (ctx s c).state ≠ cxTearing) ∧
    (∃ (s : State) (a : Access) (v : Word), reaches s a aRcvGate = true ∧ fld v 62 61 = 2 ∧ fbit v 63 = true ∧ gate? s (fld v 55 44) = none ∧
      (ctx s (fld v 55 44)).parts ≠ []) ∧
    (∃ (s : State) (a : Access) (v : Word), reaches s a aRcvGate = true ∧ fld v 62 61 = 3 ∧ fbit v 63 = true ∧ gate? s (fld v 55 44) = none ∧
      (ctx s (fld v 55 44)).parts ≠ []) ∧
    (∃ (s : State) (a : Access) (v : Word) (g : Gate), reaches s a aRcvGate = true ∧ fbit v 63 = true ∧ fld v 62 61 = 2 ∧
      gate? s (fld v 55 44) = some g ∧ g.stepping = [] ∧ g.holding = []) ∧
    (∃ (s : State) (a : Access) (v : Word) (g : Gate), reaches s a aRcvGate = true ∧ fbit v 63 = true ∧ fld v 62 61 = 3 ∧
      gate? s (fld v 55 44) = some g) ∧
    (∃ (s : State) (p : Nat) (g : Gate), p < s.build.ports ∧ s.rcv.gates = [g] ∧ g.stepping = [p]) ∧
    (∃ (s : State) (p : Nat), p < s.build.ports ∧ s.rcv.gates.find? (fun g => g.stepping.contains p) = none) :=
  ⟨⟨inEpoch0, 2, 3, by decide⟩, ⟨up, 2, 0, by decide⟩, ⟨inEpoch0, 2, 3, by decide⟩, ⟨up, slot0, 0, by decide⟩, ⟨up, slot0, 0xA000000000000000, by decide⟩,
   ⟨gating [], slot0, 0xA000600000000000, 6, by decide⟩, ⟨gating [], slot0, 0xA000500000000000, 5, by decide⟩,
   ⟨gating [], slot0, 0xC000500000000000, by decide⟩, ⟨gating [], slot0, 0xE000500000000000, by decide⟩,
   ⟨gating [{ ctx := 5, ports := [2] }], slot0, 0xC000500000000000, _, by decide, by decide, by decide, rfl, rfl, rfl⟩,
   ⟨gating [{ ctx := 5, ports := [2] }], slot0, 0xE000500000000000, _, by decide, by decide, by decide, rfl⟩,
   ⟨gating [{ ctx := 5, ports := [2], stepping := [2] }], 2, _, by decide, rfl, rfl⟩, ⟨up, 2, by decide⟩⟩

def fencing (op : Nat) (decided : Bool) : State := { gating [] with
  sents := [(2, { attached := true, fence := { req := true, op := op, ctx := 5, decided := decided, teardown := 1 } })]
  rcv := { (gating []).rcv with
    fabric := { req := true, op := op, ctx := 5, decided := decided, teardown := 1 }
    teardowns := [{ id := 1, ctx := 5, parts := [1], ctxs := [5], ports := [2], fabric := true }] } }
theorem wit_Tear : (∃ (s : State) (a : Access) (v : Word), reaches s a aRcvFence = true ∧ fbit v 63 = false) ∧
    (∃ (s : State) (a : Access) (v : Word), reaches s a aRcvFence = true ∧ fbit v 63 = true ∧ fld v 62 61 = 1 ∧ (ctx s (fld v 55 44)).parts ≠ []) ∧
    (∃ (s : State) (a : Access) (v : Word), reaches s a aRcvFence = true ∧ fbit v 63 = true ∧ fld v 62 61 = 2 ∧ (part s (fld v 43 38)).valid = true) ∧
    (∃ (s : State) (a : Access) (v : Word), reaches s a aRcvFence = true ∧ fbit v 63 = true ∧ fld v 62 61 = 0) ∧
    (∃ (s : State) (c : Nat), s.rcv.teardowns.any (fun t => coversTd t false c []) = true) ∧
    (∃ (s : State) (p : Nat), p < s.build.ports ∧ p ≠ 2048 ∧ (sent s p).fence.req = false) ∧
    (∃ (s : State) (p : Nat), p < s.build.ports ∧ p ≠ 2048 ∧ (sent s p).fence.req = true ∧ (sent s p).fence.decided = false ∧ (sent s p).fence.op ≠ opGate) ∧
    (∃ (s : State) (p : Nat), p < s.build.ports ∧ (sent s p).fence.req = true ∧ (sent s p).fence.decided = false ∧ (sent s p).fence.op = opGate) ∧
    (∃ s : State, s.rcv.fabric.decided = true) ∧ (∃ s : State, s.rcv.fabric.req = true ∧ s.rcv.fabric.decided = false) ∧
    (∃ (s : State) (id : Nat) (t : Teardown), teardown? s id = some t) :=
  ⟨⟨up, slot0, 0, by decide⟩, ⟨gating [], slot0, 0xA000500000000000, by decide⟩, ⟨gating [], slot0, 0xC000000000000000, by decide⟩,
   ⟨up, slot0, 0x8000000000000000, by decide⟩, ⟨fencing 1 false, 5, by decide⟩, ⟨up, 0, by decide⟩, ⟨fencing 1 false, 2, by decide⟩, ⟨fencing 3 false, 2, by decide⟩,
   ⟨fencing 1 true, by decide⟩, ⟨fencing 1 false, by decide⟩, ⟨fencing 1 false, 1, _, rfl⟩⟩

def laddering (xs : List Ladder) (high : Bool) : State := { inEpoch0 with
  gnd := { inEpoch0.gnd with policy := { up.gnd.policy with ladderMax := 5 } }
  sents := [(2, { attached := true, rstReq := high })]
  rcv := { up.rcv with ladders := xs, cycleReq := high, cycleAt := some 0 } }
theorem wit_Lad : (∃ (s : State) (a : Access) (v : Word), reaches s a aRcvLadder = true ∧ fbit v 63 = false) ∧
    (∃ (s : State) (a : Access) (v : Word), reaches s a aRcvLadder = true ∧ fbit v 63 = true ∧ fld v 62 60 < 2) ∧
    (∃ (s : State) (a : Access) (v : Word), reaches s a aRcvLadder = true ∧ fbit v 63 = true ∧ 2 ≤ fld v 62 60 ∧ fld v 62 60 ≤ 5 ∧
      s.gnd.policy.ladderMax < fld v 62 60) ∧
    (∃ (s : State) (a : Access) (v : Word), reaches s a aRcvLadder = true ∧ fbit v 63 = true ∧ fld v 62 60 = 2 ∧ 2 ≤ s.gnd.policy.ladderMax ∧
      fld v 55 44 = 0x800 + 2 ∧ fencePort s 2 = true) ∧
    (∃ (s : State) (a : Access) (v : Word), reaches s a aRcvLadder = true ∧ fbit v 63 = true ∧ fld v 62 60 = 3 ∧ 3 ≤ s.gnd.policy.ladderMax ∧
      (part s (fld v 43 38)).valid = true) ∧
    (∃ (s : State) (a : Access) (v w : Word), reaches s a aRcvLadder = true ∧ fbit v 63 = true ∧ fld v 62 60 = 4 ∧ fbit w 63 = true ∧ fld w 62 60 = 5 ∧
      5 ≤ s.gnd.policy.ladderMax ∧ s.rcv.ladders = []) ∧
    (∃ (s : State) (l p k : Nat), s.rcv.ladders.any (fun x => !x.superseded && covers s x l p k) = true) ∧
    (∃ (s : State) (p : Nat), p < s.build.ports ∧ (sent s p).rstReq = false) ∧
    (∃ (s : State) (p : Nat) (x : Ladder), p < s.build.ports ∧ (sent s p).rstReq = true ∧
      s.rcv.ladders.find? (fun x => x.level == 2 && x.port == p && !x.superseded && !x.waiting) = some x) ∧
    (∃ s : State, s.rcv.pmReq = none) ∧ (∃ (s : State) (id : Nat), s.rcv.pmReq = some id) ∧
    (∃ (s : State) (i : Nat) (x : Ladder), s.rcv.ladders[i]? = some x ∧ x.superseded = false ∧ x.level ≤ 4) ∧
    (∃ (s : State) (n : Nat), s.rcv.cycleAt = some n ∧ s.rcv.cycleReq = false ∧ allCommitted s = true) ∧
    (∃ s : State, s.rcv.cycleReq = true) ∧
    (∃ (s : State) (x : Ladder), s.rcv.ladders.find? (fun x => x.level == 5) = some x ∧ s.rcv.cycleReq = true) :=
  ⟨⟨up, slot0, 0, by decide⟩, ⟨up, slot0, 0x8000000000000000, by decide⟩,
   ⟨{ up with gnd := { up.gnd with policy := { up.gnd.policy with ladderMax := 4 } } }, slot0, 0xD000000000000000, by decide⟩,
   ⟨laddering [] false, slot0, 0xA080200000000000, by decide⟩, ⟨laddering [] false, slot0, 0xB000000000000000, by decide⟩,
   ⟨laddering [] false, slot0, 0xC000000000000000, 0xD000000000000000, by decide⟩, ⟨laddering [{ level := 4 }] false, 2, 2, 0, by decide⟩, ⟨up, 0, by decide⟩,
   ⟨laddering [{ level := 2, port := 2 }] true, 2, _, by decide, by decide, rfl⟩, ⟨up, rfl⟩, ⟨{ up with rcv := { up.rcv with pmReq := some 1 } }, 1, rfl⟩,
   ⟨laddering [{ level := 2, port := 2 }] true, 0, _, rfl, by decide⟩, ⟨laddering [] false, 0, by decide⟩, ⟨laddering [] true, by decide⟩,
   ⟨laddering [{ level := 5 }] true, _, rfl, by decide⟩⟩

def anAlarm (e : Nat) : AlarmMsg := {
  epoch := e, originStroke := 1, abortAt := 9, cause := 1, reach := 4, seq := 1, origin := 5, node := 0, part := 0, detail := [] }
def aJoin (leave : Bool) : JoinBlk := {
  leave := leave, epoch := 9, members := 3, parts := [0], stroke := 12, parent := 2, children := [], restore := 0, config := [], seed := none, sigOk := true }
def leaving (x : Part) (strokes : Nat) : State := { inEpoch0 with parts := [(0, x)], stk := { up.stk with stroke := strokes } }
theorem wit_Ep : (∃ (s : State) (a : Access) (v : Word), reaches s a aRcvJoin = true ∧ reaches s a aRcvAlarm = true ∧ fbit v 63 = false) ∧
    (∃ (s : State) (a : Access) (v : Word), reaches s a aRcvJoin = true ∧ reaches s a aRcvAlarm = true ∧ fbit v 63 = true) ∧
    (∃ (s : State) (k : Nat) (y : JoinBlk), y.leave = false ∧ y.parts = [k] ∧ epoch? s y.epoch = none ∧ inEpoch (part s k) = false) ∧
    (∃ (k : Nat) (y : JoinBlk), y.leave = true ∧ y.parts = [k]) ∧
    (∃ (s : State) (k e n : Nat), k < 64 ∧ (part s k).pending = some (e, n) ∧ (part s k).state = psPending ∧ n ≤ now s) ∧
    (∃ (s : State) (k e n : Nat), k < 64 ∧ (part s k).pending = some (e, n) ∧ now s < n) ∧
    (∃ (s : State) (k n : Nat), k < 64 ∧ (part s k).leaveAt = some n ∧ n ≤ now s ∧ inEpoch (part s k) = true) ∧
    (∃ (s : State) (k n : Nat), k < 64 ∧ (part s k).leaveAt = some n ∧ now s < n) ∧
    (∃ (s : State) (l : Nat) (m : AlarmMsg), l < s.build.links ∧ m.epoch = 0) ∧
    (∃ (s : State) (l : Nat) (m : AlarmMsg), l < s.build.links ∧ m.epoch ≠ 0 ∧ m.originStroke + 128 < now s) ∧
    (∃ (s : State) (l : Nat) (m : AlarmMsg), l < s.build.links ∧ m.epoch ≠ 0 ∧ now s ≤ m.originStroke + 128 ∧ alarmKnown s m = false) ∧
    (∃ (s : State) (e t : Nat) (x : Epoch), epoch? s e = some x ∧ x.abortAt = some t ∧ t ≤ now s) ∧
    (∃ (s : State) (e t : Nat) (x : Epoch), epoch? s e = some x ∧ x.abortAt = some t ∧ now s < t) :=
  ⟨⟨up, slot0, 0, by decide⟩, ⟨up, slot0, 0x8000000000000000, by decide⟩, ⟨leaving { valid := true } 1, 0, aJoin false, by decide⟩, ⟨0, aJoin true, by decide⟩,
   ⟨leaving { valid := true, state := psPending, pending := some (9, 3) } 3, 0, 9, 3, by decide⟩,
   ⟨leaving { valid := true, state := psPending, pending := some (9, 3) } 2, 0, 9, 3, by decide⟩,
   ⟨leaving { valid := true, state := 2, epoch := 7, leaveAt := some 3 } 3, 0, 3, by decide⟩,
   ⟨leaving { valid := true, state := 2, epoch := 7, leaveAt := some 3 } 2, 0, 3, by decide⟩, ⟨up, 0, anAlarm 0, by decide⟩,
   ⟨leaving {} 130, 0, anAlarm 7, by decide⟩, ⟨leaving {} 129, 0, anAlarm 7, by decide⟩,
   ⟨{ leaving {} 9 with epochs := [{ id := 7, abortAt := some 9 }] }, 7, 9, _, rfl, by decide⟩,
   ⟨{ leaving {} 8 with epochs := [{ id := 7, abortAt := some 9 }] }, 7, 9, _, rfl, by decide⟩⟩

def asking3 (q : Part) (ck strokes : Nat) : State := { leaving q strokes with
  rcv := { up.rcv with ckpt := ck }, gnd := { up.gnd with policy := { up.gnd.policy with ckptInterval := 100 } } }
theorem wit_Ckpt : (∃ (s : State) (k : Nat), k < 64 ∧ (part s k).state = psMember ∧ (part s k).ckptDone = false ∧ s.rcv.cfg.ckptSteps = 0 ∧
      ckptFrom (part s k) + s.gnd.policy.ckptInterval ≤ now s ∧ (part s k).valid = true) ∧
    (∃ (s : State) (k : Nat), k < 64 ∧ (part s k).ckptDone = true) ∧
    (∃ (s : State) (k n : Nat), k < 64 ∧ (part s k).ckptSince = some n ∧ bitOf s.rcv.ckpt k = true ∧ (part s k).ckptOverdue = false ∧
      n + s.gnd.policy.ckptInterval ≤ now s) ∧
    (∃ (s : State) (k : Nat), k < 64 ∧ (part s k).ckptSince = none) :=
  ⟨⟨asking3 { valid := true, state := 2 } 0 100, 0, by decide⟩, ⟨asking3 { ckptDone := true } 0 100, 0, by decide⟩,
   ⟨asking3 { ckptSince := some 3 } 1 103, 0, 3, by decide⟩, ⟨up, 0, by decide⟩⟩

theorem wit_Train : (∃ (s : State) (n : Nat), n < 2 * s.build.links ∧ laneEnable s n = true ∧ (link s (n / 2)).state = lsWaitPhy) ∧
    (∃ (s : State) (n : Nat), n < 2 * s.build.links ∧ laneEnable s n = true ∧ (link s (n / 2)).state = lsAlign) ∧
    (∃ (s : State) (n : Nat), n < 2 * s.build.links ∧ laneEnable s n = false) ∧
    (∃ (s : State) (n : Nat), n < 2 * s.build.links ∧ (link s (n / 2)).state = lsAlign ∧ isTunnel s (n / 2) = false ∧
      without (link s (n / 2)).lanes (n % 2) = []) ∧
    (∃ (s : State) (n : Nat), n < 2 * s.build.links ∧ (link s (n / 2)).state = lsAlign ∧ isTunnel s (n / 2) = false ∧
      without (link s (n / 2)).lanes (n % 2) ≠ []) ∧
    (∃ (s : State) (n : Nat), n < 2 * s.build.links ∧ (link s (n / 2)).state ≠ lsAlign) ∧
    (∃ (s : State) (l : Nat), l < s.build.links ∧ (link s l).state = lsAlign ∧ (link s l).width = 0 ∧ (link s l).lanes.length = 1 ∧
      ticking s = true ∧ (link s l).lockAt + s.wch.eff.trainWait / 4 = now s) ∧
    (∃ (s : State) (l : Nat), l < s.build.links ∧ 1 ≤ (link s l).state ∧ (link s l).state ≤ 4 ∧
      strokesPassed s (link s l).since s.wch.eff.trainWait = true) ∧
    (∃ (s : State) (l : Nat), l < s.build.links ∧ (link s l).state = 0) ∧
    (∃ (s : State) (l : Nat), l < s.build.links ∧ (link s l).state = lsAbsent ∧ ticking s = true ∧ (link s l).since + 10000 = now s) ∧
    (∃ (s : State) (l : Nat), l < s.build.links ∧ (link s l).state ≠ lsAbsent) ∧
    (∃ (s : State) (l : Nat), goodLanes (link s l) ≠ [] ∧ isTunnel s l = false) :=
  ⟨⟨oneLink { state := lsWaitPhy }, 1, by decide⟩, ⟨oneLink { state := lsAlign, lanes := [0] }, 1, by decide⟩, ⟨up, 1, by decide⟩,
   ⟨oneLink { state := lsAlign, lanes := [1] }, 1, by decide⟩, ⟨oneLink { state := lsAlign, lanes := [0, 1] }, 1, by decide⟩, ⟨up, 0, by decide⟩,
   ⟨oneLink { state := lsAlign, lanes := [1], lockAt := 20000 - up.wch.eff.trainWait / 4 }, 0, by decide⟩,
   ⟨oneLink { state := 4 }, 0, by decide⟩, ⟨up, 0, by decide⟩, ⟨oneLink { state := lsAbsent, since := 10000 }, 0, by decide⟩, ⟨up, 0, by decide⟩,
   ⟨up, 0, by decide⟩⟩

theorem wit_Auth : (∃ (s : State) (l : Nat), l < s.build.links ∧ (link s l).state = lsMeasure ∧ (link s l).rtts.length < 63) ∧
    (∃ (s : State) (l : Nat), l < s.build.links ∧ (link s l).state = lsMeasure ∧ 63 ≤ (link s l).rtts.length) ∧
    (∃ (s : State) (l : Nat), l < s.build.links ∧ (link s l).state = lsDown) ∧
    (∃ (s : State) (l : Nat) (h : Hello), l < s.build.links ∧ (link s l).state = lsAuth ∧ (link s l).shake.step = 0 ∧ h.major = 4 ∧
      expectedPartner s l = 0x1FFFF ∧ isTunnel s l = false) ∧
    (∃ (s : State) (l : Nat) (h : Hello), l < s.build.links ∧ (link s l).state = lsAuth ∧ (link s l).shake.step = 0 ∧ h.major = 4 ∧
      h.chip ≠ ownChip s ∧ expectedPartner s l ≠ 0x1FFFF ∧ expectedPartner s l ≠ h.chip) ∧
    (∃ (s : State) (l : Nat) (h : Hello), l < s.build.links ∧ (link s l).state = lsAuth ∧ (link s l).shake.step = 0 ∧ h.major = 4 ∧
      s.gnd.state = 3 ∧ h.chip = ownChip s) ∧
    (∃ (s : State) (l : Nat) (h : Hello), l < s.build.links ∧ (link s l).state = lsAuth ∧ (link s l).shake.step = 0 ∧ h.major ≠ 4) ∧
    (∃ (s : State) (l i n : Nat), l < s.build.links ∧ (link s l).state = lsAuth ∧ (link s l).shake.step = 1 ∧ i = (link s l).shake.frags ∧ i + 1 < n) ∧
    (∃ (s : State) (l : Nat), l < s.build.links ∧ (link s l).state = lsAuth ∧ (link s l).shake.step = 2) ∧
    (∃ (s : State) (l : Nat), l < s.build.links ∧ (link s l).state = lsAuth ∧ (link s l).shake.step = 3) ∧
    (∃ (s : State) (l : Nat), l < s.build.links ∧ (link s l).state = lsAuth ∧ (link s l).shake.step = 4) ∧
    (∃ (s : State) (l : Nat), l < s.build.links ∧ (link s l).state ≠ lsAuth) :=
  ⟨⟨oneLink { state := lsMeasure }, 0, by decide⟩, ⟨oneLink { state := lsMeasure, rtts := List.replicate 63 400 }, 0, by decide⟩, ⟨up, 0, by decide⟩,
   ⟨oneLink { state := lsAuth }, 0, { major := 4, minor := 2, chip := 1, device := 0, lanes := 3, role := 255, linkIdx := 0, nonce := [] }, by decide⟩,
   ⟨{ oneLink { state := lsAuth } with gnd := { up.gnd with state := 3, chip := { up.gnd.chip with links := [{ role := 1, partner := 5 }] } } }, 0,
     { major := 4, minor := 2, chip := 1, device := 0, lanes := 3, role := 255, linkIdx := 0, nonce := [] }, by decide⟩,
   ⟨{ oneLink { state := lsAuth } with gnd := { up.gnd with state := 3 } }, 0,
     { major := 4, minor := 2, chip := (oneLink {}).wch.chip, device := 0, lanes := 3, role := 255, linkIdx := 0, nonce := [] }, by decide⟩,
   ⟨oneLink { state := lsAuth }, 0, { major := 3, minor := 2, chip := 1, device := 0, lanes := 3, role := 255, linkIdx := 0, nonce := [] }, by decide⟩,
   ⟨oneLink { state := lsAuth, shake := { step := 1 } }, 0, 0, 2, by decide⟩, ⟨oneLink { state := lsAuth, shake := { step := 2 } }, 0, by decide⟩,
   ⟨oneLink { state := lsAuth, shake := { step := 3 } }, 0, by decide⟩, ⟨oneLink { state := lsAuth, shake := { step := 4 } }, 0, by decide⟩,
   ⟨up, 0, by decide⟩⟩

theorem wit_Flit : (∃ (s : State) (l : Nat), l < s.build.links ∧ linkOpen (link s l) = false) ∧
    (∃ (s : State) (l : Nat) (f : Flit), l < s.build.links ∧ linkOpen (link s l) = true ∧ f.lseq ≠ (link s l).rxSeq % 65536) ∧
    (∃ (s : State) (l : Nat) (f : Flit), l < s.build.links ∧ linkOpen (link s l) = true ∧ f.lseq = (link s l).rxSeq % 65536) ∧
    (∃ (s : State) (l : Nat), l < s.build.links ∧ linkOpen (link s l) = true ∧ (link s l).state ≠ lsAlign) ∧
    (∃ (s : State) (l : Nat), l < s.build.links ∧ (link s l).state = lsAlign) ∧
    (∃ (s : State) (l : Nat), l < s.build.links ∧ linkOpen (link s l) = true ∧ 2 ^ 40 ≤ (link s l).txSeq - (link s l).txSince) ∧
    (∃ (s : State) (l : Nat), l < s.build.links ∧ (link s l).txSeq - (link s l).txSince < 2 ^ 40) ∧
    (∃ (s : State) (l : Nat), l < s.build.links ∧ (link s l).state = lsMeasure) ∧
    (∃ (s : State) (l : Nat), (link s l).retry ≠ [] ∧ (link s l).replays < 15) ∧
    (∃ (s : State) (l : Nat), (link s l).retry ≠ [] ∧ 15 ≤ (link s l).replays) ∧ (∃ (s : State) (l n : Nat), (link s l).nackAt = some n) :=
  ⟨⟨up, 0, by decide⟩, ⟨oneLink { state := 6, rxSeq := 1 }, 0, aFlit, by decide⟩, ⟨oneLink { state := 6, rxSeq := 65536 }, 0, aFlit, by decide⟩,
   ⟨oneLink { state := 6 }, 0, by decide⟩, ⟨oneLink { state := lsAlign }, 0, by decide⟩, ⟨oneLink { state := 6, txSeq := 2 ^ 40 }, 0, by decide⟩,
   ⟨up, 0, by decide⟩, ⟨oneLink { state := lsMeasure }, 0, by decide⟩, ⟨oneLink { state := 6, retry := [aFlit], replays := 14 }, 0, by decide⟩,
   ⟨oneLink { state := 6, retry := [aFlit], replays := 15 }, 0, by decide⟩, ⟨oneLink { state := 6, nackAt := some 5 }, 0, 5, by decide⟩⟩

theorem wit_Watchd : (∃ (s : State) (l : Nat), l < s.build.links ∧ linkOpen (link s l) = true ∧ hbLimit s l = (link s l).hbMissed) ∧
    (∃ (s : State) (l : Nat), l < s.build.links ∧ (link s l).hbMissed + 1 = hbLimit s l) ∧
    (∃ (s : State) (l c : Nat), l < s.build.links ∧ waitsCredit (link s l) c = false) ∧
    (∃ (s : State) (l c : Nat), l < s.build.links ∧ waitsCredit (link s l) c = true ∧ c ≤ 1) ∧
    (∃ (s : State) (l c : Nat), l < s.build.links ∧ waitsCredit (link s l) c = true ∧ 2 ≤ c) ∧
    (∃ (s : State) (l n : Nat), l < s.build.links ∧ linkOpen (link s l) = true ∧ s.wch.eff.crcMax + 1 = lget (link s l).crcWin (n % 2) 0) ∧
    (∃ (s : State) (l n : Nat), l < s.build.links ∧ linkOpen (link s l) = true ∧ lget (link s l).crcWin (n % 2) 0 = s.wch.eff.crcMax) ∧
    (∃ (s : State) (l : Nat), l < s.build.links ∧ (link s l).state = lsDegraded ∧ (link s l).slowAt + 10000 = now s) ∧
    (∃ (s : State) (l : Nat), l < s.build.links ∧ now s < (link s l).slowAt + 10000) ∧ (∃ (s : State) (l : Nat), (link s l).width ≠ 2) ∧
    (∃ (s : State) (l : Nat), l < s.build.links ∧ s.wch.rxBase = 0) ∧
    (∃ (s : State) (l : Nat), l < s.build.links ∧ s.wch.rxBase ≠ 0 ∧ (s.wch.rxHead + 1) % 65536 = s.wch.rxTail) ∧
    (∃ (s : State) (l : Nat), l < s.build.links ∧ s.wch.rxBase ≠ 0 ∧ (s.wch.rxHead + 1) % 65536 ≠ s.wch.rxTail) :=
  ⟨⟨oneLink { state := 6, hbMissed := hbLimit (oneLink { state := 6 }) 0 }, 0, by decide⟩,
   ⟨oneLink { state := 6, hbMissed := hbLimit (oneLink { state := 6 }) 0 - 1 }, 0, by decide⟩, ⟨up, 0, 2, by decide⟩,
   ⟨oneLink { state := 6, queue := [{ aFlit with cls := 1 }] }, 0, 1, by decide⟩, ⟨oneLink { state := 6, queue := [{ aFlit with cls := 2 }] }, 0, 2, by decide⟩,
   ⟨oneLink { state := 6, crcWin := [0, up.wch.eff.crcMax + 1] }, 0, 1, by decide⟩, ⟨oneLink { state := 6, crcWin := [0, up.wch.eff.crcMax] }, 0, 1, by decide⟩,
   ⟨oneLink { state := lsDegraded, slowAt := 10000 }, 0, by decide⟩, ⟨up, 0, by decide⟩, ⟨up, 0, by decide⟩, ⟨up, 0, by decide⟩,
   ⟨{ up with wch := { up.wch with rxBase := 2 ^ 24, rxHead := 65535 } }, 0, by decide⟩,
   ⟨{ up with wch := { up.wch with rxBase := 2 ^ 24, rxHead := 65534 } }, 0, by decide⟩⟩

/-- A block that follows one broadcast item. -/
def following (x : Bcast) : State := { up with wch := { up.wch with items := [x], doneItems := [9] } }
theorem wit_Bc : (∃ (s : State) (l i : Nat), l < s.build.links ∧ s.wch.doneItems.contains i = true) ∧
    (∃ (s : State) (l i : Nat) (x : Bcast), l < s.build.links ∧ s.wch.doneItems.contains 5 = false ∧ s.wch.items.find? (fun y => y.item == 5) = some x ∧
      i < x.got ∧ i + 1 = x.got) ∧
    (∃ (s : State) (l i : Nat) (x : Bcast), l < s.build.links ∧ s.wch.doneItems.contains 5 = false ∧ s.wch.items.find? (fun y => y.item == 5) = some x ∧
      i = x.got) ∧
    (∃ (s : State) (l : Nat), l < s.build.links ∧ s.wch.doneItems.contains 5 = false ∧ s.wch.items.find? (fun y => y.item == 5) = none) ∧
    (∃ (s : State) (item : Nat), s.wch.items.any (fun x => x.item == item && strokesPassed s x.lastAt 10000) = true) ∧
    (∃ (s : State) (item : Nat), s.wch.items.any (fun x => x.item == item && strokesPassed s x.lastAt 10000) = false) ∧
    (∃ (s : State) (a : Access) (v : Word), reaches s a aWchBcast = true ∧ fbit v 63 = false) ∧
    (∃ (s : State) (a : Access) (v : Word), reaches s a aWchBcast = true ∧ fbit v 63 = true ∧ fld v 11 0 ≠ 0) ∧
    (∃ (s : State) (a : Access) (v : Word), reaches s a aWchBcast = true ∧ fbit v 63 = true ∧ fld v 11 0 = 0) ∧
    (∃ (s : State) (a : Access) (v : Word), reaches s a aWchRoute = true ∧ fbit v 63 = false ∧ routeIndexOk v = true) ∧
    (∃ (s : State) (a : Access) (v : Word), reaches s a aWchRoute = true ∧ fbit v 63 = true ∧ routeIndexOk v = true) ∧
    (∃ (s : State) (a : Access) (v : Word), reaches s a aWchRoute = true ∧ routeIndexOk v = false) :=
  ⟨⟨following {}, 0, 9, by decide⟩, ⟨following { item := 5, got := 3 }, 0, 2, _, by decide, by decide, rfl, by decide⟩,
   ⟨following { item := 5, got := 3 }, 0, 3, _, by decide, by decide, rfl, rfl⟩, ⟨up, 0, by decide⟩, ⟨following { item := 5 }, 5, by decide⟩,
   ⟨up, 5, by decide⟩, ⟨up, slot0, 0, by decide⟩, ⟨up, slot0, 0x8000000000000001, by decide⟩, ⟨up, slot0, 0x8000000000000000, by decide⟩,
   ⟨up, slot0, 0, by decide⟩, ⟨up, slot0, 0x8000000000000000, by decide⟩, ⟨up, slot0, 63 * 2 ^ 52, by decide⟩⟩

theorem wit_Post : (∃ (s : State) (a : Access) (n c : Nat), n < 16 ∧ c < 2 ∧ s.boot.inReset = false ∧ denial s a true (aMbx n c 0) 8 = none) ∧
    (∃ (s : State) (a : Access) (n c : Nat), reachesOwn s a n (c == 1) = true ∧ (mbx s n c).toBlock.length = 3 ∧ (mbx s n c).flushing = false) ∧
    (∃ (s : State) (a : Access) (n c : Nat), reachesOwn s a n (c == 1) = true ∧ (mbx s n c).toBlock.length = 4) ∧
    (∃ (s : State) (a : Access) (n c : Nat), reachesOwn s a n (c == 1) = true ∧ (mbx s n c).flushing = true) ∧
    (∃ (s : State) (n c : Nat), n < 16 ∧ c < 2 ∧ (mbx s n c).toHost = []) ∧
    (∃ (s : State) (n c st len : Nat) (x : Notice) (xs : List Notice), n < 16 ∧ c < 2 ∧ (mbx s n c).toHost = x :: xs ∧ x.answer = some (st, len)) ∧
    (∃ (s : State) (a : Access) (n c : Nat), reachesOwn s a n (c == 1) = true ∧ (mbx s n c).toHost = []) ∧
    (∃ (s : State) (a : Access) (n c : Nat), reachesOwn s a n (c == 1) = true ∧ (mbx s n c).toHost ≠ []) ∧
    (∃ (s : State) (n c : Nat), leaver (mbx s n c) = none) :=
  ⟨⟨up, slot1, 1, 0, by decide⟩, ⟨boxed { toBlock := List.replicate 3 {} }, slot1, 1, 0, by decide⟩,
   ⟨boxed { toBlock := List.replicate 4 {} }, slot1, 1, 0, by decide⟩, ⟨boxed { flushing := true }, slot1, 1, 0, by decide⟩,
   ⟨up, 15, 1, by decide⟩, ⟨boxed { toHost := [{ answer := some (0, 64) }] }, 1, 0, 0, 64, _, _, by decide, by decide, rfl, rfl⟩,
   ⟨up, slot0, 0, 1, by decide⟩, ⟨boxed { toHost := [{}] }, slot1, 1, 0, by decide⟩, ⟨up, 0, 0, by decide⟩⟩

theorem wit_Flush : (∃ (s : State) (a : Access) (n c : Nat), reachesOwn s a n (c == 1) = true ∧ (mbx s n c).toBlock.length < 4) ∧
    (∃ (s : State) (a : Access) (n c : Nat), reachesOwn s a n (c == 1) = true ∧ 4 ≤ (mbx s n c).toBlock.length) ∧
    (∃ m : Mbx, m.inService = [] ∧ m.flushing = false) ∧
    (∃ (m : Mbx) (x : Notice) (a : Nat × Nat), m.inService = [x] ∧ x.answer = some a ∧ x.discard = true) ∧
    (∃ (m : Mbx) (x : Notice) (a : Nat × Nat), m.inService = [x] ∧ x.answer = some a ∧ x.discard = false ∧ m.toHost.length < 4) ∧
    (∃ (s : State) (a : Access) (n : Nat), reachesOwn s a n false = true) ∧
    (∃ (s : State) (a : Access) (n : Nat), s.boot.inReset = false ∧ a.slot ≠ n) ∧
    (∃ (s : State) (a : Access), s.boot.inReset = false ∧ a.sec = false ∧ privileged s a = false) :=
  ⟨⟨up, slot1, 1, 0, by decide⟩, ⟨boxed { toBlock := List.replicate 4 {} }, slot1, 1, 0, by decide⟩, ⟨{}, by decide⟩,
   ⟨{ inService := [{ answer := some (0, 0), discard := true }] }, _, _, rfl, rfl, rfl⟩,
   ⟨{ inService := [{ answer := some (0, 0) }] }, _, _, rfl, rfl, rfl, by decide⟩, ⟨up, slot1, 1, by decide⟩, ⟨up, slot1, 0, by decide⟩,
   ⟨up, slot1, by decide⟩⟩

/-- A channel with one notice of a service in service. -/
def servicing (svc : Nat) (d : Bool) : State := { boxed { inService := [{ tag := svc * 2 ^ 24, len := 1048576, discard := d }] } with
  parts := [(0, { valid := true, owner := 1 })], ldg := { up.ldg with buffer := [{ flags := 0x80, typ := 1 }] } }
theorem wit_Serv : (∃ (s : State) (n c i : Nat), inServiceOf s n c i svEcho = none ∧ inServiceOf s n c i svLedger = none ∧ inServiceOf s n c i svParts = none) ∧
    (∃ (s : State) (n c i : Nat) (x : Notice), inServiceOf s n c i svEcho = some x) ∧
    (∃ (s : State) (n c i : Nat) (x : Notice), inServiceOf s n c i svLedger = some x ∧ (sealedRecs s).filter (fun r =>
      recAdmitted s n c r && seqGe r.seq (rd [1] 0 4)) = []) ∧
    (∃ (s : State) (n c i : Nat) (x : Notice), inServiceOf s n c i svLedger = some x ∧ x.discard = false ∧
      (fitRecs x.len ((sealedRecs s).filter (fun r => recAdmitted s n c r && seqGe r.seq (rd [] 0 4)))).1 ≠ []) ∧
    (∃ (s : State) (n c i : Nat) (x : Notice), inServiceOf s n c i svCounters = some x ∧ x.discard = false) ∧
    (∃ (s : State) (n c i : Nat) (x : Notice), inServiceOf s n c i svParts = some x ∧ x.discard = false ∧ ownedParts s n ≠ []) ∧
    (∃ (s : State) (n c i : Nat) (x : Notice), inServiceOf s n c i svCounters = some x ∧ x.discard = true) ∧
    (∃ (s : State) (n c i : Nat) (x : Notice), (mbx s n c).inService[i]? = some x ∧ x.answer = none ∧ now s < x.taken + 1000) ∧
    (∃ (s : State) (n c i : Nat), (mbx s n c).inService[i]? = none) :=
  ⟨⟨up, 1, 0, 0, by decide⟩, ⟨servicing 1 false, 1, 0, 0, _, rfl⟩, ⟨{ servicing 2 false with ldg := up.ldg }, 1, 0, 0, _, rfl, rfl⟩,
   ⟨servicing 2 false, 1, 0, 0, _, rfl, rfl, by decide +kernel⟩, ⟨servicing 3 false, 1, 0, 0, _, rfl, rfl⟩, ⟨servicing 4 false, 1, 0, 0, _, rfl, rfl, by decide⟩,
   ⟨servicing 3 true, 1, 0, 0, _, rfl, rfl⟩, ⟨servicing 1 false, 1, 0, 0, _, rfl, rfl, by decide⟩, ⟨up, 1, 0, 0, by decide⟩⟩

theorem wit_Seal : (∃ (s : State) (r : Rec), s.ldg.openRec = some r ∧ s.ldg.openSince + Nat.max 1 s.ldg.eff.sealAt = now s ∧ s.ldg.eff.fwdSev ≤ r.severity) ∧
    (∃ s : State, s.ldg.openRec = none) ∧
    (∃ (s : State) (i : Nat) (k : RateKey), s.ldg.rates[i]? = some k ∧ k.opened + Nat.max 16 s.ldg.eff.rateWindow = now s ∧ k.count = 0) ∧
    (∃ (s : State) (i : Nat) (k : RateKey), s.ldg.rates[i]? = some k ∧ k.opened + Nat.max 16 s.ldg.eff.rateWindow ≤ now s ∧ 0 < k.count) ∧
    (∃ (s : State) (i : Nat), s.ldg.rates[i]? = none) ∧
    (∃ (s : State) (i : Nat) (k : RateKey), s.ldg.rates[i]? = some k ∧ now s < k.opened + Nat.max 16 s.ldg.eff.rateWindow) ∧
    (∃ s : State, s.ldg.eff.summary ≠ 0 ∧ s.ldg.eff.summary = s.ldg.acc.period) ∧ (∃ s : State, s.ldg.acc.period < s.ldg.eff.summary) ∧
    (∃ (s : State) (r : Rec), s.ldg.openRec = none ∧ makeRoom s.ldg (recLen r) r.severity = some s.ldg.buffer ∧ r.severity < 4) :=
  ⟨⟨{ up with ldg := { up.ldg with openRec := some { severity := 5 }, eff := { up.ldg.eff with sealAt := 0 } }, stk := { up.stk with stroke := 1 } }, _, rfl, by decide, by decide⟩,
   ⟨up, rfl⟩, ⟨{ up with ldg := { up.ldg with rates := [{}], eff := { up.ldg.eff with rateWindow := 0 } }, stk := { up.stk with stroke := 16 } }, 0, _, rfl, by decide, rfl⟩,
   ⟨{ up with ldg := { up.ldg with rates := [{ count := 3 }] }, stk := { up.stk with stroke := 100000 } }, 0, _, rfl, by decide, by decide⟩, ⟨up, 0, rfl⟩,
   ⟨{ up with ldg := { up.ldg with rates := [{}] } }, 0, _, rfl, by decide⟩,
   ⟨{ up with ldg := { up.ldg with eff := { up.ldg.eff with summary := 5 }, acc := { period := 5 } } }, by decide⟩,
   ⟨{ up with ldg := { up.ldg with eff := { up.ldg.eff with summary := 5 } } }, by decide⟩, ⟨up, {}, rfl, by decide +kernel, by decide⟩⟩

/-- A store with one unit in use and a record that waits. -/
def storing (u : LUnit) (n : Nat) : State := { up with
  nvm := { up.nvm with units := if n = 0 then [] else [u] }, ldg := { up.ldg with buffer := [{ typ := 1 }] } }
theorem wit_Store : (∃ s : State, s.ldg.noStore = true) ∧ (∃ s : State, s.ldg.buffer = []) ∧
    (∃ (s : State) (r : Rec), s.ldg.buffer.head? = some r ∧ programPlace s r = none) ∧
    (∃ (s : State) (i : Nat) (n : Bool) (r : Rec) (rs : List Rec), s.ldg.noStore = false ∧ s.ldg.buffer = r :: rs ∧ programPlace s r = some (i, n)) ∧
    (∃ (s : State) (i : Nat) (r : Rec) (rs : List Rec), s.ldg.noStore = false ∧ s.ldg.buffer = r :: rs ∧ programPlace s r = some (i, false) ∧
      startsUnit r = false ∧ s.nvm.clearPending = false ∧ s.ldg.loss.count = 0) ∧
    (∃ (s : State) (u : Nat), u < unitCount s ∧ eraseDue s u = false) ∧
    (∃ (s : State) (u : Nat), u < unitCount s ∧ s.ldg.noStore = false ∧ eraseDue s u = true) ∧ (∃ s : State, s.ldg.clearing = false) ∧
    (∃ (s : State) (u : Nat), unitCount s ≤ u) :=
  ⟨⟨{ up with ldg := { up.ldg with noStore := true } }, rfl⟩, ⟨up, rfl⟩,
   ⟨{ storing { written := true, firstSeq := 1 } 1 with nvm := { up.nvm with sizeMiB := 0 } }, _, rfl, by decide +kernel⟩,
   ⟨storing { written := true } 1, 0, false, _, _, rfl, rfl, by decide +kernel⟩, ⟨storing { written := true } 1, 0, _, _, rfl, rfl, by decide +kernel⟩,
   ⟨up, 0, by decide +kernel⟩, ⟨{ up with ldg := { up.ldg with clearTodo := [0] } }, 0, by decide +kernel⟩, ⟨up, rfl⟩, ⟨up, unitCount up, Nat.le_refl _⟩⟩

/-- Four trace buffers, the first as given. -/
def tracing (b : Trace) : State := { up with ldg := { up.ldg with traces := [b, {}, {}, {}] } }
theorem wit_Signed : (∃ (s : State) (a : Access) (v : Word), reaches s a aLdgSigned = true ∧ fbit v 63 = false) ∧
    (∃ (s : State) (a : Access) (v : Word) (m : MemRead), reaches s a aLdgSigned = true ∧ fbit v 63 = true ∧ (signedBlk (fld v 47 0) m).isNone = true) ∧
    (∃ (s : State) (a : Access) (v : Word) (m : MemRead), reaches s a aLdgSigned = true ∧ fbit v 63 = true ∧ (signedBlk (fld v 47 0) m).isSome = true) ∧
    (∃ s : State, s.life.keys = none) ∧ (∃ (s : State) (k : KeyStore), s.life.keys = some k ∧ 7 ≠ s.nvm.authCtr + 1) ∧
    (∃ (s : State) (a : Access) (b : Nat) (v : Word), b < 4 ∧ reaches s a (aLdgTrace b) = true ∧ fbit v 63 = true ∧ fbit v 62 = false ∧
      (trace s b).report = false ∧ s.ldg.traces.length = 4) ∧
    (∃ (s : State) (a : Access) (b : Nat) (v : Word), b < 4 ∧ reaches s a (aLdgTrace b) = true ∧ fbit v 63 = false ∧ fbit v 62 = true ∧
      s.ldg.traces.length = 4 ∧ (trace s b).state = 1) ∧
    (∃ (s : State) (a : Access) (i : Nat) (v : Word), i < 64 ∧ s.boot.inReset = false ∧ controlReset s = false ∧ twMay s a i (twFields v) = true) ∧
    (∃ (s : State) (a : Access) (i : Nat) (v : Word), i < 64 ∧ s.boot.inReset = false ∧ twMay s a i (twFields v) = false) :=
  ⟨⟨up, slot0, 0, by decide⟩, ⟨up, slot0, 0x8000000000000000, none, by decide⟩,
   ⟨up, slot0, 0x8000000000000000, some ([0x44, 0x57, 0x53, 0x43, 4, 1] ++ List.replicate 218 0), by decide +kernel⟩, ⟨up, rfl⟩,
   ⟨keyed, _, rfl, by decide⟩, ⟨tracing {}, slot0, 0, 0x8000000000000000, by decide⟩, ⟨tracing { state := 1 }, slot0, 0, 0x4000000000000000, by decide⟩,
   ⟨up, slot0, 63, 0, by decide⟩, ⟨up, slot1, 0, 0x8040000000000000, by decide⟩⟩

theorem wit_Ref : (∃ (s : State) (a : Access) (addr size : Nat), s.boot.inReset = false ∧ size ≠ 8 ∧ privileged s a = true ∧ addr % 8 = 0) ∧
    (∃ (s : State) (a : Access) (addr : Nat), s.boot.inReset = false ∧ addr % 8 = 0 ∧ privileged s a = false ∧ tenantMay s a true addr = false ∧
      tenantMay s a false addr = false) ∧
    (∃ (s : State) (r : Rec), s.ldg.rates.any (rateKeyIs r) = true) ∧
    (∃ (s : State) (r : Rec), s.ldg.rates.any (rateKeyIs r) = false ∧ s.ldg.rates.length < 64) ∧
    (∃ (s : State) (a : Access) (addr : Nat), s.boot.inReset = false ∧ addr % 8 = 0 ∧ privileged s a = true ∧ inNodes addr = true ∧
      nodeUsed s (nodeOfAddr addr) = false) ∧
    (∃ (s : State) (a : Access) (addr : Nat), s.boot.inReset = false ∧ denial s a true addr 8 = some .control) ∧
    (∃ (s : State) (a : Access) (addr size : Nat), s.boot.inReset = false ∧ denial s a false addr size = none) ∧ (∃ s : State, s.boot.inReset = true) :=
  ⟨⟨up, slot0, 0, 4, by decide⟩, ⟨up, slot1, 0x400000, by decide⟩, ⟨{ up with ldg := { up.ldg with rates := [{}] } }, { node := 0 }, by decide⟩,
   ⟨up, {}, by decide⟩, ⟨up, slot0, 0x1001000, by decide⟩,
   ⟨{ up with pwr := { up.pwr with running := [{ domain := 3 }] } }, slot0, 0x400000, by decide⟩, ⟨up, slot0, 0, 8, by decide⟩, ⟨State.reset, rfl⟩⟩

theorem wit_Reg : (∃ (s : State) (a : Access) (addr : Nat), s.boot.inReset = false ∧ denial s a true addr 8 = none) ∧ (∃ (s : State) (tag : Nat), tget s.mem tag = none) ∧
    (∃ (s : State) (tag : Nat) (w : MemWork), tget s.mem tag = some w) ∧ (∃ (s : State) (id : Nat) (c : Capture), capture? s id = some c) :=
  ⟨⟨up, slot0, 0x400030, by decide⟩, ⟨up, 7, rfl⟩, ⟨{ up with mem := [(3, .spill 2)] }, 3, _, rfl⟩, ⟨captured, 0, _, rfl⟩⟩

theorem wit_Front : (∃ (s : State) (c : Instr) (rest : List Instr), s.pending = c :: rest) ∧ (∃ s : State, s.pending = []) :=
  ⟨⟨{ up with pending := [.strokeConflictRepeat, .summary] }, _, _, rfl⟩, ⟨up, rfl⟩⟩

theorem wit_Frame : (∃ (c : Instr) (s t : State), exec c s = .next t) ∧ (∃ (c : Instr) (s t : State), exec c s = .next t ∧ t.straps ≠ s.straps) :=
  ⟨⟨.strokeConflictRepeat, up, _, rfl⟩, ⟨.coldResetDeassert { up.straps with links := 3 }, State.reset, _, rfl, by decide +kernel⟩⟩
theorem wit_Runs : (∃ (s : State) (l : Nat), s.build.links ≤ l) ∧ (∃ (s : State) (n : Nat), 2 * s.build.links ≤ n) ∧ (∃ (s : State) (p : Nat), s.build.ports ≤ p) :=
  ⟨⟨up, up.build.links, Nat.le_refl _⟩, ⟨up, 2 * up.build.links, Nat.le_refl _⟩, ⟨up, up.build.ports, Nat.le_refl _⟩⟩

theorem wit_Inv : (∃ s t : State, TickLegal s ∧ MailboxesBounded s ∧ step s = .next t) :=
  ⟨{ up with pending := [.strokeConflictRepeat] }, _, by unfold TickLegal; decide, by intro e h; exact absurd h (by simp [up, State.reset]), rfl⟩

theorem wit_R13 : (∃ (s : State) (n t : Nat), controlReset s = true ∧ nextTickOf s = some (n, t)) :=
  ⟨{ up with pwr := { up.pwr with running := [{ domain := 3 }] }, stk := { up.stk with source := 1, sched := [(7, 900)] } }, _, _, by decide, rfl⟩

/-! ### Well-formedness: operands that fit, and one that does not for each check -/

/-- Operands that fit. -/
def okAccess : Access := {
  slot := 0, sec := false }

theorem test_wf_access : okAccess.wf = true ∧ (
    [{ okAccess with slot := 2 ^ 4 }] : List Access).all (fun x => !x.wf) = true := by decide

/-- Operands that fit. -/
def okStraps : Straps := {
  strokeSrc := 0, boot := 0, mode := 0, slot0Sec := false, links := 0 }

theorem test_wf_straps : okStraps.wf = true ∧ (
    [{ okStraps with strokeSrc := 2 ^ 2 }, { okStraps with boot := 2 ^ 2 }, { okStraps with mode := 2 ^ 2 },
     { okStraps with links := 2 ^ 8 }] : List Straps).all (fun x => !x.wf) = true := by decide

/-- Operands that fit. -/
def okTagCmd : TagCmd := {
  cslot := 0, ctx := 0, seq := 0, opc := 0, subop := 0, fmt := 0, dup := false, cPresent := false, maskPresent := false
  collValid := false, phase := 0, layer := 0, oper := 0, coll := 0, m := 0, n := 0, k := 0, bytes := 0 }

theorem test_wf_tagcmd : okTagCmd.wf = true ∧ (
    [{ okTagCmd with cslot := 2 ^ 4 }, { okTagCmd with ctx := 2 ^ 12 }, { okTagCmd with seq := 2 ^ 32 },
     { okTagCmd with opc := 2 ^ 8 }, { okTagCmd with subop := 2 ^ 8 }, { okTagCmd with fmt := 2 ^ 16 },
     { okTagCmd with phase := 2 ^ 4 }, { okTagCmd with layer := 2 ^ 16 }, { okTagCmd with oper := 2 ^ 16 },
     { okTagCmd with coll := 2 ^ 32 }, { okTagCmd with m := 2 ^ 32 }, { okTagCmd with n := 2 ^ 32 },
     { okTagCmd with k := 2 ^ 32 }, { okTagCmd with bytes := 2 ^ 40 }] : List TagCmd).all (fun x => !x.wf) = true := by decide

/-- Operands that fit. -/
def okTapBeat : TapBeat := {
  cslot := 0, stream := 0, offset := 0, bytes := 1, last := false, data := List.replicate 64 0, overflow := false }

theorem test_wf_tapbeat : okTapBeat.wf = true ∧ (
    [{ okTapBeat with cslot := 2 ^ 4 }, { okTapBeat with stream := 2 ^ 4 }, { okTapBeat with offset := 2 ^ 40 },
     { okTapBeat with offset := 32 }, { okTapBeat with bytes := 0 }, { okTapBeat with bytes := 65 },
     { okTapBeat with data := [] }] : List TapBeat).all (fun x => !x.wf) = true := by decide

/-- Operands that fit. -/
def okResidueReport : ResidueReport := {
  nchk := 0, nfail := 0, nskip := 0, parity := 0, fdet := 0, offset := 0 }

theorem test_wf_residuereport : okResidueReport.wf = true ∧ (
    [{ okResidueReport with nchk := 2 ^ 4 }, { okResidueReport with nfail := 2 ^ 4 },
     { okResidueReport with nskip := 2 ^ 4 }, { okResidueReport with fdet := 2 ^ 48 },
     { okResidueReport with offset := 2 ^ 20 }] : List ResidueReport).all (fun x => !x.wf) = true := by decide

/-- Operands that fit. -/
def okFtHeader : FtHeader := {
  ftStream := 0, stream := 0, purpose := 0, part := 0, ident := 0, step := 0, aux := 0, seg := 0, nseg := 0, seq := 0
  base := 0, length := 0 }

theorem test_wf_ftheader : okFtHeader.wf = true ∧ (
    [{ okFtHeader with ftStream := 2 ^ 8 }, { okFtHeader with stream := 2 ^ 8 }, { okFtHeader with purpose := 2 ^ 8 },
     { okFtHeader with part := 2 ^ 8 }, { okFtHeader with ident := 2 ^ 32 }, { okFtHeader with step := 2 ^ 32 },
     { okFtHeader with aux := 2 ^ 32 }, { okFtHeader with seg := 2 ^ 16 }, { okFtHeader with nseg := 2 ^ 16 },
     { okFtHeader with seq := 2 ^ 32 }, { okFtHeader with base := 2 ^ 40 }, { okFtHeader with length := 2 ^ 40 }] : List FtHeader).all (fun x => !x.wf) = true := by decide

/-- Operands that fit. -/
def okMarker : Marker := {
  num := 0, master := 0, hops := 0, flags := 0, acc := 0, lead := 0 }

theorem test_wf_marker : okMarker.wf = true ∧ (
    [{ okMarker with num := 2 ^ 48 }, { okMarker with master := 2 ^ 17 }, { okMarker with hops := 2 ^ 8 },
     { okMarker with flags := 2 ^ 16 }, { okMarker with acc := 2 ^ 32 }, { okMarker with lead := 2 ^ 8 }] : List Marker).all (fun x => !x.wf) = true := by decide

/-- Operands that fit. -/
def okHeart : Heart := {
  num := 0, chip := 0, flags := 0, link := 0, config := List.replicate 16 0, epochs := [], txOffset := 0, echoStroke := 0
  echoHold := 0 }

theorem test_wf_heart : okHeart.wf = true ∧ (
    [{ okHeart with num := 2 ^ 48 }, { okHeart with chip := 2 ^ 17 }, { okHeart with flags := 2 ^ 8 },
     { okHeart with link := 2 ^ 8 }, { okHeart with txOffset := 2 ^ 32 }, { okHeart with echoStroke := 2 ^ 48 },
     { okHeart with echoHold := 2 ^ 32 }, { okHeart with epochs := [2 ^ 32] }, { okHeart with config := [] },
     { okHeart with epochs := List.replicate 13 0 }] : List Heart).all (fun x => !x.wf) = true := by decide

/-- Operands that fit. -/
def okAlarmMsg : AlarmMsg := {
  epoch := 0, originStroke := 0, abortAt := 0, cause := 0, reach := 0, seq := 0, origin := 0, node := 0, part := 0
  detail := List.replicate 16 0 }

theorem test_wf_alarmmsg : okAlarmMsg.wf = true ∧ (
    [{ okAlarmMsg with epoch := 2 ^ 32 }, { okAlarmMsg with originStroke := 2 ^ 48 },
     { okAlarmMsg with abortAt := 2 ^ 48 }, { okAlarmMsg with cause := 2 ^ 8 }, { okAlarmMsg with reach := 2 ^ 8 },
     { okAlarmMsg with seq := 2 ^ 16 }, { okAlarmMsg with origin := 2 ^ 17 }, { okAlarmMsg with node := 2 ^ 16 },
     { okAlarmMsg with part := 2 ^ 6 }, { okAlarmMsg with detail := [] }] : List AlarmMsg).all (fun x => !x.wf) = true := by decide

/-- Operands that fit. -/
def okVerdictMsg : VerdictMsg := {
  epoch := 0, stroke := 0, kind := 0, worst := 0, kinds := [], blocks := 0, members := 0, nfail := 0, uncovered := 0
  checks := 0, chips := [] }

theorem test_wf_verdictmsg : okVerdictMsg.wf = true ∧ (
    [{ okVerdictMsg with epoch := 2 ^ 32 }, { okVerdictMsg with stroke := 2 ^ 48 }, { okVerdictMsg with kind := 2 ^ 8 },
     { okVerdictMsg with worst := 2 ^ 8 }, { okVerdictMsg with blocks := 2 ^ 32 }, { okVerdictMsg with members := 2 ^ 32 },
     { okVerdictMsg with nfail := 2 ^ 32 }, { okVerdictMsg with uncovered := 2 ^ 64 },
     { okVerdictMsg with checks := 2 ^ 64 }, { okVerdictMsg with kinds := [2 ^ 32] },
     { okVerdictMsg with chips := [2 ^ 17] }] : List VerdictMsg).all (fun x => !x.wf) = true := by decide

/-- Operands that fit. -/
def okTallyMsg : TallyMsg := {
  epoch := 0, kind := 0, coll := 0, step := 0, first := 0, digests := [], count := 0, sat := 0, expD := 0 }

theorem test_wf_tallymsg : okTallyMsg.wf = true ∧ (
    [{ okTallyMsg with epoch := 2 ^ 32 }, { okTallyMsg with kind := 2 ^ 8 }, { okTallyMsg with coll := 2 ^ 32 },
     { okTallyMsg with step := 2 ^ 32 }, { okTallyMsg with first := 2 ^ 16 }, { okTallyMsg with count := 2 ^ 32 },
     { okTallyMsg with sat := 2 ^ 32 }, { okTallyMsg with expD := 2 ^ 128 }, { okTallyMsg with digests := [2 ^ 127] }] : List TallyMsg).all (fun x => !x.wf) = true := by decide

/-- Operands that fit. -/
def okXportMsg : XportMsg := {
  epoch := 0, coll := 0, step := 0, hostLink := 0, seq := 0, sender := 0, digest := 0, elems := 0 }

theorem test_wf_xportmsg : okXportMsg.wf = true ∧ (
    [{ okXportMsg with epoch := 2 ^ 32 }, { okXportMsg with coll := 2 ^ 32 }, { okXportMsg with step := 2 ^ 32 },
     { okXportMsg with hostLink := 2 ^ 16 }, { okXportMsg with seq := 2 ^ 32 }, { okXportMsg with sender := 2 ^ 17 },
     { okXportMsg with digest := 2 ^ 128 }, { okXportMsg with elems := 2 ^ 40 }] : List XportMsg).all (fun x => !x.wf) = true := by decide

/-- Operands that fit. -/
def okShardMsg : ShardMsg := {
  epoch := 0, kind := 0, group := 0, step := 0, member := 0, outcome := 0, shard := 0, reporting := 0, digest := 0
  holding := 0, src := 0 }

theorem test_wf_shardmsg : okShardMsg.wf = true ∧ (
    [{ okShardMsg with epoch := 2 ^ 32 }, { okShardMsg with kind := 2 ^ 8 }, { okShardMsg with group := 2 ^ 32 },
     { okShardMsg with step := 2 ^ 32 }, { okShardMsg with member := 2 ^ 32 }, { okShardMsg with outcome := 2 ^ 8 },
     { okShardMsg with shard := 2 ^ 32 }, { okShardMsg with reporting := 2 ^ 32 }, { okShardMsg with digest := 2 ^ 128 },
     { okShardMsg with holding := 2 ^ 32 }] : List ShardMsg).all (fun x => !x.wf) = true := by decide

/-- Operands that fit. -/
def okExpMsg : ExpMsg := {
  epoch := 0, coll := 0, step := 0, first := 0, kind := 0, exps := [] }

theorem test_wf_expmsg : okExpMsg.wf = true ∧ (
    [{ okExpMsg with epoch := 2 ^ 32 }, { okExpMsg with coll := 2 ^ 32 }, { okExpMsg with step := 2 ^ 32 },
     { okExpMsg with first := 2 ^ 32 }, { okExpMsg with kind := 2 ^ 8 }, { okExpMsg with exps := [128] },
     { okExpMsg with exps := [-129] }] : List ExpMsg).all (fun x => !x.wf) = true := by decide

/-- Operands that fit. -/
def okCopyDesc : CopyDesc := {
  kind := 0, opc := 0, subop := 0, fmtAB := 0, fmtCD := 0, flags := 0, node := 0, stroke := 0, piece := 0, m := 0, n := 0
  k := 0, j0 := 0, jn := 0, seq := 0, src := 0, layer := 0, oper := 0, phase := 0, crcOk := false }

theorem test_wf_copydesc : okCopyDesc.wf = true ∧ (
    [{ okCopyDesc with kind := 2 ^ 8 }, { okCopyDesc with opc := 2 ^ 8 }, { okCopyDesc with subop := 2 ^ 8 },
     { okCopyDesc with fmtAB := 2 ^ 8 }, { okCopyDesc with fmtCD := 2 ^ 8 }, { okCopyDesc with flags := 2 ^ 8 },
     { okCopyDesc with node := 2 ^ 16 }, { okCopyDesc with stroke := 2 ^ 48 }, { okCopyDesc with m := 2 ^ 32 },
     { okCopyDesc with n := 2 ^ 32 }, { okCopyDesc with k := 2 ^ 32 }, { okCopyDesc with j0 := 2 ^ 32 },
     { okCopyDesc with jn := 2 ^ 32 }, { okCopyDesc with seq := 2 ^ 32 }] : List CopyDesc).all (fun x => !x.wf) = true := by decide

/-- Operands that fit. -/
def okRecFrag : RecFrag := {
  rseq := 0, frag := 0, nfrag := 1, kind := 1, urgent := false, data := [0] }

theorem test_wf_recfrag : okRecFrag.wf = true ∧ (
    [{ okRecFrag with rseq := 2 ^ 32 }, { okRecFrag with frag := 1 }, { okRecFrag with nfrag := 21 },
     { okRecFrag with kind := 0 }, { okRecFrag with kind := 4 }, { okRecFrag with data := [] },
     { okRecFrag with data := List.replicate 209 0 }] : List RecFrag).all (fun x => !x.wf) = true := by decide +kernel

/-- Operands that fit. -/
def okCensusSummary : CensusSummary := {
  chip := 0, digest := List.replicate 16 0, ready := false }

theorem test_wf_censussummary : okCensusSummary.wf = true ∧ (
    [{ okCensusSummary with chip := 2 ^ 17 }, { okCensusSummary with digest := [] }] : List CensusSummary).all (fun x => !x.wf) = true := by decide

/-- Operands that fit. -/
def okHello : Hello := {
  major := 0, minor := 0, chip := 0, device := 0, lanes := 0, role := 0, linkIdx := 0, nonce := List.replicate 32 0 }

theorem test_wf_hello : okHello.wf = true ∧ (
    [{ okHello with major := 2 ^ 4 }, { okHello with minor := 2 ^ 4 }, { okHello with chip := 2 ^ 17 },
     { okHello with device := 2 ^ 64 }, { okHello with lanes := 2 ^ 2 }, { okHello with role := 2 ^ 8 },
     { okHello with linkIdx := 2 ^ 8 }, { okHello with nonce := [] }] : List Hello).all (fun x => !x.wf) = true := by decide

/-- Operands that fit. -/
def okTickSignals : TickSignals := {
  noEdge := [], stretched := [], slack := [], temps := [] }

theorem test_wf_ticksignals : okTickSignals.wf = true ∧ (
    [{ okTickSignals with noEdge := [2048] }, { okTickSignals with stretched := [2048] },
     { okTickSignals with slack := [(2048, 0)] }, { okTickSignals with slack := [(0, 256)] },
     { okTickSignals with temps := [(2048, 0)] }, { okTickSignals with temps := [(0, 256)] }] : List TickSignals).all (fun x => !x.wf) = true := by decide

/-- A flit that fits. -/
def okFlit : Flit := {
  cls := 5, mode := 0, bypass := false, dest := 0, ttl := 0, src := 0, epoch := 0, lseq := 0, ack := 0, msg := .marker okMarker }

theorem test_wf_flit : okFlit.wf = true ∧ ([{ okFlit with cls := 8 }, { okFlit with mode := 8 }, { okFlit with dest := 2 ^ 17 },
    { okFlit with ttl := 128 }, { okFlit with src := 2 ^ 17 }, { okFlit with epoch := 2 ^ 32 }, { okFlit with lseq := 65536 },
    { okFlit with ack := 65536 }, { okFlit with msg := .marker { okMarker with hops := 256 } },
    { okFlit with msg := .alarm { okAlarmMsg with epoch := 1 } }] : List Flit).all (fun x => !x.wf) = true := by decide

theorem test_wf_msg : ([.alarm { okAlarmMsg with part := 64 }, .heartbeat { okHeart with link := 256 }, .verdict { okVerdictMsg with worst := 256 },
    .tally { okTallyMsg with first := 65536 }, .xport { okXportMsg with hostLink := 65536 }, .shard { okShardMsg with kind := 256 },
    .exps { okExpMsg with kind := 256 }, .peerReq (2 ^ 32) 0 0 okCopyDesc, .peerReq 0 (2 ^ 17) 0 okCopyDesc, .peerReq 0 0 65536 okCopyDesc,
    .peerReq 0 0 0 { okCopyDesc with kind := 256 }, .peerData (2 ^ 32) 0 false [], .peerData 0 65536 false [],
    .peerData 0 0 false (List.replicate 209 0), .peerResp (2 ^ 32) 0 0 0, .peerResp 0 256 0 0, .peerResp 0 0 (2 ^ 32) 0, .peerResp 0 0 0 (2 ^ 128),
    .chunk (2 ^ 32) 0 0 (List.replicate 208 0), .chunk 0 65536 0 (List.replicate 208 0), .chunk 0 0 20 (List.replicate 208 0),
    .chunk 0 0 19 (List.replicate 208 0), .record { okRecFrag with kind := 0 }, .census { okCensusSummary with chip := 2 ^ 17 }]
    : List Msg).all (fun x => !x.wf) = true := by decide +kernel

theorem test_wf_commands_0 : (
    [.coldResetDeassert okStraps, .firmwareImageCheck 0 [], .groundImageCheck 0 [], .sentinelAttach [], .domainResetDone 2,
     .lockstepMismatch 3, .powerEstimate 0, .grantStrobe 0, .strokeTick okTickSignals, .guardPhase [],
     .strokeMarker 0 okMarker 0 0, .heartbeat 0 okHeart 0, .nodeAbsent 0, .censusSummary okCensusSummary, .tileClockStop 0,
     .tileClockStart 0, .residueOutcome 0 0 okResidueReport, .residueCountClose 0, .residueInject okAccess 0,
     .forceDualWrite okAccess 0 false, .rlStatusClear okAccess 0 0, .commandTag 0 okTagCmd, .tapBeat 0 okTapBeat,
     .cmdDone 0 0, .duplexRefuse 0 0, .canaryDue 0, .canaryComplete 0 none, .peerReq 0 0 0 0 okCopyDesc,
     .peerData 0 0 0 false [], .peerResp 0 0 0 0 0, .copySuspect 0 okVerdictMsg, .tapHeader 0 okFtHeader,
     .tapData 0 0 0 0 [], .streamTimeout 0 0, .tallyUp 0 okTallyMsg, .tallyTotal 0 okTallyMsg, .exponentProposal 0 okExpMsg,
     .exponentAgreed 0 okExpMsg, .xport okXportMsg, .varnishCommitted 0 false, .varnishTimeout 0, .restoreShardTimeout 0,
     .shard okShardMsg, .voteResult okShardMsg, .sliceGrant 0, .sliceEligible 0, .mbistRestore 0 0, .stressAck 0 0,
     .heatReached 0, .testPortAck 0, .trimRecommend 0, .verdictUp 0 false okVerdictMsg, .verdictDown 0 okVerdictMsg,
     .lateFail 0 okVerdictMsg, .duplexDirectedExpiry 0, .progressInc 0 0, .progressRebind 0 0 0 false, .fenceDone 0 false,
     .fenceTimeout 0, .lateArrival none] : List Instr).all (fun c => c.wf) = true := by decide +kernel

theorem test_wf_commands_1 : (
    [.engineResetAck 0, .resetAckFall none, .joinStroke 0, .leaveStroke 0, .alarm 0 okAlarmMsg, .stepDone 0, .ckptTimer 0,
     .ckptOverdue 0, .laneLock 0, .laneLockLoss 0, .echo 0 0 0 0 0, .hello 0 okHello, .cert 0 0 1 [],
     .share 0 (List.replicate 96 0), .proof 0 (List.replicate 96 0), .done 0 (List.replicate 32 0) 0, .handshakeTimeout 0,
     .trainTimeout 0, .absentRetry 0, .secondLaneTimeout 0, .flitReceived 0 0 false false okFlit 0,
     .credit 0 (List.replicate 6 0) 0, .nack 0 0 (List.replicate 6 0), .keyUpdate 0 0, .rekey 0, .retryTimeout 0,
     .controlFlitTimer 0 0, .heartbeatMiss 0, .creditWait 0 0, .crcWindow 0 0, .degradedRecovery 0,
     .recordFragment 0 0 okRecFrag, .mailboxPost okAccess 0 0 0, .pop okAccess 0 0, .flush okAccess 0 0,
     .doorbell okAccess 0 0, .mailboxEcho 0 0 0, .ledgerRead 0 0 0 none, .counters 0 0 0, .partState 0 0 0,
     .serviceBusy 0 0 0, .slotPowerOn 0, .slotPowerOff 0, .accessDenied okAccess false 0 0, .registerWrite okAccess 0 0,
     .traceArm okAccess 0 0, .traceTrig okAccess 0 0, .tensorWatchWrite okAccess 0 0, .firmwareLoadGo okAccess 0,
     .coreReset okAccess 0, .controlReset okAccess 0, .devkey okAccess 0, .provision okAccess 0 none,
     .lifecycleReturn okAccess 0 none, .serial okAccess 0 none, .revoke okAccess 0 none, .strokeEnable okAccess 0,
     .strokeLock okAccess 0, .periodWrite okAccess 0, .gndLoadGo okAccess 0] : List Instr).all (fun c => c.wf) = true := by decide +kernel

theorem test_wf_commands_2 : (
    [.canaryRun okAccess 0, .cpyStoreWrite okAccess 0, .cpyLock okAccess 0, .stepMark okAccess 0,
     .varnish okAccess 0 none none, .restore okAccess 0 none none, .replLoad okAccess 0 none, .scrRun okAccess 0,
     .quarantine okAccess 0, .teardown okAccess 0, .teardownPart okAccess 0, .ladderL2 okAccess 0, .ladderL3 okAccess 0,
     .ladderL4 okAccess 0, .ladderL5 okAccess 0, .join okAccess 0 none, .leave okAccess 0 none, .rcvAlarm okAccess 0,
     .gateOn okAccess 0, .gateStep okAccess 0, .gateOff okAccess 0, .wchBcast okAccess 0 none, .routeSelect okAccess 0,
     .routeWrite okAccess 0, .clear okAccess 0 none, .release okAccess 0 none] : List Instr).all (fun c => c.wf) = true := by decide +kernel

theorem test_wf_refuses_0 : (
    [.coldResetDeassert { okStraps with strokeSrc := 2 ^ 2 }, .firmwareImageCheck (2 ^ 3) [], .groundImageCheck (2 ^ 3) [],
     .sentinelAttach [{ port := 2048, ok := true, channels := 0, canary := false }],
     .sentinelAttach [{ port := 0, ok := true, channels := 16, canary := false }], .domainResetDone 1, .lockstepMismatch 1,
     .powerEstimate (2 ^ 10), .grantStrobe (2 ^ 10), .strokeTick { okTickSignals with noEdge := [2048] },
     .guardPhase [{ row := 0, unit := 0, sub := 0, expected := 0, found := 0 }],
     .guardPhase [{ row := 7, unit := 0, sub := 0, expected := 0, found := 0 }], .strokeMarker 8 okMarker 0 0,
     .strokeMarker 0 { okMarker with num := 2 ^ 48 } 0 0, .heartbeat 8 okHeart 0,
     .heartbeat 0 { okHeart with num := 2 ^ 48 } 0, .nodeAbsent (2 ^ 12),
     .censusSummary { okCensusSummary with chip := 2 ^ 17 }, .tileClockStop 2048, .tileClockStart 2048,
     .residueOutcome 2048 0 okResidueReport, .residueOutcome 0 4 okResidueReport,
     .residueOutcome 0 0 { okResidueReport with nchk := 2 ^ 4 }, .residueCountClose 2048,
     .residueInject { okAccess with slot := 2 ^ 4 } 0, .residueInject okAccess (2 ^ 12),
     .forceDualWrite { okAccess with slot := 2 ^ 4 } 0 false, .forceDualWrite okAccess (2 ^ 12) false,
     .rlStatusClear { okAccess with slot := 2 ^ 4 } 0 0, .rlStatusClear okAccess (2 ^ 12) 0, .commandTag 2048 okTagCmd,
     .commandTag 0 { okTagCmd with cslot := 2 ^ 4 }, .tapBeat 2048 okTapBeat, .tapBeat 0 { okTapBeat with cslot := 2 ^ 4 },
     .cmdDone 2048 0, .cmdDone 0 (2 ^ 4), .duplexRefuse 2048 0, .duplexRefuse 0 (2 ^ 4), .canaryDue 32,
     .canaryComplete 32 none, .canaryComplete 0 (some 12), .peerReq 8 0 0 0 okCopyDesc, .peerReq 0 (2 ^ 32) 0 0 okCopyDesc,
     .peerReq 0 0 (2 ^ 17) 0 okCopyDesc, .peerReq 0 0 0 (2 ^ 16) okCopyDesc,
     .peerReq 0 0 0 0 { okCopyDesc with kind := 2 ^ 8 }, .peerData 8 0 0 false [], .peerData 0 (2 ^ 32) 0 false [],
     .peerData 0 0 (2 ^ 16) false [], .peerData 0 0 0 false (List.replicate 209 0), .peerResp 8 0 0 0 0,
     .peerResp 0 (2 ^ 32) 0 0 0, .peerResp 0 0 (2 ^ 8) 0 0, .peerResp 0 0 0 (2 ^ 32) 0, .peerResp 0 0 0 0 (2 ^ 128),
     .copySuspect 8 okVerdictMsg, .copySuspect 0 { okVerdictMsg with epoch := 2 ^ 32 }, .tapHeader 16 okFtHeader,
     .tapHeader 0 { okFtHeader with ftStream := 2 ^ 8 }, .tapData 16 0 0 0 []] : List Instr).all (fun c => !c.wf) = true := by decide +kernel

theorem test_wf_refuses_1 : (
    [.tapData 0 (2 ^ 8) 0 0 [], .tapData 0 0 (2 ^ 40) 0 [], .tapData 0 0 0 (2 ^ 6) [],
     .tapData 0 0 0 0 (List.replicate 129 0), .streamTimeout 16 0, .streamTimeout 0 (2 ^ 8), .tallyUp 8 okTallyMsg,
     .tallyUp 0 { okTallyMsg with epoch := 2 ^ 32 }, .tallyTotal 8 okTallyMsg,
     .tallyTotal 0 { okTallyMsg with epoch := 2 ^ 32 }, .exponentProposal 8 okExpMsg,
     .exponentProposal 0 { okExpMsg with epoch := 2 ^ 32 }, .exponentAgreed 8 okExpMsg,
     .exponentAgreed 0 { okExpMsg with epoch := 2 ^ 32 }, .xport { okXportMsg with epoch := 2 ^ 32 },
     .varnishCommitted 16 false, .varnishTimeout 16, .restoreShardTimeout 16, .shard { okShardMsg with epoch := 2 ^ 32 },
     .voteResult { okShardMsg with epoch := 2 ^ 32 }, .sliceGrant 2048, .sliceEligible 2048, .mbistRestore (2 ^ 32) 0,
     .mbistRestore 0 (2 ^ 32), .stressAck 32 0, .stressAck 0 (2 ^ 4), .stressAck (-33) 0, .stressAck 32 0,
     .heatReached (2 ^ 8), .testPortAck (2 ^ 32), .trimRecommend 2048, .verdictUp 8 false okVerdictMsg,
     .verdictUp 0 false { okVerdictMsg with epoch := 2 ^ 32 }, .verdictDown 8 okVerdictMsg,
     .verdictDown 0 { okVerdictMsg with epoch := 2 ^ 32 }, .lateFail 8 okVerdictMsg,
     .lateFail 0 { okVerdictMsg with epoch := 2 ^ 32 }, .duplexDirectedExpiry 2048, .progressInc 2048 0, .progressInc 0 4,
     .progressRebind 2048 0 0 false, .progressRebind 0 4 0 false, .progressRebind 0 0 (2 ^ 12) false, .fenceDone 2048 false,
     .fenceTimeout 2049, .lateArrival (some 2048), .engineResetAck 2048, .resetAckFall (some 2048), .joinStroke 64,
     .leaveStroke 64, .alarm 8 okAlarmMsg, .alarm 0 { okAlarmMsg with epoch := 2 ^ 32 }, .stepDone 2048, .ckptTimer 64,
     .ckptOverdue 64, .laneLock 16, .laneLockLoss 16, .echo 8 0 0 0 0, .hello 8 okHello,
     .hello 0 { okHello with major := 2 ^ 4 }] : List Instr).all (fun c => !c.wf) = true := by decide +kernel

theorem test_wf_refuses_2 : (
    [.cert 8 0 1 [], .cert 0 0 7 [], .cert 0 0 1 (List.replicate 209 0), .cert 0 1 1 [], .cert 0 0 7 [],
     .share 8 (List.replicate 96 0), .share 0 [0], .proof 8 (List.replicate 96 0), .proof 0 [0],
     .done 8 (List.replicate 32 0) 0, .done 0 [0] 0, .handshakeTimeout 8, .trainTimeout 8, .absentRetry 8,
     .secondLaneTimeout 8, .flitReceived 8 0 false false okFlit 0, .flitReceived 0 2 false false okFlit 0,
     .flitReceived 0 0 false false { okFlit with cls := 8 } 0, .credit 8 (List.replicate 6 0) 0, .credit 0 [0] 0,
     .credit 0 [0, 0, 0, 0, 0, 65536] 0, .credit 0 (List.replicate 6 0) (2 ^ 16), .nack 8 0 (List.replicate 6 0),
     .nack 0 (2 ^ 16) (List.replicate 6 0), .nack 0 0 [0], .nack 0 0 [0, 0, 0, 0, 0, 65536], .keyUpdate 8 0,
     .keyUpdate 0 (2 ^ 48), .rekey 8, .retryTimeout 8, .controlFlitTimer 8 0, .heartbeatMiss 8, .creditWait 8 0,
     .creditWait 0 6, .crcWindow 8 0, .crcWindow 0 2, .degradedRecovery 8, .broadcastChunk 8 0 0 0 (List.replicate 4096 0),
     .broadcastChunk 0 (2 ^ 17) 0 0 (List.replicate 4096 0), .broadcastChunk 0 0 (2 ^ 32) 0 (List.replicate 4096 0),
     .broadcastChunk 0 0 0 (2 ^ 16) (List.replicate 4096 0), .broadcastChunk 0 0 0 0 [0], .recordFragment 8 0 okRecFrag,
     .recordFragment 0 (2 ^ 17) okRecFrag, .recordFragment 0 0 { okRecFrag with rseq := 2 ^ 32 },
     .mailboxPost { okAccess with slot := 2 ^ 4 } 0 0 0, .mailboxPost okAccess 16 0 0, .mailboxPost okAccess 0 2 0,
     .pop { okAccess with slot := 2 ^ 4 } 0 0, .pop okAccess 16 0, .pop okAccess 0 2,
     .flush { okAccess with slot := 2 ^ 4 } 0 0, .flush okAccess 16 0, .flush okAccess 0 2,
     .doorbell { okAccess with slot := 2 ^ 4 } 0 0, .doorbell okAccess 16 0, .mailboxEcho 16 0 0, .mailboxEcho 0 2 0,
     .ledgerRead 16 0 0 none, .ledgerRead 0 2 0 none] : List Instr).all (fun c => !c.wf) = true := by decide +kernel

theorem test_wf_refuses_3 : (
    [.counters 16 0 0, .counters 0 2 0, .partState 16 0 0, .partState 0 2 0, .serviceBusy 16 0 0, .serviceBusy 0 2 0,
     .slotPowerOn 16, .slotPowerOff 16, .accessDenied { okAccess with slot := 2 ^ 4 } false 0 0,
     .accessDenied okAccess false (2 ^ 25) 0, .accessDenied okAccess false 0 (2 ^ 3),
     .registerWrite { okAccess with slot := 2 ^ 4 } 0 0, .registerWrite okAccess (2 ^ 25) 0,
     .traceArm { okAccess with slot := 2 ^ 4 } 0 0, .traceArm okAccess 4 0, .traceTrig { okAccess with slot := 2 ^ 4 } 0 0,
     .traceTrig okAccess 4 0, .tensorWatchWrite { okAccess with slot := 2 ^ 4 } 0 0, .tensorWatchWrite okAccess 64 0,
     .firmwareLoadGo { okAccess with slot := 2 ^ 4 } 0, .coreReset { okAccess with slot := 2 ^ 4 } 0,
     .controlReset { okAccess with slot := 2 ^ 4 } 0, .devkey { okAccess with slot := 2 ^ 4 } 0,
     .provision { okAccess with slot := 2 ^ 4 } 0 none, .lifecycleReturn { okAccess with slot := 2 ^ 4 } 0 none,
     .serial { okAccess with slot := 2 ^ 4 } 0 none, .revoke { okAccess with slot := 2 ^ 4 } 0 none,
     .strokeEnable { okAccess with slot := 2 ^ 4 } 0, .strokeLock { okAccess with slot := 2 ^ 4 } 0,
     .periodWrite { okAccess with slot := 2 ^ 4 } 0, .gndLoadGo { okAccess with slot := 2 ^ 4 } 0,
     .canaryRun { okAccess with slot := 2 ^ 4 } 0, .cpyStoreWrite { okAccess with slot := 2 ^ 4 } 0,
     .cpyLock { okAccess with slot := 2 ^ 4 } 0, .stepMark { okAccess with slot := 2 ^ 4 } 0,
     .varnish { okAccess with slot := 2 ^ 4 } 0 none none, .restore { okAccess with slot := 2 ^ 4 } 0 none none,
     .replLoad { okAccess with slot := 2 ^ 4 } 0 none, .scrRun { okAccess with slot := 2 ^ 4 } 0,
     .quarantine { okAccess with slot := 2 ^ 4 } 0, .teardown { okAccess with slot := 2 ^ 4 } 0,
     .teardownPart { okAccess with slot := 2 ^ 4 } 0, .ladderL2 { okAccess with slot := 2 ^ 4 } 0,
     .ladderL3 { okAccess with slot := 2 ^ 4 } 0, .ladderL4 { okAccess with slot := 2 ^ 4 } 0,
     .ladderL5 { okAccess with slot := 2 ^ 4 } 0, .join { okAccess with slot := 2 ^ 4 } 0 none,
     .leave { okAccess with slot := 2 ^ 4 } 0 none, .rcvAlarm { okAccess with slot := 2 ^ 4 } 0,
     .gateOn { okAccess with slot := 2 ^ 4 } 0, .gateStep { okAccess with slot := 2 ^ 4 } 0,
     .gateOff { okAccess with slot := 2 ^ 4 } 0, .wchBcast { okAccess with slot := 2 ^ 4 } 0 none,
     .routeSelect { okAccess with slot := 2 ^ 4 } 0, .routeWrite { okAccess with slot := 2 ^ 4 } 0,
     .clear { okAccess with slot := 2 ^ 4 } 0 none, .release { okAccess with slot := 2 ^ 4 } 0 none] : List Instr).all (fun c => !c.wf) = true := by decide +kernel

/-! ### Values that the spec gives -/

/-- Type codes of R345. -/
theorem test_type_codes : recCode .copyFail = 0x0403 ∧ recCode .linkHostile = 0x0906 := by decide

/-- The CRC-32C check value of the polynomial that R52 names, for the nine digits. -/
theorem test_crc32c : crc32c ([0x31, 0x32, 0x33, 0x34, 0x35, 0x36, 0x37, 0x38, 0x39] : List Byte) = 0xE3069283 := by decide +kernel

/-- The pod of the worked example of the stroke: 24 hops and 1 km to the root (R38). -/
def pod : PodSec := { hopsUp := 24, hopsDown := 24, fibreUp := 1000, fibreDown := 1000 }

theorem test_horizon_one_site : agreeDelay pod 1500 (crossDelay pod) = 82260 ∧ horizonOf pod 82260 = 3 := by decide

theorem test_horizon_40_km :
    agreeDelay { pod with cross := 40000, tunnelEnd := 40000 } 1500 (crossDelay { pod with cross := 40000, tunnelEnd := 40000 }) = 322560 ∧
    horizonOf pod 322560 = 6 := by decide

/-- K-block 0 of the worked MX element: 95/256; K-block 1: 2^24; their sum rounds to 2^24 (R90, R95). -/
theorem test_mx_block : blockMx 129 124 ([(0x3C, 0x40), (0xC1, 0x32), (0x04, 0x44), (0x7E, 0x81)].map (fun p => (decElem 2 p.1, decElem 2 p.2))) =
    0x3EBE0000 := by decide +kernel

theorem test_mx_tree : blockMx 131 131 [(decElem 2 0x78, decElem 2 0x78)] = 0x4B800000 ∧ treeSum [0x3EBE0000, 0x4B800000] = 0x4B800000 := by
  decide +kernel

/-- The digests of the worked tally segment, with r = 1,000 (R168, R178), and the expansion of its second sum (R106). -/
theorem test_digests : digest 1000 [5, -3, 12] = 11997005000 ∧ digest 1000 [2, 6, -20] = 170141183460469231731687303695890107727 ∧
    (digest 1000 [5, -3, 12] + digest 1000 [-7, 40, 1] + digest 1000 [2, 6, -20]) % dP = digest 1000 [0, 43, -7] := by decide +kernel

theorem test_tally_expand : tallyExpand 3 43 = 0x3D2C0000 := by decide +kernel

/-- Refusals of the worked address table: a 32-bit access, and a gap (R402). -/
theorem test_denials : denial up slot0 false 0x01A58104 4 = some .narrow ∧ denial up slot0 false 0x110000 8 = some .view := by decide

/-- No word spells a command: no row of the opcode table has bits. -/
theorem test_no_words : decodeTableWord 32 0 = none := by decide

end Sys2Proof.Tests
end

section
/-!
Refused accesses, register writes by their access codes, and the ends of memory accesses.
-/
namespace Sys2Proof.Machine

open Sys2Proof

/-! ### What refuses an access (R402) -/

theorem exec_accessDenied (a : Access) (w : Bool) (addr size : Nat) (s : State) :
    exec (.accessDenied a w addr size) s = .next (accessDenied a w addr size s) := rfl

theorem exec_registerWrite (a : Access) (addr : Nat) (v : Word) (s : State) :
    exec (.registerWrite a addr v) s = .next (registerWrite a addr v s) := rfl

theorem accessDenied_refused {s : State} {a : Access} {w : Bool} {addr size : Nat} {d : Denial} (h : s.boot.inReset = false)
    (hd : denial s a w addr size = some d) : accessDenied a w addr size s = refuse d a w addr s := by simp [accessDenied, h, hd]

theorem accessDenied_admitted {s : State} {a : Access} {w : Bool} {addr size : Nat} (h : s.boot.inReset = false)
    (hd : denial s a w addr size = none) : accessDenied a w addr size s = busOk s := by simp [accessDenied, h, hd]

theorem registerWrite_refused {s : State} {a : Access} {addr : Nat} {v : Word} {d : Denial} (h : s.boot.inReset = false)
    (hd : denial s a true addr 8 = some d) : registerWrite a addr v s = refuse d a true addr s := by simp [registerWrite, h, hd]

theorem registerWrite_admitted {s : State} {a : Access} {addr : Nat} {v : Word} (h : s.boot.inReset = false)
    (hd : denial s a true addr 8 = none) : registerWrite a addr v s = busOk (writeFields a addr v s) := by simp [registerWrite, h, hd]

/-- In cold reset no access completes (log entry 19). -/
theorem accessDenied_inReset {s : State} (h : s.boot.inReset = true) (a : Access) (w : Bool) (addr size : Nat) :
    accessDenied a w addr size s = s := by simp [accessDenied, h]

theorem registerWrite_inReset {s : State} (h : s.boot.inReset = true) (a : Access) (addr : Nat) (v : Word) :
    registerWrite a addr v s = s := by simp [registerWrite, h]

theorem denial_narrow (s : State) (a : Access) (w : Bool) {addr size : Nat} (h : size ≠ 8 ∨ addr % 8 ≠ 0) :
    denial s a w addr size = some .narrow := by
  have hn : (size == 8 && addr % 8 == 0) = false := by
    rcases h with h | h <;> simp [h]
  simp [denial, hn]

theorem denial_view_of_tenant {s : State} {a : Access} {w : Bool} {addr : Nat} (ha : addr % 8 = 0) (hp : privileged s a = false)
    (ht : tenantMay s a w addr = false) : denial s a w addr 8 = some .view := by
  simp [denial, ha, hp, ht]

/-- The privileged view is admitted to the whole node space, whether a node is in use or not. -/
theorem denial_unmapped {s : State} {a : Access} {w : Bool} {addr : Nat} (ha : addr % 8 = 0) (hp : privileged s a = true)
    (hn : inNodes addr = true) (hu : nodeUsed s (nodeOfAddr addr) = false) : denial s a w addr 8 = some .unmapped := by
  have hr : 0x1000000 ≤ addr ∧ addr < 0x2000000 := by simpa [inNodes] using hn
  have hg : inGap addr = false := by simp [inGap]; omega
  have hs : inSlot addr = false := by simp [inSlot]; omega
  simp [denial, privilegedMay, ha, hp, hn, hu, hg, hs]

theorem partOf_noNode (s : State) : partOf s noNode = none := by simp [partOf]

/-- VIEW_DENIED is folded by rate and concerns no node (R347). -/
theorem recordBlock_viewDenied (body : List Byte) (s : State) :
    recordBlock .viewDenied body s = writeByRate (stampRec s .viewDenied noNode none (recSev .viewDenied) body) s := by
  simp only [recordBlock, record, recSevPart, partOf_noNode, recByRate, if_true]

theorem writeByRate_tracked {r : Rec} {s : State} (h : s.ldg.rates.any (rateKeyIs r) = true) :
    writeByRate r s = occurrence { r with seq := 0 }
      (modLdg (fun l => { l with rates := l.rates.map (fun k => if rateKeyIs r k then rateCount r k else k) }) s) := by
  simp [writeByRate, h]

theorem writeByRate_opens {r : Rec} {s : State} (h : s.ldg.rates.any (rateKeyIs r) = false) (hl : s.ldg.rates.length < 64) :
    writeByRate r s = writeOrFold r (modLdg (fun l => { l with
      rates := l.rates ++ [{ typ := r.typ, node := r.node, body0 := (r.body.headD 0).toNat, opened := now s }] }) s) := by
  have hnew : ¬ s.ldg.rates.any (rateKeyIs r) = true := Bool.eq_false_iff.mp h
  exact (if_neg hnew).trans (if_neg (Nat.not_le.mpr hl))

/-- Settles O54: each refused access is a `deny`, and what a `deny` changes is in `deny_frame`. -/
theorem refusedAccessesHaveNoEffect : Obligations.RefusedAccessesHaveNoEffect := by
  refine ⟨fun a w addr size s hr h => ?_, fun a w addr s hr ha hp ht => ?_, fun a addr v s hr ha hp ht => ?_,
    fun a addr f s hr hp => privWrite_denied hr hp f, fun w a n addr s => ⟨_, rfl, rfl, (deny_frame a w n addr s).mono ⟨by decide⟩⟩,
    fun a w n addr s => recordBlock_viewDenied _ s, fun r s h => writeByRate_tracked h, fun r s h hl => writeByRate_opens h hl,
    fun a w addr s hr ha hp hn hu => ?_, fun a w addr s hr hd => ?_, fun a w addr size s hr hd => ?_, fun a w addr size v s hr => ?_⟩
  · rw [exec_accessDenied, accessDenied_refused hr (denial_narrow s a w h)]; rfl
  · rw [exec_accessDenied, accessDenied_refused hr (denial_view_of_tenant ha hp ht)]; rfl
  · rw [exec_registerWrite, registerWrite_refused hr (denial_view_of_tenant ha hp ht)]; rfl
  · rw [exec_accessDenied, accessDenied_refused hr (denial_unmapped ha hp hn hu)]; rfl
  · rw [exec_accessDenied, accessDenied_refused hr hd]; rfl
  · rw [exec_accessDenied, accessDenied_admitted hr hd]
  · rw [exec_accessDenied, exec_registerWrite, accessDenied_inReset hr, registerWrite_inReset hr]; exact ⟨rfl, rfl⟩

/-! ### Fields of a register (R8, R400) -/

/-- `SLT_IRQ_STATUS` of slot `n` lies in that slot's window, at offset 0x10. -/
theorem writeFields_irqStatus (a : Access) {n : Nat} (v : Word) (s : State) (h : n < 16) :
    writeFields a (aSlot n + 0x10) v s = clearIrq n v s := by
  have hin : inSlot (aSlot n + 0x10) = true := by
    rw [inSlot, aSlot, Bool.and_eq_true, decide_eq_true_eq, decide_eq_true_eq]
    omega
  have hno : slotOfAddr (aSlot n + 0x10) = n := by simp only [slotOfAddr, aSlot]; omega
  have hoff : slotOff (aSlot n + 0x10) = 0x10 := by simp only [slotOff, aSlot]; omega
  simp [writeFields, hin, hno, hoff, writeSlot]

/-- GLOBAL, GROUND and what lies above RECOVERY hold no field that a REGISTER_WRITE takes. -/
theorem writeFields_readOnly (a : Access) {addr : Nat} (v : Word) (s : State)
    (h : addr < 0x10000 ∨ (0x300000 ≤ addr ∧ addr < 0x400000) ∨ 0x1000000 ≤ addr) : writeFields a addr v s = s := by
  have hin : inSlot addr = false := by simp [inSlot]; omega
  have hw : windowNo addr = 0 ∨ windowNo addr = 3 ∨ 11 ≤ windowNo addr := by simp only [windowNo]; omega
  simp only [writeFields, hin, Bool.false_eq_true, if_false]
  split
  case h_9 => rfl
  all_goals omega

theorem writeCopyist_ringBase (v : Word) (s : State) : writeCopyist 0x30 v s =
    if s.cpy.lock = true then s else { s with cpy := { s.cpy with ringBase := fld v 47 0 / 2 ^ 16 * 2 ^ 16 } } := by
  show modCpy (fun c => if c.lock then c else { c with ringBase := alignTo 16 (fld v 47 0) }) s = _
  split
  · next h => simp [modCpy, h]
  · next h => simp [modCpy, h, alignTo]

/-! ### Ends of memory accesses (R427) -/

theorem memAnswer_unknown {s : State} {tag : Nat} (h : tget s.mem tag = none) (e : Bool) : memAnswer tag e s = s := by
  simp [memAnswer, h]

theorem memAnswer_done {s : State} {tag : Nat} {w : MemWork} (h : tget s.mem tag = some w) :
    memAnswer tag false s = memDone w (endMem tag s) := by simp [memAnswer, h]

theorem memAnswer_failed {s : State} {tag : Nat} {w : MemWork} (h : tget s.mem tag = some w) :
    memAnswer tag true s = memFailed w (endMem tag s) := by simp [memAnswer, h]

theorem memDone_capture {s : State} {id : Nat} {c : Capture} (h : capture? s id = some c) :
    memDone (.capture id) s = modCap id (fun y => { y with landing := 0 })
      (modCpy (fun y => { y with heldLanding := y.heldLanding - c.landing }) s) := by
  simp [memDone, captureLanded, h]

theorem memFailed_capture {s : State} {id : Nat} {c : Capture} (h : capture? s id = some c) :
    memFailed (.capture id) s = freeCapture id (dropCheck c.port 0x09 c.last c.tag s) := by
  simp [memFailed, dropCapture, h]

/-- Settles O55: the fields of each register as `writeFields` gives them, and the ends of an outstanding access. -/
theorem registerWritesAndMemoryAnswers : Obligations.RegisterWritesAndMemoryAnswers := by
  refine ⟨fun a addr v s hr hd => ?_, fun a v s => rfl, fun a v s => rfl, fun a v s => writeCopyist_ringBase v s, fun a v s => rfl,
    fun a v s => rfl, fun a v s => rfl, fun a n v s hn => writeFields_irqStatus a v s hn, fun a addr v s h => writeFields_readOnly a v s h,
    fun tag e s h => ⟨?_, ?_⟩, fun tag w s h => ⟨?_, ?_, ?_⟩, fun id c s h => ⟨memDone_capture h, memFailed_capture h⟩,
    fun n s => ⟨rfl, rfl⟩, fun p s => ⟨rfl, rfl⟩, fun l s => ⟨rfl, rfl⟩⟩
  · rw [exec_registerWrite, registerWrite_admitted hr hd]
  · exact congrArg _ (memAnswer_unknown h e)
  · exact congrArg _ (memAnswer_unknown h true)
  · exact congrArg _ (memAnswer_done h)
  · exact congrArg _ (memAnswer_failed h)
  · exact congrArg _ (memAnswer_failed h)

end Sys2Proof.Machine
end

section
/-!
Stopped tile clocks: nothing that a stop sets off (its event, its uncovered checks, the hold that it meets) moves a clock.
-/
namespace Sys2Proof.Machine

open Sys2Proof

/-- Every sentinel's clock stands as it stood: stopped or not, and since which stroke (R34). -/
structure ClocksKept (s t : State) : Prop where
  clock : ∀ p, (sent t p).clkStop = (sent s p).clkStop ∧ (sent t p).stopSince = (sent s p).stopSince

theorem ClocksKept.refl (s : State) : ClocksKept s s := ⟨fun _ => ⟨rfl, rfl⟩⟩

theorem ClocksKept.step {s t u : State} (k : ClocksKept t u) (h : ClocksKept s t) : ClocksKept s u :=
  ⟨fun p => ⟨(k.clock p).1.trans (h.clock p).1, (k.clock p).2.trans (h.clock p).2⟩⟩

theorem ClocksKept.of_logged {s t : State} (h : Logged s t) : ClocksKept s t := ⟨fun p => by rw [h.sents p]; exact ⟨rfl, rfl⟩⟩

theorem ClocksKept.of_frame {l : List Comp} {s t : State} (h : Frame l s t) (hl : l.contains .sents = false) : ClocksKept s t := by
  have e : s.sents = t.sents := h.same .sents (by simpa using hl)
  exact ⟨fun p => by simp [sent, e]⟩

theorem ClocksKept.of_modSent {p : Nat} {f : Sentinel → Sentinel} {s : State}
    (hf : ∀ x, (f x).clkStop = x.clkStop ∧ (f x).stopSince = x.stopSince) : ClocksKept s (modSent p f s) := by
  refine ⟨fun q => ?_⟩
  by_cases h : q = p
  · subst h; rw [sent_modSent_same]; exact hf _
  · rw [sent_modSent_other _ _ h]; exact ⟨rfl, rfl⟩

theorem ClocksKept.whenB {s t : State} {b : Bool} {f : State → State} (hf : ∀ x, ClocksKept x (f x)) (h : ClocksKept s t) :
    ClocksKept s (whenB b f t) := by
  cases b
  · exact h
  · exact (hf t).step h

theorem ClocksKept.forEach {α : Type} {xs : List α} {f : α → State → State} {s t : State} (hf : ∀ a x, ClocksKept x (f a x))
    (h : ClocksKept s t) : ClocksKept s (forEach xs f t) := by
  induction xs generalizing t with
  | nil => exact h
  | cons a xs ih => exact ih ((hf a t).step h)

/-! ### A late fault and its ALARM (R228, R274) -/

theorem energyRecord_clocksKept (last e : Nat) (s : State) : ClocksKept s (energyRecord last e s) := by
  unfold energyRecord
  split
  · exact .refl s
  · exact .step (.of_frame (forgetEnergy_frame ..) rfl) (.of_logged (recordBlock_logged ..))

theorem dropEpoch_clocksKept (last e : Nat) (s : State) : ClocksKept s (dropEpoch last e s) := by
  unfold dropEpoch
  split
  · exact .step (energyRecord_clocksKept ..) ⟨fun _ => ⟨rfl, rfl⟩⟩
  · exact .refl s

theorem afterLeave_clocksKept (k : Nat) (s : State) : ClocksKept s (afterLeave k s) := by
  have hmod (f : Part → Part) (x : State) : ClocksKept x (modPart k f x) := .of_frame (modPart_frame ..) rfl
  have hset (st e : Nat) (x : State) : ClocksKept x (setPart k st e x) := .of_frame (setPart_frame ..) rfl
  unfold afterLeave
  dsimp only
  split
  · unfold whenSome
    split
    · exact .step (dropEpoch_clocksKept ..) (.step (hset ..) (.step (hmod ..) (hmod ..)))
    · exact .step (hset ..) (.step (hmod ..) (hmod ..))
  · split
    · split
      · exact .step (hset ..) (.step (hmod ..) (hmod ..))
      · exact .step (hset ..) (hmod ..)
    · exact .step (hset ..) (hmod ..)

theorem cancelPending_clocksKept (e : Nat) (s : State) : ClocksKept s (cancelPending e s) := by
  unfold cancelPending
  dsimp only
  generalize hw : tfind s.parts _ = waiting
  have hleft : ClocksKept s (forgetJoins e (forEach waiting afterLeave s)) :=
    .step (.of_frame (forgetJoins_frame ..) rfl) (.forEach afterLeave_clocksKept (.refl s))
  split
  · split
    · exact .step (dropEpoch_clocksKept ..) hleft
    · exact .step (.of_frame (modRcv_frame ..) rfl) hleft
  · exact hleft

theorem actOnAlarm_clocksKept (m : AlarmMsg) (role : Nat) (s : State) : ClocksKept s (actOnAlarm m role s) := by
  unfold actOnAlarm
  dsimp only
  refine .step (cancelPending_clocksKept ..) (.forEach (fun k x => .of_frame (setPart_frame ..) rfl) ?_)
  refine .step (.of_frame (modEpoch_frame ..) rfl) (.forEach (fun k x => .of_frame (pcount_frame ..) rfl) ?_)
  exact .step (.of_logged (gcount_logged ..)) (.step (.of_frame (modRcv_frame ..) rfl) (.of_logged (recordBlock_logged ..)))

theorem originate_clocksKept (cause e node k : Nat) (detail : List Byte) (s : State) :
    ClocksKept s (originate cause e node k detail s) := by
  unfold originate
  split
  · exact .refl s
  · split
    · exact .refl s
    · refine .step (actOnAlarm_clocksKept ..) (.step (.of_frame (rememberAlarm_frame ..) rfl) ?_)
      exact .step (.of_logged (flood_logged ..)) (.of_frame (modEpoch_frame ..) rfl)

theorem landCheck_clocksKept (c : Chk) (s : State) : ClocksKept s (landCheck c s) := by
  unfold landCheck
  extract_lets d
  split
  · refine .whenB (fun x => ?_) (.step (.of_frame (touchCheck_frame ..) rfl) (.of_frame (addChk_frame ..) rfl))
    split
    · exact .step (originate_clocksKept ..) (.of_logged (sendUp_logged ..))
    · exact .step (.of_frame (noteFail_frame ..) rfl) (.of_logged (sendUp_logged ..))
  · exact .of_frame (addChk_frame ..) rfl

/-! ### The end of a hold (R204 to R217) -/

theorem modSched_clocksKept (p : Nat) (f : Sched → Sched) (s : State) : ClocksKept s (modSched p f s) := .of_modSent fun _ => ⟨rfl, rfl⟩

theorem sliceResult_clocksKept (h : Hold) (outcome cause : Nat) (s : State) : ClocksKept s (sliceResult h outcome cause s) := by
  unfold sliceResult
  refine .step (.of_frame (modScr_frame ..) rfl) (.step (modSched_clocksKept ..) (.step (.of_frame (pcount_frame ..) rfl) ?_))
  exact .step (.of_logged (gcount_logged ..)) (landCheck_clocksKept ..)

theorem craqMod_clocksKept (u i : Nat) (f : Craq → Craq) (s : State) : ClocksKept s (craqMod u i f s) := by
  unfold craqMod craqCommit
  dsimp only
  split
  · exact .step (.of_frame (modLdg_frame ..) rfl) (.of_frame (modNvm_frame ..) rfl)
  · exact .step (.of_logged (record_logged ..)) (.of_frame (modLdg_frame ..) rfl)

theorem recommendTrim_clocksKept (p : Nat) (s : State) : ClocksKept s (recommendTrim p s) := by
  unfold recommendTrim
  dsimp only
  split
  · exact .step (.of_modSent fun _ => ⟨rfl, rfl⟩) (.of_logged (record_logged ..))
  · refine .step (.of_logged (record_logged ..)) (.step (.of_frame (modScr_frame ..) rfl) (.step (.of_logged (emit_logged ..)) ?_))
    exact .step (.of_modSent fun _ => ⟨rfl, rfl⟩) (craqMod_clocksKept ..)

theorem advanceSched_clocksKept (h : Hold) (s : State) : ClocksKept s (advanceSched h s) := by
  unfold advanceSched
  dsimp only
  split
  · exact .refl s
  · exact modSched_clocksKept ..

theorem closeHold_clocksKept (h : Hold) (outcome : Nat) (s : State) : ClocksKept s (closeHold h outcome s) := by
  unfold closeHold
  refine .whenB (recommendTrim_clocksKept _) (.step (.of_frame (modScr_frame ..) rfl) (.step (.of_frame (requestDone_frame ..) rfl) ?_))
  refine .step (modSched_clocksKept ..) (.step (advanceSched_clocksKept ..) ?_)
  exact .step (.of_logged (event_logged ..)) (.of_frame (lowerHold_frame ..) rfl)

theorem endHold_clocksKept (outcome cause : Nat) (s : State) : ClocksKept s (endHold outcome cause s) := by
  unfold endHold
  split
  · exact .refl s
  · split
    · exact .of_frame (modHold_frame ..) rfl
    · exact .step (closeHold_clocksKept ..) (sliceResult_clocksKept ..)

theorem abortHold_clocksKept (cause : Nat) (s : State) : ClocksKept s (abortHold cause s) := by
  unfold abortHold
  split
  · exact .refl s
  · split
    · exact .refl s
    · refine .step (endHold_clocksKept ..) (.step (.of_frame (modHold_frame ..) rfl) ?_)
      exact .whenB (fun x => .of_frame (askStress_frame ..) rfl) (.whenB (fun x => .of_logged (emit_logged ..)) (.refl s))

theorem meetHold_clocksKept (p cause : Nat) (s : State) : ClocksKept s (meetHold p cause s) := by
  unfold meetHold
  split
  · exact .refl s
  · split
    · exact abortHold_clocksKept ..
    · split
      · exact .step (endHold_clocksKept ..) (.of_frame (modHold_frame ..) rfl)
      · exact .refl s

/-! ### Stop and start (R34) -/

theorem clockStop_idle {p : Nat} {s : State} (h : (sent s p).attached = false ∨ (sent s p).clkStop = true) : clockStop p s = s := by
  rcases h with h | h <;> simp [clockStop, h]

/-- A requested stop holds at the end of the command, whatever it set off. -/
theorem clockStop_stops {p : Nat} {s : State} (ha : (sent s p).attached = true) (hc : (sent s p).clkStop = false) :
    (sent (clockStop p s) p).clkStop = true ∧ (sent (clockStop p s) p).stopSince = now s := by
  have hset : (sent (modSent p (fun x => { x with clkStop := true, stopSince := now s }) s) p).clkStop = true ∧
      (sent (modSent p (fun x => { x with clkStop := true, stopSince := now s }) s) p).stopSince = now s := by simp
  have hkept : ClocksKept (modSent p (fun x => { x with clkStop := true, stopSince := now s }) s) (clockStop p s) := by
    simp only [clockStop, ha, hc, Bool.not_true, Bool.or_false, Bool.false_eq_true, if_false]
    refine .step (meetHold_clocksKept ..) (.whenB (fun x => .of_frame (addChk_frame ..) rfl) ?_)
    exact .step (.of_frame (bumpFresh_frame ..) rfl) (.of_logged (event_logged ..))
  exact ⟨(hkept.clock p).1.trans hset.1, (hkept.clock p).2.trans hset.2⟩

theorem clockStart_running {p : Nat} {s : State} (h : (sent s p).clkStop = false) : clockStart p s = s := by simp [clockStart, h]

theorem clockStart_stopped {p : Nat} {s : State} (h : (sent s p).clkStop = true) :
    clockStart p s = event (nodeOf p) evClockStart 0 0 (modSent p (fun x => { x with clkStop := false, restarted := true })
      (modCpy (fun c => { c with captures := c.captures.map (fun e => (e.1, { e.2 with stopped := e.2.stopped + stoppedFor s p e.2 })) }) s)) := by
  simp [clockStart, h]

theorem exec_tileClockStop {p : Nat} {s : State} (h : p < s.build.ports) : exec (.tileClockStop p) s = .next (clockStop p s) :=
  onUnit_built h _

theorem exec_tileClockStart {p : Nat} {s : State} (h : p < s.build.ports) : exec (.tileClockStart p) s = .next (clockStart p s) :=
  onUnit_built h _

/-- Settles O14: a stop is noted and nothing after it moves a clock; a start is the state that the statement writes out. -/
theorem tileClocksStopAndStart : Obligations.TileClocksStopAndStart := by
  refine ⟨fun p s hp ha hc => ⟨clockStop p s, exec_tileClockStop hp, (clockStop_stops ha hc).1, (clockStop_stops ha hc).2, ?_, ?_, ?_⟩,
    fun p s hp h => ?_, fun p s hp h => ?_, fun p s hp h => ?_, fun p s hp => ⟨onUnit_absent hp _, onUnit_absent hp _⟩⟩
  · exact ((clockStop_frame p s).same .stk (by decide)).symm
  · exact ((clockStop_frame p s).same .cpy (by decide)).symm
  · exact ((clockStop_frame p s).same .dgt (by decide)).symm
  · rw [exec_tileClockStop hp, clockStop_idle h]
  · rw [exec_tileClockStart hp, clockStart_stopped h]; rfl
  · rw [exec_tileClockStart hp, clockStart_running h]

end Sys2Proof.Machine
end

section
/-!
What every command changes and how it ends. Each command's meaning is put together from operations whose frames `Laws/Frames.lean` holds;
`Answers` says at once that it is never refused and that it changes the parts of `touches` alone.
-/
namespace Sys2Proof.Machine

open Sys2Proof

/-! ### Frames of a changed state, with the parts compared by computation -/

theorem Frame.within {a b : List Comp} {s t : State} (h : Frame a s t) (hc : a.all (fun c => b.contains c) = true) : Frame b s t :=
  h.mono ⟨hc⟩

theorem Frame.after {a b : List Comp} {s t u : State} (h : Frame a t u) (hc : a.all (fun c => b.contains c) = true) (k : Frame b s t) :
    Frame b s u := h.step ⟨hc⟩ k

theorem Frame.ite {l : List Comp} {s t u : State} {p : Prop} [Decidable p] (h : Frame l s t) (k : Frame l s u) :
    Frame l s (if p then t else u) := by
  split
  · exact h
  · exact k

theorem Frame.ifOnly {l : List Comp} {s t : State} {p : Prop} [Decidable p] (h : Frame l s t) : Frame l s (if p then t else s) :=
  h.ite (.refl l s)

theorem Frame.unless {l : List Comp} {s t : State} {p : Prop} [Decidable p] (h : Frame l s t) : Frame l s (if p then s else t) :=
  (Frame.refl l s).ite h

theorem Frame.when {l : List Comp} {s : State} {b : Bool} {f : State → State} (hf : ∀ x, Frame l x (f x)) :
    Frame l s (Machine.whenB b f s) := .whenB hf (.refl l s)

theorem Frame.each {α : Type} {l : List Comp} {s : State} {xs : List α} {f : α → State → State} (hf : ∀ a x, Frame l x (f a x)) :
    Frame l s (Machine.forEach xs f s) := .forEach hf (.refl l s)

/-! ### How a command ends -/

/-- How a command ends (R3): in a state that differs in the parts listed alone, or with the fault of a unit that was not built. -/
inductive Answers (cs : List Comp) (s : State) : Host.Outcome State Fault Refusal → Prop
  | next {t : State} (h : Frame cs s t) : Answers cs s (.next t)
  | notBuilt (what : String) (n : Nat) : Answers cs s (.fault (.notBuilt what n))

theorem Answers.frame {cs : List Comp} {s t : State} (h : Answers cs s (.next t)) : Frame cs s t := by
  cases h with
  | next h => exact h

theorem Answers.next_or_notBuilt {cs : List Comp} {s : State} {o : Host.Outcome State Fault Refusal} (h : Answers cs s o) :
    (∃ t, o = .next t) ∨ (∃ what n, o = .fault (.notBuilt what n)) := by
  cases h with
  | next h => exact .inl ⟨_, rfl⟩
  | notBuilt what n => exact .inr ⟨what, n, rfl⟩

/-- The parts that the answer to an access may change, denied or admitted. -/
def accessParts : List Comp := [.gnd, .sents, .wch, .slots, .bus, .ldg, .mem, .nextTag, .outs, .fresh]

section Forms

variable {cs : List Comp} {s t : State}

theorem Answers.ok (h : Frame cs s t) : Answers cs s (ok t) := .next h

theorem Answers.onUnit {what : String} {i n : Nat} (h : Frame cs s t) : Answers cs s (onUnit what i n t) := by
  unfold Sys2Proof.Machine.onUnit
  split
  · exact .next h
  · exact .notBuilt what i

theorem Answers.onCounter {p n : Nat} (h : Frame cs s t) :
    Answers cs s (if p < s.build.ports then onCounter p n t else .fault (.notBuilt "port" p)) := by
  unfold Sys2Proof.Machine.onCounter
  split
  · split
    · exact .next h
    · exact .notBuilt "counter" _
  · exact .notBuilt "port" p

/-- A command that writes a register, denied or admitted; `f` is what an admitted write does. -/
theorem Answers.privWrite {a : Access} {addr : Nat} {f : State → State}
    (hc : accessParts.all (fun c => cs.contains c) = true) (hf : ∀ x, Frame cs x (f x)) : Answers cs s (Machine.ok (privWrite a addr f s)) :=
  .next (privWrite_frame a addr hf ⟨hc⟩ (.refl cs s))

theorem Answers.ownWrite {a : Access} {n addr : Nat} {secure : Bool} {f : State → State}
    (hc : accessParts.all (fun c => cs.contains c) = true) (hf : ∀ x, Frame cs x (f x)) : Answers cs s (Machine.ok (ownWrite a n secure addr f s)) :=
  .next (ownWrite_frame a n secure addr hf ⟨hc⟩ (.refl cs s))

theorem Answers.nodeWrite {a : Access} {n off : Nat} {f : State → State}
    (hc : accessParts.all (fun c => cs.contains c) = true) (hf : ∀ x, Frame cs x (f x)) : Answers cs s (Machine.ok (nodeWrite a n off f s)) :=
  .next (nodeWrite_frame a n off hf ⟨hc⟩ (.refl cs s))

theorem Answers.ownerWrite {a : Access} {addr k : Nat} {f : State → State}
    (hc : accessParts.all (fun c => cs.contains c) = true) (hf : ∀ x, Frame cs x (f x)) : Answers cs s (Machine.ok (ownerWrite a addr k f s)) :=
  .next (ownerWrite_frame a addr k hf ⟨hc⟩ (.refl cs s))

/-- A message of an epoch's tree that a link brings. -/
theorem Answers.fromTree {what : String} {i n e l : Nat} {up : Bool} {f : State → State} (hc : cs.contains .wch = true)
    (hf : ∀ x, Frame cs x (f x)) : Answers cs s (Machine.onUnit what i n (fromTree up e l f s)) :=
  .onUnit (fromTree_frame up e l hf ⟨by simpa using hc⟩ (.refl cs s))

end Forms

/-! ### Reset and bring-up (R374 to R401) -/

/-- Whatever waits in the queue and whatever the block was built with stays through a cold reset (log entry 1). -/
theorem coldReset_frame (s : State) : Frame (logParts ++ ([.straps, .nvm, .life, .boot, .pwr, .energies, .tcfg, .stk, .parts, .epochs, .chks,
    .judged, .judgedStroke, .cpy, .dgt, .scr, .taint, .rcv, .mbxs, .bus] : List Comp)) s (coldReset s) := by
  refine ⟨fun c h => ?_⟩
  cases c
  case build => rfl
  case pending => rfl
  all_goals exact absurd (by decide) h

theorem execColdResetAssert_answers (n : Nat) (s : State) : Answers (touches (.coldResetAssert n)) s (execColdResetAssert n s) :=
  .ok (.after (coldReset_frame _) rfl (.unless (.after (commitSome_frame ..) rfl (.within (sealQuietly_frame s) rfl))))

theorem execFirmwareLoadGo_answers (a : Access) (v : Word) (s : State) : Answers (touches (.firmwareLoadGo a v)) s (execFirmwareLoadGo a v s) :=
  .privWrite rfl fun _ => .whenB (fun y => .within (bootGo_frame y) rfl) (.within (modBoot_frame ..) rfl)

theorem execGndLoadGo_answers (a : Access) (v : Word) (s : State) : Answers (touches (.gndLoadGo a v)) s (execGndLoadGo a v s) :=
  .privWrite rfl fun _ => .whenB (fun y => .within (groundLoadGo_frame _ y) rfl) (.within (modGnd_frame ..) rfl)

theorem execSentinelAttach_answers (ports : List PortAttach) (s : State) :
    Answers (touches (.sentinelAttach ports)) s (execSentinelAttach ports s) :=
  .ok (.ifOnly (.after (modBoot_frame ..) rfl (.each fun a x => .within (attachPort_frame a x) rfl)))

theorem execClockLoss_answers (s : State) : Answers (touches .clockLoss) s (execClockLoss s) :=
  .ok (.unless (.after (startReset_frame ..) rfl (.after (modPwr_frame ..) rfl (.within (recordBlock_frame ..) rfl))))

/-! ### Residue lanes (R125 to R136) -/

theorem execResidueInject_answers (a : Access) (n : Nat) (s : State) : Answers (touches (.residueInject a n)) s (execResidueInject a n s) :=
  .nodeWrite rfl fun _ => .ite (.within (pulseInj_frame ..) rfl) (.each fun _ _ => .within (modRl_frame ..) rfl)

theorem execForceDualWrite_answers (a : Access) (n : Nat) (on : Bool) (s : State) :
    Answers (touches (.forceDualWrite a n on)) s (execForceDualWrite a n on s) :=
  .nodeWrite rfl fun _ => .whenB (fun _ => .each fun _ _ => .within (modAsm_frame ..) rfl) (.each fun _ _ => .within (modRl_frame ..) rfl)

theorem execRlStatusClear_answers (a : Access) (n : Nat) (v : Word) (s : State) :
    Answers (touches (.rlStatusClear a n v)) s (execRlStatusClear a n v s) :=
  .nodeWrite rfl fun _ => .each fun _ _ => .within (modRl_frame ..) rfl

/-! ### The Copyist (R137 to R167) -/

theorem execCommandTag_answers (p : Nat) (t : TagCmd) (s : State) : Answers (touches (.commandTag p t)) s (execCommandTag p t s) :=
  .onUnit (.ifOnly (.after (acceptTag_frame ..) rfl (.whenB (fun _ => .within (record_frame ..) rfl) (.within (closeSlot_frame ..) rfl))))

theorem execTapBeat_answers (p : Nat) (b : TapBeat) (s : State) : Answers (touches (.tapBeat p b)) s (execTapBeat p b s) := by
  refine .onUnit ?_
  split
  · exact .refl _ s
  · split
    · exact .within (captureBeat_frame ..) rfl
    · exact .within (duplexBeat_frame ..) rfl
    · exact .refl _ s

theorem execCmdDone_answers (p c : Nat) (s : State) : Answers (touches (.cmdDone p c)) s (execCmdDone p c s) := by
  refine .onUnit ?_
  split
  · exact .refl _ s
  · dsimp only
    split
    · exact .after (duplexDone_frame ..) rfl (.within (modSent_frame ..) rfl)
    · exact .within (modSent_frame ..) rfl

theorem execDuplexRefuse_answers (p c : Nat) (s : State) : Answers (touches (.duplexRefuse p c)) s (execDuplexRefuse p c s) := by
  refine .onUnit ?_
  split
  · exact .refl _ s
  · split
    · exact .refl _ s
    · exact .unless (.after (duplexUncovered_frame ..) rfl (.within (record_frame ..) rfl))

theorem execDuplexMissing_answers (i : Nat) (s : State) : Answers (touches (.duplexMissing i)) s (execDuplexMissing i s) := by
  refine .ok ?_
  split
  · exact .refl _ s
  · split
    · exact .ifOnly (.within (duplexUncovered_frame ..) rfl)
    · exact .ifOnly (.within (duplexUncovered_frame ..) rfl)
    · exact .refl _ s

theorem execCaptureTooLong_answers (cap : Nat) (s : State) : Answers (touches (.captureTooLong cap)) s (execCaptureTooLong cap s) := by
  refine .ok ?_
  split
  · exact .refl _ s
  · exact .ifOnly (.within (dropCapture_frame ..) rfl)

theorem execBacklogDrop_answers (cap i : Nat) (s : State) : Answers (touches (.backlogDrop cap i)) s (execBacklogDrop cap i s) := by
  refine .ok ?_
  split
  · exact .refl _ s
  · split
    · exact .refl _ s
    · exact .ifOnly (.within (endPiece_frame ..) rfl)

theorem execCanaryComplete_answers (u : Nat) (k : Option Nat) (s : State) :
    Answers (touches (.canaryComplete u k)) s (execCanaryComplete u k s) := by
  refine .onUnit (.ite ?_ (.refl _ s))
  have hcounted (f : Cpy → Cpy) (g : Boot → Boot) : Frame (touches (.canaryComplete u k)) s (modBoot g (modCpy f (endCanary u s))) :=
    .after (modBoot_frame ..) rfl (.after (modCpy_frame ..) rfl (.within (endCanary_frame ..) rfl))
  dsimp only
  split
  · exact .after (unitPass_frame ..) rfl (hcounted ..)
  · exact .after (unitFail_frame ..) rfl (.after (modCpy_frame ..) rfl (hcounted ..))

theorem execCanaryRun_answers (a : Access) (v : Word) (s : State) : Answers (touches (.canaryRun a v)) s (execCanaryRun a v s) :=
  .privWrite rfl fun _ => .when fun _ => .each fun _ _ => .within (modUnit_frame ..) rfl

theorem execCpyStoreWrite_answers (a : Access) (v : Word) (s : State) : Answers (touches (.cpyStoreWrite a v)) s (execCpyStoreWrite a v s) :=
  .privWrite rfl fun _ => .unless (.ite (.within (modCpy_frame ..) rfl) (.within (modCpy_frame ..) rfl))

theorem execPeerTimeout_answers (r : Nat) (s : State) : Answers (touches (.peerTimeout r)) s (execPeerTimeout r s) := by
  refine .ok ?_
  split
  · exact .refl _ s
  · exact .ifOnly (.within (peerUncovered_frame ..) rfl)

/-! ### Digests (R168 to R195) -/

theorem execTapData_answers (tap st off n : Nat) (bs : List Byte) (s : State) :
    Answers (touches (.tapData tap st off n bs)) s (execTapData tap st off n bs s) := by
  refine .onUnit (.unless ?_)
  split
  · exact .after (takeBeat_frame ..) rfl (.within (countTap_frame ..) rfl)
  · exact .after (tapProtocol_frame ..) rfl (.within (countTap_frame ..) rfl)

theorem execStreamTimeout_answers (tap st : Nat) (s : State) : Answers (touches (.streamTimeout tap st)) s (execStreamTimeout tap st s) := by
  refine .onUnit ?_
  split
  · exact .ifOnly (.after (closeStream_frame ..) rfl (.within (tapProtocol_frame ..) rfl))
  · exact .refl _ s

theorem execTallyRelayTimeout_answers (coll st seg : Nat) (s : State) :
    Answers (touches (.tallyRelayTimeout coll st seg)) s (execTallyRelayTimeout coll st seg s) := by
  refine .ok ?_
  split
  · exact .ifOnly (.within (forwardTally_frame ..) rfl)
  · exact .refl _ s

theorem execTallyTotalTimeout_answers (coll st seg : Nat) (s : State) :
    Answers (touches (.tallyTotalTimeout coll st seg)) s (execTallyTotalTimeout coll st seg s) := by
  refine .ok ?_
  split
  · split
    · exact .ifOnly (.after (tallyVerdict_frame ..) rfl (.within (recordBlock_frame ..) rfl))
    · exact .refl _ s
  · exact .refl _ s

theorem execExponentProposal_answers (l : Nat) (e : ExpMsg) (s : State) :
    Answers (touches (.exponentProposal l e)) s (execExponentProposal l e s) := by
  refine .onUnit (.ite (.when fun _ => .within (takeProposal_frame ..) rfl) (.ite ?_ ?_))
  · exact fromTree_frame _ _ _ (fun _ => .within (relayBypass_frame ..) rfl) ⟨rfl⟩ (.refl _ s)
  · exact fromTree_frame _ _ _ (fun _ => .within (takeProposal_frame ..) rfl) ⟨rfl⟩ (.refl _ s)

theorem execXportTimeout_answers (coll st host seq : Nat) (s : State) :
    Answers (touches (.xportTimeout coll st host seq)) s (execXportTimeout coll st host seq s) := by
  refine .ok ?_
  split
  · split
    · exact .ifOnly (.after (landCheck_frame ..) rfl (.within (dropXport_frame ..) rfl))
    · exact .refl _ s
  · exact .refl _ s

theorem execVarnishCommitted_answers (n : Nat) (good : Bool) (s : State) :
    Answers (touches (.varnishCommitted n good)) s (execVarnishCommitted n good s) :=
  .onUnit (.ifOnly (.ite (.within (dgtFinish_frame ..) rfl) (.ifOnly (.within (sealVarnish_frame ..) rfl))))

theorem execVoteTimeout_answers (g sh st : Nat) (s : State) : Answers (touches (.voteTimeout g sh st)) s (execVoteTimeout g sh st s) := by
  refine .ok ?_
  split
  · split
    · exact .ifOnly (.within (closeVote_frame ..) rfl)
    · exact .refl _ s
  · exact .refl _ s

/-! ### Verdicts (R222 to R243) -/

theorem execVerdictRelayTimeout_answers (e n : Nat) (s : State) :
    Answers (touches (.verdictRelayTimeout e n)) s (execVerdictRelayTimeout e n s) := by
  refine .ok ?_
  split
  · exact .ifOnly (.within (forwardRelay_frame ..) rfl)
  · exact .refl _ s

theorem execHorizonMiss_answers (e n : Nat) (s : State) : Answers (touches (.horizonMiss e n)) s (execHorizonMiss e n s) := by
  refine .ok ?_
  split
  · exact .refl _ s
  · exact .unless (.after (recordBlock_frame ..) rfl (.within (modEpoch_frame ..) rfl))

theorem execVerdictLost_answers (e n : Nat) (s : State) : Answers (touches (.verdictLost e n)) s (execVerdictLost e n s) := by
  refine .ok ?_
  split
  · exact .refl _ s
  · exact .unless (.after (originate_frame ..) rfl (.within (modEpoch_frame ..) rfl))

theorem execBlastRecord_answers (i : Nat) (revised : Bool) (s : State) :
    Answers (touches (.blastRecord i revised)) s (execBlastRecord i revised s) := by
  refine .ok ?_
  split
  · exact .ifOnly (.within (writeBlast_frame ..) rfl)
  · exact .refl _ s

/-! ### Field screening (R196 to R220) -/

theorem execSliceGrant_answers (p : Nat) (s : State) : Answers (touches (.sliceGrant p)) s (execSliceGrant p s) := by
  refine .onUnit ?_
  split
  · exact .refl _ s
  · exact .ite (.within (granted_frame s) rfl) (.ifOnly (.after (startRun_frame ..) rfl (.within (modHold_frame ..) rfl)))

theorem execGrantTimeout_answers (s : State) : Answers (touches .grantTimeout) s (execGrantTimeout s) := by
  refine .ok ?_
  split
  · exact .ifOnly (.within (deferHold_frame ..) rfl)
  · exact .refl _ s

theorem execHoldLimit_answers (s : State) : Answers (touches .holdLimit) s (execHoldLimit s) := by
  refine .ok ?_
  split
  · refine .unless (.ite (.after (holdGoesOn_frame ..) rfl (.within (modHold_frame ..) rfl)) ?_)
    refine .after (endHold_frame ..) rfl (.after (modHold_frame ..) rfl ?_)
    exact .whenB (fun _ => .within (emit_frame ..) rfl) (.when fun _ => .within (emit_frame ..) rfl)
  · exact .refl _ s

theorem execSliceRunComplete_answers (r : RunEnd) (s : State) : Answers (touches (.sliceRunComplete r)) s (execSliceRunComplete r s) := by
  refine .ok ?_
  split
  · exact .refl _ s
  · refine .unless ?_
    split
    · exact .within (runDone_frame ..) rfl
    · exact .within (overBudget_frame s) rfl

theorem execSliceBudgetExpiry_answers (s : State) : Answers (touches .sliceBudgetExpiry) s (execSliceBudgetExpiry s) := by
  refine .ok ?_
  split
  · exact .ifOnly (.within (overBudget_frame s) rfl)
  · exact .refl _ s

theorem execWitnessGrantTimeout_answers (s : State) : Answers (touches .witnessGrantTimeout) s (execWitnessGrantTimeout s) := by
  refine .ok ?_
  split
  · refine .ifOnly (.after (endHold_frame ..) rfl (.after (modHold_frame ..) rfl ?_))
    exact .whenSome (fun _ _ => .within (emit_frame ..) rfl) (.refl _ s)
  · exact .refl _ s

theorem execMbistRestore_answers (x y : Nat) (s : State) : Answers (touches (.mbistRestore x y)) s (execMbistRestore x y s) := by
  refine .ok ?_
  split
  · exact .refl _ s
  · refine .unless (.ite ?_ (.ite (.within (restoreFailed_frame ..) rfl) (.within (modHold_frame ..) rfl)))
    dsimp only
    split
    · exact .ite (.after (holdGoesOn_frame ..) rfl (.within (modHold_frame ..) rfl)) (.after (afterRun_frame ..) rfl (.within (modHold_frame ..) rfl))
    · exact .after (holdGoesOn_frame ..) rfl (.within (modHold_frame ..) rfl)

theorem execStressAck_answers (mv : Int) (f : Nat) (s : State) : Answers (touches (.stressAck mv f)) s (execStressAck mv f s) := by
  refine .ok ?_
  have hfall (g : Hold → Hold) : Frame (touches (.stressAck mv f)) s (modHold g (emit .stressFall s)) :=
    .after (modHold_frame ..) rfl (.within (emit_frame ..) rfl)
  split
  · exact .refl _ s
  · refine .ite (.ite ?_ ?_) (.ifOnly (.ite ?_ ?_))
    · exact .after (noStress_frame ..) rfl (hfall _)
    · exact .after (startRun_frame ..) rfl (.after (modHold_frame ..) rfl (hfall _))
    · exact .after (holdGoesOn_frame ..) rfl (hfall _)
    · exact .after (startRun_frame ..) rfl (hfall _)

theorem execStressTimeout_answers (s : State) : Answers (touches .stressTimeout) s (execStressTimeout s) := by
  refine .ok ?_
  split
  · exact .ifOnly (.after (noStress_frame ..) rfl (.within (emit_frame ..) rfl))
  · exact .refl _ s

theorem execHeatReached_answers (r : Nat) (s : State) : Answers (touches (.heatReached r)) s (execHeatReached r s) := by
  refine .ok ?_
  split
  · exact .ifOnly (.after (applyStress_frame ..) rfl (.within (modHold_frame ..) rfl))
  · exact .refl _ s

theorem execHeatLimit_answers (s : State) : Answers (touches .heatLimit) s (execHeatLimit s) := by
  refine .ok ?_
  split
  · exact .ifOnly (.after (applyStress_frame ..) rfl (.within (modHold_frame ..) rfl))
  · exact .refl _ s

theorem execTestPortAck_answers (d : Nat) (s : State) : Answers (touches (.testPortAck d)) s (execTestPortAck d s) := by
  refine .ok ?_
  split
  · exact .within (analogStep_frame ..) rfl
  · exact .refl _ s

theorem execTestPortTimeout_answers (s : State) : Answers (touches .testPortTimeout) s (execTestPortTimeout s) := by
  refine .ok ?_
  split
  · exact .within (endAnalog_frame ..) rfl
  · exact .refl _ s

theorem execTrimRecommend_answers (p : Nat) (s : State) : Answers (touches (.trimRecommend p)) s (execTrimRecommend p s) :=
  .onUnit (.unless (.ite (.within (modSent_frame ..) rfl) (.within (recommendTrim_frame ..) rfl)))

theorem execDeepTestAccess_answers (s : State) : Answers (touches .deepTestAccess) s (execDeepTestAccess s) :=
  .ok (.unless (.after (recordBlock_frame ..) rfl (.within (modLife_frame ..) rfl)))

/-! ### Recovery (R252 to R286) -/

theorem execFenceTimeout_answers (p : Nat) (s : State) : Answers (touches (.fenceTimeout p)) s (execFenceTimeout p s) := by
  unfold execFenceTimeout
  split
  · exact .ok (.within (fabricLimit_frame s) rfl)
  · exact .onUnit (.within (fenceLimit_frame ..) rfl)

theorem execLateArrival_answers (p : Option Nat) (s : State) : Answers (touches (.lateArrival p)) s (execLateArrival p s) := by
  cases p with
  | none => exact .ok (.within (lateOne_frame ..) rfl)
  | some p => exact .onUnit (.within (lateOne_frame ..) rfl)

theorem execResetAckFall_answers (p : Option Nat) (s : State) : Answers (touches (.resetAckFall p)) s (execResetAckFall p s) := by
  cases p with
  | none => exact .ok (.within (ackFall_frame ..) rfl)
  | some p => exact .onUnit (.within (ackFall_frame ..) rfl)

theorem execLadderLevelTimeout_answers (i : Nat) (s : State) : Answers (touches (.ladderLevelTimeout i)) s (execLadderLevelTimeout i s) := by
  refine .ok ?_
  split
  · exact .ifOnly (.within (failLevel_frame ..) rfl)
  · exact .refl _ s

theorem execTrCycleRequest_answers (s : State) : Answers (touches .trCycleRequest) s (execTrCycleRequest s) := by
  refine .ok ?_
  split
  · exact .ifOnly (.after (modRcv_frame ..) rfl (.within (emit_frame ..) rfl))
  · exact .refl _ s

theorem execPowerCycleTimeout_answers (s : State) : Answers (touches .powerCycleTimeout) s (execPowerCycleTimeout s) := by
  refine .ok ?_
  split
  · exact .ifOnly (.within (cycleFailed_frame ..) rfl)
  · exact .refl _ s

theorem execJoinStroke_answers (k : Nat) (s : State) : Answers (touches (.joinStroke k)) s (execJoinStroke k s) := by
  refine .onUnit ?_
  split
  · exact .ifOnly (.after (joinPart_frame ..) rfl (.within (joinTick_frame s) rfl))
  · exact .refl _ s

theorem execLeaveStroke_answers (k : Nat) (s : State) : Answers (touches (.leaveStroke k)) s (execLeaveStroke k s) := by
  refine .onUnit ?_
  split
  · refine .unless (.ite ?_ (.ite ?_ (.within (modPart_frame ..) rfl)))
    · exact .after (leavePart_frame ..) rfl (.within (joinTick_frame s) rfl)
    · exact .after (dropEpoch_frame ..) rfl (.after (afterLeave_frame ..) rfl (.within (joinTick_frame s) rfl))
  · exact .refl _ s

theorem execRcvAlarm_answers (a : Access) (v : Word) (s : State) : Answers (touches (.rcvAlarm a v)) s (execRcvAlarm a v s) :=
  .privWrite rfl fun _ => .when fun _ => .within (alarmPart_frame ..) rfl

theorem execAbortAt_answers (e : Nat) (s : State) : Answers (touches (.abortAt e)) s (execAbortAt e s) := by
  refine .ok ?_
  split
  · exact .ifOnly (.within (abortEpoch_frame ..) rfl)
  · exact .refl _ s

theorem execStepDone_answers (p : Nat) (s : State) : Answers (touches (.stepDone p)) s (execStepDone p s) := by
  refine .onUnit ?_
  split
  · exact .within (stepAnswered_frame ..) rfl
  · exact .refl _ s

theorem execCkptTimer_answers (k : Nat) (s : State) : Answers (touches (.ckptTimer k)) s (execCkptTimer k s) := by
  refine .onUnit (.unless (.ite ?_ (.ifOnly (.after (modPart_frame ..) rfl (.within (requestCkpt_frame ..) rfl)))))
  split
  · exact .within (ckptStep_frame ..) rfl
  · exact .refl _ s

theorem execCkptOverdue_answers (k : Nat) (s : State) : Answers (touches (.ckptOverdue k)) s (execCkptOverdue k s) := by
  refine .onUnit ?_
  split
  · exact .ifOnly (.after (recPart_frame ..) rfl (.within (modPart_frame ..) rfl))
  · exact .refl _ s

/-! ### The Watch mesh (R287 to R317) -/

theorem execLaneLockLoss_answers (n : Nat) (s : State) : Answers (touches (.laneLockLoss n)) s (execLaneLockLoss n s) :=
  .onUnit (.ifOnly (.ite (.within (toWait_frame ..) rfl) (.within (modLink_frame ..) rfl)))

theorem execTrainTimeout_answers (l : Nat) (s : State) : Answers (touches (.trainTimeout l)) s (execTrainTimeout l s) :=
  .onUnit (.ifOnly (.after (recordBlock_frame ..) rfl (.after (linkRecord_frame ..) rfl (.within (modLink_frame ..) rfl))))

theorem execCredit_answers (l : Nat) (r : List Nat) (k : Nat) (s : State) : Answers (touches (.credit l r k)) s (execCredit l r k s) :=
  .onUnit (.ite (.within (goodControl_frame ..) rfl) (.ifOnly (.after (takeCredits_frame ..) rfl (.within (takeAck_frame ..) rfl))))

theorem execNack_answers (l n : Nat) (r : List Nat) (s : State) : Answers (touches (.nack l n r)) s (execNack l n r s) :=
  .onUnit (.ifOnly (.after (replay_frame ..) rfl (.after (takeCredits_frame ..) rfl (.within (takeAck_frame ..) rfl))))

theorem execRekey_answers (l : Nat) (s : State) : Answers (touches (.rekey l)) s (execRekey l s) :=
  .onUnit (.ifOnly (.after (emit_frame ..) rfl (.within (modLink_frame ..) rfl)))

theorem execCreditWait_answers (l c : Nat) (s : State) : Answers (touches (.creditWait l c)) s (execCreditWait l c s) :=
  .onUnit (.unless (.ite (.after (faulty_frame ..) rfl (.within (modErr_frame ..) rfl)) (.within (slowLink_frame ..) rfl)))

/-! ### Slots, the ledger and memory (R318 to R372) -/

theorem execMailboxPost_answers (a : Access) (w c : Nat) (v : Word) (s : State) :
    Answers (touches (.mailboxPost a w c v)) s (execMailboxPost a w c v s) :=
  .ok (.unless (.ite (.within (deny_frame ..) rfl) (.after (postNotice_frame ..) rfl (.within (busOk_frame s) rfl))))

theorem execMailboxEcho_answers (n c i : Nat) (s : State) : Answers (touches (.mailboxEcho n c i)) s (execMailboxEcho n c i s) := by
  refine .ok ?_
  split
  · exact .within (answerWith_frame ..) rfl
  · exact .refl _ s

theorem execLedgerRead_answers (n c i : Nat) (q : MemRead) (s : State) : Answers (touches (.ledgerRead n c i q)) s (execLedgerRead n c i q s) := by
  refine .ok ?_
  split
  · exact .within (answerWith_frame ..) rfl
  · exact .refl _ s

theorem execCounters_answers (n c i : Nat) (s : State) : Answers (touches (.counters n c i)) s (execCounters n c i s) := by
  refine .ok ?_
  split
  · exact .within (answerWith_frame ..) rfl
  · exact .refl _ s

theorem execPartState_answers (n c i : Nat) (s : State) : Answers (touches (.partState n c i)) s (execPartState n c i s) := by
  refine .ok ?_
  split
  · exact .within (answerWith_frame ..) rfl
  · exact .refl _ s

theorem execServiceBusy_answers (n c i : Nat) (s : State) : Answers (touches (.serviceBusy n c i)) s (execServiceBusy n c i s) := by
  refine .ok ?_
  split
  · exact .ifOnly (.within (answerNotice_frame ..) rfl)
  · exact .refl _ s

theorem execRateWindow_answers (i : Nat) (s : State) : Answers (touches (.rateWindow i)) s (execRateWindow i s) := by
  unfold execRateWindow
  split
  · exact .ok (.when fun _ => .within (endWindow_frame ..) rfl)
  · exact .ok (.refl _ s)

theorem execRecordCommit_answers (good : Bool) (s : State) : Answers (touches (.recordCommit good)) s (execRecordCommit good s) := by
  unfold execRecordCommit
  split
  · exact .ok (.refl _ s)
  · split
    · exact .ok (.refl _ s)
    · split
      · exact .ok (.refl _ s)
      · exact .ok (.ite (.within (programmed_frame ..) rfl) (.within (unitFailed_frame ..) rfl))

theorem execUnitErase_answers (u : Nat) (good : Bool) (s : State) : Answers (touches (.unitErase u good)) s (execUnitErase u good s) := by
  unfold execUnitErase
  exact .onUnit (.ifOnly (.ite (.within (erased_frame ..) rfl) (.within (eraseFailed_frame ..) rfl)))

/-! ### Every command -/

/-- What the arm of each command calls, with the frame of that call. -/
theorem exec_answers (c : Instr) (s : State) : Answers (touches c) s (exec c s) := by
  cases c with
  | coldResetAssert n => exact execColdResetAssert_answers n s
  | coldResetDeassert x => exact .ok (.ifOnly (.within (sampleStraps_frame ..) rfl))
  | bringupRom x y z => exact .ok (.ifOnly (.within (romDone_frame ..) rfl))
  | firmwareImageCheck src img => exact .ok (.ifOnly (.within (firmwareChecked_frame ..) rfl))
  | firmwareLoadGo a v => exact execFirmwareLoadGo_answers a v s
  | bringupStepTimeout => exact .ok (.unless (.within (stepCut_frame s) rfl))
  | sentinelAttach ports => exact execSentinelAttach_answers ports s
  | censusStart => exact .ok (.ifOnly (.within (censusBegin_frame s) rfl))
  | censusComplete => exact .ok (.ifOnly (.within (censusEnd_frame s) rfl))
  | clockLoss => exact execClockLoss_answers s
  | coreClockReturn => exact .ok (.within (modPwr_frame ..) rfl)
  | coreReset a v => exact .privWrite rfl fun _ => .within (resetWrite_frame ..) rfl
  | controlReset a v => exact .privWrite rfl fun _ => .within (resetWrite_frame ..) rfl
  | domainResetDone d => exact .ok (.within (endReset_frame ..) rfl)
  | lockstepMismatch d => exact .ok (.unless (.within (selfFault_frame ..) rfl))
  | wardenWatchdog => exact .ok (.unless (.within (startReset_frame ..) rfl))
  | powerEstimate e => exact .ok (.unless (.within (takeEstimate_frame ..) rfl))
  | grantStrobe g => exact .ok (.unless (.within (takeGrant_frame ..) rfl))
  | devkey a v => exact .privWrite rfl fun _ => .within (lcWrite_frame ..) rfl
  | provision a v blk => exact .privWrite rfl fun _ => .within (lcWrite_frame ..) rfl
  | lifecycleReturn a v blk => exact .privWrite rfl fun _ => .within (lcWrite_frame ..) rfl
  | serial a v blk => exact .privWrite rfl fun _ => .within (lcWrite_frame ..) rfl
  | revoke a v blk => exact .privWrite rfl fun _ => .within (lcWrite_frame ..) rfl
  | otpAccessDone err z => exact .ok (.within (otpAnswer_frame ..) rfl)
  | strokeTick sig => exact .ok (.within (tick_frame ..) rfl)
  | judgePhase u => exact .ok (enterPhase_frame 0 (fun _ => .within (judgeWork_frame ..) rfl) ⟨rfl⟩ (.refl _ s))
  | publishPhase => exact .ok (enterPhase_frame 1 (fun x => .within (publish_frame x) rfl) ⟨rfl⟩ (.refl _ s))
  | guardPhase audits => exact .ok (enterPhase_frame 2 (fun _ => .each fun _ _ => .within (auditCount_frame ..) rfl) ⟨rfl⟩ (.refl _ s))
  | strokeMarker l m n r => exact .onUnit (.within (takeMarker_frame ..) rfl)
  | missingMarker => exact .ok (.within (missTick_frame s) rfl)
  | pinEdge n => exact .ok (.within (takeEdge_frame ..) rfl)
  | heartbeat l h n => exact .onUnit (.within (takeHeart_frame ..) rfl)
  | strokeEnable a v => exact .privWrite rfl fun _ => .within (writeStkCfg_frame ..) rfl
  | strokeLock a v => exact .privWrite rfl fun _ => .within (writeStkCfg_frame ..) rfl
  | periodWrite a v => exact .privWrite rfl fun _ => .within (writeStkCfg_frame ..) rfl
  | strokeConflictRepeat => exact .ok (.ifOnly (.within (masterConflict_frame s) rfl))
  | gndLoadGo a v => exact execGndLoadGo_answers a v s
  | groundImageCheck src img => exact .ok (.ifOnly (.within (groundChecked_frame ..) rfl))
  | groundSourceTimeout => exact .ok (.ifOnly (.within (groundFail_frame ..) rfl))
  | nodeAbsent n => exact .ok (.ifOnly (.within (nodeGone_frame ..) rfl))
  | censusSummary c => exact .ok (.within (takeCensus_frame ..) rfl)
  | cubeCensusTimeout => exact .ok (.when fun x => .within (sendCube_frame x) rfl)
  | deputyTimeout => exact .ok (.when fun x => .within (sendCube_frame x) rfl)
  | tileClockStop p => exact .onUnit (.within (clockStop_frame ..) rfl)
  | tileClockStart p => exact .onUnit (.within (clockStart_frame ..) rfl)
  | residueOutcome p ch r => exact .onUnit (.ifOnly (.within (takeOutcome_frame ..) rfl))
  | residueCountClose p => exact .onUnit (.ifOnly (.within (modRl_frame ..) rfl))
  | residueInject a n => exact execResidueInject_answers a n s
  | forceDualWrite a n on => exact execForceDualWrite_answers a n on s
  | rlStatusClear a n v => exact execRlStatusClear_answers a n v s
  | commandTag p t => exact execCommandTag_answers p t s
  | tapBeat p b => exact execTapBeat_answers p b s
  | cmdDone p n => exact execCmdDone_answers p n s
  | duplexRefuse p n => exact execDuplexRefuse_answers p n s
  | duplexMissing i => exact execDuplexMissing_answers i s
  | captureTooLong cap => exact execCaptureTooLong_answers cap s
  | pieceComplete cap i r =>
    exact .ok (.ite (.within (pieceRun_frame ..) rfl) (.ite (.within (peerServed_frame ..) rfl) (.ifOnly (.within (goldenRun_frame ..) rfl))))
  | backlogDrop cap i => exact execBacklogDrop_answers cap i s
  | canaryDue u => exact .onUnit (.ifOnly (.within (modUnit_frame ..) rfl))
  | canaryComplete u k => exact execCanaryComplete_answers u k s
  | canaryRun a v => exact execCanaryRun_answers a v s
  | cpyStoreWrite a v => exact execCpyStoreWrite_answers a v s
  | cpyLock a v => exact .privWrite rfl fun _ => .within (writeCpyCfg_frame ..) rfl
  | peerReq l r o n d => exact .onUnit (.within (takePeerReq_frame ..) rfl)
  | peerData l r n last bs => exact .onUnit (.within (takePeerData_frame ..) rfl)
  | peerResp l r st n d => exact .onUnit (.within (takePeerResp_frame ..) rfl)
  | peerTimeout r => exact execPeerTimeout_answers r s
  | copySuspect l v => exact .onUnit (.within (takeSuspect_frame ..) rfl)
  | tapHeader tap h => exact .onUnit (.when fun _ => .within (takeHeader_frame ..) rfl)
  | tapData tap st off n bs => exact execTapData_answers tap st off n bs s
  | streamTimeout tap st => exact execStreamTimeout_answers tap st s
  | tallyUp l t => exact .fromTree rfl fun _ => .within (takeTallyUp_frame ..) rfl
  | tallyRelayTimeout coll st seg => exact execTallyRelayTimeout_answers coll st seg s
  | tallyTotal l t => exact .fromTree rfl fun _ => .within (takeTallyTotal_frame ..) rfl
  | tallyTotalTimeout coll st seg => exact execTallyTotalTimeout_answers coll st seg s
  | exponentProposal l e => exact execExponentProposal_answers l e s
  | exponentAgreed l e => exact .fromTree rfl fun _ => .within (takeAgreed_frame ..) rfl
  | xport x => exact .ok (.when fun _ => .within (takeXport_frame ..) rfl)
  | xportTimeout coll st host seq => exact execXportTimeout_answers coll st host seq s
  | stepMark a v => exact .ownerWrite rfl fun _ => .within (stepMark_frame ..) rfl
  | varnish a v blk m => exact .ok (.within (dgtGo_frame ..) rfl)
  | varnishCommitted n good => exact execVarnishCommitted_answers n good s
  | varnishTimeout n => exact .onUnit (.ifOnly (.within (dgtFinish_frame ..) rfl))
  | restore a v blk r => exact .ok (.within (dgtGo_frame ..) rfl)
  | restoreShardTimeout n => exact .onUnit (.ifOnly (.within (rejectRestore_frame ..) rfl))
  | replLoad a v t => exact .ok (.within (dgtGo_frame ..) rfl)
  | shard v => exact .ok (.when fun _ => .within (takeShard_frame ..) rfl)
  | voteTimeout g sh st => exact execVoteTimeout_answers g sh st s
  | voteResult v => exact .ok (.when fun _ => .within (takeResult_frame ..) rfl)
  | holdOpen => exact .ok (.ifOnly (.within (openNext_frame s) rfl))
  | sliceGrant p => exact execSliceGrant_answers p s
  | grantTimeout => exact execGrantTimeout_answers s
  | sliceEligible p => exact .onUnit (.ifOnly (.within (modSched_frame ..) rfl))
  | holdLimit => exact execHoldLimit_answers s
  | sliceRunComplete r => exact execSliceRunComplete_answers r s
  | sliceBudgetExpiry => exact execSliceBudgetExpiry_answers s
  | witnessGrantTimeout => exact execWitnessGrantTimeout_answers s
  | mbistRestore x y => exact execMbistRestore_answers x y s
  | stressAck mv f => exact execStressAck_answers mv f s
  | stressTimeout => exact execStressTimeout_answers s
  | heatReached r => exact execHeatReached_answers r s
  | heatLimit => exact execHeatLimit_answers s
  | scrRun a v => exact .privWrite rfl fun _ => .within (runRequest_frame ..) rfl
  | analogDue e => exact .ok (.ifOnly (.within (startAnalog_frame ..) rfl))
  | testPortAck d => exact execTestPortAck_answers d s
  | testPortTimeout => exact execTestPortTimeout_answers s
  | trimRecommend p => exact execTrimRecommend_answers p s
  | deepTestAccess => exact execDeepTestAccess_answers s
  | verdictUp l b v => exact .fromTree rfl fun _ => .within (takeUp_frame ..) rfl
  | verdictRelayTimeout e n => exact execVerdictRelayTimeout_answers e n s
  | verdictDown l v => exact .fromTree rfl fun _ => .after (takeDown_frame ..) rfl (.within (sendDown_frame ..) rfl)
  | horizonMiss e n => exact execHorizonMiss_answers e n s
  | verdictLost e n => exact execVerdictLost_answers e n s
  | lateFail l v => exact .fromTree rfl fun _ => .within (takeLateFail_frame ..) rfl
  | blastRecord i r => exact execBlastRecord_answers i r s
  | quarantine a v => exact .privWrite rfl fun _ => .within (quarRequest_frame ..) rfl
  | duplexDirectedExpiry p => exact .onUnit (.ifOnly (.within (duplexEvents_frame ..) rfl))
  | progressInc p n => exact .onCounter (.ifOnly (.within (advance_frame ..) rfl))
  | progressRebind p n ctx act => exact .onCounter (.ifOnly (.within (rebind_frame ..) rfl))
  | teardown a v => exact .privWrite rfl fun _ => .within (fenceWrite_frame ..) rfl
  | teardownPart a v => exact .privWrite rfl fun _ => .within (fenceWrite_frame ..) rfl
  | fenceDone p err => exact .onUnit (.within (fenceAnswer_frame ..) rfl)
  | fabricFenceDone err => exact .ok (.within (fabricAnswer_frame ..) rfl)
  | fenceTimeout p => exact execFenceTimeout_answers p s
  | lateArrival p => exact execLateArrival_answers p s
  | ladderL2 a v => exact .privWrite rfl fun _ => .within (ladderWrite_frame ..) rfl
  | ladderL3 a v => exact .privWrite rfl fun _ => .within (ladderWrite_frame ..) rfl
  | ladderL4 a v => exact .privWrite rfl fun _ => .within (ladderWrite_frame ..) rfl
  | ladderL5 a v => exact .privWrite rfl fun _ => .within (ladderWrite_frame ..) rfl
  | engineResetAck p => exact .onUnit (.within (resetAck_frame ..) rfl)
  | pmResetAck => exact .ok (.within (pmAck_frame s) rfl)
  | ladderLevelTimeout i => exact execLadderLevelTimeout_answers i s
  | trCycleRequest => exact execTrCycleRequest_answers s
  | powerCycleTimeout => exact execPowerCycleTimeout_answers s
  | join a v blk => exact .privWrite rfl fun _ => .within (joinWrite_frame ..) rfl
  | leave a v blk => exact .privWrite rfl fun _ => .within (joinWrite_frame ..) rfl
  | joinStroke k => exact execJoinStroke_answers k s
  | leaveStroke k => exact execLeaveStroke_answers k s
  | alarm l m => exact .onUnit (.within (takeAlarm_frame ..) rfl)
  | rcvAlarm a v => exact execRcvAlarm_answers a v s
  | abortAt e => exact execAbortAt_answers e s
  | gateOn a v => exact .privWrite rfl fun _ => .within (gateWrite_frame ..) rfl
  | gateStep a v => exact .privWrite rfl fun _ => .within (gateWrite_frame ..) rfl
  | gateOff a v => exact .privWrite rfl fun _ => .within (gateWrite_frame ..) rfl
  | stepDone p => exact execStepDone_answers p s
  | ckptTimer k => exact execCkptTimer_answers k s
  | ckptOverdue k => exact execCkptOverdue_answers k s
  | laneLock n => exact .onUnit (.unless (.ite (.within (modLink_frame ..) rfl) (.ifOnly (.within (modLink_frame ..) rfl))))
  | echo l tx e r n => exact .onUnit (.within (takeEcho_frame ..) rfl)
  | hello l h => exact .onUnit (.within (takeHello_frame ..) rfl)
  | cert l f n bs => exact .onUnit (.within (takeCert_frame ..) rfl)
  | share l k => exact .onUnit (.within (takeShare_frame ..) rfl)
  | proof l g => exact .onUnit (.within (takeProof_frame ..) rfl)
  | done l m r => exact .onUnit (.within (takeDone_frame ..) rfl)
  | handshakeTimeout l => exact .onUnit (.ifOnly (.within (authFail_frame ..) rfl))
  | trainTimeout l => exact execTrainTimeout_answers l s
  | absentRetry l => exact .onUnit (.ifOnly (.within (toWait_frame ..) rfl))
  | secondLaneTimeout l => exact .onUnit (.ifOnly (.within (modLink_frame ..) rfl))
  | flitReceived l n c k f t => exact .onUnit (.within (takeFlit_frame ..) rfl)
  | credit l r k => exact execCredit_answers l r k s
  | nack l n r => exact execNack_answers l n r s
  | keyUpdate l n => exact .onUnit (.ifOnly (.within (modLink_frame ..) rfl))
  | rekey l => exact execRekey_answers l s
  | retryTimeout l => exact .onUnit (.ifOnly (.within (replay_frame ..) rfl))
  | controlFlitTimer l n => exact .onUnit (.ite (.within (sendControl_frame ..) rfl) (.ifOnly (.within (sendEcho_frame ..) rfl)))
  | heartbeatMiss l => exact .onUnit (.ifOnly (.within (toWait_frame ..) rfl))
  | creditWait l c => exact execCreditWait_answers l c s
  | crcWindow l n => exact .onUnit (.ifOnly (.within (faulty_frame ..) rfl))
  | degradedRecovery l => exact .onUnit (.ifOnly (.within (modLink_frame ..) rfl))
  | broadcastChunk l r i n bs => exact .onUnit (.within (takeChunk_frame ..) rfl)
  | broadcastStall i => exact .ok (.ifOnly (.within (modWch_frame ..) rfl))
  | wchBcast a v i => exact .privWrite rfl fun _ => .within (writeBcast_frame ..) rfl
  | routeSelect a v => exact .privWrite rfl fun _ => .within (writeRoute_frame ..) rfl
  | routeWrite a v => exact .privWrite rfl fun _ => .within (writeRoute_frame ..) rfl
  | recordFragment l r f => exact .onUnit (.within (rxRing_frame ..) rfl)
  | mailboxPost a w c v => exact execMailboxPost_answers a w c v s
  | pop a w c => exact .ownWrite rfl fun _ => .within (popNotice_frame ..) rfl
  | flush a w c => exact .ownWrite rfl fun _ => .within (flushChan_frame ..) rfl
  | doorbell a w v => exact .ownWrite rfl fun _ => .within (ringBell_frame ..) rfl
  | mailboxEcho n c i => exact execMailboxEcho_answers n c i s
  | ledgerRead n c i q => exact execLedgerRead_answers n c i q s
  | counters n c i => exact execCounters_answers n c i s
  | partState n c i => exact execPartState_answers n c i s
  | serviceBusy n c i => exact execServiceBusy_answers n c i s
  | slotPowerOn n => exact .ok (.within (modSlot_frame ..) rfl)
  | accessDenied a w addr n => exact .ok (.within (accessDenied_frame ..) rfl)
  | registerWrite a addr v => exact .ok (.within (registerWrite_frame ..) rfl)
  | sealTimeout => exact .ok (.when fun x => .within (sealRec_frame x) rfl)
  | rateWindow i => exact execRateWindow_answers i s
  | recordCommit good => exact execRecordCommit_answers good s
  | unitErase u good => exact execUnitErase_answers u good s
  | clear a v blk => exact .ok (.within (signedWrite_frame ..) rfl)
  | release a v blk => exact .ok (.within (signedWrite_frame ..) rfl)
  | summary => exact .ok (.when fun x => .within (writeSummary_frame x) rfl)
  | traceArm a b v => exact .onUnit (privWrite_frame _ _ (fun _ => .within (traceWrite_frame ..) rfl) ⟨rfl⟩ (.refl _ s))
  | traceTrig a b v => exact .onUnit (privWrite_frame _ _ (fun _ => .within (traceWrite_frame ..) rfl) ⟨rfl⟩ (.refl _ s))
  | tensorWatchWrite a i v => exact .onUnit (.within (twWrite_frame ..) rfl)
  | memoryAccessDone tag err => exact .ok (.within (memAnswer_frame ..) rfl)
  | memoryAccessTimeout tag => exact .ok (.within (memAnswer_frame ..) rfl)
  | slotPowerOff n => exact .ok (.within (modSlot_frame ..) rfl)
  | resetAckFall p => exact execResetAckFall_answers p s
  | firmwareSourceTimeout => exact .ok (.ifOnly (.within (firmwareTimeout_frame s) rfl))
  | operatingHoursUnit => exact .ok (.unless (.within (hoursUnit_frame s) rfl))
  | laneLockLoss n => exact execLaneLockLoss_answers n s

/-! ### What no command touches -/

theorem touches_build (c : Instr) : (touches c).contains .build = false := by cases c <;> rfl

theorem touches_pending (c : Instr) : (touches c).contains .pending = false := by cases c <;> rfl

/-- The straps change in a cold reset alone (R394). -/
theorem coldReset_of_touches_straps {c : Instr} (h : (touches c).contains .straps = true) :
    (∃ x, c = .coldResetAssert x) ∨ (∃ x, c = .coldResetDeassert x) := by
  cases c
  case coldResetAssert n => exact .inl ⟨n, rfl⟩
  case coldResetDeassert x => exact .inr ⟨x, rfl⟩
  all_goals exact absurd h Bool.false_ne_true

theorem exec_frame {c : Instr} {s t : State} (h : exec c s = .next t) : Frame (touches c) s t := (h ▸ exec_answers c s).frame

theorem exec_same {c : Instr} {s t : State} {x : Comp} (h : exec c s = .next t) (hx : (touches c).contains x = false) : x.same s t :=
  (exec_frame h).same x (by simpa using hx)

/-- Settles O57: `exec_answers` for the frame and for what ends a command, `touches` for what no command changes. -/
theorem commandsRunAndKeepTheRest : Obligations.CommandsRunAndKeepTheRest := by
  refine ⟨fun c s t h => exec_frame h, fun c s t h => ⟨?_, ?_⟩, fun c s t h hs => ?_, fun c s => (exec_answers c s).next_or_notBuilt,
    fun l tx e r n s hl => onUnit_absent hl _, fun n s hn => onUnit_absent hn _,
    fun p s hp => ⟨onUnit_absent hp _, onUnit_absent hp _, onUnit_absent hp _, onUnit_absent hp _⟩⟩
  · exact (exec_same h (touches_build c)).symm
  · exact (exec_same h (touches_pending c)).symm
  · refine coldReset_of_touches_straps (Bool.not_eq_false _ |>.mp fun hc => hs ?_)
    exact (exec_same h hc).symm

end Sys2Proof.Machine
end

section
/-!
What bring-up leaves as it is: the fields of GROUND and of the boot window through records, link training, and the start of the links and
of the stroke after a load.
-/
namespace Sys2Proof.Machine

open Sys2Proof

/-! ### A part that no run of a list changes -/

theorem forEach_keeps {α β : Type} {g : State → β} {f : α → State → State} (h : ∀ a x, g (f a x) = g x) (l : List α) (s : State) :
    g (forEach l f s) = g s := by
  induction l generalizing s with
  | nil => rfl
  | cons a l ih => exact (ih (f a s)).trans (h a s)

theorem whenB_keeps {β : Type} {g : State → β} {f : State → State} (h : ∀ x, g (f x) = g x) (b : Bool) (s : State) :
    g (whenB b f s) = g s := by
  cases b
  · rfl
  · exact h s

section Kept

variable {l : List Comp} {s t : State}

theorem Frame.keeps (c : Comp) (h : Frame l s t) (hc : l.contains c = false) : c.same s t := h.same c (by simpa using hc)

theorem Frame.boot_eq (h : Frame l s t) (hc : l.contains .boot = false) : t.boot = s.boot := (h.keeps .boot hc).symm

theorem Frame.gnd_eq (h : Frame l s t) (hc : l.contains .gnd = false) : t.gnd = s.gnd := (h.keeps .gnd hc).symm

theorem Frame.life_eq (h : Frame l s t) (hc : l.contains .life = false) : t.life = s.life := (h.keeps .life hc).symm

theorem Frame.straps_eq (h : Frame l s t) (hc : l.contains .straps = false) : t.straps = s.straps := (h.keeps .straps hc).symm

theorem Logged.boot (h : Logged s t) : t.boot = s.boot := h.frame.boot_eq rfl

theorem Logged.life (h : Logged s t) : t.life = s.life := h.frame.life_eq rfl

theorem Logged.nvm (h : Logged s t) : t.nvm = s.nvm := (h.frame.keeps .nvm rfl).symm

end Kept

/-! ### Link training (R290, R302) and the check of the horizon (R40) -/

/-- GROUND without its tree, whose event rings a record enters, and whether the record store can be read. -/
def settled (s : State) : Gnd × Bool := ({ s.gnd with tree := [] }, s.nvm.readable)

theorem settled_of_frame {l : List Comp} {s t : State} (h : Frame l s t) (hg : l.contains .gnd = false)
    (hn : l.contains .nvm = false) : settled t = settled s := by
  have e : s.nvm = t.nvm := h.keeps .nvm hn
  rw [settled, settled, h.gnd_eq hg, e]

theorem settled_of_logged {s t : State} (h : Logged s t) : settled t = settled s := by
  rw [settled, settled, h.nvm, h.gnd]

theorem craqMod_settled (u i : Nat) (f : Craq → Craq) (s : State) : settled (craqMod u i f s) = settled s := by
  unfold craqMod craqCommit
  dsimp only
  split
  · rfl
  · exact (settled_of_logged (record_logged ..)).trans rfl

theorem modLink_settled (l : Nat) (f : Link → Link) (s : State) : settled (modLink l f s) = settled s := rfl

theorem toQuarantine_settled (l cause : Nat) (s : State) : settled (toQuarantine l cause s) = settled s :=
  (settled_of_logged (recordBlock_logged ..)).trans ((modLink_settled ..).trans ((craqMod_settled ..).trans (craqMod_settled ..)))

theorem toWait_settled (l cause : Nat) (s : State) : settled (toWait l cause s) = settled s := by
  unfold toWait
  dsimp only
  have hrecord (x : State) : settled (linkRecord l x) = settled x := settled_of_logged (recordBlock_logged ..)
  split
  · exact toQuarantine_settled ..
  · split
    · exact (modLink_settled ..).trans ((hrecord _).trans (modLink_settled ..))
    · exact (hrecord _).trans (modLink_settled ..)

theorem toDown_settled (l : Nat) (s : State) : settled (toDown l s) = settled s := rfl

theorem syncLinks_settled (s : State) : settled (syncLinks s) = settled s := by
  refine forEach_keeps (g := settled) (fun l x => ?_) _ s
  dsimp only
  split
  · exact whenB_keeps (toWait_settled l lcNone) _ x
  · split
    · rfl
    · exact toDown_settled l x

theorem authFail_settled (l cause chip : Nat) (s : State) : settled (authFail l cause chip s) = settled s := by
  unfold authFail
  dsimp only
  have hrecord (t : RecType) (body : List Byte) (x : State) : settled (recordBlock t body x) = settled x :=
    settled_of_logged (recordBlock_logged ..)
  split
  · exact (toQuarantine_settled ..).trans ((hrecord ..).trans (modLink_settled ..))
  · exact (toWait_settled ..).trans ((hrecord ..).trans (modLink_settled ..))

theorem linkLoaded_settled (l : Nat) (s : State) : settled (linkLoaded l s) = settled s := by
  unfold linkLoaded
  dsimp only
  split
  · rfl
  · split
    · rfl
    · split
      · exact authFail_settled ..
      · rfl

theorem periodMismatch_settled (cause : Nat) (s : State) : settled (periodMismatch cause s) = settled s :=
  (settled_of_logged (recordBlock_logged ..)).trans rfl

theorem startCheck_settled (s : State) : settled (startCheck s) = settled s :=
  whenB_keeps (fun _ => settled_of_logged (recordBlock_logged ..)) _ s

theorem masterStart_settled (s : State) : settled (masterStart s) = settled s := by
  unfold masterStart
  split
  · rfl
  · split
    · exact startCheck_settled _
    · exact (settled_of_logged (recordBlock_logged ..)).trans rfl

/-- GROUND without the tree, the map, the numbers that wait for a spare and HORIZON_SHORT. -/
def imageHeader (s : State) : Gnd := { s.gnd with tree := [], tiles := [], vacancies := [], short := false }

theorem imageHeader_of_settled {s t : State} (h : settled t = settled s) : imageHeader t = imageHeader s :=
  congrArg (fun x : Gnd × Bool => { x.1 with tiles := [], vacancies := [], short := false }) h

theorem gnd_of_header {s : State} {g : Gnd} (h : imageHeader s = g) :
    s.gnd.state = g.state ∧ s.gnd.err = g.err ∧ s.gnd.source = g.source ∧ s.gnd.serial = g.serial ∧
    s.gnd.configDigest = g.configDigest := by
  subst h
  exact ⟨rfl, rfl, rfl, rfl, rfl⟩

theorem checkHorizon_header (s : State) : imageHeader (checkHorizon s) = imageHeader s := by
  unfold checkHorizon
  dsimp only
  split
  · rfl
  · split
    · exact (imageHeader_of_settled (settled_of_logged (.trans (recordBlock_logged ..) (reportPfm_logged ..)))).trans rfl
    · rfl

theorem linksLoaded_header (s : State) : imageHeader (linksLoaded s) = imageHeader s :=
  (checkHorizon_header _).trans (imageHeader_of_settled
    ((syncLinks_settled _).trans (forEach_keeps (g := settled) linkLoaded_settled _ s)))

/-! ### The effective map (R65) -/

theorem takeOver_header (s : State) (p : Nat) (t : State) : imageHeader (takeOver s p t) = imageHeader t := by
  unfold takeOver
  dsimp only
  split
  · rfl
  · split
    · rfl
    · rfl

theorem leftVacant_header (p : Nat) (t : State) : imageHeader (leftVacant p t) = imageHeader t := by
  unfold leftVacant
  dsimp only
  split
  · rfl
  · rfl

theorem effectiveMap_header (ts : List TreeEnt) (map0 : List Byte) (s : State) :
    imageHeader (effectiveMap ts map0 s) = imageHeader s :=
  (forEach_keeps (g := imageHeader) leftVacant_header _ _).trans
    ((forEach_keeps (g := imageHeader) (takeOver_header s) _ _).trans rfl)

/-! ### What a load sets (R73, R74) -/

theorem linksAndStroke_header (s : State) : imageHeader (masterStart (compareRate (linksLoaded s))) = imageHeader s :=
  (imageHeader_of_settled ((masterStart_settled _).trans (whenB_keeps (periodMismatch_settled 1) _ _))).trans (linksLoaded_header s)

theorem linksAndStroke_boot (s : State) : (masterStart (compareRate (linksLoaded s))).boot = s.boot :=
  ((masterStart_frame _).boot_eq rfl).trans (((compareRate_frame _).boot_eq rfl).trans ((linksLoaded_frame s).boot_eq rfl))

theorem mapAndSentinels_header (b : Boot → Boot) (f : Wch → Wch) (g : Stk → Stk) (ts : List TreeEnt) (map0 : List Byte) (s : State) :
    imageHeader (modBoot b (loadSentinels (modWch f (modStk g (effectiveMap ts map0 s))))) = imageHeader s :=
  (imageHeader_of_settled (settled_of_frame (loadSentinels_frame _) rfl rfl)).trans (effectiveMap_header ts map0 s)

theorem mapAndSentinels_boot (b : Boot → Boot) (f : Wch → Wch) (g : Stk → Stk) (ts : List TreeEnt) (map0 : List Byte) (s : State) :
    (modBoot b (loadSentinels (modWch f (modStk g (effectiveMap ts map0 s))))).boot = b s.boot :=
  congrArg b (((loadSentinels_frame _).boot_eq rfl).trans ((effectiveMap_frame ts map0 s).boot_eq rfl))

theorem imageLoaded_header (src : Nat) (bs : List Byte) (s : State) : imageHeader (imageLoaded src bs s) =
    { imageHeader (imageLoaded src bs s) with state := 3, err := 0, source := src, serial := rd bs 12 4, configDigest := digestOf s bs } := by
  unfold imageLoaded
  dsimp only
  rw [linksAndStroke_header, mapAndSentinels_header]
  rfl

theorem imageLoaded_gnd (src : Nat) (bs : List Byte) (s : State) :
    (imageLoaded src bs s).gnd.state = 3 ∧ (imageLoaded src bs s).gnd.err = 0 ∧ (imageLoaded src bs s).gnd.source = src ∧
    (imageLoaded src bs s).gnd.serial = rd bs 12 4 ∧ (imageLoaded src bs s).gnd.configDigest = digestOf s bs :=
  gnd_of_header (imageLoaded_header src bs s)

theorem imageLoaded_boot (src : Nat) (bs : List Byte) (s : State) : (imageLoaded src bs s).boot = { s.boot with stage := 5 } := by
  unfold imageLoaded
  dsimp only
  rw [linksAndStroke_boot, mapAndSentinels_boot]
  rfl

end Sys2Proof.Machine
end

section
/-!
The firmware image and the ground image: what an attempt takes, what a failed one leaves, and what starts after it.
-/
namespace Sys2Proof.Machine

open Sys2Proof

/-! ### The sources (R70, R396) -/

theorem nextAuto_congr {s t : State} (hs : t.straps = s.straps) (hl : t.life = s.life) (l : List Nat) : nextAuto t l = nextAuto s l := by
  have h (x : State) : nextAuto x l = nextAuto { State.reset with straps := x.straps, life := x.life } l := rfl
  rw [h t, h s, hs, hl]

/-! ### A ground-image attempt that fails (R72) -/

theorem groundNext_last {s : State} (h : nextAuto s s.boot.gTried = none) : groundNext s = modGnd (fun g => { g with state := 4 }) s := by
  simp only [groundNext, h]

theorem groundNext_goesOn {s : State} {x : Nat} (h : nextAuto s s.boot.gTried = some x) : groundNext s = groundAttempt x s := by
  simp only [groundNext, h]

theorem groundNext_boot (s : State) : (groundNext s).boot = s.boot := (groundNext_frame s).boot_eq rfl

/-- A failed attempt as the next source finds it. -/
theorem groundFail_eq_groundNext (src err serial : Nat) (s : State) : ∃ t, groundFail src err serial s = groundNext t ∧
    t.boot = { s.boot with gTried := triedToo src s.boot.gTried } ∧ (∀ l, nextAuto t l = nextAuto s l) ∧
    t.gnd = { s.gnd with source := src, err := err, tree := t.gnd.tree } := by
  have h : Logged (modBoot (fun b => { b with gTried := triedToo src b.gTried }) (modGnd (fun g => { g with source := src, err := err }) s))
      (recordBlock .groundReject (rejectBody err src serial)
        (modBoot (fun b => { b with gTried := triedToo src b.gTried }) (modGnd (fun g => { g with source := src, err := err }) s))) :=
    recordBlock_logged ..
  exact ⟨_, rfl, h.boot, fun l => nextAuto_congr (h.frame.straps_eq rfl) h.life l, h.gnd⟩

theorem groundFail_boot (src err serial : Nat) (s : State) :
    (groundFail src err serial s).boot = { s.boot with gTried := triedToo src s.boot.gTried } := by
  obtain ⟨t, ht, hboot, -, -⟩ := groundFail_eq_groundNext src err serial s
  rw [ht, groundNext_boot, hboot]

theorem groundFail_last {src : Nat} (err serial : Nat) {s : State} (h : nextAuto s (triedToo src s.boot.gTried) = none) :
    (groundFail src err serial s).gnd.state = 4 ∧ (groundFail src err serial s).gnd.err = err := by
  obtain ⟨t, ht, hboot, hauto, hgnd⟩ := groundFail_eq_groundNext src err serial s
  have hlast : nextAuto t t.boot.gTried = none := by rw [hauto, hboot]; exact h
  rw [ht, groundNext_last hlast]
  exact ⟨rfl, congrArg Gnd.err hgnd⟩

theorem groundFail_goesOn {src x : Nat} (err serial : Nat) {s : State} (h : nextAuto s (triedToo src s.boot.gTried) = some x) :
    (groundFail src err serial s).gnd.state = 1 ∧ (groundFail src err serial s).gnd.source = x ∧
    (groundFail src err serial s).gnd.attempts = satInc 16 s.gnd.attempts := by
  obtain ⟨t, ht, hboot, hauto, hgnd⟩ := groundFail_eq_groundNext src err serial s
  have hnext : nextAuto t t.boot.gTried = some x := by rw [hauto, hboot]; exact h
  rw [ht, groundNext_goesOn hnext]
  have hcount : t.gnd.attempts = s.gnd.attempts := by rw [hgnd]
  exact ⟨rfl, rfl, congrArg (satInc 16) hcount⟩

theorem groundGo_aligned {s : State} (h : s.gnd.addr % 64 = 0) : groundGo s = groundAttempt srcSlot s := if_pos (beq_iff_eq.mpr h)

/-- A GO of slot 0 leaves the boot window as it is, with any address. -/
theorem groundGo_boot (s : State) : (groundGo s).boot = s.boot := by
  unfold groundGo
  split
  · rfl
  · exact (groundFail_boot ..).trans rfl

theorem groundStart_boot (s : State) : (groundStart s).boot = s.boot := by
  unfold groundStart
  split
  · rfl
  · split
    · exact groundGo_boot s
    · rfl

/-! ### Firmware (R395, R396) -/

theorem firmwarePass_boot (src : Nat) (bs : List Byte) (s : State) : (firmwarePass src bs s).boot =
    { s.boot with source := src, err := 0, loading := false, fw := some bs, fwHash := Config.sha384 bs, stage := 4, gTried := [] } :=
  groundStart_boot _

theorem firmwareFail_boot (src err serial : Nat) (s : State) : (firmwareFail src err serial s).boot =
    { s.boot with source := src, err := err, loading := false, tried := triedToo src s.boot.tried } :=
  (recordBlock_logged ..).boot

theorem firmwareTake_passes {src : Nat} {bs : List Byte} {s : State} (h : firmwareCheck s bs = 0) :
    firmwareTake src bs s = firmwarePass src bs s := if_pos (beq_iff_eq.mpr h)

theorem firmwareTake_fails {src : Nat} {bs : List Byte} {s : State} (h : firmwareCheck s bs ≠ 0) :
    firmwareTake src bs s = firmwareFail src (firmwareCheck s bs) (rd bs 12 4) s := if_neg (mt beq_iff_eq.mp h)

/-- The checks of a firmware image look at the fuses and the build alone. -/
theorem firmwareCheck_congr {s t : State} (hl : t.life = s.life) (hb : t.build = s.build) (bs : List Byte) :
    firmwareCheck t bs = firmwareCheck s bs := by
  have h (x : State) : firmwareCheck x bs = firmwareCheck { State.reset with life := x.life, build := x.build } bs := rfl
  rw [h t, h s, hl, hb]

/-- An image that is read from the source being tried is checked against the fuses, build and boot window of the block as it stands. -/
theorem firmwareChecked_takes {src : Nat} {img bs : List Byte} {s : State}
    (h : ((src = srcA ∨ src = srcB) ∧ nextAuto s s.boot.tried = some src ∧ s.nvm.readable = true ∧
        bs = copyRead (if src = srcA then s.nvm.fwA else s.nvm.fwB) img) ∨
      (src = srcSlot ∧ s.boot.loading = true ∧ bs = img) ∨
      (src = srcWatch ∧ (nextAuto s s.boot.tried = some srcWatch ∨ nextAuto s s.boot.tried = none) ∧ broadcastImage s 1 = some bs)) :
    ∃ t, firmwareChecked src img s = firmwareTake src bs t ∧ t.boot = s.boot ∧ t.life = s.life ∧ t.build = s.build := by
  rcases h with ⟨hsrc, hauto, hread, rfl⟩ | ⟨rfl, hload, rfl⟩ | ⟨rfl, hauto, himg⟩
  · refine ⟨(readFwCopy src img s).2, ?_, rfl, rfl, rfl⟩
    rcases hsrc with rfl | rfl
    · simp [firmwareChecked, readFwCopy, hauto, hread]
    · simp [firmwareChecked, readFwCopy, hauto, hread, srcA, srcB]
  · exact ⟨s, by simp [firmwareChecked, hload, srcA, srcB, srcSlot], rfl, rfl, rfl⟩
  · refine ⟨takeBroadcast 1 s, ?_, rfl, rfl, rfl⟩
    rcases hauto with hauto | hauto <;> simp [firmwareChecked, hauto, himg, srcA, srcB, srcSlot, srcWatch]

theorem exec_firmwareImageCheck {s : State} (hs : atStage s 3 = true) (hf : s.boot.fw = none) (src : Nat) (img : List Byte) :
    exec (.firmwareImageCheck src img) s = .next (firmwareChecked src img s) := by
  have h : (atStage s 3 && s.boot.fw.isNone) = true := by simp [hs, hf]
  exact congrArg ok (if_pos h)

theorem exec_firmwareSourceTimeout {s : State} (hs : atStage s 3 = true) (hf : s.boot.fw = none) :
    exec .firmwareSourceTimeout s = .next (firmwareTimeout s) := by
  have h : (atStage s 3 && s.boot.fw.isNone) = true := by simp [hs, hf]
  exact congrArg ok (if_pos h)

/-- What a GO of PWR_BOOT finds: the address of the same write. -/
def bootAddressed (v : Word) (s : State) : State := modBoot (fun b => { b with addr := fld v 47 0 }) s

theorem exec_firmwareLoadGo {s : State} {a : Access} (hr : reaches s a aPwrBoot = true) (v : Word) : exec (.firmwareLoadGo a v) s =
    .next (busOk (whenB (fbit v 63) bootGo (bootAddressed v s))) :=
  congrArg ok (privWrite_reaches hr _)

theorem bootGo_starts {s : State} (hst : s.boot.stage ≤ 3) (hf : s.boot.fw = none) (hl : s.boot.loading = false)
    (ha : nextAuto s s.boot.tried = none) (haddr : s.boot.addr % 64 = 0) :
    bootGo s = modBoot (fun b => { b with loading := true, source := srcSlot, err := 0 }) s := by
  simp [bootGo, hf, hl, ha, haddr, Nat.not_lt.mpr hst]

theorem firmwareTimeout_slot {s : State} (h : s.boot.loading = true) : firmwareTimeout s = firmwareFail srcSlot 0x0D 0 s := if_pos h

theorem firmwareTimeout_auto {s : State} {src : Nat} (hl : s.boot.loading = false) (ha : nextAuto s s.boot.tried = some src) :
    firmwareTimeout s = firmwareFail src 0x0D 0 s := by simp [firmwareTimeout, hl, ha]

/-- Settles O6: what an attempt takes is decided by `firmwareCheck`, and neither the record of a reject nor the start of step 4 changes the
boot window again. -/
theorem firmwareIsCheckedBeforeItRuns : Obligations.FirmwareIsCheckedBeforeItRuns := by
  refine ⟨fun src img bs s hs hf hsrc => ?_, fun a v s hr hgo hst hf hl ha haddr => ?_, fun a v s hr hgo => ?_, fun src s hs hf hsrc => ?_⟩
  · obtain ⟨t, ht, hboot, hlife, hbuild⟩ := firmwareChecked_takes hsrc
    have hcheck : firmwareCheck t bs = firmwareCheck s bs := firmwareCheck_congr hlife hbuild bs
    refine ⟨_, exec_firmwareImageCheck hs hf src img, fun h => ?_, fun h => ?_⟩
    · rw [ht, firmwareTake_passes (hcheck.trans h), firmwarePass_boot]
      exact ⟨rfl, rfl, rfl, rfl, rfl⟩
    · rw [ht, firmwareTake_fails (hcheck ▸ h), firmwareFail_boot, hboot, hcheck]
  · rw [exec_firmwareLoadGo hr, hgo, whenB_true, bootGo_starts (s := bootAddressed v s) hst hf hl ha haddr]
    rfl
  · rw [exec_firmwareLoadGo hr, hgo]
    rfl
  · rw [exec_firmwareSourceTimeout hs hf]
    rcases hsrc with ⟨hl, rfl⟩ | ⟨hl, ha⟩
    · rw [firmwareTimeout_slot hl]; rfl
    · rw [firmwareTimeout_auto hl ha]; rfl

/-! ### The ground image (R70 to R73) -/

/-- What a GO of GND_LOAD finds: the address of the same write. -/
def groundAddressed (v : Word) (s : State) : State := modGnd (fun g => { g with addr := fld v 47 0 }) s

theorem exec_gndLoadGo {s : State} {a : Access} (hr : reaches s a aGndLoad = true) (v : Word) : exec (.gndLoadGo a v) s =
    .next (busOk (whenB (fbit v 63) (groundLoadGo a.slot) (groundAddressed v s))) :=
  congrArg ok (privWrite_reaches hr _)

theorem groundLoadGo_denied {s : State} (h : s.gnd.state = 3) (slot : Nat) :
    groundLoadGo slot s = recordBlock .groundReloadDenied (le 1 slot ++ zeros 3) s := if_pos (beq_iff_eq.mpr h)

theorem groundLoadGo_starts {s : State} (h3 : s.gnd.state ≠ 3) (h1 : s.gnd.state ≠ 1) (hst : s.boot.stage = 4) (slot : Nat) :
    groundLoadGo slot s = groundGo s := by simp [groundLoadGo, h3, h1, hst]

theorem groundLoadGo_waits {s : State} (h3 : s.gnd.state ≠ 3) (h1 : s.gnd.state ≠ 1) (hst : s.boot.stage ≠ 4) (slot : Nat) :
    groundLoadGo slot s = modGnd (fun g => { g with pendingGo := true }) s := by simp [groundLoadGo, h3, h1, hst]

theorem groundTake_passes {src : Nat} {bs : List Byte} {s : State} (h : imageCheck s bs = 0) :
    groundTake src bs s = imageLoaded src bs s := if_pos (beq_iff_eq.mpr h)

theorem groundTake_fails {src : Nat} {bs : List Byte} {s : State} (h : imageCheck s bs ≠ 0) :
    groundTake src bs s = groundFail src (imageCheck s bs) (rd bs 12 4) s := if_neg (mt beq_iff_eq.mp h)

/-- The checks of a ground image look at the fuses, the key store and the build alone. -/
theorem imageCheck_congr {s t : State} (hl : t.life = s.life) (hb : t.build = s.build) (bs : List Byte) :
    imageCheck t bs = imageCheck s bs := by
  have h (x : State) : imageCheck x bs = imageCheck { State.reset with life := x.life, build := x.build } bs := rfl
  rw [h t, h s, hl, hb]

theorem digestOf_congr {s t : State} (h : t.boot = s.boot) (bs : List Byte) : digestOf t bs = digestOf s bs := by
  simp only [digestOf, h]

/-- An image that is read from the source of the attempt is checked against the block as it stands. -/
theorem groundChecked_takes {src : Nat} {img bs : List Byte} {s : State}
    (h : ((src = srcA ∨ src = srcB) ∧ s.nvm.readable = true ∧ bs = copyRead (if src = srcA then s.nvm.groundA else s.nvm.groundB) img) ∨
      (src = srcSlot ∧ bs = img) ∨ (src = srcWatch ∧ broadcastImage s 2 = some bs)) :
    ∃ t, groundChecked src img s = groundTake src bs t ∧ t.boot = s.boot ∧ t.life = s.life ∧ t.build = s.build ∧ t.straps = s.straps := by
  rcases h with ⟨hsrc, hread, rfl⟩ | ⟨rfl, rfl⟩ | ⟨rfl, himg⟩
  · refine ⟨(readGroundCopy src img s).2, ?_, rfl, rfl, rfl, rfl⟩
    rcases hsrc with rfl | rfl
    · simp [groundChecked, readGroundCopy, hread]
    · simp [groundChecked, readGroundCopy, hread, srcA, srcB]
  · exact ⟨s, by simp [groundChecked, srcA, srcB, srcSlot], rfl, rfl, rfl, rfl⟩
  · exact ⟨takeBroadcast 2 s, by simp [groundChecked, himg, srcA, srcB, srcSlot, srcWatch], rfl, rfl, rfl, rfl⟩

theorem exec_groundImageCheck {src : Nat} {s : State} (hs : atStage s 4 = true) (h1 : s.gnd.state = 1) (hsrc : s.gnd.source = src)
    (img : List Byte) : exec (.groundImageCheck src img) s = .next (groundChecked src img s) := by
  have h : (atStage s 4 && s.gnd.state == 1 && s.gnd.source == src) = true := by simp [hs, h1, hsrc]
  exact congrArg ok (if_pos h)

theorem exec_groundSourceTimeout {s : State} (hs : atStage s 4 = true) (h1 : s.gnd.state = 1) :
    exec .groundSourceTimeout s = .next (groundFail s.gnd.source 0x0D 0 s) := by
  have h : (atStage s 4 && s.gnd.state == 1) = true := by simp [hs, h1]
  exact congrArg ok (if_pos h)

/-- Settles O8: what an attempt takes is decided by `imageCheck`; what a load sets stays through the start of the links, and what a failed
attempt sets stays through its record. -/
theorem groundImageLoadsAfterItsChecks : Obligations.GroundImageLoadsAfterItsChecks := by
  refine ⟨fun a v s hr hgo h3 h1 hst haddr => ?_, fun a v s hr hgo h3 h1 hst => ?_, fun a v s hr hgo h3 => ?_,
    fun src img bs s hs h1 hsrc himg => ?_, fun s hs h1 => ⟨_, exec_groundSourceTimeout hs h1, groundFail_boot .., fun h => groundFail_last _ _ h,
      fun x h => groundFail_goesOn _ _ h⟩⟩
  · rw [exec_gndLoadGo hr, hgo, whenB_true, groundLoadGo_starts (s := groundAddressed v s) h3 h1 hst, groundGo_aligned (s := groundAddressed v s) haddr]
    rfl
  · rw [exec_gndLoadGo hr, hgo, whenB_true, groundLoadGo_waits (s := groundAddressed v s) h3 h1 hst]
    rfl
  · rw [exec_gndLoadGo hr, hgo, whenB_true, groundLoadGo_denied (s := groundAddressed v s) h3]
    rfl
  · obtain ⟨t, ht, hboot, hlife, hbuild, hstraps⟩ := groundChecked_takes himg
    have hcheck : imageCheck t bs = imageCheck s bs := imageCheck_congr hlife hbuild bs
    refine ⟨_, exec_groundImageCheck hs h1 hsrc img, fun h => ?_, fun h hlast => ?_⟩
    · rw [ht, groundTake_passes (hcheck.trans h), imageLoaded_boot, hboot]
      obtain ⟨hstate, herr, hsource, hserial, hdigest⟩ := imageLoaded_gnd src bs t
      exact ⟨hstate, herr, hsource, hserial, hdigest.trans (digestOf_congr hboot bs), rfl⟩
    · have hend : nextAuto t (triedToo src t.boot.gTried) = none := by rw [nextAuto_congr hstraps hlife, hboot]; exact hlast
      rw [ht, groundTake_fails (hcheck ▸ h), groundFail_boot, hboot, hcheck]
      obtain ⟨hstate, herr⟩ := groundFail_last (imageCheck s bs) (rd bs 12 4) hend
      exact ⟨hstate, herr, rfl⟩

end Sys2Proof.Machine
end

section
/-!
Steps 2, 5 and 7 of bring-up: sentinels that attach, census and READY, and what a step past its limit goes on without.
-/
namespace Sys2Proof.Machine

open Sys2Proof

theorem atStage_iff {s : State} {n : Nat} :
    atStage s n = true ↔ s.boot.inReset = false ∧ controlReset s = false ∧ s.boot.stage = n := by
  simp [atStage, and_assoc]

theorem stage_of_atStage {s : State} {n : Nat} (h : atStage s n = true) : s.boot.stage = n := by
  obtain ⟨-, -, hst⟩ := atStage_iff.mp h
  exact hst

/-! ### Attach (R76, R127) -/

theorem attachPort_fits {x : PortAttach} {s : State} (hshown : shownPort s x.port = true) (hst : (tile s x.port).state ≠ tsFailed)
    (hok : x.ok = true) : attachPort x s = modSent x.port (fun y => { y with
      attached := true, failed := false, rl := { y.rl with channels := x.channels % 16, forceDual := y.rl.forceDual || dualReset s }
      canary := { y.canary with wired := x.canary } }) s := by
  simp [attachPort, hshown, hst, hok]

theorem attachPort_fails {x : PortAttach} {s : State} (hshown : shownPort s x.port = true) (hst : (tile s x.port).state ≠ tsFailed)
    (hok : x.ok = false) : attachPort x s = tileFailed x.port s := by
  simp [attachPort, hshown, hst, hok]

theorem tileFailed_sent (p : Nat) (s : State) :
    (sent (tileFailed p s) p).attached = false ∧ (sent (tileFailed p s) p).failed = true := by simp [tileFailed]

theorem tileFailed_tile (p : Nat) (s : State) : (tile (tileFailed p s) p).state = tsFailed :=
  congrArg Tile.state (tile_modTile_same _ p (fun t => { t with state := tsFailed, host := t.parent }))

theorem exec_sentinelAttach {s : State} (hs : atStage s 5 = true) (hg : s.gnd.state = 3) (ha : s.boot.attached = false)
    (ports : List PortAttach) :
    exec (.sentinelAttach ports) s = .next (modBoot (fun b => { b with attached := true }) (forEach ports attachPort s)) := by
  have h : (atStage s 5 && s.gnd.state == 3 && !s.boot.attached) = true := by simp [hs, hg, ha]
  exact congrArg ok (if_pos h)

theorem attachPorts_frame (ports : List PortAttach) (s : State) : Frame [.gnd, .sents] s (forEach ports attachPort s) :=
  .each attachPort_frame

/-! ### Census (R77, R199, R203) -/

theorem exec_censusStart {s : State} (hs : atStage s 5 = true) (hg : s.gnd.state = 3) (ha : s.boot.attached = true)
    (hl : linksDone s = true) : exec .censusStart s = .next (censusBegin s) := by
  have h : (atStage s 5 && s.gnd.state == 3 && s.boot.attached && linksDone s) = true := by simp [hs, hg, ha, hl]
  exact congrArg ok (if_pos h)

/-- The canary sets that census starts are in the Copyist alone. -/
theorem censusBegin_boot (s : State) : (censusBegin s).boot = { s.boot with
    stage := 7, canaryTodo := (unitNos s).filter (fun u => !(cunit s u).perm), goldenTodo := censusEntries s skArith
    analogTodo := if s.scr.cfg.analogEn then censusEntries s skAnalog else [] } := by
  have hstart (u : Nat) (x : State) : (startCanary u (modUnit u (fun y => { y with census := true }) x)).boot = x.boot :=
    (startCanary_frame u _).boot_eq rfl
  unfold censusBegin
  exact (forEach_keeps (g := State.boot) hstart _ _).trans rfl

theorem exec_censusComplete {s : State} (hs : atStage s 7 = true) (hc : s.boot.canaryTodo = []) (hgd : s.boot.goldenTodo = [])
    (ha : s.boot.analogTodo = []) : exec .censusComplete s = .next (censusEnd s) := by
  have h : (atStage s 7 && s.boot.canaryTodo.isEmpty && s.boot.goldenTodo.isEmpty && s.boot.analogTodo.isEmpty) = true := by
    simp [hs, hc, hgd, ha]
  exact congrArg ok (if_pos h)

/-- The boot window, and what `settled` says of GROUND and the record store. -/
def bootAndGround (s : State) : Boot × Gnd × Bool := (s.boot, settled s)

theorem bootAndGround_of_frame {l : List Comp} {s t : State} (h : Frame l s t) (hb : l.contains .boot = false)
    (hg : l.contains .gnd = false) (hn : l.contains .nvm = false) : bootAndGround t = bootAndGround s :=
  Prod.ext (h.boot_eq hb) (settled_of_frame h hg hn)

theorem bootAndGround_of_logged {s t : State} (h : Logged s t) : bootAndGround t = bootAndGround s :=
  Prod.ext h.boot (settled_of_logged h)

theorem periodMismatch_bootAndGround (cause : Nat) (s : State) : bootAndGround (periodMismatch cause s) = bootAndGround s :=
  Prod.ext ((periodMismatch_frame cause s).boot_eq rfl) (periodMismatch_settled cause s)

/-- READY sets the boot window once; the schedules, records and messages that follow touch neither it nor the map. -/
theorem blockReady_bootAndGround (s : State) : bootAndGround (blockReady s) =
    bootAndGround (modBoot (fun b => { b with ready := true, readyStroke := now s, stage := 8 }) s) := by
  have hreport (k : Nat) (x : State) : bootAndGround (reportPfm "PARTITION_NOT_READY" x) = bootAndGround x :=
    bootAndGround_of_logged (reportPfm_logged ..)
  have hrate (x : State) : bootAndGround (recordBlock .copyNoRate [] x) = bootAndGround x :=
    bootAndGround_of_logged (recordBlock_logged ..)
  have hcensus (x : State) : bootAndGround (sendCensus x) = bootAndGround x := bootAndGround_of_frame (sendCensus_frame x) rfl rfl rfl
  have hdue (p : Nat) (x : State) : bootAndGround (firstDue x p) = bootAndGround x :=
    bootAndGround_of_frame (firstDue_frame x p) rfl rfl rfl
  have hunit (f : CUnit → CUnit) (u : Nat) (x : State) : bootAndGround (modUnit u f x) = bootAndGround x := rfl
  unfold blockReady
  refine (forEach_keeps (g := bootAndGround) hreport _ _).trans ((hcensus _).trans ?_)
  refine (whenB_keeps (g := bootAndGround) hrate _ _).trans ?_
  refine (whenB_keeps (g := bootAndGround) (periodMismatch_bootAndGround 2) _ _).trans ?_
  exact (forEach_keeps (g := bootAndGround) (hunit _) _ _).trans (forEach_keeps (g := bootAndGround) hdue _ _)

theorem gnd_of_settled {s t : State} (h : settled t = settled s) :
    t.gnd.done = s.gnd.done ∧ t.gnd.vacancies = s.gnd.vacancies :=
  ⟨congrArg (fun x : Gnd × Bool => x.1.done) h, congrArg (fun x : Gnd × Bool => x.1.vacancies) h⟩

/-- The block when census has filled what it can and has written its record. -/
theorem censusEnd_eq (s : State) : ∃ t, censusEnd s = blockReady t ∧ t.boot = s.boot ∧ now t = now s ∧ t.gnd.done = true ∧
    t.gnd.vacancies = [] := by
  have hlog : Logged (modGnd (fun g => { g with done := true }) (censusFills s))
      (recordBlock .census (censusBody (modGnd (fun g => { g with done := true }) (censusFills s)))
        (modGnd (fun g => { g with done := true }) (censusFills s))) := recordBlock_logged ..
  have hfills : Frame [.gnd] s (modGnd (fun g => { g with done := true }) (censusFills s)) :=
    .after (modGnd_frame ..) rfl (censusFills_frame s)
  have hstk := (hfills.keeps .stk rfl).trans (hlog.frame.keeps .stk rfl)
  obtain ⟨hdone, hvac⟩ := gnd_of_settled (settled_of_logged hlog)
  exact ⟨_, rfl, hlog.boot.trans (hfills.boot_eq rfl), congrArg Stk.stroke hstk.symm, hdone, hvac⟩

theorem censusEnd_boot (s : State) :
    (censusEnd s).boot = { s.boot with ready := true, readyStroke := now s, stage := 8 } := by
  obtain ⟨t, ht, hboot, hnow, -, -⟩ := censusEnd_eq s
  have h : (blockReady t).boot = { t.boot with ready := true, readyStroke := now t, stage := 8 } :=
    congrArg Prod.fst (blockReady_bootAndGround t)
  rw [ht, h, hboot, hnow]

theorem censusEnd_gnd (s : State) : (censusEnd s).gnd.done = true ∧ (censusEnd s).gnd.vacancies = [] := by
  obtain ⟨t, ht, -, -, hdone, hvac⟩ := censusEnd_eq s
  obtain ⟨hd, hv⟩ := gnd_of_settled (congrArg Prod.snd (blockReady_bootAndGround t))
  rw [ht]
  exact ⟨hd.trans hdone, hv.trans hvac⟩

/-! ### A step past its limit (R397) -/

theorem exec_bringupStepTimeout {s : State} {n : Nat} (hs : atStage s n = true) :
    exec .bringupStepTimeout s = .next (stepCut s) := by
  obtain ⟨hreset, hctl, -⟩ := atStage_iff.mp hs
  have h : ¬ (s.boot.inReset || controlReset s) = true := by simp [hreset, hctl]
  exact congrArg ok (if_neg h)

theorem stepRecord_boot (s : State) : (stepRecord s).boot = s.boot := (stepRecord_frame s).boot_eq rfl

/-- Step 5 with ports that have not attached. -/
theorem stepCut_ports_boot {s : State} (h5 : s.boot.stage = 5) (ha : s.boot.attached = false) :
    (stepCut s).boot = { s.boot with attached := true } := by
  have hfail : (forEach (tfind s.gnd.tiles (fun p t => !(t.state == tsHidden) && !(t.state == tsFailed) && !(sent s p).attached))
      tileFailed (stepRecord s)).boot = s.boot :=
    (forEach_keeps (g := State.boot) (fun p x => (tileFailed_frame p x).boot_eq rfl) _ _).trans (stepRecord_boot s)
  simp [stepCut, h5, ha, hfail]

/-- Step 6 with links that have not settled. -/
theorem stepCut_links_boot {s : State} (h5 : s.boot.stage = 5) (ha : s.boot.attached = true) (hl : linksDone s = false) :
    (stepCut s).boot = { s.boot with linksSettled := true } := by
  have habsent : (forEach (linkNos s) linkAbsentNow (stepRecord s)).boot = s.boot :=
    (forEach_keeps (g := State.boot) (fun l x => (linkAbsentNow_frame l x).boot_eq rfl) _ _).trans (stepRecord_boot s)
  simp [stepCut, h5, ha, hl, habsent]

theorem stepCut_census {s : State} (h7 : s.boot.stage = 7) : stepCut s = censusCut (stepRecord s) := by simp [stepCut, h7]

theorem stepCut_rom {s : State} (h2 : s.boot.stage = 2) : stepCut s = stepRecord (romDone false false [] s) := by simp [stepCut, h2]

theorem censusCut_ready (s : State) :
    (censusCut s).boot.ready = true ∧ (censusCut s).boot.stage = 8 ∧ (censusCut s).gnd.done = true := by
  unfold censusCut
  rw [censusEnd_boot]
  exact ⟨rfl, rfl, (censusEnd_gnd _).1⟩

theorem zeroise_keys (fails : List Nat) (s : State) : (zeroise fails s).life.keys = none := by
  have hrecord (t : RecType) (body : List Byte) (x : State) (hx : x.life.keys = none) : (recordBlock t body x).life.keys = none :=
    (congrArg Life.keys (recordBlock_logged t body x).life).trans hx
  unfold zeroise
  dsimp only
  split
  · exact hrecord _ _ _ rfl
  · exact hrecord _ _ _ rfl

theorem romDone_stage (readable keys : Bool) (z : List Nat) (s : State) : (romDone readable keys z s).boot.stage = 3 :=
  congrArg Boot.stage ((syncLinks_frame _).boot_eq rfl)

/-- What step 2 finds of the record store shows in it, whatever the start of link training does. -/
theorem romDone_readable (readable keys : Bool) (z : List Nat) (s : State) : (romDone readable keys z s).nvm.readable = readable := by
  have hnvm {l : List Comp} {x y : State} (h : Frame l x y) (hn : l.contains .nvm = false) : y.nvm.readable = x.nvm.readable :=
    congrArg Nvm.readable (h.keeps .nvm hn).symm
  have htime (x : State) : (timeBase readable x).nvm.readable = x.nvm.readable := by cases readable <;> rfl
  unfold romDone
  refine (congrArg Prod.snd (syncLinks_settled _)).trans ?_
  refine (whenB_keeps (g := fun x => x.nvm.readable) (fun x => hnvm (zeroise_frame z x) rfl) _ _).trans ?_
  refine (hnvm (strapRecords_frame _) rfl).trans ?_
  refine (whenB_keeps (g := fun x => x.nvm.readable) (fun x => hnvm (recordBlock_frame ..) rfl) _ _).trans ?_
  exact (hnvm (recordBlock_frame ..) rfl).trans ((htime _).trans (hnvm (scanLedger_frame ..) rfl))

/-- Without the key store nothing gives keys, and a zeroisation takes them. -/
theorem romDone_noKeys (readable : Bool) (z : List Nat) (s : State) : (romDone readable false z s).life.keys = none := by
  have hlife {l : List Comp} {x y : State} (h : Frame l x y) (hl : l.contains .life = false) (hx : x.life.keys = none) :
      y.life.keys = none := (congrArg Life.keys (h.life_eq hl)).trans hx
  have hzero (b : Bool) (x : State) (hx : x.life.keys = none) : (whenB b (zeroise z) x).life.keys = none := by
    cases b
    · exact hx
    · exact zeroise_keys z x
  unfold romDone
  refine hlife (syncLinks_frame _) rfl (hzero _ _ (hlife (strapRecords_frame _) rfl ?_))
  refine (whenB_keeps (g := fun x => x.life.keys) (fun x => congrArg Life.keys (recordBlock_logged ..).life) _ _).trans ?_
  exact hlife (recordBlock_frame ..) rfl (hlife (timeBase_frame ..) rfl (hlife (scanLedger_frame ..) rfl rfl))

/-- Settles O7: `attachPort` for one port, `censusEnd` for READY, also after a cut census, and what each step past its limit leaves of the
boot window. -/
theorem censusMakesTheBlockReady : Obligations.CensusMakesTheBlockReady := by
  refine ⟨fun ports s hs hg ha => ⟨_, exec_sentinelAttach hs hg ha ports, ?_, ?_⟩,
    fun x s hs hg ha hshown hst => ⟨_, exec_sentinelAttach hs hg ha [x], ?_⟩,
    fun s hs hg ha hl => ⟨_, exec_censusStart hs hg ha hl, censusBegin_frame s, censusBegin_boot s⟩,
    fun s hs hc hgd ha => ⟨_, exec_censusComplete hs hc hgd ha, censusEnd_boot s, censusEnd_gnd s⟩,
    fun s hs ha => ⟨_, exec_bringupStepTimeout hs, stepCut_ports_boot (stage_of_atStage hs) ha⟩,
    fun s hs ha hl => ⟨_, exec_bringupStepTimeout hs, stepCut_links_boot (stage_of_atStage hs) ha hl⟩,
    fun s hs => ⟨_, exec_bringupStepTimeout hs, ?_⟩, fun s hs => ⟨_, exec_bringupStepTimeout hs, ?_⟩⟩
  · exact congrArg (fun b : Boot => { b with attached := true }) ((attachPorts_frame ports s).boot_eq rfl)
  · exact .after (modBoot_frame ..) rfl (.within (attachPorts_frame ports s) rfl)
  · rw [forEach_cons, forEach_nil]
    cases hok : x.ok with
    | true =>
      rw [attachPort_fits hshown hst hok]
      simp [sent]
    | false =>
      rw [attachPort_fails hshown hst hok]
      obtain ⟨hatt, hfail⟩ := tileFailed_sent x.port s
      exact ⟨hatt, hfail, fun h => absurd h Bool.false_ne_true, fun _ => tileFailed_tile x.port s⟩
  · rw [stepCut_census (stage_of_atStage hs)]
    exact censusCut_ready _
  · rw [stepCut_rom (stage_of_atStage hs), stepRecord_boot, (stepRecord_frame _).life_eq rfl]
    have hnvm : (stepRecord (romDone false false [] s)).nvm = (romDone false false [] s).nvm := ((stepRecord_frame _).keeps .nvm rfl).symm
    rw [hnvm]
    exact ⟨romDone_stage .., romDone_readable .., romDone_noKeys ..⟩

end Sys2Proof.Machine
end

section
/-!
Assemblies that stop answering, and the census of the cube at its warden and its deputy.
-/
namespace Sys2Proof.Machine

open Sys2Proof

theorem exec_nodeAbsent {n : Nat} {s : State} (hn : n < 0x800) (hu : nodeUsed s n = true) (ha : (asm s n).absent = false) :
    exec (.nodeAbsent n) s = .next (nodeGone n s) := by
  have h : (decide (n < 0x800) && nodeUsed s n && !(asm s n).absent) = true := by simp [hn, hu, ha]
  exact congrArg ok (if_pos h)

/-! ### The census of the cube (R78, R308) -/

/-- The summaries that have come, the stroke of the first, and whether this block has reported. -/
def cubeCount (s : State) : List CensusSummary × Option Nat × Bool := (s.wch.censusGot, s.wch.censusAt, s.wch.cubeSent)

theorem cubeCount_of_logged {s t : State} (h : Logged s t) : cubeCount t = cubeCount s := by
  rw [cubeCount, cubeCount, h.wch]

theorem takeAsFragment_logged (src kind : Nat) (s : State) : Logged s (takeAsFragment src kind s) :=
  .step (bumpFresh_logged _) (rxRing_logged ..)

theorem takeCubeCensus_cubeCount (src : Nat) (s : State) : cubeCount (takeCubeCensus src s) = cubeCount s := by
  have hcopy (x : State) : cubeCount (modWch (fun w => { w with cubeCopy := true }) x) = cubeCount x := rfl
  exact (whenB_keeps (g := cubeCount) hcopy _ _).trans (cubeCount_of_logged (takeAsFragment_logged ..))

/-- A report of the cube, consumed here or sent on, does not count as a summary. -/
theorem sendRec_cubeCount (dest src : Nat) (m : Msg) (s : State) :
    cubeCount (sendRec dest m (takeCubeCensus src) s) = cubeCount s := by
  unfold sendRec
  split
  · exact takeCubeCensus_cubeCount src s
  · exact cubeCount_of_logged (sendRouted_logged ..)

theorem sendCube_cubeCount (s : State) : cubeCount (sendCube s) = (s.wch.censusGot, s.wch.censusAt, true) := by
  unfold sendCube
  dsimp only
  refine (whenB_keeps (g := cubeCount) (fun x => sendRec_cubeCount ..) _ _).trans ?_
  exact (sendRec_cubeCount ..).trans rfl

theorem sendCube_reports (s : State) : (sendCube s).wch.cubeSent = true ∧ (sendCube s).wch.censusGot = s.wch.censusGot :=
  ⟨congrArg (fun x => x.2.2) (sendCube_cubeCount s), congrArg Prod.fst (sendCube_cubeCount s)⟩

theorem whenB_sendCube_cubeCount (b : Bool) (s : State) :
    cubeCount (whenB b sendCube s) = (s.wch.censusGot, s.wch.censusAt, s.wch.cubeSent || b) := by
  cases b
  · rw [Bool.or_false]; rfl
  · rw [Bool.or_true, whenB_true, sendCube_cubeCount]

/-- The summaries with one more, which replaces an earlier one of its chip. -/
def summariesWith (c : CensusSummary) (s : State) : List CensusSummary :=
  s.wch.censusGot.filter (fun x => !(x.chip == c.chip)) ++ [c]

/-- A summary is kept with the stroke of the first; the warden reports at 64. -/
theorem takeCensus_cubeCount {c : CensusSummary} {s : State} (hw : s.wch.warden = 1 ∨ s.wch.warden = 2)
    (hc : c.chip / 64 = s.wch.chip / 64) : cubeCount (takeCensus c s) = (summariesWith c s, some (s.wch.censusAt.getD (now s)),
      s.wch.cubeSent || (s.wch.warden == 1 && decide (64 ≤ (summariesWith c s).length))) := by
  have htakes : ¬ (!(s.wch.warden == 1 || s.wch.warden == 2) || !(c.chip / 64 == s.wch.chip / 64)) = true := by
    rcases hw with hw | hw <;> simp [hw, hc]
  have hlog : cubeCount (takeAsFragment c.chip 2 s) = cubeCount s := cubeCount_of_logged (takeAsFragment_logged ..)
  have hat : (takeAsFragment c.chip 2 s).wch.censusAt = s.wch.censusAt := congrArg (fun x => x.2.1) hlog
  have hsent : (takeAsFragment c.chip 2 s).wch.cubeSent = s.wch.cubeSent := congrArg (fun x => x.2.2) hlog
  unfold takeCensus
  rw [if_neg htakes]
  dsimp only
  rw [whenB_sendCube_cubeCount]
  simp only [modWch_fields, hat, hsent, summariesWith]
  cases s.wch.cubeSent <;> simp

theorem exec_cubeCensusTimeout {s : State} {b : Bool} (h : (s.wch.warden == 1 && cubeDue s 1000 && !s.wch.cubeSent) = b) :
    exec .cubeCensusTimeout s = .next (whenB b sendCube s) := h ▸ rfl

theorem exec_deputyTimeout {s : State} {b : Bool}
    (h : (s.wch.warden == 2 && cubeDue s 2000 && !s.wch.cubeCopy && !s.wch.cubeSent) = b) :
    exec .deputyTimeout s = .next (whenB b sendCube s) := h ▸ rfl

/-- Settles O9: `nodeGone` is the state that the statement writes out; `cubeCount` says what a summary and a report leave of the census. -/
theorem absentNodesAndTheCubeCensus : Obligations.AbsentNodesAndTheCubeCensus := by
  refine ⟨fun n s hn hu ha => exec_nodeAbsent hn hu ha, fun c s hw hc => ⟨_, rfl, ?_⟩,
    fun s hw hd hs => ⟨_, exec_cubeCensusTimeout (b := true) (by simp [hw, hd, hs]), sendCube_reports s⟩,
    fun s hw hd hcopy hs => ⟨_, exec_deputyTimeout (b := true) (by simp [hw, hd, hcopy, hs]), sendCube_reports s⟩,
    fun s hd => exec_cubeCensusTimeout (b := false) (by simp [hd]), fun s h => exec_deputyTimeout (b := false) ?_⟩
  · have h := takeCensus_cubeCount hw hc
    have hgot : (takeCensus c s).wch.censusGot = summariesWith c s := congrArg Prod.fst h
    have hsent : (takeCensus c s).wch.cubeSent = (s.wch.cubeSent || (s.wch.warden == 1 && decide (64 ≤ (summariesWith c s).length))) :=
      congrArg (fun x => x.2.2) h
    refine ⟨hgot, congrArg (fun x => x.2.1) h, ?_⟩
    rw [hgot, hsent]
    simp
  · rcases h with h | h <;> simp [h]

end Sys2Proof.Machine
end

section
/-!
Exponent agreement: what a child's and the host's proposals and the parent's vector leave of the table, and the transport digests that are
kept, judged or given up.
-/
namespace Sys2Proof.Machine

open Sys2Proof

/-! ### Messages of the tree (R304) -/

theorem fromTree_child {s : State} {e l : Nat} (hm : memberOf s e = true) (hc : isChild s e l = true) (f : State → State) :
    fromTree true e l f s = f s := if_pos (by simp [hm, hc])

theorem fromTree_parent {s : State} {e l : Nat} (hm : memberOf s e = true) (hp : isParent s e l = true) (f : State → State) :
    fromTree false e l f s = f s := if_pos (by simp [hm, hp])

theorem fromTree_notChild {s : State} {e l : Nat} (h : memberOf s e = false ∨ isChild s e l = false) (f : State → State) :
    fromTree true e l f s = errEpoch l s := if_neg (by rcases h with h | h <;> simp [h])

/-! ### Proposals (R107, R108) -/

theorem exec_exponentProposal_link {l : Nat} {p : ExpMsg} {s : State} (hl : l < s.build.links) : exec (.exponentProposal l p) s =
    .next (fromTree true p.epoch l (if coreReset s then relayBypass clBulk 3 p.epoch (.exps p) else takeProposal false l p) s) := by
  have hlink : ¬ (l == s.build.links) = true := by simp [Nat.ne_of_lt hl]
  refine (onUnit_built (Nat.lt_succ_of_lt hl) _).trans (congrArg Host.Outcome.next ?_)
  rw [if_neg hlink]
  split <;> rfl

theorem exec_exponentProposal_host {p : ExpMsg} {s : State} (he : (epoch? s p.epoch).isSome = true) :
    exec (.exponentProposal s.build.links p) s = .next (takeProposal true s.build.links p s) := by
  refine (onUnit_built (Nat.lt_succ_self _) _).trans (congrArg Host.Outcome.next ?_)
  rw [if_pos (beq_self_eq_true _), he, whenB_true]

/-- An agreement with the proposal that a child sent on a link. -/
def withChild (l : Nat) (p : ExpMsg) (x : ExpAgree) : ExpAgree :=
  { x with acc := maxVec x.acc p.exps, reported := addNew x.reported l }

theorem expIs_self (x : ExpAgree) : expIs x.epoch x.coll x.step x.first x = true := by simp [expIs]

theorem modExp_single {x : ExpAgree} {s : State} (h : s.dgt.exps = [x]) (f : ExpAgree → ExpAgree) :
    modExp x.epoch x.coll x.step x.first f s = { s with dgt := { s.dgt with exps := [f x] } } := by
  simp [modExp, modDgt, h, expIs_self]

/-- A child's proposal enters an agreement that has not gone on; with the host's and every child's in, the agreement does. -/
theorem takeProposal_child {l : Nat} {p : ExpMsg} {x : ExpAgree} {s : State}
    (h : s.dgt.exps.find? (expIs p.epoch p.coll p.step p.first) = some x) (hs : x.sent = false) :
    takeProposal false l p s =
      if x.own && allChildren s p.epoch (addNew x.reported l)
      then forwardExp (withChild l p x) (modExp x.epoch x.coll x.step x.first (fun _ => withChild l p x) s)
      else modExp x.epoch x.coll x.step x.first (fun _ => withChild l p x) s := by
  simp [takeProposal, h, hs, withChild]

/-- What a child's proposal does to the one agreement it belongs to. -/
theorem exec_exponentProposal_child {l : Nat} {p : ExpMsg} {x : ExpAgree} {s : State} (hl : l < s.build.links)
    (hm : memberOf s p.epoch = true) (hc : isChild s p.epoch l = true) (hr : coreReset s = false) (hx : s.dgt.exps = [x])
    (hk : expIs p.epoch p.coll p.step p.first x = true) (hs : x.sent = false) : exec (.exponentProposal l p) s = .next
      (if x.own && allChildren s p.epoch (addNew x.reported l)
        then forwardExp (withChild l p x) { s with dgt := { s.dgt with exps := [withChild l p x] } }
        else { s with dgt := { s.dgt with exps := [withChild l p x] } }) := by
  have hfind : s.dgt.exps.find? (expIs p.epoch p.coll p.step p.first) = some x := by rw [hx, List.find?_singleton, if_pos hk]
  rw [exec_exponentProposal_link hl, fromTree_child hm hc, if_neg (by simp [hr]), takeProposal_child hfind hs, modExp_single hx]

/-- The host's own proposal begins an agreement, which waits while a child's is missing. -/
theorem takeProposal_host {l : Nat} {p : ExpMsg} {s : State} (h : s.dgt.exps = []) (hc : allChildren s p.epoch [] = false) :
    takeProposal true l p s = { s with dgt := { s.dgt with
      exps := [{ epoch := p.epoch, coll := p.coll, step := p.step, first := p.first, acc := p.exps, own := true, reported := [] }] } } := by
  simp [takeProposal, modDgt, h, hc]

/-! ### The parent's vector (R107, R109) -/

theorem exec_exponentAgreed {l : Nat} {p : ExpMsg} {s : State} (hl : l < s.build.links) (hm : memberOf s p.epoch = true)
    (hp : isParent s p.epoch l = true) : exec (.exponentAgreed l p) s = .next (takeAgreed p s) :=
  (onUnit_built hl _).trans (congrArg Host.Outcome.next (fromTree_parent hm hp _))

theorem takeAgreed_taken {p : ExpMsg} {s : State} (h : p.exps.any (fun x => x == -128) = false) :
    takeAgreed p s = sendDown clBulk p.epoch (.exps p) { s with dgt := { s.dgt with
      exps := s.dgt.exps.filter (fun y => !(expIs p.epoch p.coll p.step p.first y)) ++
        [{ epoch := p.epoch, coll := p.coll, step := p.step, first := p.first, sent := true, agreed := some p.exps }] } } := by
  unfold takeAgreed
  rw [h]
  rfl

theorem takeAgreed_refused {p : ExpMsg} {s : State} (h : p.exps.any (fun x => x == -128) = true) :
    takeAgreed p s = sendDown clBulk p.epoch (.exps p)
      (tallyFallback 3 ((partsIn s p.epoch).headD 0) p.coll p.step 0 { s with dgt := { s.dgt with
        exps := s.dgt.exps.filter (fun y => !(expIs p.epoch p.coll p.step p.first y)) ++
          [{ epoch := p.epoch, coll := p.coll, step := p.step, first := p.first, sent := true, agreed := none, incomplete := true }] } }) := by
  unfold takeAgreed
  rw [h]
  rfl

/-! ### Transport digests (R181) -/

section Transport

variable {m : XportMsg} {x : Xport} {a b h q c : Nat} {s : State}

theorem exec_xport_member (hm : memberOf s m.epoch = true) : exec (.xport m) s = .next (takeXport m s) :=
  congrArg ok (if_pos hm)

theorem takeXport_disabled (he : s.dgt.xportEn = false) : takeXport m s = s := if_pos (by rw [he]; rfl)

/-- A message that no check waits for is kept for its stream. -/
theorem takeXport_kept (he : s.dgt.xportEn = true) (hn : s.dgt.xports.any (xportIs true m.coll m.step m.hostLink m.seq) = false) :
    takeXport m s = { s with dgt := { s.dgt with xports := s.dgt.xports ++
      [{ epoch := m.epoch, coll := m.coll, step := m.step, hostLink := m.hostLink, seq := m.seq, rx := true, msg := some m }] } } := by
  simp [takeXport, modDgt, he, hn]

/-- A message whose check waits is judged with it. -/
theorem takeXport_judged (he : s.dgt.xportEn = true) (hx : s.dgt.xports = [x]) (hk : xportIs true m.coll m.step m.hostLink m.seq x = true) :
    takeXport m s = judgeXport m.coll m.step m.hostLink m.seq { s with dgt := { s.dgt with xports := [{ x with msg := some m }] } } := by
  simp [takeXport, modDgt, he, hx, hk]

theorem find_xport (hx : s.dgt.xports = [x]) (hk : xportIs true a b h q x = true) :
    s.dgt.xports.find? (xportIs true a b h q) = some x := by
  rw [hx, List.find?_singleton, if_pos hk]

theorem dropXport_single (hx : s.dgt.xports = [x]) (hk : xportIs true a b h q x = true) :
    dropXport true a b h q s = { s with dgt := { s.dgt with xports := [] } } := by
  simp [dropXport, modDgt, hx, hk]

/-- A whole stream passes with an equal digest and count, and fails with the record otherwise. -/
theorem judgeXport_whole (hf : s.dgt.xports.find? (xportIs true a b h q) = some x) (hc : x.closed = some c) (hm : x.msg = some m)
    (hb : x.bad = false) : judgeXport a b h q s =
      if m.digest = x.digest ∧ m.elems = x.elems then landCheck (nodeChk x.epoch x.part c ckTransport vPass) (dropXport true a b h q s)
      else landCheck (nodeChk x.epoch x.part c ckTransport vFail) (modDgt (fun d => { d with xportFail := satInc 12 d.xportFail })
        (recordBlock .xportFail (le 2 h ++ zeros 2 ++ le 4 m.sender ++ le 4 s.wch.chip ++ le 4 a ++ le 4 b ++ le 4 q)
          (dropXport true a b h q s))) := by
  simp [judgeXport, hf, hc, hm, hb]

/-- What a message does to the one check that waits for it. -/
theorem takeXport_whole (he : s.dgt.xportEn = true) (hx : s.dgt.xports = [x]) (hk : xportIs true m.coll m.step m.hostLink m.seq x = true)
    (hc : x.closed = some c) (hb : x.bad = false) : takeXport m s =
      if m.digest = x.digest ∧ m.elems = x.elems
      then landCheck (nodeChk x.epoch x.part c ckTransport vPass) { s with dgt := { s.dgt with xports := [] } }
      else landCheck (nodeChk x.epoch x.part c ckTransport vFail) (modDgt (fun d => { d with xportFail := satInc 12 d.xportFail })
        (recordBlock .xportFail
          (le 2 m.hostLink ++ zeros 2 ++ le 4 m.sender ++ le 4 s.wch.chip ++ le 4 m.coll ++ le 4 m.step ++ le 4 m.seq)
          { s with dgt := { s.dgt with xports := [] } })) := by
  have hk' : xportIs true m.coll m.step m.hostLink m.seq { x with msg := some m } = true := hk
  rw [takeXport_judged he hx hk, judgeXport_whole (find_xport rfl hk') hc rfl hb, dropXport_single rfl hk']

/-- Without its message a check ends 16 strokes after its stream closed. -/
theorem exec_xportTimeout_waiting (hf : s.dgt.xports.find? (xportIs true a b h q) = some x) (hc : x.closed = some c) (hm : x.msg = none) :
    exec (.xportTimeout a b h q) s =
      .next (if c + 16 ≤ now s then landCheck (nodeChk x.epoch x.part c ckTransport vUncovered) (dropXport true a b h q s) else s) := by
  change execXportTimeout a b h q s = _
  simp [execXportTimeout, ok, hf, hc, hm]

theorem exec_xportTimeout_answered (hf : s.dgt.xports.find? (xportIs true a b h q) = some x) (hm : x.msg ≠ none) :
    exec (.xportTimeout a b h q) s = .next s := by
  obtain ⟨m, hm⟩ := Option.ne_none_iff_exists'.mp hm
  change execXportTimeout a b h q s = _
  simp [execXportTimeout, ok, hf, hm]

theorem exec_xportTimeout_unknown (hf : s.dgt.xports.find? (xportIs true a b h q) = none) : exec (.xportTimeout a b h q) s = .next s := by
  change execXportTimeout a b h q s = _
  simp [execXportTimeout, ok, hf]

/-- The one check is not ended while it has its message or 16 strokes have not passed, whichever check the timeout names. -/
theorem exec_xportTimeout_early (hx : s.dgt.xports = [x]) (hc : x.closed = some c) (hw : x.msg ≠ none ∨ now s < c + 16) :
    exec (.xportTimeout a b h q) s = .next s := by
  cases hk : xportIs true a b h q x with
  | false => exact exec_xportTimeout_unknown (by rw [hx, List.find?_singleton, hk]; rfl)
  | true =>
    by_cases hm : x.msg = none
    · have hearly : now s < c + 16 := hw.resolve_left (not_not_intro hm)
      rw [exec_xportTimeout_waiting (find_xport hx hk) hc hm, if_neg (Nat.not_le.mpr hearly)]
    · exact exec_xportTimeout_answered (find_xport hx hk) hm

end Transport

/-- Settles O27: a child's proposal joins the one agreement in `exec_exponentProposal_child`, and a message meets its check in
`takeXport_whole`. -/
theorem exponentsAgreeAndTransportIsChecked : Obligations.ExponentsAgreeAndTransportIsChecked := by
  refine ⟨fun l p x s hl hm hc hr hx hk hs hwait => ?_, fun l p x s hl hm hc hr hx hk hs hown hall => ?_,
    fun p s he hx hc => (exec_exponentProposal_host he).trans (congrArg Host.Outcome.next (takeProposal_host hx hc)),
    fun l p s hl hm hc hr => ?_,
    fun l p s hl h => (exec_exponentProposal_link hl).trans (congrArg Host.Outcome.next (fromTree_notChild h _)),
    fun l p s hl hm hp hb => (exec_exponentAgreed hl hm hp).trans (congrArg Host.Outcome.next (takeAgreed_taken hb)),
    fun l p s hl hm hp hb => (exec_exponentAgreed hl hm hp).trans (congrArg Host.Outcome.next (takeAgreed_refused hb)),
    fun m s hm he hn => (exec_xport_member hm).trans (congrArg Host.Outcome.next (takeXport_kept he hn)),
    fun m x c s hm he hx hk hc hb hd hn => ?_, fun m x c s hm he hx hk hc hb hdiff => ?_, fun m s h => ?_,
    fun a b h q c x s hx hk hc hm hlate => ?_, fun a b h q c x s hx hc hw => exec_xportTimeout_early hx hc hw⟩
  · rw [exec_exponentProposal_child hl hm hc hr hx hk hs, if_neg (by rcases hwait with h | h <;> simp [h]), withChild]
  · rw [exec_exponentProposal_child hl hm hc hr hx hk hs, if_pos (by rw [hown, hall]; rfl), withChild]
  · rw [exec_exponentProposal_link hl, fromTree_child hm hc, if_pos hr]
  · rw [exec_xport_member hm, takeXport_whole he hx hk hc hb, if_pos ⟨hd, hn⟩]
  · rw [exec_xport_member hm, takeXport_whole he hx hk hc hb, if_neg fun ⟨hd, hn⟩ => hdiff.elim (absurd hd) (absurd hn)]
  · cases hm : memberOf s m.epoch with
    | false => exact congrArg ok (if_neg (by simp [hm]))
    | true => rw [exec_xport_member hm, takeXport_disabled (by simpa [hm] using h)]
  · rw [exec_xportTimeout_waiting (find_xport hx hk) hc hm, if_pos hlate, dropXport_single hx hk]

end Sys2Proof.Machine
end

section
/-!
Residue lanes: what a report of a channel does to the registers of its sentinel, and the residue registers that act.
-/
namespace Sys2Proof.Machine

open Sys2Proof

/-! ### Changes of one sentinel's residue registers -/

/-- The second of two writes to an entry stands alone. -/
@[simp] theorem tput_tput {α : Type} (t : Table α) (k : Nat) (x y : α) : tput (tput t k x) k y = tput t k y := by
  induction t with
  | nil => simp [tput]
  | cons e t ih =>
    obtain ⟨j, z⟩ := e
    by_cases hlt : k < j
    · simp [tput, hlt]
    · by_cases heq : j = k
      · simp [tput, heq]
      · simp [tput, hlt, heq, ih]

theorem modSent_modSent (p : Nat) (f g : Sentinel → Sentinel) (s : State) :
    modSent p g (modSent p f s) = modSent p (fun x => g (f x)) s := by
  simp [modSent, tmod, tgetD]

theorem modRl_modRl (p : Nat) (f g : Rl → Rl) (s : State) : modRl p g (modRl p f s) = modRl p (fun x => g (f x)) s :=
  modSent_modSent ..

/-! ### Outcomes (R125 to R130, R134) -/

section Outcomes

variable {p c : Nat} {r : ResidueReport} {s : State}

/-- Settling an injection touches the injection's own flags alone (R134). -/
theorem takeInjection_only (c : Nat) (r : ResidueReport) (x : Rl) : ∃ pending seen missed,
    takeInjection c r x = { x with injPending := pending, injSeen := seen, injMissed := missed } := by
  unfold takeInjection
  split
  · exact ⟨_, _, _, rfl⟩
  · split
    · exact ⟨_, true, _, rfl⟩
    · exact ⟨_, _, _, rfl⟩

/-- The details of a first failure leave the numbers of the count as they are (R129). -/
theorem addOutcome_numbers (c : Nat) (r : ResidueReport) (slot : Option CmdSlot) (k : RlCount) :
    (addOutcome c r slot k).chk = k.chk + realChk r ∧ (addOutcome c r slot k).fail = k.fail + realFail r := by
  unfold addOutcome
  extract_lets first t k1
  split
  · exact ⟨rfl, rfl⟩
  · exact ⟨rfl, rfl⟩

theorem countOutcome_count (n c : Nat) (r : ResidueReport) (slot : Option CmdSlot) (x : Rl) :
    tgetD (countOutcome n c r slot x).counts n {} = addOutcome c r slot (tgetD x.counts n {}) := by
  simp [countOutcome, tgetD]

theorem takeOutcome_inTime (h : (sent s p).rl.closed ≤ outcomeStroke s p r) :
    takeOutcome p c r s = modSent p (fun y => { y with
      rl := countOutcome (outcomeStroke s p r) c r (tget (sent s p).cmds (fdetSlot r.fdet)) (takeInjection c r (sent s p).rl) }) s := by
  simp only [takeOutcome, if_neg (Nat.not_lt.mpr h), modRl_modRl]
  rfl

theorem takeOutcome_late (h : outcomeStroke s p r < (sent s p).rl.closed) :
    takeOutcome p c r s = modSent p (fun y => { y with rl := { takeInjection c r (sent s p).rl with dropped := true } }) s := by
  simp only [takeOutcome, if_pos h, modRl_modRl]
  rfl

theorem exec_residueOutcome (hp : p < s.build.ports) : exec (.residueOutcome p c r) s =
    .next (if sentinelOn s p && wired (sent s p).rl c && !(r.nchk == 0 && r.nskip == 0) then takeOutcome p c r s else s) :=
  onUnit_built hp _

theorem exec_residueOutcome_wired (hp : p < s.build.ports) (hon : sentinelOn s p = true) (hw : wired (sent s p).rl c = true)
    (hr : r.nchk ≠ 0 ∨ r.nskip ≠ 0) : exec (.residueOutcome p c r) s = .next (takeOutcome p c r s) := by
  rw [exec_residueOutcome hp, if_pos]
  rcases hr with hr | hr <;> simp [hon, hw, hr]

theorem exec_residueOutcome_unwired (hp : p < s.build.ports) (hw : wired (sent s p).rl c = false) :
    exec (.residueOutcome p c r) s = .next s := by
  rw [exec_residueOutcome hp, if_neg (by simp [hw])]

theorem exec_residueCountClose (hp : p < s.build.ports) : exec (.residueCountClose p) s =
    .next (if sentinelOn s p && !(sent s p).clkStop then modRl p (fun x => { x with closed := Nat.max x.closed (now s) }) s else s) :=
  onUnit_built hp _

end Outcomes

/-- Settles O15: a report settles an injection and then counts, or sets DROPPED, in the registers of its sentinel. -/
theorem residueOutcomesAreCounted : Obligations.ResidueOutcomesAreCounted := by
  refine ⟨fun p c r s hp hon hw hr hopen => ?_, fun p c r s hp hon hw hr hlate => ?_,
    fun p c r s hp hw => exec_residueOutcome_unwired hp hw, fun p s hp hon hrun => ?_, fun p s hp hstop => ?_⟩
  · refine ⟨_, (exec_residueOutcome_wired hp hon hw hr).trans (congrArg Host.Outcome.next (takeOutcome_inTime hopen)), ?_⟩
    obtain ⟨pending, seen, missed, hinj⟩ := takeInjection_only c r (sent s p).rl
    rw [countOutcome_count, hinj]
    obtain ⟨hchk, hfail⟩ := addOutcome_numbers c r (tget (sent s p).cmds (fdetSlot r.fdet))
      (tgetD (sent s p).rl.counts (outcomeStroke s p r) {})
    exact ⟨rfl, rfl, rfl, hchk, hfail, rfl, rfl, rfl⟩
  · refine ⟨_, (exec_residueOutcome_wired hp hon hw hr).trans (congrArg Host.Outcome.next (takeOutcome_late hlate)), ?_⟩
    obtain ⟨pending, seen, missed, hinj⟩ := takeInjection_only c r (sent s p).rl
    rw [hinj]
    exact ⟨rfl, rfl, rfl, rfl⟩
  · rw [exec_residueCountClose hp, if_pos (by simp [hon, hrun])]
    rfl
  · rw [exec_residueCountClose hp, if_neg (by simp [hstop])]

/-! ### The registers that act (R134, R136, R402) -/

section Registers

variable {a : Access} {n : Nat} {s : State}

/-- The privileged view's write to a node that the tree does not use (R402). -/
theorem nodeWrite_unused (hr : s.boot.inReset = false) (hp : privileged s a = true) (hu : nodeUsed s n = false) (off : Nat)
    (f : State → State) :
    nodeWrite a n off f s = busErr (record .nodeUnmapped n (deniedBody a true false (aNode n off)) s) := by
  simp [nodeWrite, hr, hp, hu]

theorem exec_residueInject_reaches (h : reachesNode s a n = true) : exec (.residueInject a n) s =
    .next (busOk (if 0x800 ≤ n then pulseInj (n - 0x800) s
      else forEach (nodePorts s n) (fun p => modRl p (fun x => { x with injNext := true })) s)) :=
  congrArg ok (nodeWrite_reaches h ..)

theorem exec_forceDualWrite_reaches (h : reachesNode s a n = true) (on : Bool) : exec (.forceDualWrite a n on) s =
    .next (busOk (whenB (decide (n < 0x800)) (forEach (asmsBelow s 17 n) (fun m => modAsm m (fun y => { y with forceDual := on })))
      (forEach (nodePorts s n) (fun p => modRl p (fun x => { x with forceDualNext := some on })) s))) :=
  congrArg ok (nodeWrite_reaches h ..)

theorem exec_rlStatusClear_reaches (h : reachesNode s a n = true) (v : Word) : exec (.rlStatusClear a n v) s =
    .next (busOk (forEach (nodePorts s n) (fun p => modRl p (clearRlStatus v)) s)) :=
  congrArg ok (nodeWrite_reaches h ..)

/-- A sentinel aggregates its own port alone (R47). -/
theorem nodePorts_sentinel (s : State) (p : Nat) : nodePorts s (0x800 + p) = [p] := by
  simp [nodePorts, aggBelow]

end Registers

/-- Settles O16: each write is `nodeWrite`, which acts on a sentinel's own port or on what an assembly aggregates. -/
theorem residueRegistersAct : Obligations.ResidueRegistersAct := by
  refine ⟨fun a p s h => ?_, fun a n s hn h => ?_, fun a p on s h => ?_, fun a n on s hn h => ?_,
    fun a n v s h => exec_rlStatusClear_reaches h v, fun a n v on s hr hp hu =>
      ⟨congrArg ok (nodeWrite_unused hr hp hu ..), congrArg ok (nodeWrite_unused hr hp hu ..),
        congrArg ok (nodeWrite_unused hr hp hu ..)⟩⟩
  · rw [exec_residueInject_reaches h, if_pos (Nat.le_add_right ..), Nat.add_sub_cancel_left]
    rfl
  · rw [exec_residueInject_reaches h, if_neg (Nat.not_le.mpr hn)]
  · rw [exec_forceDualWrite_reaches h, nodePorts_sentinel, decide_eq_false (Nat.not_lt.mpr (Nat.le_add_right ..)), whenB_false,
      forEach_cons, forEach_nil]
  · rw [exec_forceDualWrite_reaches h, decide_eq_true hn, whenB_true]

end Sys2Proof.Machine
end

section
/-!
Captures and duplex checks: what a beat, a completion and each limit leave of the command slot that they belong to.
-/
namespace Sys2Proof.Machine

open Sys2Proof

/-! ### Beats (R148 to R151, R421) -/

section Beats

variable {p id i : Nat} {b : TapBeat} {x : CmdSlot} {c : Capture} {d : Duplex} {s : State}

theorem exec_tapBeat_captured (hp : p < s.build.ports) (hx : tget (sent s p).cmds b.cslot = some x) (hc : x.capture = some id) :
    exec (.tapBeat p b) s = .next (captureBeat id b s) := by
  refine (onUnit_built hp _).trans (congrArg Host.Outcome.next ?_)
  simp only [hx, hc]

theorem exec_tapBeat_duplexed (hp : p < s.build.ports) (hx : tget (sent s p).cmds b.cslot = some x) (hc : x.capture = none)
    (hi : x.dupIdx = some i) : exec (.tapBeat p b) s = .next (duplexBeat i x.tag.dup b s) := by
  refine (onUnit_built hp _).trans (congrArg Host.Outcome.next ?_)
  simp only [hx, hc, hi]

theorem exec_tapBeat_unchecked (hp : p < s.build.ports) (hx : tget (sent s p).cmds b.cslot = some x) (hc : x.capture = none)
    (hi : x.dupIdx = none) : exec (.tapBeat p b) s = .next s := by
  refine (onUnit_built hp _).trans (congrArg Host.Outcome.next ?_)
  simp only [hx, hc, hi]

theorem captureBeat_overflows (hc : capture? s id = some c) (h0 : c.state = 0) (ho : b.overflow = true) :
    captureBeat id b s = dropCapture id 4 (now s) s := by
  simp [captureBeat, hc, h0, ho]

/-- The bytes that a beat brings to a command: none when it breaks the rules of R421. -/
def broughtBytes (t : TagCmd) (b : TapBeat) : List (Nat × Nat × Byte) := if beatOk t b then beatBytes b else []

/-- A capture with bytes presented to it, new or presented before. -/
def withBytes (new : List (Nat × Nat × Byte)) (y : Capture) : Capture :=
  { y with bytes := addBeat y.bytes new, diverge := y.diverge || beatDiffers y.bytes new }

/-- An open capture takes the bytes of a beat, and LAST closes it. -/
theorem captureBeat_adds (hc : capture? s id = some c) (h0 : c.state = 0) (ho : b.overflow = false) :
    captureBeat id b s = whenB b.last (captureLast id) (modCap id (withBytes (broughtBytes c.tag b)) s) := by
  simp only [captureBeat, hc, h0, ho, beq_self_eq_true, Bool.not_true, Bool.false_eq_true, if_false]
  rfl

/-- A result beat that keeps the rules of R421 adds to the side of the check that its command is on. -/
theorem duplexBeat_single (hd : s.cpy.duplexes = [(i, d)]) (hst : b.stream = 6 ∨ b.stream = 7) (hok : beatOk d.tag b = true)
    (dup : Bool) : duplexBeat i dup b s = { s with cpy := { s.cpy with duplexes := [(i,
      if dup then { d with dupBytes := addBeat d.dupBytes (beatBytes b) } else { d with ownBytes := addBeat d.ownBytes (beatBytes b) })] } } := by
  have hstream : (b.stream == 6 || b.stream == 7) = true := by simpa using hst
  simp [duplexBeat, modCpy, tadj, hd, hstream, hok]

end Beats

/-! ### Completion (R159, R420) -/

section Completion

variable {p n i : Nat} {x : CmdSlot} {s : State}

/-- A command leaves its slot, and its sentinel's summary of the stroke shows it (R230). -/
def slotDone (p n : Nat) (x : CmdSlot) : State → State :=
  modSent p (fun y => { y with cmds := tdel y.cmds n, touch := touchActive x.tag y.touch })

theorem exec_cmdDone_empty (hp : p < s.build.ports) (hx : tget (sent s p).cmds n = none) : exec (.cmdDone p n) s = .next s := by
  refine (onUnit_built hp _).trans (congrArg Host.Outcome.next ?_)
  simp only [hx]

theorem exec_cmdDone_unchecked (hp : p < s.build.ports) (hx : tget (sent s p).cmds n = some x) (hi : x.dupIdx = none) :
    exec (.cmdDone p n) s = .next (slotDone p n x s) := by
  refine (onUnit_built hp _).trans (congrArg Host.Outcome.next ?_)
  simp only [hx, hi, slotDone]

theorem exec_cmdDone_duplexed (hp : p < s.build.ports) (hx : tget (sent s p).cmds n = some x) (hi : x.dupIdx = some i) :
    exec (.cmdDone p n) s = .next (duplexDone i x.tag.dup (slotDone p n x s)) := by
  refine (onUnit_built hp _).trans (congrArg Host.Outcome.next ?_)
  simp only [hx, hi, slotDone]

end Completion

/-- Settles O18: a beat goes to the capture or the duplex check that its slot names, `captureBeat_adds` and `duplexBeat_single`, and a
completion is `slotDone`. -/
theorem beatsFillCapturesAndDoneFreesTheSlot : Obligations.BeatsFillCapturesAndDoneFreesTheSlot := by
  refine ⟨fun p id b x c s hp hx hid hc h0 ho hl hok => ?_, fun p id b x c s hp hx hid hc h0 ho => ?_,
    fun p id b x c s hp hx hid hc h0 ho hl => ?_, fun p i b x d s hp hx hid hi hd hst hok => ?_,
    fun p b x s hp hx hid hi => exec_tapBeat_unchecked hp hx hid hi, fun p n x s hp hx hi => exec_cmdDone_unchecked hp hx hi,
    fun p n i x s hp hx hi => exec_cmdDone_duplexed hp hx hi, fun p n s hp hx => exec_cmdDone_empty hp hx⟩
  · rw [exec_tapBeat_captured hp hx hid, captureBeat_adds hc h0 ho, hl, whenB_false, broughtBytes, if_pos hok]
    rfl
  · rw [exec_tapBeat_captured hp hx hid, captureBeat_overflows hc h0 ho]
  · rw [exec_tapBeat_captured hp hx hid, captureBeat_adds hc h0 ho, hl, whenB_true]
    rfl
  · rw [exec_tapBeat_duplexed hp hx hid hi, duplexBeat_single hd hst hok]

/-! ### Limits (R150, R154, R159) -/

section Limits

variable {p n i o q id : Nat} {x : CmdSlot} {d : Duplex} {c : Capture} {y : Piece} {s : State}

theorem exec_duplexRefuse_empty (hp : p < s.build.ports) (hx : tget (sent s p).cmds n = none) :
    exec (.duplexRefuse p n) s = .next s := by
  refine (onUnit_built hp _).trans (congrArg Host.Outcome.next ?_)
  simp only [hx]

/-- The host refuses the check of a command that it was to run twice, before the check has ended. -/
theorem exec_duplexRefuse_open (hp : p < s.build.ports) (hx : tget (sent s p).cmds n = some x) (hi : x.dupIdx = some i)
    (hown : x.tag.dup = false) (hd : tget s.cpy.duplexes i = some d) (hopen : d.closed = false) :
    exec (.duplexRefuse p n) s = .next (duplexUncovered i (now s)
      (record .duplexRefused (nodeOf p) (le 2 x.partner ++ zeros 2 ++ le 4 x.tag.seq) s)) := by
  refine (onUnit_built hp _).trans (congrArg Host.Outcome.next ?_)
  simp [hx, hi, hown, hd, hopen]

/-- While one side alone has completed, in stroke `o`, the check waits for the other until stroke `o + 4` has passed. -/
theorem exec_duplexMissing_oneSided (hd : tget s.cpy.duplexes i = some d)
    (hone : (d.ownDone = some o ∧ d.dupDone = none) ∨ (d.ownDone = none ∧ d.dupDone = some o)) :
    exec (.duplexMissing i) s = .next (if !d.closed && decide (o + 5 ≤ now s) then duplexUncovered i (o + 4) s else s) := by
  change execDuplexMissing i s = _
  rcases hone with ⟨hown, hdup⟩ | ⟨hown, hdup⟩ <;> simp only [execDuplexMissing, ok, hd, hown, hdup]

theorem exec_duplexMissing_both (hd : tget s.cpy.duplexes i = some d) (hown : d.ownDone = some o) (hdup : d.dupDone = some q) :
    exec (.duplexMissing i) s = .next s := by
  change execDuplexMissing i s = _
  simp only [execDuplexMissing, ok, hd, hown, hdup]

theorem duplexUncovered_listed (n : Nat) (hd : tget s.cpy.duplexes i = some d) :
    duplexUncovered i n s = landCheck (duplexChk s d d.partner d.port n vUncovered)
      (landCheck (duplexChk s d d.port d.partner n vUncovered)
        (dropRecord d.partner 0x0F d.tag (dropRecord d.port 0x0F d.tag (closeDuplex i s)))) := by
  simp only [duplexUncovered, hd]

theorem exec_captureTooLong_listed (hc : capture? s id = some c) : exec (.captureTooLong id) s =
    .next (if c.state == 0 && decide (c.accepted + 4096 + c.stopped + stoppedFor s c.port c ≤ now s)
      then dropCapture id 8 (now s) s else s) := by
  change execCaptureTooLong id s = _
  simp only [execCaptureTooLong, ok, hc]

theorem exec_backlogDrop_listed (hc : capture? s id = some c) (hy : c.pieces[i]? = some y) : exec (.backlogDrop id i) s =
    .next (if c.state == 1 && y.state == 0 && y.run == 1 && decide (c.last + 3 ≤ now s) then endPiece id i 0x0A s else s) := by
  change execBacklogDrop id i s = _
  simp only [execBacklogDrop, ok, hc, hy]

end Limits

/-- Settles O19: each limit is the test that its command makes of the check or capture it names. -/
theorem checksEndWithoutAComparison : Obligations.ChecksEndWithoutAComparison := by
  refine ⟨fun p n i x d s hp hx hi hown hd hopen => exec_duplexRefuse_open hp hx hi hown hd hopen,
    fun p n s hp hx => exec_duplexRefuse_empty hp hx, fun i o d s hd hopen hone hlate => ?_, fun i o d s hd hown hearly => ?_,
    fun i n d s hd => duplexUncovered_listed n hd, fun id c s hc h0 hlate => ?_, fun id c s hc hearly => ?_,
    fun id i c x s hc hx h1 h0 hrun hlate => ?_, fun id i c x s hc hx hwait => ?_⟩
  · rw [exec_duplexMissing_oneSided hd hone, if_pos (by simp [hopen, hlate])]
  · cases hdup : d.dupDone with
    | none => rw [exec_duplexMissing_oneSided hd (.inl ⟨hown, hdup⟩), if_neg (by simp [Nat.not_le.mpr hearly])]
    | some q => exact exec_duplexMissing_both hd hown hdup
  · rw [exec_captureTooLong_listed hc, if_pos (by simp [h0, hlate])]
  · rw [exec_captureTooLong_listed hc, if_neg (by simp [Nat.not_le.mpr hearly])]
  · rw [exec_backlogDrop_listed hc hx, if_pos (by simp [h1, h0, hrun, hlate])]
  · rw [exec_backlogDrop_listed hc hx, if_neg]
    rcases hwait with hearly | hjudged
    · simp [Nat.not_le.mpr hearly]
    · simp [hjudged]

end Sys2Proof.Machine
end

section
/-!
Copy units and the COPYIST registers: what the end of a canary set leaves of its unit and of the counts, and the writes of the window.
-/
namespace Sys2Proof.Machine

open Sys2Proof

/-! ### Parts that a record leaves -/

theorem Frame.cpy_eq {l : List Comp} {s t : State} (h : Frame l s t) (hc : l.contains .cpy = false) : t.cpy = s.cpy :=
  (h.keeps .cpy hc).symm

theorem Logged.cpy {s t : State} (h : Logged s t) : t.cpy = s.cpy := h.frame.cpy_eq rfl

/-! ### Canary sets (R161, R162) -/

section Canaries

variable {u : Nat} {s : State}

theorem exec_canaryDue (hu : u < s.build.units) : exec (.canaryDue u) s =
    .next (if (cunit s u).up && decide ((cunit s u).due ≤ now s)
      then modUnit u (fun x => { x with runNext := true, due := now s + canaryPeriod s }) s else s) :=
  onUnit_built hu _

/-- A set that has ended is counted, and the census need not wait for its unit. -/
def setCounted (u : Nat) (s : State) : State :=
  modBoot (fun b => { b with canaryTodo := without b.canaryTodo u })
    (modCpy (fun c => { c with canaryRuns := satInc 16 c.canaryRuns }) (endCanary u s))

/-- A set that has ended with a failed kernel is counted as a failure too. -/
def failureCounted (u : Nat) (s : State) : State := modCpy (fun c => { c with canaryFails := satInc 16 c.canaryFails }) (setCounted u s)

theorem exec_canaryComplete_idle (hu : u < s.build.units) (hr : (cunit s u).running = false) (k : Option Nat) :
    exec (.canaryComplete u k) s = .next s :=
  (onUnit_built hu _).trans (congrArg Host.Outcome.next (if_neg (by simp [hr])))

theorem exec_canaryComplete_passed (hu : u < s.build.units) (hr : (cunit s u).running = true) :
    exec (.canaryComplete u none) s = .next (unitPass u (setCounted u s)) :=
  (onUnit_built hu _).trans (congrArg Host.Outcome.next (if_pos hr))

theorem exec_canaryComplete_failed (hu : u < s.build.units) (hr : (cunit s u).running = true) (k : Nat) :
    exec (.canaryComplete u (some k)) s =
      .next (unitFail u k (modCpy (fun c => { c with canaryFails := satInc 16 c.canaryFails }) (setCounted u s))) :=
  (onUnit_built hu _).trans (congrArg Host.Outcome.next (if_pos hr))

theorem setCounted_boot (u : Nat) (s : State) :
    (setCounted u s).boot = { s.boot with canaryTodo := without s.boot.canaryTodo u } := by
  rw [setCounted, modBoot, modCpy, (endCanary_frame u s).boot_eq rfl]

theorem unitPass_boot (u : Nat) (s : State) : (unitPass u s).boot = s.boot := (unitPass_frame u s).boot_eq rfl

theorem unitFail_boot (u k : Nat) (s : State) : (unitFail u k s).boot = s.boot := (unitFail_frame u k s).boot_eq rfl

/-- A unit with the two counts of CPY_CANARY: the sets run and the sets failed. -/
def unitAndCounts (u : Nat) (s : State) : CUnit × Nat × Nat := (cunit s u, s.cpy.canaryRuns, s.cpy.canaryFails)

theorem unitAndCounts_congr (u : Nat) {s t : State} (h : t.cpy = s.cpy) : unitAndCounts u t = unitAndCounts u s := by
  rw [unitAndCounts, cunit, h]
  rfl

theorem modUnit_unitAndCounts (u : Nat) (f : CUnit → CUnit) (s : State) :
    unitAndCounts u (modUnit u f s) = (unitAndCounts u s).map f id :=
  Prod.ext (tgetD_tmod_same ..) rfl

/-- A unit whose set has ended. -/
def setEnded (x : CUnit) : CUnit := { x with running := false, token := false, overran := false }

/-- A unit that has passed its set. -/
def passedUnit (x : CUnit) : CUnit := { x with up := true, failedOnce := false, census := false }

/-- A unit that has failed its set: out for good when it fails again (R162). -/
def failedUnit (x : CUnit) : CUnit :=
  { x with up := false, perm := x.failedOnce, failedOnce := true, runNext := !x.failedOnce, census := false }

theorem endCanary_unitAndCounts (u : Nat) (s : State) : unitAndCounts u (endCanary u s) = (unitAndCounts u s).map setEnded id := by
  have htoken (x : State) : unitAndCounts u (modCpy (fun c => { c with heldService := c.heldService - 1 }) x) = unitAndCounts u x := rfl
  exact (whenB_keeps htoken ..).trans (modUnit_unitAndCounts ..)

theorem setCounted_unitAndCounts (u : Nat) (s : State) :
    unitAndCounts u (setCounted u s) = (unitAndCounts u s).map setEnded (Prod.map (satInc 16) id) := by
  change (unitAndCounts u (endCanary u s)).map id (Prod.map (satInc 16) id) = _
  rw [endCanary_unitAndCounts]
  rfl

theorem failureCounted_unitAndCounts (u : Nat) (s : State) :
    unitAndCounts u (failureCounted u s) = (unitAndCounts u s).map setEnded (Prod.map (satInc 16) (satInc 16)) := by
  change (unitAndCounts u (setCounted u s)).map id (Prod.map id (satInc 16)) = _
  rw [setCounted_unitAndCounts]
  rfl

theorem unitPass_unitAndCounts (u : Nat) (s : State) : unitAndCounts u (unitPass u s) = (unitAndCounts u s).map passedUnit id :=
  (whenB_keeps (fun _ => unitAndCounts_congr u (record_logged ..).cpy) ..).trans (modUnit_unitAndCounts ..)

/-- Pieces that change their group leave every unit as it is (R154). -/
theorem readmit_unitAndCounts (g u : Nat) (s : State) : unitAndCounts u (readmit g s) = unitAndCounts u s := by
  unfold readmit
  split
  · rfl
  · rfl

theorem unitFail_unitAndCounts (u k : Nat) (s : State) : unitAndCounts u (unitFail u k s) = (unitAndCounts u s).map failedUnit id := by
  unfold unitFail
  extract_lets x
  rw [whenB_keeps (readmit_unitAndCounts _ u), modUnit_unitAndCounts,
    whenB_keeps (fun _ => unitAndCounts_congr u ((craqMod_frame ..).cpy_eq rfl)), unitAndCounts_congr u (record_logged ..).cpy]
  rfl

theorem setPassed_unitAndCounts (u : Nat) (s : State) : unitAndCounts u (unitPass u (setCounted u s)) =
    (passedUnit (setEnded (cunit s u)), satInc 16 s.cpy.canaryRuns, s.cpy.canaryFails) := by
  rw [unitPass_unitAndCounts, setCounted_unitAndCounts]
  rfl

theorem setFailed_unitAndCounts (u k : Nat) (s : State) : unitAndCounts u (unitFail u k (failureCounted u s)) =
    (failedUnit (setEnded (cunit s u)), satInc 16 s.cpy.canaryRuns, satInc 16 s.cpy.canaryFails) := by
  rw [unitFail_unitAndCounts, failureCounted_unitAndCounts]
  rfl

end Canaries

/-! ### Writes of the window (R139, R161, R166, R405) -/

section Writes

variable {a : Access} {s : State}

theorem exec_canaryRun_reaches (h : reaches s a aCpyCanary = true) (v : Word) : exec (.canaryRun a v) s =
    .next (busOk (whenB (fbit v 63) (fun x => forEach (upUnits x) (fun u => modUnit u (fun y => { y with runNext := true })) x) s)) :=
  congrArg ok (privWrite_reaches h _)

theorem exec_cpyStoreWrite_reaches (h : reaches s a aCpyStore = true) (v : Word) : exec (.cpyStoreWrite a v) s =
    .next (busOk (if s.cpy.lock then s
      else if poolsOk s (fld v 63 52) (fld v 51 40) (fld v 39 28) then
        modCpy (fun c => { c with landing := fld v 63 52, staging := fld v 51 40, service := fld v 39 28 }) s
      else modCpy (fun c => { c with cfgErr := true }) s)) :=
  congrArg ok (privWrite_reaches h _)

theorem exec_cpyLock_reaches (h : reaches s a aCpyCfg = true) (v : Word) : exec (.cpyLock a v) s = .next (busOk (writeCpyCfg v s)) :=
  congrArg ok (privWrite_reaches h _)

end Writes

/-- Settles O21: the end of a set is `setPassed_unitAndCounts` or `setFailed_unitAndCounts`; each write is one of the three above. -/
theorem canariesAndCopyistRegisters : Obligations.CanariesAndCopyistRegisters := by
  refine ⟨fun u s hu hup hdue => ?_, fun u s hu hwait => ?_, fun u s hu hr => ?_, fun u k s hu hr => ?_,
    fun u k s hu hr => exec_canaryComplete_idle hu hr k, fun a v s h hrun => ?_, fun a v s h hopen hpools => ?_,
    fun a v s h hopen hpools => ?_, fun a v s h hlock => ?_, fun a v s h => exec_cpyLock_reaches h v⟩
  · rw [exec_canaryDue hu, if_pos (by simp [hup, hdue])]
    rfl
  · rw [exec_canaryDue hu, if_neg]
    rcases hwait with hdown | hearly
    · simp [hdown]
    · simp [Nat.not_le.mpr hearly]
  · obtain ⟨hunit, hcounts⟩ := Prod.ext_iff.mp (setPassed_unitAndCounts u s)
    obtain ⟨hruns, hfails⟩ := Prod.ext_iff.mp hcounts
    refine ⟨_, exec_canaryComplete_passed hu hr, ?_, ?_, ?_, hruns, hfails, (unitPass_boot ..).trans (setCounted_boot ..)⟩
    · exact congrArg CUnit.up hunit
    · exact congrArg CUnit.running hunit
    · exact congrArg CUnit.failedOnce hunit
  · obtain ⟨hunit, hcounts⟩ := Prod.ext_iff.mp (setFailed_unitAndCounts u k s)
    obtain ⟨hruns, hfails⟩ := Prod.ext_iff.mp hcounts
    refine ⟨_, exec_canaryComplete_failed hu hr k, ?_, ?_, ?_, ?_, hruns, hfails, (unitFail_boot ..).trans (setCounted_boot ..)⟩
    · exact congrArg CUnit.up hunit
    · exact congrArg CUnit.running hunit
    · exact congrArg CUnit.failedOnce hunit
    · exact congrArg CUnit.perm hunit
  · rw [exec_canaryRun_reaches h, hrun, whenB_true]
  · rw [exec_cpyStoreWrite_reaches h, if_neg (by simp [hopen]), if_pos hpools]
    rfl
  · rw [exec_cpyStoreWrite_reaches h, if_neg (by simp [hopen]), if_neg (by simp [hpools])]
    rfl
  · rw [exec_cpyStoreWrite_reaches h, if_pos hlock]

end Sys2Proof.Machine
end

section
/-!
Peer recompute: what a request, its data and the end of its piece leave of the requests served, and what an answer or its absence leaves
of the checks sent.
-/
namespace Sys2Proof.Machine

open Sys2Proof

/-! ### Requests of peers (R152, R163, R164) -/

section Requests

variable {l r o n i : Nat} {d : CopyDesc} {p : PeerIn} {s : State}

theorem exec_peerReq (hl : l < s.build.links) (r o n : Nat) (d : CopyDesc) :
    exec (.peerReq l r o n d) s = .next (takePeerReq l r o n d s) := onUnit_built hl _

theorem takePeerReq_refused (h : descOk d = false ∨ n = 0 ∨ 5042 < n) : takePeerReq l r o n d s = peerAnswer l r 2 0 0 s := by
  refine if_pos ?_
  rcases h with h | h | h <;> simp [h]

/-- A descriptor and a length that pass the checks leave the choice between serving and BUSY. -/
theorem takePeerReq_checked (hd : descOk d = true) (h1 : 1 ≤ n) (hn : n ≤ 5042) : takePeerReq l r o n d s =
    if !(peerOn s) || decide (serveMax s ≤ s.cpy.served) || decide (s.cpy.service < s.cpy.heldService + peerTokens n) then
      peerAnswer l r 1 0 0 { s with cpy := { s.cpy with peerBusy := satInc 16 s.cpy.peerBusy } }
    else { s with cpy := { s.cpy with
      served := s.cpy.served + 1, heldService := s.cpy.heldService + peerTokens n
      peerIn := s.cpy.peerIn ++ [{ reqId := r, origin := o, link := l, chunks := n, desc := d, tokens := peerTokens n }] } } := by
  refine if_neg ?_
  simp [hd, Nat.not_lt.mpr hn, Nat.ne_of_gt h1]

/-- PEER_EN off or shed, or the requests of the stroke used up, is BUSY (R164, R384). -/
theorem takePeerReq_busy (hd : descOk d = true) (h1 : 1 ≤ n) (hn : n ≤ 5042)
    (h : s.cpy.eff.peerEn = false ∨ s.pwr.shedPeer = true ∨ s.cpy.eff.peerServeMax ≤ s.cpy.served) :
    takePeerReq l r o n d s = peerAnswer l r 1 0 0 { s with cpy := { s.cpy with peerBusy := satInc 16 s.cpy.peerBusy } } := by
  rw [takePeerReq_checked hd h1 hn, if_pos]
  rcases h with h | h | h
  · simp [peerOn, h]
  · simp [peerOn, h]
  · have hmax : serveMax s ≤ s.cpy.served := Nat.le_trans (Nat.min_le_right ..) h
    simp [hmax]

theorem takePeerReq_entered (hd : descOk d = true) (h1 : 1 ≤ n) (hn : n ≤ 5042) (hen : s.cpy.eff.peerEn = true)
    (hshed : s.pwr.shedPeer = false) (hmax : s.cpy.served < serveMax s) (hroom : s.cpy.heldService + peerTokens n ≤ s.cpy.service) :
    takePeerReq l r o n d s = { s with cpy := { s.cpy with
      served := s.cpy.served + 1, heldService := s.cpy.heldService + peerTokens n
      peerIn := s.cpy.peerIn ++ [{ reqId := r, origin := o, link := l, chunks := n, desc := d, tokens := peerTokens n }] } } := by
  rw [takePeerReq_checked hd h1 hn, if_neg]
  simp [peerOn, hen, hshed, Nat.not_le.mpr hmax, Nat.not_lt.mpr hroom]

/-! ### Data of a request (R163) -/

/-- The chunk `i` on link `l` is the next one of a request, and it is marked last when it is. -/
def continuesRequest (l r i : Nat) (last : Bool) (p : PeerIn) : Bool :=
  p.reqId == r && p.link == l && p.state == 0 && p.got == i && (last == (i + 1 == p.chunks))

theorem continuesRequest_false {last : Bool} (h : p.reqId ≠ r ∨ p.link ≠ l ∨ p.state ≠ 0 ∨ p.got ≠ i) :
    continuesRequest l r i last p = false := by
  rcases h with h | h | h | h <;> simp [continuesRequest, h]

/-- A request with its next chunk. -/
def withChunk (i : Nat) (last : Bool) (data : List Byte) (p : PeerIn) : PeerIn :=
  { p with got := i + 1, data := p.data ++ data.take 208, state := if last then 1 else 0 }

/-- Outside Publish a chunk goes to the requests that it continues, and nothing else happens. -/
theorem exec_peerData (hl : l < s.build.links) (hph : s.stk.phase ≠ 2) (r i : Nat) (last : Bool) (data : List Byte) :
    exec (.peerData l r i last data) s = .next { s with cpy := { s.cpy with
      peerIn := s.cpy.peerIn.map (fun p => if continuesRequest l r i last p then withChunk i last data p else p) } } := by
  refine (onUnit_built hl _).trans (congrArg Host.Outcome.next ?_)
  have hphase : (s.stk.phase == 2) = false := by simpa using hph
  rw [takePeerData, modCpy, hphase, whenB_false]
  rfl

/-! ### The end of a served piece (R163, R164, R199) -/

theorem exec_pieceComplete_peer (hi : i < 2 ^ 40) (j : Nat) (g : GroupResult) :
    exec (.pieceComplete (2 ^ 40 + i) j g) s = .next (peerServed i g s) := by
  change ok (if 2 ^ 40 + i < 2 ^ 40 then _ else if 2 ^ 40 + i < 2 ^ 41 then peerServed (2 ^ 40 + i - 2 ^ 40) g s else _) = _
  rw [if_neg (by omega), if_pos (by omega), Nat.add_sub_cancel_left, ok_next]

theorem exec_pieceComplete_golden {e g : Nat} (hg : (liveGroups s).contains g = true) (x : GroupResult) :
    exec (.pieceComplete (2 ^ 41 + e) g x) s = .next (goldenRun e g x s) := by
  change ok (if 2 ^ 41 + e < 2 ^ 40 then _ else if 2 ^ 41 + e < 2 ^ 41 then _
    else if (liveGroups s).contains g then goldenRun (2 ^ 41 + e - 2 ^ 41) g x s else s) = _
  rw [if_neg (by omega), if_neg (by omega), if_pos hg, Nat.add_sub_cancel_left, ok_next]

/-- The piece of an admitted request is counted, answered DONE with the length and digest of its result, and its entry leaves. -/
theorem peerServed_answers (hp : s.cpy.peerIn[i]? = some p) (hst : p.state = 2) (g : GroupResult) : ∃ len dg, peerServed i g s =
    peerDrop i (peerAnswer p.link p.reqId 0 len dg { s with cpy := { s.cpy with peerServed := satInc 16 s.cpy.peerServed } }) := by
  simp only [peerServed, hp, hst, beq_self_eq_true, Bool.not_true, Bool.false_eq_true, if_false]
  exact ⟨_, _, rfl⟩

theorem peerDrop_cpy (hp : s.cpy.peerIn[i]? = some p) : (peerDrop i s).cpy =
    { s.cpy with heldService := s.cpy.heldService - p.tokens, peerIn := s.cpy.peerIn.eraseIdx i } := by
  simp [peerDrop, hp]

theorem goldenRun_contract {e : Nat} {x : Golden} (hx : s.gnd.golden[e]? = some x) (g : Nat) : goldenRun e g .contract s =
    goldenValue e g (arithDigest ((arithResult x.pattern x.seed).map (fun y => y.bits))) s := by
  simp only [goldenRun, hx]

end Requests

/-- Settles O22: a request is refused, BUSY or entered as `takePeerReq` decides, a chunk continues the requests that `continuesRequest` admits, and
what a served piece leaves is in `peerServed_answers` and `peerDrop_cpy`. -/
theorem peerRequestsAreServedOrAnswered : Obligations.PeerRequestsAreServedOrAnswered := by
  refine ⟨fun l r o n d s hl h => ?_, fun l r o n d s hl hd h1 hn h => ?_, fun l r o n d s hl hd h1 hn hen hshed hmax hroom => ?_,
    fun l r i p last d s hl hph hin hr hlink hst hgot hlast => ?_, fun l r i last d s hl hph hnone => ?_,
    fun i j g p s hi hp hst => ?_, fun e g x y s hy hg hx => ?_⟩
  · rw [exec_peerReq hl, takePeerReq_refused h]
  · rw [exec_peerReq hl, takePeerReq_busy hd h1 hn h]
  · rw [exec_peerReq hl, takePeerReq_entered hd h1 hn hen hshed hmax hroom]
    rfl
  · have hnext : continuesRequest l r i last p = true := by simp [continuesRequest, hr, hlink, hst, hgot, hlast]
    rw [exec_peerData hl hph, hin, List.map_singleton, if_pos hnext, withChunk]
  · have hkept : s.cpy.peerIn.map (fun p => if continuesRequest l r i last p then withChunk i last d p else p) = s.cpy.peerIn := by
      have hsame (p : PeerIn) (hp : p ∈ s.cpy.peerIn) : (if continuesRequest l r i last p then withChunk i last d p else p) = id p :=
        if_neg (by simp [continuesRequest_false (hnone p hp)])
      rw [List.map_congr_left hsame, List.map_id]
    rw [exec_peerData hl hph, hkept]
  · obtain ⟨len, dg, hserved⟩ := peerServed_answers hp hst g
    refine ⟨_, len, dg, exec_pieceComplete_peer hi j g, hserved, ?_⟩
    have hcpy := (peerAnswer_frame p.link p.reqId 0 len dg
      { s with cpy := { s.cpy with peerServed := satInc 16 s.cpy.peerServed } }).cpy_eq rfl
    rw [hserved, peerDrop_cpy (by rw [hcpy]; exact hp), hcpy]
    exact ⟨rfl, rfl⟩
  · rw [hx, exec_pieceComplete_golden hg, goldenRun_contract hy]

/-! ### Answers of peers (R164, R165) -/

section Answers

variable {l r k b g : Nat} {o : PeerOut} {c : Capture} {s : State}

/-- The check that an answer on link `l` to request `r` belongs to. -/
def answered (s : State) (l r : Nat) : Option PeerOut :=
  s.cpy.peerOut.find? (fun o => o.reqId == r && o.link == l && o.waiting)

/-- The one check sent, when it waits for this answer. -/
theorem answered_single (ho : s.cpy.peerOut = [o]) (hr : o.reqId = r) (hlink : o.link = l) (hw : o.waiting = true) :
    answered s l r = some o := by
  rw [answered, ho, List.find?_singleton, if_pos (by simp [hr, hlink, hw])]

theorem exec_peerResp_unknown (hl : l < s.build.links) (ho : answered s l r = none) : exec (.peerResp l r k b g) s = .next s := by
  refine (onUnit_built hl _).trans (congrArg Host.Outcome.next ?_)
  rw [answered] at ho
  rw [takePeerResp, ho]

/-- A check that was answered BUSY waits for its next period. -/
def putOff (r : Nat) (p : PeerOut) : PeerOut := if p.reqId == r then { p with busy := p.busy + 1, waiting := false } else p

/-- DONE is judged, BUSY puts the check off or ends it, and every other status leaves it to its limit. -/
theorem exec_peerResp_answered (hl : l < s.build.links) (ho : answered s l r = some o) : exec (.peerResp l r k b g) s =
    .next (if k == 0 then peerDone o g s
      else if k == 1 then
        if 2 ≤ o.busy then peerUncovered o s else { s with cpy := { s.cpy with peerOut := s.cpy.peerOut.map (putOff r) } }
      else s) := by
  refine (onUnit_built hl _).trans (congrArg Host.Outcome.next ?_)
  rw [answered] at ho
  rw [takePeerResp, ho]
  rfl

theorem exec_peerResp_done (hl : l < s.build.links) (ho : answered s l r = some o) :
    exec (.peerResp l r 0 b g) s = .next (peerDone o g s) := by
  rw [exec_peerResp_answered hl ho, if_pos (beq_self_eq_true _)]

theorem exec_peerResp_busy (hl : l < s.build.links) (ho : answered s l r = some o) : exec (.peerResp l r 1 b g) s =
    .next (if 2 ≤ o.busy then peerUncovered o s else { s with cpy := { s.cpy with peerOut := s.cpy.peerOut.map (putOff r) } }) := by
  rw [exec_peerResp_answered hl ho, if_neg (by decide), if_pos (beq_self_eq_true _)]

theorem exec_peerResp_other (hl : l < s.build.links) (hk : 2 ≤ k) : exec (.peerResp l r k b g) s = .next s := by
  cases ho : answered s l r with
  | none => exact exec_peerResp_unknown hl ho
  | some o =>
    have hdone : ¬ (k == 0) = true := by simp; omega
    have hbusy : ¬ (k == 1) = true := by simp; omega
    rw [exec_peerResp_answered hl ho, if_neg hdone, if_neg hbusy]

theorem peerDone_agrees (ht : o.tie = none) : peerDone o o.digest s = peerVerdict o vLate s := by
  simp [peerDone, ht]

/-- A check whose first peer gave another digest goes to a second one as a tie-break (R165). -/
def tieBroken (r chip digest : Nat) (p : PeerOut) : PeerOut :=
  if p.reqId == r then { p with tie := some (chip, digest), waiting := false, busy := 0 } else p

theorem peerDone_splits (ht : o.tie = none) (hg : g ≠ o.digest) : peerDone o g s = { s with cpy := { s.cpy with
    peerSplit := satInc 16 s.cpy.peerSplit, peerOut := s.cpy.peerOut.map (tieBroken o.reqId o.chip g) } } := by
  simp only [peerDone, ht]
  exact if_neg (by simp [hg])

/-- Two peers that agree with each other and not with this block: a COPY_FAIL record, and the check FAILs. -/
theorem peerDone_outvoted (ht : o.tie = some (k, g)) : ∃ t, peerDone o g s = peerVerdict o vFail t ∧ Logged s t := by
  simp only [peerDone, ht, beq_self_eq_true, if_true]
  exact ⟨_, rfl, writeOrFold_logged ..⟩

theorem exec_peerTimeout_found (ho : s.cpy.peerOut.find? (fun o => o.reqId == r) = some o) : exec (.peerTimeout r) s =
    .next (if o.waiting && decide (o.sent + 16 ≤ now s) then peerUncovered o s else s) := by
  change execPeerTimeout r s = _
  simp only [execPeerTimeout, ok, ho]

theorem peerUncovered_recorded (hc : capture? s o.capture = some c) : peerUncovered o s = peerVerdict o vUncovered
    (record .captureDrop 0 (le 1 0x10 ++ le 1 c.tag.opc ++ le 2 c.tag.layer ++ le 4 c.tag.seq) s) := by
  simp only [peerUncovered, hc]

theorem peerVerdict_lands (hc : capture? s o.capture = some c) (k : Nat) : peerVerdict o k s =
    landCheck { nodeChk o.epoch c.part o.stroke ckPeer k with opc := c.tag.opc }
      { s with cpy := { s.cpy with peerOut := s.cpy.peerOut.filter (fun p => !(p.reqId == o.reqId)) } } := by
  simp only [peerVerdict, hc]
  rfl

end Answers

/-! ### A suspect Copyist, and the end of a directed period (R165, R243) -/

theorem exec_copySuspect {l : Nat} {s : State} (hl : l < s.build.links) (v : VerdictMsg) : exec (.copySuspect l v) s =
    .next (if v.kind == 4 && v.chips.contains s.wch.chip then forEach (groupNos s) groupCanary s else s) :=
  onUnit_built hl _

theorem exec_duplexDirectedExpiry {p : Nat} {s : State} (hp : p < s.build.ports) : exec (.duplexDirectedExpiry p) s =
    .next (if decide ((sent s p).samp.directedUntil ≤ now s) && !(sent s p).health.dupWatch.isEmpty then duplexEvents p s else s) :=
  onUnit_built hp _

/-- Settles O23: an answer belongs to the check that `answered` finds, DONE is judged as `peerDone` says, and every limit is the test that
its command makes. -/
theorem peerAnswersAreJudged : Obligations.PeerAnswersAreJudged := by
  refine ⟨fun l r b g o s hl ho ht hg => ?_, fun l r b g o s hl ho hr hlink hw ht hg => ?_, fun l r b g c o s hl ho ht => ?_,
    fun l r b g o s hl ho hr hlink hw hbusy => ?_, fun l r b g o s hl ho hbusy => ?_, fun l r k b g s hl h => ?_,
    fun r o s ho hw hlate => ?_, fun r o s ho hwait => ?_, fun o c s hc => peerUncovered_recorded hc,
    fun o c k s hc => peerVerdict_lands hc k, fun l v s hl hk hchip => ?_, fun l v s hl h => ?_, fun p s hp hover hwatch => ?_,
    fun p s hp h => ?_⟩
  · rw [exec_peerResp_done hl ho, hg, peerDone_agrees ht]
  · rw [exec_peerResp_done hl (answered_single ho hr hlink hw), peerDone_splits ht hg, ho, List.map_singleton, tieBroken,
      if_pos (beq_self_eq_true _)]
  · obtain ⟨t, hfail, hlog⟩ := peerDone_outvoted ht
    exact ⟨t, (exec_peerResp_done hl ho).trans (congrArg Host.Outcome.next hfail), hlog⟩
  · rw [exec_peerResp_busy hl (answered_single ho hr hlink hw), if_neg (Nat.not_le.mpr hbusy), ho, List.map_singleton, putOff,
      if_pos (by simp [hr])]
  · rw [exec_peerResp_busy hl ho, if_pos hbusy]
  · rcases h with hnone | hk
    · exact exec_peerResp_unknown hl hnone
    · exact exec_peerResp_other hl hk
  · rw [exec_peerTimeout_found ho, if_pos (by simp [hw, hlate])]
  · rw [exec_peerTimeout_found ho, if_neg]
    rcases hwait with hidle | hearly
    · simp [hidle]
    · simp [Nat.not_le.mpr hearly]
  · rw [exec_copySuspect hl, if_pos (by rw [hk, hchip]; rfl)]
  · rw [exec_copySuspect hl, if_neg]
    rcases h with hk | hchip
    · simp [hk]
    · rw [hchip, Bool.and_false]
      exact Bool.false_ne_true
  · rw [exec_duplexDirectedExpiry hp, if_pos (by simp [hover, hwatch])]
  · rw [exec_duplexDirectedExpiry hp, if_neg]
    rcases h with hearly | hwatch
    · simp [Nat.not_le.mpr hearly]
    · simp [hwatch]

end Sys2Proof.Machine
end

section
/-!
Fabric-tap streams: what a header in each state of its tap does, and what a beat or the limit leaves of an open stream.
-/
namespace Sys2Proof.Machine

open Sys2Proof

/-! ### Headers (R173, R174, R181) -/

section Headers

variable {p : Nat} {h : FtHeader} {x : Stream} {s : State}

theorem exec_tapHeader (hp : p < s.build.taps) (hr : coreReset s = false) : exec (.tapHeader p h) s = .next (takeHeader p h s) :=
  (onUnit_built hp _).trans (congrArg Host.Outcome.next (if_pos (by simp [hr])))

/-- With CORE in reset the taps are deaf (R376). -/
theorem exec_tapHeader_deaf (hp : p < s.build.taps) (hr : coreReset s = true) : exec (.tapHeader p h) s = .next s :=
  (onUnit_built hp _).trans (congrArg Host.Outcome.next (if_neg (by simp [hr])))

theorem closeOpen_none {n : Nat} (ho : stream? s p n = none) : closeOpen p n s = s := by rw [closeOpen, ho]

theorem closeOpen_some {n : Nat} (ho : stream? s p n = some x) :
    closeOpen p n s = closeStream x false (tapProtocol p n 1 x.hdr.purpose false s) := by rw [closeOpen, ho]

/-- The header breaks a rule of R174: a purpose out of range, a partition outside its epoch, or no elements. -/
def outOfOrder (s : State) (h : FtHeader) : Bool :=
  h.purpose == 0 || decide (9 < h.purpose) || !(inEpoch (part s h.part)) || h.length == 0

theorem outOfOrder_of (hb : h.purpose = 0 ∨ 9 < h.purpose ∨ inEpoch (part s h.part) = false ∨ h.length = 0) : outOfOrder s h = true := by
  rcases hb with hb | hb | hb | hb <;> simp [outOfOrder, hb]

theorem inOrder_of (h1 : 1 ≤ h.purpose) (h9 : h.purpose ≤ 9) (he : inEpoch (part s h.part) = true) (hlen : h.length ≠ 0) :
    outOfOrder s h = false := by
  simp [outOfOrder, he, hlen, Nat.ne_of_gt h1, h9]

theorem takeHeader_misnumbered (hn : h.ftStream ≠ h.stream) : takeHeader p h s = tapProtocol p h.stream 6 h.purpose true s :=
  if_pos (by simp [hn])

theorem takeHeader_xportOff (hn : h.ftStream = h.stream) (hx : isXport h = true) (he : s.dgt.xportEn = false) : takeHeader p h s = s :=
  (if_neg (by simp [hn])).trans (if_pos (by simp [hx, he]))

section Accepted

variable (hn : h.ftStream = h.stream) (hx : s.dgt.xportEn = true ∨ isXport h = false)
include hn hx

/-- A header that is neither misnumbered nor ignored closes an open stream of its number, and is then judged on the state that this leaves. -/
theorem takeHeader_checked : takeHeader p h s =
    if outOfOrder s h then tapProtocol p h.stream 6 h.purpose true (closeOpen p h.stream s)
    else if 256 ≤ ((closeOpen p h.stream s).dgt.streams.filter (fun x => x.tap == p)).length then
      refusedCheck true h (recordBlock .tapFull (le 1 p ++ zeros 3) (modDgt (fun d => { d with tapFull := true }) (closeOpen p h.stream s)))
    else if (closeOpen p h.stream s).dgt.streams.any (fun x => sameKey x.hdr h) then
      refusedCheck false h (tapProtocol p h.stream 5 h.purpose true (closeOpen p h.stream s))
    else openStream p h (closeOpen p h.stream s) := by
  refine (if_neg (by simp [hn])).trans (if_neg ?_)
  rcases hx with hx | hx <;> simp [hx]

theorem takeHeader_outOfOrder (hb : outOfOrder s h = true) :
    takeHeader p h s = tapProtocol p h.stream 6 h.purpose true (closeOpen p h.stream s) := by
  rw [takeHeader_checked hn hx, if_pos hb]

variable (ho : stream? s p h.stream = none) (hb : outOfOrder s h = false)
include ho hb

theorem takeHeader_full (hfull : 256 ≤ (s.dgt.streams.filter (fun x => x.tap == p)).length) : takeHeader p h s =
    refusedCheck true h (recordBlock .tapFull (le 1 p ++ zeros 3) { s with dgt := { s.dgt with tapFull := true } }) := by
  rw [takeHeader_checked hn hx, if_neg (by simp [hb]), closeOpen_none ho, if_pos hfull, modDgt]

variable (hroom : (s.dgt.streams.filter (fun x => x.tap == p)).length < 256)
include hroom

theorem takeHeader_sameKey (hk : s.dgt.streams.any (fun x => sameKey x.hdr h) = true) :
    takeHeader p h s = refusedCheck false h (tapProtocol p h.stream 5 h.purpose true s) := by
  rw [takeHeader_checked hn hx, if_neg (by simp [hb]), closeOpen_none ho, if_neg (Nat.not_le.mpr hroom), if_pos hk]

theorem takeHeader_opens (hk : s.dgt.streams.any (fun x => sameKey x.hdr h) = false) : takeHeader p h s = openStream p h s := by
  rw [takeHeader_checked hn hx, if_neg (by simp [hb]), closeOpen_none ho, if_neg (Nat.not_le.mpr hroom), if_neg (by simp [hk])]

end Accepted

theorem tallyForm_other (h1 : h.purpose ≠ 1) (h2 : h.purpose ≠ 2) : tallyForm h = false := by simp [tallyForm, h1, h2]

theorem isXport_other (h3 : h.purpose ≠ 3) (h4 : h.purpose ≠ 4) : isXport h = false := by simp [isXport, h3, h4]

theorem rollOverlap_other (h6 : h.purpose ≠ 6) : rollOverlap h s = s := if_neg (by simp [h6])

/-- A transport, SHARD_WRITE or checkpoint stream only enters the table. -/
theorem openStream_plain (hq : h.purpose ∈ [3, 4, 5, 7, 8]) : openStream p h s = { s with dgt := { s.dgt with
    streams := s.dgt.streams ++
      [{ tap := p, hdr := h, epoch := (part s h.part).epoch, opened := now s, point := streamPoint s h }] } } := by
  have hne : h.purpose ≠ 1 ∧ h.purpose ≠ 2 ∧ h.purpose ≠ 6 ∧ h.purpose ≠ 9 := by
    simp only [List.mem_cons, List.not_mem_nil, or_false] at hq
    omega
  obtain ⟨h1, h2, h6, h9⟩ := hne
  have hform : tallyForm h = false := tallyForm_other h1 h2
  have h1 : (h.purpose == 1) = false := beq_false_of_ne h1
  have h9 : (h.purpose == 9) = false := beq_false_of_ne h9
  simp [openStream, modDgt, hform, h1, h9, rollOverlap_other h6]

/-! ### Refused headers (R174) -/

theorem refusedCheck_read (b : Bool) (hq : h.purpose ∈ [2, 4]) : refusedCheck b h s =
    if b then landCheck (nodeChk (part s h.part).epoch h.part (now s) (if h.purpose = 2 then ckTally else ckTransport) vUncovered) s
    else s := by
  have hq : h.purpose = 2 ∨ h.purpose = 4 := by simpa using hq
  rcases hq with hq | hq
  · simp [refusedCheck, hq]
  · simp [refusedCheck, hq]

theorem refusedCheck_shard (b : Bool) (hq : h.purpose ∈ [5, 6]) : refusedCheck b h s = { s with dgt := { s.dgt with
    repl := s.dgt.repl.map (fun r => if isShard h.part h.ident r && r.kind == 2 then { r with valid := false } else r) } } := by
  have hq : h.purpose = 5 ∨ h.purpose = 6 := by simpa using hq
  rcases hq with hq | hq
  · simp [refusedCheck, hq, modRepl, modDgt]
  · simp [refusedCheck, hq, modRepl, modDgt]

theorem refusedCheck_other (b : Bool) (hq : h.purpose ∈ [1, 3, 7, 8, 9]) : refusedCheck b h s = s := by
  have hne : h.purpose ≠ 2 ∧ h.purpose ≠ 4 ∧ h.purpose ≠ 5 ∧ h.purpose ≠ 6 := by
    simp only [List.mem_cons, List.not_mem_nil, or_false] at hq
    omega
  obtain ⟨h2, h4, h5, h6⟩ := hne
  simp [refusedCheck, h2, h4, h5, h6]

end Headers

/-- Settles O24: each clause is the branch of `takeHeader_checked` that its hypotheses choose, or the effect of `openStream` and
`refusedCheck` by purpose. -/
theorem tapHeadersOpenStreams : Obligations.TapHeadersOpenStreams := by
  refine ⟨fun p h s hp hr ho hn hq he hlen hx hroom hk => ?_, fun p h s hp hr ho hn hq he hlen hroom hk => ?_,
    fun p h s hp hr hn => ?_, fun p h s hp hr ho hn hx hb => ?_, fun p h x s hp hr ho hn hx hb => ?_, fun p h s hp hr hn hx he => ?_,
    fun p h s hp hr ho hn h1 h9 he hlen hx hfull => ?_, fun p h s hp hr ho hn h1 h9 he hlen hx hroom hk => ?_,
    fun b h s hq => refusedCheck_read b hq, fun b h s hq => refusedCheck_shard b hq, fun b h s hq => refusedCheck_other b hq,
    fun p h s hp hr => exec_tapHeader_deaf hp hr, fun p st c q s => rfl⟩
  · have hrange : 1 ≤ h.purpose ∧ h.purpose ≤ 9 := by
      simp only [List.mem_cons, List.not_mem_nil, or_false] at hq
      omega
    obtain ⟨h1, h9⟩ := hrange
    rw [exec_tapHeader hp hr, takeHeader_opens hn hx ho (inOrder_of h1 h9 he hlen) hroom hk, openStream_plain hq]
  · have hrange : 1 ≤ h.purpose ∧ h.purpose ≤ 9 ∧ h.purpose ≠ 3 ∧ h.purpose ≠ 4 := by
      simp only [List.mem_cons, List.not_mem_nil, or_false] at hq
      omega
    obtain ⟨h1, h9, h3, h4⟩ := hrange
    rw [exec_tapHeader hp hr, takeHeader_opens hn (.inr (isXport_other h3 h4)) ho (inOrder_of h1 h9 he hlen) hroom hk]
  · rw [exec_tapHeader hp hr, takeHeader_misnumbered hn]
  · rw [exec_tapHeader hp hr, takeHeader_outOfOrder hn hx (outOfOrder_of hb), closeOpen_none ho]
  · rw [exec_tapHeader hp hr, takeHeader_outOfOrder hn hx (outOfOrder_of hb), closeOpen_some ho]
  · rw [exec_tapHeader hp hr, takeHeader_xportOff hn hx he]
  · rw [exec_tapHeader hp hr, takeHeader_full hn hx ho (inOrder_of h1 h9 he hlen) hfull]
  · rw [exec_tapHeader hp hr, takeHeader_sameKey hn hx ho (inOrder_of h1 h9 he hlen) hroom hk]

/-! ### Beats (R172, R174, R358) -/

section StreamBeats

variable {p st o c : Nat} {d : List Byte} {x : Stream} {s : State}

theorem exec_tapData_deaf (hp : p < s.build.taps) (hr : coreReset s = true) : exec (.tapData p st o c d) s = .next s :=
  (onUnit_built hp _).trans (congrArg Host.Outcome.next (if_pos hr))

theorem exec_tapData_unopened (hp : p < s.build.taps) (hr : coreReset s = false) (ho : stream? s p st = none) :
    exec (.tapData p st o c d) s = .next (tapProtocol p st 2 0 true (countTap d.length s)) := by
  refine (onUnit_built hp _).trans (congrArg Host.Outcome.next ?_)
  rw [if_neg (by simp [hr]), ho]

theorem exec_tapData_open (hp : p < s.build.taps) (hr : coreReset s = false) (ho : stream? s p st = some x) :
    exec (.tapData p st o c d) s = .next (takeBeat x o c d (countTap d.length s)) := by
  refine (onUnit_built hp _).trans (congrArg Host.Outcome.next ?_)
  rw [if_neg (by simp [hr]), ho]

/-- A stream with the `c` elements of a beat that start at its index `o`. -/
def withBeat (x : Stream) (o c : Nat) (d : List Byte) : Stream :=
  { x with got := x.got + c, digest := (x.digest + digestAt x.point (x.hdr.base + o) (beatElems x.hdr c d)) % dP }

/-- The table with a stream put in the place of the one with its tap and number. -/
def putStream (y : Stream) : State → State := modDgt (fun d =>
  { d with streams := d.streams.map (fun z => if strIs y.tap y.hdr.stream z then y else z) })

theorem wrongStep_other {h : FtHeader} (h7 : h.purpose ≠ 7) (h8 : h.purpose ≠ 8) (vs : List Int) : wrongStep s h o vs = false := by
  have h7 : (h.purpose == 7) = false := beq_false_of_ne h7
  have h8 : (h.purpose == 8) = false := beq_false_of_ne h8
  simp [wrongStep, h7, h8]

/-- A beat within its stream's bounds feeds the digest; with LENGTH elements the stream closes whole. -/
theorem takeBeat_fits (hq : x.hdr.purpose ∈ [1, 2, 3, 4, 5, 9]) (hc : c ≤ (if tallyForm x.hdr then 32 else 16))
    (hlen : o + c ≤ x.hdr.length) (htw : x.tw = none) : takeBeat x o c d s =
      if x.hdr.length ≤ x.got + c then closeStream (withBeat x o c d) true (putStream (withBeat x o c d) s)
      else putStream (withBeat x o c d) s := by
  have hne : x.hdr.purpose ≠ 6 ∧ x.hdr.purpose ≠ 7 ∧ x.hdr.purpose ≠ 8 := by
    simp only [List.mem_cons, List.not_mem_nil, or_false] at hq
    omega
  obtain ⟨h6, h7, h8⟩ := hne
  have hmin : Nat.min c (x.hdr.length - o) = c := Nat.min_eq_left (by omega)
  simp [takeBeat, withBeat, putStream, beatDigest, h6, wrongStep_other h7 h8, htw, Nat.not_lt.mpr hc, Nat.not_lt.mpr hlen, hmin]

/-! ### The limit of an open stream (R174) -/

theorem exec_streamTimeout_unopened (hp : p < s.build.taps) (ho : stream? s p st = none) : exec (.streamTimeout p st) s = .next s := by
  refine (onUnit_built hp _).trans (congrArg Host.Outcome.next ?_)
  rw [ho]

theorem exec_streamTimeout_open (hp : p < s.build.taps) (ho : stream? s p st = some x) : exec (.streamTimeout p st) s =
    .next (if x.opened + 4096 ≤ now s then closeStream x false (tapProtocol p st 7 x.hdr.purpose false s) else s) := by
  refine (onUnit_built hp _).trans (congrArg Host.Outcome.next ?_)
  rw [ho]

end StreamBeats

theorem digestAt_lt (r first : Nat) (vs : List Int) : digestAt r first vs < dP := Nat.mod_lt _ (by decide)

/-- Settles O25: a beat of an open stream is `takeBeat_fits`, and the limit is the test of `exec_streamTimeout_open`. -/
theorem tapDataFeedsDigests : Obligations.TapDataFeedsDigests := by
  refine ⟨fun p st o c d s hp hr ho => exec_tapData_unopened hp hr ho, fun p o c d x s hp hr ho hq hc hlen hgot htw htap => ?_,
    fun p o c d x s hp hr ho hq hc hlen hgot htw htap => ⟨withBeat x o c d, rfl, ?_⟩, fun p st o c d s hp hr => exec_tapData_deaf hp hr,
    fun p st x s hp ho hlate => ?_, fun p st x s hp ho hearly => ?_, fun p st s hp ho => exec_streamTimeout_unopened hp ho,
    fun x b s => rfl, fun p vs i => digestAt_lt p i vs⟩
  · rw [exec_tapData_open hp hr ho, takeBeat_fits hq hc hlen htw, if_neg (Nat.not_le.mpr hgot), ← htap]
    rfl
  · rw [exec_tapData_open hp hr ho, takeBeat_fits hq hc hlen htw, if_pos hgot, ← htap]
    rfl
  · rw [exec_streamTimeout_open hp ho, if_pos hlate]
  · rw [exec_streamTimeout_open hp ho, if_neg (Nat.not_le.mpr hearly)]

end Sys2Proof.Machine
end

section
/-!
Tally sums: what a child's contribution, the parent's total and the limits leave of an entry, and the verdict of an entry that has both its sum
and its total.
-/
namespace Sys2Proof.Machine

open Sys2Proof

section Tallies

variable {l d e c p g : Nat} {t : TallyMsg} {x : Tally} {s : State}

/-! ### Entries (R180) -/

theorem tally?_single (hx : s.dgt.tally = [x]) (hk : tallyIs e c p g x = true) : tally? s e c p g = some x := by
  rw [tally?, hx, List.find?_singleton, if_pos hk]

theorem modTally_single (hx : s.dgt.tally = [x]) (hk : tallyIs e c p g x = true) (f : Tally → Tally) :
    modTally e c p g f s = { s with dgt := { s.dgt with tally := [f x] } } := by
  rw [modTally, modDgt, hx, List.map_singleton, if_pos hk]

theorem tallyRoom_found (hf : tally? s e c p g = some x) : tallyRoom s e c p g = true := by rw [tallyRoom, hf]; rfl

theorem needTally_found (hf : tally? s e c p g = some x) : needTally e c p g s = s := if_pos (by rw [hf]; rfl)

/-! ### Contributions of children (R176, R304, R309) -/

theorem exec_tallyUp (hl : l < s.build.links) (t : TallyMsg) :
    exec (.tallyUp l t) s = .next (fromTree true t.epoch l (takeTallyUp l false t) s) := onUnit_built hl _

theorem takeTallyUp_bypassed (hr : coreReset s = true) (b : Bool) :
    takeTallyUp l b t s = relayBypass clDigest 3 t.epoch (.tally t) s := if_pos hr

theorem takeTallyUp_oneSegment (hr : coreReset s = false) (hd : t.digests = [d]) (b : Bool) :
    takeTallyUp l b t s = takeUpSeg l b t 0 d s := by
  refine (if_neg (by simp [hr])).trans ?_
  rw [hd]
  rfl

/-- An entry with the contribution that a child sent on a link. -/
def withContrib (l d : Nat) (t : TallyMsg) (x : Tally) : Tally :=
  { x with digest := (x.digest + d) % dP, count := x.count + t.count, sat := satAdd (2 ^ 32 - 1) x.sat t.sat, reported := addNew x.reported l }

/-- A later contribution enters an entry that has not gone on; with every child's in, the entry does. -/
theorem takeUpSeg_waiting (hx : s.dgt.tally = [x]) (hk : tallyIs t.epoch t.coll t.step t.first x = true) (hs : x.sent = false)
    (hrep : x.reported ≠ []) : takeUpSeg l false t 0 d s =
      if allChildren s t.epoch (addNew x.reported l)
      then forwardTally t.epoch t.coll t.step t.first { s with dgt := { s.dgt with tally := [withContrib l d t x] } }
      else { s with dgt := { s.dgt with tally := [withContrib l d t x] } } := by
  have hfind := tally?_single hx hk
  have hfirst : x.reported.isEmpty = false := by simpa using hrep
  simp [takeUpSeg, tallyRoom_found hfind, needTally_found hfind, hfind, hs, hfirst, modTally_single hx hk, addContrib, withContrib]

/-- What a child's contribution does to the one entry it belongs to. -/
theorem exec_tallyUp_child (hl : l < s.build.links) (hm : memberOf s t.epoch = true) (hc : isChild s t.epoch l = true)
    (hr : coreReset s = false) (hd : t.digests = [d]) (hx : s.dgt.tally = [x])
    (hk : tallyIs t.epoch t.coll t.step t.first x = true) (hs : x.sent = false) (hrep : x.reported ≠ []) : exec (.tallyUp l t) s = .next
      (if allChildren s t.epoch (addNew x.reported l)
        then forwardTally t.epoch t.coll t.step t.first { s with dgt := { s.dgt with tally := [withContrib l d t x] } }
        else { s with dgt := { s.dgt with tally := [withContrib l d t x] } }) := by
  rw [exec_tallyUp hl, fromTree_child hm hc, takeTallyUp_oneSegment hr hd, takeUpSeg_waiting hx hk hs hrep]

/-! ### The limit of the relay (R176) -/

/-- An entry of a collective's segment that has contributions and has not gone on. -/
def relaying (c p g : Nat) (x : Tally) : Bool := x.coll == c && x.step == p && x.seg == g && !x.sent && !x.reported.isEmpty

theorem exec_tallyRelayTimeout_found (hf : s.dgt.tally.find? (relaying c p g) = some x) : exec (.tallyRelayTimeout c p g) s =
    .next (if x.firstAt + tallyWait s ≤ now s then forwardTally x.epoch c p g s else s) := by
  refine congrArg ok (?_ : _ = _)
  unfold relaying at hf
  rw [hf]

theorem exec_tallyRelayTimeout_unknown (hf : s.dgt.tally.find? (relaying c p g) = none) : exec (.tallyRelayTimeout c p g) s = .next s := by
  refine congrArg ok (?_ : _ = _)
  unfold relaying at hf
  rw [hf]

/-- The one entry is not forwarded while it waits for nothing or TALLY_WAIT has not passed, whichever entry the timeout names. -/
theorem exec_tallyRelayTimeout_early (hx : s.dgt.tally = [x])
    (hw : x.sent = true ∨ x.reported = [] ∨ now s < x.firstAt + tallyWait s) : exec (.tallyRelayTimeout c p g) s = .next s := by
  cases hk : relaying c p g x with
  | false => exact exec_tallyRelayTimeout_unknown (by rw [hx, List.find?_singleton, hk]; rfl)
  | true =>
    have hearly : now s < x.firstAt + tallyWait s := by
      rcases hw with hsent | hnone | hearly
      · simp [relaying, hsent] at hk
      · simp [relaying, hnone] at hk
      · exact hearly
    rw [exec_tallyRelayTimeout_found (by rw [hx, List.find?_singleton, if_pos hk]), if_neg (Nat.not_le.mpr hearly)]

/-! ### Totals (R176, R178) -/

theorem fromTree_notParent (h : memberOf s e = false ∨ isParent s e l = false) (f : State → State) :
    fromTree false e l f s = errEpoch l s := if_neg (by rcases h with h | h <;> simp [h])

theorem exec_tallyTotal (hl : l < s.build.links) (t : TallyMsg) :
    exec (.tallyTotal l t) s = .next (fromTree false t.epoch l (takeTallyTotal t) s) := onUnit_built hl _

theorem takeTallyTotal_oneSegment (hd : t.digests = [d]) :
    takeTallyTotal t s = takeTotalSeg t (0, d) (sendDown clDigest t.epoch (.tally t) s) := by
  rw [takeTallyTotal, hd]
  rfl

theorem judgeTally_unsummed (hf : tally? s e c p g = some x) (hs : x.sum = none) : judgeTally e c p g s = s := by
  simp [judgeTally, hf, hs]

/-- An entry with the total of its segment, which a judged entry leaves aside. -/
def withTotal (d : Nat) (t : TallyMsg) (x : Tally) : Tally :=
  { x with sent := true, total := if x.judged then x.total else some (d, t.count, t.sat, t.expD) }

/-- The total of an entry without its sum is kept for it. -/
theorem takeTotalSeg_kept (hx : s.dgt.tally = [x]) (hk : tallyIs t.epoch t.coll t.step t.first x = true) (hs : x.sum = none) :
    takeTotalSeg t (0, d) s = { s with dgt := { s.dgt with tally := [withTotal d t x] } } := by
  have hfind := tally?_single hx hk
  have hkept : tally? { s with dgt := { s.dgt with tally := [withTotal d t x] } } t.epoch t.coll t.step t.first = some (withTotal d t x) :=
    tally?_single rfl hk
  refine (if_pos (tallyRoom_found hfind)).trans ?_
  change judgeTally t.epoch t.coll t.step t.first
    (modTally t.epoch t.coll t.step t.first (withTotal d t) (needTally t.epoch t.coll t.step t.first s)) = _
  rw [needTally_found hfind, modTally_single hx hk, judgeTally_unsummed hkept hs]

/-! ### The verdict (R178) -/

section Judged

variable {a b n m k y : Nat} (hf : tally? s e c p g = some x) (hs : x.sum = some (a, n)) (hj : x.judged = false)
include hf hs hj

theorem judgeTally_bad (ht : x.total = some (b, m, k, y)) (hb : x.bad = true) : judgeTally e c p g s = tallyVerdict x n vUncovered s := by
  simp [judgeTally, hf, hs, ht, hj, hb]

/-- A whole entry with every contribution, no saturation and equal exponents is judged by its digests. -/
theorem judgeTally_counted (ht : x.total = some (b, x.nContrib, 0, expDigest s e c p)) (hb : x.bad = false) (hsat : collSat s e c p = 0) :
    judgeTally e c p g s = if a = b then tallyVerdict x n vPass s else tallyFail x n 2 s := by
  by_cases hab : a = b
  · simp [judgeTally, hf, hs, ht, hj, hb, hsat, hab]
  · simp [judgeTally, hf, hs, ht, hj, hb, hsat, hab]

end Judged

/-! ### The limit of a sum (R179) -/

/-- An entry of a collective's segment that has its sum and waits for its total. -/
def summed (c p g : Nat) (x : Tally) : Bool :=
  x.coll == c && x.step == p && x.seg == g && x.total.isNone && x.sum.isSome && !x.judged

theorem exec_tallyTotalTimeout_found {a n : Nat} (hf : s.dgt.tally.find? (summed c p g) = some x) (hs : x.sum = some (a, n)) :
    exec (.tallyTotalTimeout c p g) s = .next (if n + 4096 ≤ now s then tallyVerdict x n vUncovered (recordBlock .tallyIncomplete
      (le 1 2 ++ zeros 1 ++ le 2 g ++ le 4 c ++ le 4 p ++ zeros 4 ++ le 4 x.nContrib) s) else s) := by
  refine congrArg ok (?_ : _ = _)
  unfold summed at hf
  simp only [hf, hs]

theorem exec_tallyTotalTimeout_unknown (hf : s.dgt.tally.find? (summed c p g) = none) : exec (.tallyTotalTimeout c p g) s = .next s := by
  refine congrArg ok (?_ : _ = _)
  unfold summed at hf
  rw [hf]

/-- The one sum is not ended before its 4,096 strokes, whichever entry the timeout names. -/
theorem exec_tallyTotalTimeout_early {a n : Nat} (hx : s.dgt.tally = [x]) (hs : x.sum = some (a, n)) (hearly : now s < n + 4096) :
    exec (.tallyTotalTimeout c p g) s = .next s := by
  cases hk : summed c p g x with
  | false => exact exec_tallyTotalTimeout_unknown (by rw [hx, List.find?_singleton, hk]; rfl)
  | true =>
    rw [exec_tallyTotalTimeout_found (by rw [hx, List.find?_singleton, if_pos hk]) hs, if_neg (Nat.not_le.mpr hearly)]

end Tallies

/-- Settles O26: a child's contribution joins the one entry in `exec_tallyUp_child`, a total is kept in `takeTotalSeg_kept`, the verdict is in
`judgeTally_bad` and `judgeTally_counted`, and each limit is the test of its command. -/
theorem talliesAreSummedAndJudged : Obligations.TalliesAreSummedAndJudged := by
  refine ⟨fun l d t x s hl hm hc hr hd hx hk hs hrep hwait => ?_, fun l d t x s hl hm hc hr hd hx hk hs hrep hall => ?_,
    fun l t s hl hm hc hr => ?_, fun l t s hl h => ?_, fun c p g x s hx hc hp hg hs hrep hlate => ?_,
    fun c p g x s hx hw => exec_tallyRelayTimeout_early hx hw, fun l d t s hl hm hp hd => ?_, fun l t s hl h => ?_,
    fun d t x s hx hk hj hs => ?_, fun e c p g a b d n k y x s hf hs ht hj hb => judgeTally_bad hf hs hj ht hb,
    fun e c p g a b d n y x s hf hs ht hj hb hcount hsat hexp => ?_, fun c p g n a x s hx hc hp hg ht hs hj hlate => ?_,
    fun c p g n a x s hx hs hearly => exec_tallyTotalTimeout_early hx hs hearly⟩
  · rw [exec_tallyUp_child hl hm hc hr hd hx hk hs hrep, if_neg (by simp [hwait]), withContrib]
  · rw [exec_tallyUp_child hl hm hc hr hd hx hk hs hrep, if_pos hall, withContrib]
  · rw [exec_tallyUp hl, fromTree_child hm hc, takeTallyUp_bypassed hr]
  · rw [exec_tallyUp hl, fromTree_notChild h]
  · have hfind : s.dgt.tally.find? (relaying c p g) = some x := by
      rw [hx, List.find?_singleton, if_pos (by simp [relaying, hc, hp, hg, hs, hrep])]
    have hpassed : x.firstAt + tallyWait s ≤ now s := hlate
    rw [exec_tallyRelayTimeout_found hfind, if_pos hpassed]
  · rw [exec_tallyTotal hl, fromTree_parent hm hp, takeTallyTotal_oneSegment hd]
  · rw [exec_tallyTotal hl, fromTree_notParent h]
  · rw [takeTotalSeg_kept hx hk hs, withTotal, if_neg (by simp [hj])]
  · subst hcount hexp
    exact judgeTally_counted hf hs hj ht hb hsat
  · have hfind : s.dgt.tally.find? (summed c p g) = some x := by
      rw [hx, List.find?_singleton, if_pos (by simp [summed, hc, hp, hg, ht, hs, hj])]
    rw [exec_tallyTotalTimeout_found hfind hs, if_pos hlate]

end Sys2Proof.Machine
end

section
/-!
Step marks and DGT_CMD: what a mark enters, what a write of the command register starts, and how a running VARNISH or RESTORE ends.
-/
namespace Sys2Proof.Machine

open Sys2Proof

/-! ### Writes that name a partition (R194, R323) -/

theorem ownerWrite_denied {a : Access} {addr k : Nat} {s : State} (hr : s.boot.inReset = false) (hm : mayPart s a k = false)
    (f : State → State) : ownerWrite a addr k f s = deny a true false addr s := by
  simp [ownerWrite, hr, hm]

/-! ### Step marks (R183, R281) -/

section Marks

variable {k t u n : Nat} {m : List (Nat × Nat)} {s : State}

theorem modPart_congr {f f' : Part → Part} (h : f (part s k) = f' (part s k)) : modPart k f s = modPart k f' s := by
  rw [part] at h
  rw [modPart, modPart, tmod, tmod, h]

theorem ckptStep_off (hc : s.rcv.cfg.ckptSteps = 0) : ckptStep k t s = s := if_neg (by simp [hc])

/-- A partition without replicas and without a step crosses a mark unchanged. -/
theorem replMark_without (hr : s.dgt.repl = []) (hst : s.dgt.staged = []) (hm : (part s k).marks = []) : replMark k s = s := by
  have hend : replEnd k s = s := by simp [replEnd, curMark, hm]
  have hswap : replSwap k s = s := by simp [replSwap, hst]
  have hempty : { s.dgt with repl := [] } = s.dgt := by rw [← hr]
  simp only [replMark, hend, hswap, modDgt, hr, List.map_nil, hempty]

/-- The first mark of a partition enters its list and does nothing else. -/
theorem stepMark_first (hr : s.dgt.repl = []) (hst : s.dgt.staged = []) (hc : s.rcv.cfg.ckptSteps = 0) (hm : (part s k).marks = []) :
    stepMark k t s = modPart k (fun q => { q with marks := [(t, now s)], firstMark := false }) s := by
  have hoff (f : Part → Part) : ckptStep k t (modPart k f s) = modPart k f s := ckptStep_off hc
  simp only [stepMark, hm, List.head?_nil, whenB_false, replMark_without hr hst hm, hoff]
  exact modPart_congr (by rw [hm])

/-- A later mark ends the step of the replicas, with STEP_GAP before it when a step was left out. -/
theorem stepMark_later (hm : (part s k).marks = (u, n) :: m) : stepMark k t s =
    ckptStep k t (modPart k (fun q => { q with marks := (t, now s) :: q.marks, firstMark := false })
      (replMark k (whenB (!(part s k).firstMark && !(t == u + 1))
        (recPart .stepGap noNode k (le 1 k ++ zeros 3 ++ le 6 (u + 1) ++ le 6 t)) s))) := by
  simp only [stepMark, hm, List.head?_cons, List.headD_cons]

theorem exec_stepMark_reaches {a : Access} {v : Word} (h : reachesPart s a aDgtStep (fld v 53 48) = true) :
    exec (.stepMark a v) s = .next (busOk (stepMark (fld v 53 48) (fld v 47 0) s)) := congrArg ok (ownerWrite_reaches h _)

end Marks

/-! ### The state of a slot's command (R195, R339) -/

@[simp] theorem dcmd_modDcmd_same (n : Nat) (f : DgtCmd → DgtCmd) (s : State) : dcmd (modDcmd n f s) n = f (dcmd s n) :=
  tgetD_tmod_same ..

theorem dcmd_dgtFinish (n st d : Nat) (s : State) : dcmd (dgtFinish n st d s) n =
    { dcmd s n with status := st, detail := d, waiting := false, running := false } := dcmd_modDcmd_same n _ s

theorem bitOf_setBit_same (k i : Nat) : bitOf (setBit k i) i = true := by
  unfold setBit
  split
  case isTrue h => exact h
  case isFalse h =>
    have hclear : ¬ k / 2 ^ i % 2 = 1 := by simpa [bitOf] using h
    have hadd : (k + 2 ^ i) / 2 ^ i = k / 2 ^ i + 1 := Nat.add_div_right k (Nat.two_pow_pos i)
    have hset : (k + 2 ^ i) / 2 ^ i % 2 = 1 := by omega
    rw [bitOf, hset]
    rfl

theorem dgtFinish_irq (n st d : Nat) (s : State) : bitOf (slot (dgtFinish n st d s) n).irq irqCmd = true := by
  simp only [dgtFinish, irqSet, slot_modSlot_same]
  exact bitOf_setBit_same ..

/-! ### Writes of DGT_CMD (R189, R192, R195) -/

section Commands

variable {a : Access} {v : Word} {b x : MemRead} {s : State}

/-- The command of a GO write is taken down, and what earlier commands left is cleared. -/
def takenDown (a : Access) (v : Word) : State → State := modDcmd a.slot (fun c =>
  { c with op := fld v 62 59, part := fld v 55 50, detail := 0, step := 0, entries := [], verified := [] })

/-- The three commands are one write of DGT_CMD. -/
theorem exec_dgtCommand {c : Instr} (hc : c = .varnish a v b x ∨ c = .restore a v b x ∨ c = .replLoad a v b) (s : State) :
    ∃ y, exec c s = .next (dgtGo a v b y s) := by
  rcases hc with rfl | rfl | rfl
  · exact ⟨x, rfl⟩
  · exact ⟨x, rfl⟩
  · exact ⟨none, rfl⟩

variable (h : reachesPart s a aDgtCmd (fld v 55 50) = true)
include h

theorem dgtGo_notGo (hg : fbit v 63 = false) : dgtGo a v b x s = busOk s :=
  (ownerWrite_reaches h _).trans (congrArg busOk (if_pos (by simp [hg])))

variable (hg : fbit v 63 = true)
include hg

theorem dgtGo_busy (hb : (dcmd s a.slot).status = dsBusy) :
    dgtGo a v b x s = busOk (modDcmd a.slot (fun c => { c with retrySeen := true }) s) :=
  (ownerWrite_reaches h _).trans (congrArg busOk ((if_neg (by simp [hg])).trans (if_pos (by simp [hb]))))

variable (hb : (dcmd s a.slot).status ≠ dsBusy)
include hb

/-- What a GO write of an idle slot starts, by its address and its operation. -/
theorem dgtGo_idle : dgtGo a v b x s = busOk
    (if !(fld v 5 0 == 0) then dgtFinish a.slot dsBadAddr 0 (takenDown a v s)
      else if fld v 62 59 == 1 || fld v 62 59 == 2 then
        modDcmd a.slot (fun c => { c with status := dsBusy, waiting := true, blk := b, aux := x }) (takenDown a v s)
      else if fld v 62 59 == 3 then replLoad a.slot (fld v 55 50) b (takenDown a v s)
      else dgtFinish a.slot dsBadOp 0 (takenDown a v s)) :=
  (ownerWrite_reaches h _).trans (congrArg busOk ((if_neg (by simp [hg])).trans (if_neg (by simp [hb]))))

theorem dgtGo_misaligned (hal : fld v 5 0 ≠ 0) : dgtGo a v b x s = busOk (dgtFinish a.slot dsBadAddr 0 (takenDown a v s)) := by
  rw [dgtGo_idle h hg hb, if_pos (by simp [hal])]

variable (hal : fld v 5 0 = 0)
include hal

/-- VARNISH and RESTORE become BUSY and wait for an engine. -/
theorem dgtGo_waits (hop : fld v 62 59 = 1 ∨ fld v 62 59 = 2) : dgtGo a v b x s = busOk
    (modDcmd a.slot (fun c => { c with status := dsBusy, waiting := true, blk := b, aux := x }) (takenDown a v s)) := by
  rw [dgtGo_idle h hg hb, if_neg (by simp [hal]), if_pos (by simpa using hop)]

theorem dgtGo_replLoad (hop : fld v 62 59 = 3) : dgtGo a v b x s = busOk (replLoad a.slot (fld v 55 50) b (takenDown a v s)) := by
  rw [dgtGo_idle h hg hb, if_neg (by simp [hal]), if_neg (by simp [hop]), if_pos (by simp [hop])]

end Commands

theorem replLoad_unread (n k : Nat) (s : State) : replLoad n k none s = dgtFinish n dsBadBlock 0 s := by
  unfold replLoad
  rfl

/-- A table in order is staged for the next mark. -/
theorem replLoad_staged {n k : Nat} {b : List Byte} {l : List Repl} {s : State}
    (hl : replTable k (s.dgt.repl.filter (fun r => !(r.part == k))).length b = .inr l) : replLoad n k (some b) s =
      dgtFinish n dsDone 0 (modDgt (fun d => { d with staged := d.staged.filter (fun x => !(x.1 == k)) ++ [(k, l)] }) s) := by
  unfold replLoad
  simp only [hl]

/-- Settles O28: a mark is `stepMark_first` or `stepMark_later`, and a GO write is what `dgtGo_idle` chooses by its address and operation. -/
theorem stepMarksAndDigestCommands : Obligations.StepMarksAndDigestCommands := by
  refine ⟨fun a v s h hr hst hc hm => ?_, fun a v u n m s h hm hf hgap => ?_, fun a v u n m s h hm hnext => ?_,
    fun a v s hr hm => congrArg ok (ownerWrite_denied hr hm _), fun a v b x c s h hc hg hb hal => ?_, fun a v b x c s h hc hg hb => ?_,
    fun a v b x c s h hc hg hb hal => ?_, fun a v b x c s h hc hg => ?_, fun a v s h hg hb hal hop => ?_,
    fun a v b l s h hg hb hal hop hl => ?_, fun n st d s => ?_⟩
  · rw [exec_stepMark_reaches h, stepMark_first hr hst hc hm]
  · rw [exec_stepMark_reaches h, stepMark_later hm, hf, beq_false_of_ne hgap]
    rfl
  · rw [exec_stepMark_reaches h, stepMark_later hm, hnext, beq_self_eq_true, Bool.not_true, Bool.and_false, whenB_false]
  · rcases hc with ⟨rfl, hop⟩ | ⟨rfl, hop⟩
    · exact congrArg ok (dgtGo_waits h hg hb hal (.inl hop))
    · exact congrArg ok (dgtGo_waits h hg hb hal (.inr hop))
  · obtain ⟨y, hc⟩ := exec_dgtCommand hc s
    rw [hc, dgtGo_busy h hg hb]
  · obtain ⟨y, hc⟩ := exec_dgtCommand hc s
    rw [hc, dgtGo_misaligned h hg hb hal]
    rfl
  · obtain ⟨y, hc⟩ := exec_dgtCommand hc s
    rw [hc, dgtGo_notGo h hg]
  · refine congrArg ok ((dgtGo_replLoad h hg hb hal hop).trans ?_)
    rw [replLoad_unread, takenDown, hop]
  · refine ⟨_, congrArg ok ((dgtGo_replLoad h hg hb hal hop).trans (congrArg busOk (replLoad_staged hl))), rfl, rfl, ?_⟩
    exact congrArg DgtCmd.status (dcmd_dgtFinish ..)
  · rw [dcmd_dgtFinish]
    exact ⟨rfl, rfl, dgtFinish_irq ..⟩

/-! ### A running VARNISH (R189, R190, R283) -/

section Varnishes

variable {n : Nat} {w : Bool} {s : State}

theorem Logged.parts {s t : State} (h : Logged s t) : t.parts = s.parts := (h.frame.keeps .parts rfl).symm

theorem Logged.rcv {s t : State} (h : Logged s t) : t.rcv = s.rcv := (h.frame.keeps .rcv rfl).symm

theorem Logged.part {s t : State} (h : Logged s t) (k : Nat) : Machine.part t k = Machine.part s k := by
  rw [Machine.part, h.parts, Machine.part]

theorem exec_varnishCommitted (hn : n < 16) (w : Bool) (s : State) : exec (.varnishCommitted n w) s =
    .next (if (dcmd s n).running && (dcmd s n).op == 1 then
        if stepTainted s (dcmd s n).part (dcmd s n).step then dgtFinish n dsTainted 0 s
        else if committed s (dcmd s n).part (dcmd s n).step then sealVarnish n w s
        else s
      else s) := onUnit_built hn _

theorem exec_varnishCommitted_commits (hn : n < 16) (hrun : (dcmd s n).running = true) (hop : (dcmd s n).op = 1)
    (ht : stepTainted s (dcmd s n).part (dcmd s n).step = false) (hc : committed s (dcmd s n).part (dcmd s n).step = true) :
    exec (.varnishCommitted n w) s = .next (sealVarnish n w s) := by
  rw [exec_varnishCommitted hn, if_pos (by simp [hrun, hop]), if_neg (by simp [ht]), if_pos hc]

theorem exec_varnishCommitted_idle (hn : n < 16) (h : (dcmd s n).running = false ∨ (dcmd s n).op ≠ 1 ∨
      (stepTainted s (dcmd s n).part (dcmd s n).step = false ∧ committed s (dcmd s n).part (dcmd s n).step = false)) :
    exec (.varnishCommitted n w) s = .next s := by
  rw [exec_varnishCommitted hn]
  rcases h with hidle | hop | ⟨ht, hc⟩
  · rw [if_neg (by simp [hidle])]
  · rw [if_neg (by simp [hop])]
  · simp only [ht, hc, Bool.false_eq_true, if_false, ite_self]

/-- The record of a varnish on its way to memory, COMMIT last (R190). -/
def varnishWritten (n : Nat) (s : State) : State :=
  emit (.memWriteLast ((dcmd s n).recAddr + (varnishBytes s (dcmd s n)).length) (le 4 0x56524E53))
    (memWrite (dcmd s n).recAddr false (varnishBytes s (dcmd s n)) s)

theorem varnishWritten_logged (n : Nat) (s : State) : Logged s (varnishWritten n s) := .step (emit_logged ..) (memWrite_logged ..)

theorem sealVarnish_writeFails : sealVarnish n false s = dgtFinish n dsWriteFail 0 (varnishWritten n s) := rfl

/-- A partition whose command has sealed its step in stroke `m`. -/
def sealedBy (c : DgtCmd) (m : Nat) (q : Part) : Part :=
  { q with lastVarnish := some (c.step, m), sealed := addNew q.sealed c.step, ckptSince := none, ckptDone := false, ckptOverdue := false }

/-- A record that is written ends in the ledger; then the step is sealed, the checkpoint request ends, and the command is DONE. -/
theorem sealVarnish_seals : ∃ r, Logged s r ∧ sealVarnish n true s =
    dgtFinish n dsDone 0 (modRcv (fun y => { y with ckpt := clearBit y.ckpt (dcmd s n).part })
      (modPart (dcmd s n).part (sealedBy (dcmd s n) (now s)) r)) :=
  ⟨_, .step (recPart_logged ..) (varnishWritten_logged n s), rfl⟩

theorem exec_varnishTimeout (hn : n < 16) : exec (.varnishTimeout n) s =
    .next (if (dcmd s n).running && (dcmd s n).op == 1 && decide ((dcmd s n).started + 10000 ≤ now s)
      then dgtFinish n dsNotCommitted 0 s else s) := onUnit_built hn _

theorem exec_restoreShardTimeout (hn : n < 16) : exec (.restoreShardTimeout n) s =
    .next (if (dcmd s n).running && (dcmd s n).op == 2 && decide ((dcmd s n).started + 1000000 ≤ now s)
      then rejectRestore n dsShardMissing (unread (dcmd s n)) s else s) := onUnit_built hn _

/-- A limit of `k` strokes has not ended a command: it does not run, it is another one, or it is early. -/
theorem limit_notReached {c : DgtCmd} {op k m : Nat} (h : c.running = false ∨ c.op ≠ op ∨ m < c.started + k) :
    ¬ (c.running && c.op == op && decide (c.started + k ≤ m)) = true := by
  rcases h with h | h | h
  · simp [h]
  · simp [h]
  · simp [Nat.not_le.mpr h]

end Varnishes

/-- Settles O29: the end of a VARNISH is chosen in `exec_varnishCommitted`, `sealVarnish_seals` gives its seal, and each limit is the test of
its command. -/
theorem varnishesCommitAndRestoresEnd : Obligations.VarnishesCommitAndRestoresEnd := by
  refine ⟨fun n w s hn hrun hop ht => ?_, fun n s hn hrun hop ht hc => ?_, fun n s hn hrun hop ht hc => ?_,
    fun n w s hn h => exec_varnishCommitted_idle hn h, fun n s hn hrun hop hlate => ?_, fun n s hn h => ?_, fun n s hn hrun hop hlate => ?_,
    fun n s hn h => ?_, fun n st d s => rfl⟩
  · rw [exec_varnishCommitted hn, if_pos (by simp [hrun, hop]), if_pos ht]
  · rw [exec_varnishCommitted_commits hn hrun hop ht hc, sealVarnish_writeFails, varnishWritten]
  · obtain ⟨r, hlog, hseal⟩ := sealVarnish_seals (n := n) (s := s)
    have hpart (k : Nat) (f : Part → Part) : part (modPart k f r) k = f (part s k) := by rw [part_modPart_same, hlog.part]
    refine ⟨_, (exec_varnishCommitted_commits hn hrun hop ht hc).trans (congrArg Host.Outcome.next hseal), ?_, ?_, ?_, ?_, ?_, ?_⟩
    · exact congrArg DgtCmd.status (dcmd_dgtFinish ..)
    · exact congrArg DgtCmd.running (dcmd_dgtFinish ..)
    · exact congrArg Part.lastVarnish (hpart ..)
    · exact congrArg Part.ckptSince (hpart ..)
    · exact congrArg Part.sealed (hpart ..)
    · exact congrArg (fun y => clearBit y.ckpt (dcmd s n).part) hlog.rcv
  · rw [exec_varnishTimeout hn, if_pos (by simp [hrun, hop, hlate])]
  · rw [exec_varnishTimeout hn, if_neg (limit_notReached h)]
  · rw [exec_restoreShardTimeout hn, if_pos (by simp [hrun, hop, hlate])]
  · rw [exec_restoreShardTimeout hn, if_neg (limit_notReached h)]

end Sys2Proof.Machine
end

section
/-!
The hold of a slice: where the state keeps it, how it opens, how a grant, a deferral and its limit leave it, and how it ends.
-/
namespace Sys2Proof.Machine

open Sys2Proof

/-! ### The open hold (R204, R210) -/

/-- The block with a hold as given. -/
def withHold (h : Hold) (s : State) : State := { s with scr := { s.scr with hold := some h } }

section Open

variable {h : Hold} {s : State}

theorem withHold_of_hold (hh : s.scr.hold = some h) : withHold h s = s := by
  rw [withHold, ← hh]

theorem modHold_of_hold (hh : s.scr.hold = some h) (f : Hold → Hold) : modHold f s = withHold (f h) s := by
  rw [← withHold_of_hold hh]; rfl

/-- With nothing to restore and nominal conditions an outcome closes the hold at once. -/
theorem endHold_closes (hh : s.scr.hold = some h) (hd : h.dirty = false) (ha : h.awaiting = 0) (o c : Nat) :
    endHold o c s = closeHold h o (sliceResult h o c s) := by
  simp [endHold, hh, hd, ha]

theorem recommendTrim_hold (p : Nat) (s : State) : (recommendTrim p s).scr.hold = s.scr.hold := by
  have hrecord (t : RecType) (n : Nat) (b : List Byte) (x : State) : (record t n b x).scr = x.scr :=
    ((record_logged t n b x).frame.keeps .scr rfl).symm
  have hcraq (f : Craq → Craq) (x : State) : (craqMod 1 p f x).scr = x.scr := ((craqMod_frame 1 p f x).keeps .scr rfl).symm
  unfold recommendTrim
  dsimp only
  split
  · exact congrArg Scr.hold (hrecord ..)
  · rw [hrecord]
    simp only [modScr_fields, emit_fields, modSent_fields, hcraq]

theorem closeHold_hold (h : Hold) (o : Nat) (s : State) : (closeHold h o s).scr.hold = none :=
  whenB_keeps (g := fun x => x.scr.hold) (recommendTrim_hold h.port) _ _

/-! ### Opening (R201, R204) -/

theorem exec_holdOpen (s : State) : exec .holdOpen s =
    .next (if s.scr.hold.isNone && s.boot.ready && !(holdsSuspended s) then openNext s else s) := rfl

/-- Without a request and without a due tile no hold opens. -/
theorem openNext_idle (hq : s.scr.queue = []) (hd : dueOrder s = []) : openNext s = s := by
  have hkeep : modScr (fun c => { c with queue := c.queue.filter (fun r => tested s r.port) }) s = s := by
    rw [modScr, hq, List.filter_nil, ← hq]
  have hnone : firstRequest s = none := by simp [firstRequest, hq]
  unfold openNext
  simp only [hkeep, hnone, hd, List.findSome?_nil]

/-- The hold that opens for a slice. -/
def newHold (p k e : Nat) (od : Option OnDemand) (r : Bool) (s : State) : Hold :=
  { port := p, kind := k, entry := e, od := od, rotates := r, opened := now s, setup := !(sent s p).sched.holdStress }

theorem hasReference {e : Golden} (he : e.kind ≠ skArith ∨ e.reference.isSome = true) :
    ¬ (e.kind == skArith && e.reference.isNone) = true := by
  rcases he with he | he
  · simp [he]
  · simp [Option.isSome_iff_ne_none.mp he]

/-- Any slice but an ARITH slice without a reference raises its request and opens its hold. -/
theorem openHold_opens {p k e : Nat} {od : Option OnDemand} {r : Bool}
    (hgo : (s.gnd.golden.getD e {}).kind ≠ skArith ∨ (s.gnd.golden.getD e {}).reference.isSome = true) :
    openHold p k e od r s = event (nodeOf p) evHoldOpen 0 k (emit (.sliceReq p k)
      (withHold (newHold p k e od r s) (modScr (fun c => { c with eff := c.cfg }) s))) := if_neg (hasReference hgo)

/-! ### Grants (R205, R213, R214) -/

theorem exec_sliceGrant_tested {p : Nat} (hp : p < s.build.ports) (hh : s.scr.hold = some h) (hport : h.port = p) (hst : h.stage = 1)
    (he : h.ending = none) : exec (.sliceGrant p) s = .next (granted s) :=
  (onUnit_built hp _).trans (by simp [hh, hport, hst, he])

theorem exec_sliceGrant_free {p : Nat} (hp : p < s.build.ports) (hh : s.scr.hold = none) : exec (.sliceGrant p) s = .next s :=
  (onUnit_built hp _).trans (by simp [hh])

/-- A hold at the start of a run; an MBIST march has its segment to restore (R206, R209). -/
def runStarted (run stage : Nat) (h : Hold) : Hold :=
  { h with run := run, stage := stage, ran := true, march := none, second := false, dirty := h.kind == skMbist }

theorem granted_plain (hh : s.scr.hold = some h) (hk : h.kind ≠ skMargin) :
    granted s = withHold (runStarted 1 4 { h with granted := some (now s) }) s := by
  have hkind : (!(h.kind == skMargin)) = true := by simpa using hk
  simp only [granted, hh, hkind, if_true, modHold_of_hold hh]
  rfl

/-- A MARGIN slice that is not to be heated asks for its stress at once. -/
theorem granted_unheated (hh : s.scr.hold = some h) (hk : h.kind = skMargin) (hu : h.setup = false ∨ s.scr.eff.heatEn = false) :
    granted s = applyStress (withHold { h with granted := some (now s) } s) := by
  have hheat : (h.setup && s.scr.eff.heatEn) = false := by rcases hu with hu | hu <;> simp [hu]
  simp [granted, hh, hk, hheat, modHold_of_hold hh]

/-! ### Deferral (R205) -/

/-- A hold that is still to be granted is deferred when the grant is late, and not before. -/
theorem exec_grantTimeout_late (hh : s.scr.hold = some h) (hst : h.stage = 1) (hg : h.granted = none) (he : h.ending = none)
    (hlate : h.opened + Nat.max 4 s.scr.eff.grantWait ≤ now s) : exec .grantTimeout s = .next (deferHold h s) := by
  have hdue : h.opened + grantWait s ≤ now s := hlate
  exact congrArg ok (by simp [hh, hst, hg, he, hdue])

theorem exec_grantTimeout_early (hh : s.scr.hold = some h) (hearly : now s < h.opened + Nat.max 4 s.scr.eff.grantWait) :
    exec .grantTimeout s = .next s := by
  have hdue : ¬ h.opened + grantWait s ≤ now s := Nat.not_le.mpr hearly
  exact congrArg ok (by simp [hh, hdue])

/-- A scheduled slice that is deferred again leaves the hold and waits 1,000 strokes; its close is an event. -/
theorem deferHold_again (hn : (sent s h.port).sched.deferrals + 1 < 64) (hod : h.od = none) : ∃ r, Logged s r ∧
    deferHold h s = modSched h.port (fun y => { y with eligibleAt := now s + 1000, deferrals := (sent s h.port).sched.deferrals + 1 })
      (modScr (fun c => { c with deferred := satInc 16 c.deferred, hold := none }) r) := by
  refine ⟨event (nodeOf h.port) evHoldClose 0 0 (emit (.sliceFall h.port) s), .step (event_logged ..) (emit_logged ..), ?_⟩
  simp only [deferHold, hn, hod, if_true]

theorem exec_sliceEligible {p : Nat} (hp : p < s.build.ports) : exec (.sliceEligible p) s = .next (
    if (sent s p).sched.eligibleAt ≤ now s then modSched p (fun y => { y with eligibleAt := 0 }) s else s) := onUnit_built hp _

/-! ### The limit of a hold (R205) -/

theorem nominal_hold (ha : h.awaiting = 0) (hs : h.onStress = false) :
    { h with awaiting := 0, onStress := false, march := none } = { h with march := none } := by
  rw [← ha, ← hs]

theorem exec_holdLimit_late {g : Nat} (hh : s.scr.hold = some h) (hg : h.granted = some g) (hlate : g + 200 ≤ now s)
    (he : h.ending = none) (ha : h.awaiting = 0) (hs : h.onStress = false) :
    exec .holdLimit s = .next (endHold soUncovered scHoldLimit
      (modHold (fun x => { x with awaiting := 0, onStress := false, march := none }) s)) := by
  have hasked : (h.awaiting == 1) = false := by simp [ha]
  have hstress : underStress h = false := by simp [underStress, ha, hs]
  refine congrArg ok ?_
  simp only [hh, hg, hlate, he, hasked, hstress, decide_true, Bool.not_true, Bool.false_eq_true, if_false, Option.isSome_none, whenB_false]

theorem exec_holdLimit_early {g : Nat} (hh : s.scr.hold = some h) (hg : h.granted = some g) (hearly : now s < g + 200) :
    exec .holdLimit s = .next s :=
  congrArg ok (by simp [hh, hg, Nat.not_le.mpr hearly])

end Open

/-- Settles O33: `granted` for a grant, `deferHold_again` for a hold that gets none, and `endHold_closes` for one that lasts too long. -/
theorem holdsOpenAreGrantedAndLimited : Obligations.HoldsOpenAreGrantedAndLimited := by
  refine ⟨fun s hh hr hs => ⟨fun hq hd => ?_, ?_⟩, fun s h => ?_, fun p k e od r s hgo => openHold_opens hgo,
    fun p h s hp hh hport hst he hk => ?_, fun p h s hp hh hport hst he hk hu => ?_, fun p s hp hh => exec_sliceGrant_free hp hh,
    fun h s hh hst hg he hlate hn hod => ?_, fun s hh => ⟨congrArg ok (by simp [hh]), congrArg ok (by simp [hh])⟩,
    fun h s hh hearly => exec_grantTimeout_early hh hearly, fun p s hp hdue => ?_, fun p s hp hdue => ?_,
    fun h g s hh hg hlate he ha hs hd => ?_, fun h g s hh hg hearly => exec_holdLimit_early hh hg hearly, closeHold_hold⟩
  · simp [exec_holdOpen, openNext_idle hq hd]
  · simp [exec_holdOpen, hh, hr, hs]
  · rw [exec_holdOpen, if_neg]
    rcases h with h | h | h
    · simp [Option.isSome_iff_ne_none.mp h]
    · simp [h]
    · simp [h]
  · rw [exec_sliceGrant_tested hp hh hport hst he, granted_plain hh hk]
    rfl
  · rw [exec_sliceGrant_tested hp hh hport hst he, granted_unheated hh hk hu]
    rfl
  · obtain ⟨r, hlog, hdefer⟩ := deferHold_again (h := h) hn hod
    have hscr : s.scr = r.scr := hlog.frame.keeps .scr rfl
    have hsched : (sent r h.port).sched = (sent s h.port).sched := by rw [hlog.sents h.port]
    refine ⟨_, exec_grantTimeout_late hh hst hg he hlate, ?_, ?_⟩
    · rw [hdefer, hscr]; rfl
    · rw [hdefer, modSched, sent_modSent_same, ← hsched]; rfl
  · rw [exec_sliceEligible hp, if_pos hdue]
    rfl
  · rw [exec_sliceEligible hp, if_neg (Nat.not_le.mpr hdue)]
  · rw [exec_holdLimit_late hh hg hlate he ha hs, modHold_of_hold hh, nominal_hold ha hs,
      endHold_closes (h := { h with march := none }) rfl hd ha]
    rfl

end Sys2Proof.Machine
end

section
/-!
The runs of a slice, what each result leads to, and the restore of a march's segment.
-/
namespace Sys2Proof.Machine

open Sys2Proof

section Runs

variable {h : Hold} {s : State} {o c : Nat} {m : Bool}

/-! ### A run ends (R198, R206, R209) -/

theorem exec_sliceRunComplete_ran (hh : s.scr.hold = some h) (hr : runOn h = true) :
    exec (.sliceRunComplete (.ran o m)) s = .next (runDone h o m s) := congrArg ok (by simp [hh, hr])

theorem overBudget_of_hold (hh : s.scr.hold = some h) :
    overBudget s = if h.run = 3 then endHold soNoWitness 0 s else abortHold scOverbudget s := by
  simp [overBudget, hh]

theorem exec_runStopped {i : Instr} (hi : i = .sliceRunComplete .overBudget ∨ i = .sliceBudgetExpiry) (hh : s.scr.hold = some h)
    (hr : runOn h = true) : exec i s = .next (overBudget s) := by
  rcases hi with rfl | rfl
  · exact congrArg ok (by simp [hh, hr])
  · exact congrArg ok (by simp [hh, hr])

/-- Without a hold, or with none of its runs going on, no run ends. -/
theorem exec_noRun {i : Instr} {r : RunEnd} (hi : i = .sliceRunComplete r ∨ i = .sliceBudgetExpiry)
    (hh : s.scr.hold = none ∨ ∃ x, s.scr.hold = some x ∧ runOn x = false) : exec i s = .next s := by
  rcases hi with rfl | rfl <;> rcases hh with hh | ⟨x, hh, hr⟩
  · exact congrArg ok (by simp [hh])
  · exact congrArg ok (by simp [hh, hr])
  · exact congrArg ok (by simp [hh])
  · exact congrArg ok (by simp [hh, hr])

/-- A run without an injection or a stretched clock is judged by its value alone; the result of a march waits for its segment. -/
theorem runDone_compares (hh : s.scr.hold = some h) (hk : (holdEntry s h).kind ≠ skArith)
    (hs : (sent s (runPort h)).stretch = false) : runDone h o m s =
      if h.dirty then withHold { h with march := some (o == (holdEntry s h).expected, o) } s
      else afterRun (o == (holdEntry s h).expected) o s := by
  have hinj : ((holdEntry s h).kind == skArith) = false := beq_false_of_ne hk
  have hkeep : modHold (fun x => { x with injMissed := x.injMissed || false, stretched := x.stretched || false }) s = s := by
    simp only [Bool.or_false, modHold_of_hold hh, withHold_of_hold hh]
  simp only [runDone, sliceExpected, hinj, hs, Bool.false_and, whenB_false, Bool.false_eq_true, if_false, Bool.not_false, Bool.and_true, hkeep,
    modHold_of_hold hh]

/-! ### What a result leads to (R210, R211) -/

theorem afterRun_first_passes (hh : s.scr.hold = some h) (h1 : h.run = 1) : afterRun true o s =
    endHold (if h.stressedFail then soMargin else soPass) 0 (withHold { h with firstStroke := some (now s) } s) := by
  simp [afterRun, hh, h1, modHold_of_hold hh]

/-- A first failure is run again; the value it showed is kept unless the stressed run has shown one. -/
theorem afterRun_first_fails (hh : s.scr.hold = some h) (h1 : h.run = 1) : afterRun false o s =
    withHold (runStarted 2 6 { h with observed := some (h.observed.getD o), firstStroke := some (now s) }) s := by
  cases hobs : h.observed with
  | none =>
    simp [afterRun, hh, h1, hobs, modHold_of_hold hh]
    rfl
  | some x =>
    have hkept : { h with observed := some x, firstStroke := some (now s) } = { h with firstStroke := some (now s) } := by rw [← hobs]
    simp only [Option.getD_some, hkept]
    simp [afterRun, hh, h1, hobs, modHold_of_hold hh]
    rfl

theorem afterRun_second_passes (hh : s.scr.hold = some h) (h2 : h.run = 2) : afterRun true o s = endHold soTransient 0 s := by
  simp [afterRun, hh, h2]

theorem afterRun_second_fails {w : Nat} (hh : s.scr.hold = some h) (h2 : h.run = 2) (hobs : h.observed.isSome = true)
    (hw : pickWitness s h.port = some w) : afterRun false o s = withHold { h with
      witness := some w, witnessAt := now s, witnessGranted := false, run := 3, stage := 7 } (emit (.sliceReq w h.kind) s) := by
  have hh' : (emit (.sliceReq w h.kind) s).scr.hold = some h := hh
  simp [afterRun, hh, h2, hobs, hw, modHold_of_hold hh']

theorem afterRun_witness_passes (hh : s.scr.hold = some h) (h3 : h.run = 3) : afterRun true o s = endHold soPermanent 0 s := by
  simp [afterRun, hh, h3]

/-! ### The witness (R210) -/

theorem exec_witnessGrantTimeout_late (hh : s.scr.hold = some h) (hst : h.stage = 7) (hw : h.witnessGranted = false)
    (he : h.ending = none) (hlate : h.witnessAt + 100 ≤ now s) : exec .witnessGrantTimeout s =
      .next (endHold soNoWitness 0 (modHold (fun x => { x with witness := none }) (whenSome h.witness (fun w => emit (.sliceFall w)) s))) :=
  congrArg ok (by simp [hh, hst, hw, he, hlate])

theorem exec_witnessGrantTimeout_idle (hh : s.scr.hold = some h)
    (hi : h.stage ≠ 7 ∨ h.witnessGranted = true ∨ now s < h.witnessAt + 100) : exec .witnessGrantTimeout s = .next s := by
  refine congrArg ok ?_
  rcases hi with hi | hi | hi
  · simp [hh, hi]
  · simp [hh, hi]
  · simp [hh, Nat.not_le.mpr hi]

/-! ### The segment of a march (R209) -/

/-- A march whose segment can be restored now. -/
structure Restorable (h : Hold) (s : State) : Prop where
  hold : s.scr.hold = some h
  dirty : h.dirty = true
  march : h.march.isSome = true
  reach : canRestore s (runPort h) = true

theorem exec_mbistRestore_agrees {a : Nat} {p : Bool} (hr : Restorable h s) (hm : h.march = some (p, o)) (he : h.ending = none) :
    exec (.mbistRestore a a) s = .next (afterRun p o (withHold { h with dirty := false, march := none } s)) :=
  congrArg ok (by simp [hr.hold, hr.dirty, hr.reach, hm, he, modHold_of_hold hr.hold])

theorem exec_mbistRestore_differs {a b : Nat} (hr : Restorable h s) (hab : a ≠ b) : exec (.mbistRestore a b) s =
    .next (if h.second then restoreFailed h a b s else withHold { h with second := true } s) :=
  congrArg ok (by simp [hr.hold, hr.dirty, hr.march, hr.reach, hab, modHold_of_hold hr.hold])

end Runs

/-- Settles O34: `runDone_compares` for a run, the `afterRun` lemmas for each place in the sequence, and the two ends of a restore. -/
theorem sliceRunsDecideOutcomes : Obligations.SliceRunsDecideOutcomes := by
  refine ⟨fun o m h s hh hr hd hk hs => ?_, fun o h s hh hr hd hk hs => ?_, fun c h s hc hh hr => ?_, fun c r s hc hh => exec_noRun hc (.inl hh),
    fun c r h s hc hh hr => exec_noRun hc (.inr ⟨h, hh, hr⟩), fun o h s hh h1 => afterRun_first_passes hh h1,
    fun o h s hh h1 => afterRun_first_fails hh h1, fun o h s hh h2 => afterRun_second_passes hh h2,
    fun o w h s hh h2 hobs hw => afterRun_second_fails hh h2 hobs hw, fun o h s hh h3 => afterRun_witness_passes hh h3,
    fun h s hh hst hw he hlate => exec_witnessGrantTimeout_late hh hst hw he hlate, fun h s hh hi => exec_witnessGrantTimeout_idle hh hi,
    fun a h p o s hh hd hm he hr => exec_mbistRestore_agrees ⟨hh, hd, by simp [hm], hr⟩ hm he, fun a b h s hh hab h2 hd hm hr => ?_,
    fun a b h s hh hab h2 hd hm hr => ?_, fun a b s hh => congrArg ok (by simp [hh]), fun o c h s hh hd ha => endHold_closes hh hd ha o c⟩
  · rw [exec_sliceRunComplete_ran hh hr, runDone_compares hh hk hs, hd]
    rfl
  · rw [exec_sliceRunComplete_ran hh hr, runDone_compares hh hk hs, hd]
    rfl
  · rw [exec_runStopped hc hh hr, overBudget_of_hold hh]
  · rw [exec_mbistRestore_differs ⟨hh, hd, hm, hr⟩ hab, h2]
    rfl
  · rw [exec_mbistRestore_differs ⟨hh, hd, hm, hr⟩ hab, h2]
    rfl

end Sys2Proof.Machine
end

section
/-!
The conditions of a MARGIN slice, as the power manager answers or leaves them, its heating, and the engine of ANALOG slices.
-/
namespace Sys2Proof.Machine

open Sys2Proof

/-! ### Conditions asked of the power manager (R213, R430) -/

section Conditions

variable {h : Hold} {s : State} {mv : Int} {f o c : Nat}

/-- A slice that gets no stress: its outcome waits for nominal conditions, which are asked for. -/
def unstressed (h : Hold) : Hold := { h with awaiting := 2, ending := some (soUncovered, scNoStress), stage := 5 }

theorem noStress_withHold (h x : Hold) (s : State) :
    noStress h (withHold x s) = withHold (unstressed x) (emit (.stress h.port 0 0) s) := rfl

theorem noStress_of_hold (hh : s.scr.hold = some h) : noStress h s = withHold (unstressed h) (emit (.stress h.port 0 0) s) := by
  rw [← noStress_withHold, withHold_of_hold hh]

theorem holdGoesOn_closes (hh : s.scr.hold = some h) (he : h.ending = some (o, c)) (hd : h.dirty = false) (ha : h.awaiting = 0) :
    holdGoesOn s = closeHold h o (sliceResult h o c s) := by
  simp [holdGoesOn, hh, he, hd, ha]

/-- The answer lowers the request, and the hold does not wait any more. -/
def stressAnswered (h : Hold) (s : State) : State := withHold h (emit .stressFall s)

theorem modHold_stressFall (hh : s.scr.hold = some h) (g : Hold → Hold) :
    modHold g (emit .stressFall s) = stressAnswered (g h) s := modHold_of_hold (s := emit .stressFall s) hh g

theorem exec_stressAck_within (hh : s.scr.hold = some h) (ha : h.awaiting = 1) (hnz : ¬(mv = 0 ∧ f = 0))
    (hmv : mv.natAbs ≤ h.askMv.natAbs) (hf : f ≤ h.askFreq) : exec (.stressAck mv f) s = .next
      (startRun 0 (stressAnswered { h with awaiting := 0, onStress := true, appMv := mv, appFreq := f } s)) := by
  have hok : ((mv == 0 && f == 0) || decide (h.askMv.natAbs < mv.natAbs) || decide (h.askFreq < f)) = false := by
    simpa [Nat.not_lt.mpr hmv, Nat.not_lt.mpr hf] using hnz
  refine congrArg ok ?_
  simp only [hh, ha, beq_self_eq_true, if_true, hok, Bool.false_eq_true, if_false, modHold_stressFall hh]
  rfl

theorem exec_stressAck_outside (hh : s.scr.hold = some h) (ha : h.awaiting = 1)
    (hno : (mv = 0 ∧ f = 0) ∨ h.askMv.natAbs < mv.natAbs ∨ h.askFreq < f) : exec (.stressAck mv f) s = .next
      (noStress h (stressAnswered { h with awaiting := 0 } s)) := by
  have hbad : ((mv == 0 && f == 0) || decide (h.askMv.natAbs < mv.natAbs) || decide (h.askFreq < f)) = true := by
    rcases hno with hno | hno | hno <;> simp [hno]
  refine congrArg ok ?_
  simp only [hh, ha, beq_self_eq_true, if_true, hbad, modHold_stressFall hh]

theorem exec_stressAck_nominal (hh : s.scr.hold = some h) (ha : h.awaiting = 2) : exec (.stressAck mv f) s = .next
    (if h.ending.isSome then holdGoesOn (stressAnswered { h with awaiting := 0, onStress := false } s)
      else startRun 1 (stressAnswered { h with awaiting := 0, onStress := false } s)) :=
  congrArg ok (by simp [hh, ha, modHold_stressFall hh])

theorem exec_stressTimeout_late (hh : s.scr.hold = some h) (ha : h.awaiting = 1) (hlate : h.stressAt + s.scr.eff.stressWait ≤ now s) :
    exec .stressTimeout s = .next (noStress h (emit .stressFall s)) := congrArg ok (by simp [hh, ha, hlate])

theorem exec_stressTimeout_idle (hh : s.scr.hold = some h) (hi : h.awaiting ≠ 1 ∨ now s < h.stressAt + s.scr.eff.stressWait) :
    exec .stressTimeout s = .next s := by
  refine congrArg ok ?_
  rcases hi with hi | hi
  · simp [hh, hi]
  · simp [hh, Nat.not_le.mpr hi]

/-! ### Heating (R214) -/

theorem exec_heatReached_enough {r : Nat} (hh : s.scr.hold = some h) (hst : h.stage = 2) (he : h.ending = none)
    (hr : Nat.min 30 s.scr.eff.heatDelta ≤ r) :
    exec (.heatReached r) s = .next (applyStress (withHold { h with tempRise := r } s)) := by
  have hrise : heatDelta s ≤ r := hr
  exact congrArg ok (by simp [hh, hst, he, hrise, modHold_of_hold hh])

theorem exec_heatReached_idle {r : Nat} (hh : s.scr.hold = some h) (hi : h.stage ≠ 2 ∨ r < Nat.min 30 s.scr.eff.heatDelta) :
    exec (.heatReached r) s = .next s := by
  refine congrArg ok ?_
  rcases hi with hi | hi
  · simp [hh, hi]
  · have hrise : ¬ heatDelta s ≤ r := Nat.not_le.mpr hi
    simp [hh, hrise]

theorem exec_heatLimit_late (hh : s.scr.hold = some h) (hst : h.stage = 2) (he : h.ending = none)
    (hlate : h.heatAt + s.scr.eff.heatMax ≤ now s) :
    exec .heatLimit s = .next (applyStress (withHold { h with tempRise := riseOf s h } s)) :=
  congrArg ok (by simp [hh, hst, he, hlate, modHold_of_hold hh])

theorem exec_heatLimit_idle (hh : s.scr.hold = some h) (hi : h.stage ≠ 2 ∨ now s < h.heatAt + s.scr.eff.heatMax) :
    exec .heatLimit s = .next s := by
  refine congrArg ok ?_
  rcases hi with hi | hi
  · simp [hh, hi]
  · simp [hh, Nat.not_le.mpr hi]

end Conditions

/-! ### The ANALOG engine (R197, R203, R429) -/

section Engine

variable {x : Analog} {s : State} {d : Nat}

theorem exec_analogDue (i : Nat) (s : State) : exec (.analogDue i) s = .next (if analogReady s i then startAnalog i s else s) := rfl

theorem exec_testPortAck (hx : s.scr.analog = some x) : exec (.testPortAck d) s = .next (analogStep x d s) := congrArg ok (by simp [hx])

theorem exec_testPortTimeout (hx : s.scr.analog = some x) : exec .testPortTimeout s = .next (endAnalog x false s) :=
  congrArg ok (by simp [hx])

theorem analogStep_height (h0 : x.reg = 0) : analogStep x d s = { emit (.testPort (analogTarget s x.entry) (analogIndex s x.entry) 1 false 0) s with
    scr := { s.scr with analog := some { x with height := d % 65536, reg := 1 } } } := by
  simp only [analogStep, h0]
  rfl

theorem analogStep_width (h1 : x.reg = 1) (hl : x.loopback = false) :
    analogStep x d s = endAnalog { x with width := d % 65536 } (analogPass s { x with width := d % 65536 }) s := by
  simp only [analogStep, h1, hl, Bool.false_eq_true, if_false]

theorem analogStep_last (h4 : x.reg = 4) : analogStep x d s = endAnalog x (analogPass s x) s := by
  simp only [analogStep, h4]

theorem endAnalog_analog (x : Analog) (b : Bool) (s : State) : (endAnalog x b s).scr.analog = none :=
  whenB_keeps (g := fun y => y.scr.analog) (fun y => congrArg Scr.analog ((analogFailed_frame x y).keeps .scr rfl).symm) _ _

end Engine

/-- Settles O35: the answer lowers the request in `stressAnswered`, then a run starts or `unstressed` waits; the engine goes by `analogStep`. -/
theorem stressHeatAndTheAnalogEngine : Obligations.StressHeatAndTheAnalogEngine := by
  refine ⟨fun m f h s hh ha hnz hm hf => ⟨_, exec_stressAck_within hh ha hnz hm hf, rfl⟩, fun m f h s hh ha hno => ?_,
    fun m f h s hh ha he => ?_, fun m f h o c s hh ha he hd => ⟨_, rfl, ?_⟩, fun m f s hh => ?_, fun h s hh ha hlate => ?_,
    fun h s hh hi => exec_stressTimeout_idle hh hi, fun r h s hh hst he hr => exec_heatReached_enough hh hst he hr,
    fun r h s hh hi => exec_heatReached_idle hh hi, fun h s hh hst he hlate => exec_heatLimit_late hh hst he hlate,
    fun h s hh hi => exec_heatLimit_idle hh hi, fun i s hr => ?_, fun i s hr => ?_, fun d x s hx h0 => ?_, fun d x s hx h1 hl => ⟨_, rfl, ?_⟩,
    fun d x s hx h4 => ?_, fun d s hx => ⟨congrArg ok (by simp [hx]), congrArg ok (by simp [hx])⟩, fun x s hx => exec_testPortTimeout hx,
    endAnalog_analog⟩
  · rw [exec_stressAck_outside hh ha hno]
    rfl
  · rw [exec_stressAck_nominal hh ha, if_neg (by simp [he])]
    rfl
  · rw [exec_stressAck_nominal hh ha, if_pos (by simp [he]),
      holdGoesOn_closes (s := stressAnswered { h with awaiting := 0, onStress := false } s) rfl he hd rfl]
    rfl
  · exact ⟨congrArg ok (by simp [hh]), congrArg ok (by simp [hh]), congrArg ok (by simp [hh]), congrArg ok (by simp [hh])⟩
  · rw [exec_stressTimeout_late hh ha hlate, noStress_of_hold (s := emit .stressFall s) hh]
    rfl
  · rw [exec_analogDue, if_pos hr]
  · rw [exec_analogDue, if_neg (by simp [hr])]
  · rw [exec_testPortAck hx, analogStep_height h0]
  · rw [exec_testPortAck hx, analogStep_width h1 hl]
  · rw [exec_testPortAck hx, analogStep_last h4]

end Sys2Proof.Machine
end

section
/-!
The record of a blast radius, and what the privileged view asks of a tile: its quarantine, a slice, and the trim that its canary recommends.
-/
namespace Sys2Proof.Machine

open Sys2Proof

/-! ### Radii (R235, R236) -/

section Radii

variable {i : Nat} {b : Blast} {s : State}

theorem exec_blastRecord (hb : s.rcv.blasts[i]? = some b) (r : Bool) : exec (.blastRecord i r) s =
    .next (if radiusEnded s b && (if r then b.written && b.revise else !b.written) then writeBlast i s else s) :=
  congrArg ok (by simp only [hb])

theorem radiusEnded_iff : radiusEnded s b = true ↔ b.q.isSome = true ∨ b.f + 1000 ≤ now s := by simp [radiusEnded]

theorem radiusEnded_running (hq : b.q = none) (hearly : now s < b.f + 1000) : radiusEnded s b = false := by
  simp [radiusEnded, hq, hearly]

end Radii

/-! ### Requests of the privileged view (R202, R220, R244, R250) -/

section Requested

variable {a : Access} {v : Word} {p : Nat} {s : State}

theorem exec_quarantine_reaches (hr : reaches s a aRcvQuar = true) (v : Word) : exec (.quarantine a v) s = .next (busOk (quarRequest v s)) :=
  congrArg ok (privWrite_reaches hr _)

theorem quarRequest_notGo (hg : fbit v 63 = false) : quarRequest v s = s := by simp [quarRequest, hg]

theorem quarRequest_badOp (hg : fbit v 63 = true) (hop : fld v 62 60 ≠ 1) :
    quarRequest v s = modRcv (fun r => { r with quarResult := 3 }) s := by
  simp [quarRequest, hg, hop]

theorem quarRequest_badNode (hg : fbit v 63 = true) (hop : fld v 62 60 = 1) (hn : fld v 55 44 < 0x800 ∨ nodeUsed s (fld v 55 44) = false) :
    quarRequest v s = modRcv (fun r => { r with quarResult := 2 }) s := by
  rcases hn with hn | hn
  · simp [quarRequest, hg, hop, Nat.not_le.mpr hn]
  · simp [quarRequest, hg, hop, hn]

/-- A tile in use that is named by its node is quarantined, at once or after its hold. -/
theorem quarRequest_taken (hg : fbit v 63 = true) (hop : fld v 62 60 = 1) (hn : fld v 55 44 = 0x800 + p)
    (hu : nodeUsed s (0x800 + p) = true) (ht : (tile s p).state = tsActive ∨ (tile s p).state = tsLent ∨ (tile s p).state = tsSpare) :
    quarRequest v s = quarantineOrWait { port := p, cause := hcManual } (modRcv (fun r => { r with quarResult := 1 }) s) := by
  have huse : ((tile s p).state == tsActive || (tile s p).state == tsLent || (tile s p).state == tsSpare) = true := by
    rcases ht with ht | ht | ht <;> simp [ht]
  simp only [quarRequest, hg, hop, hn, Nat.add_sub_cancel_left, hu, huse, Nat.le_add_right, decide_true, Bool.and_true, Bool.not_true,
    beq_self_eq_true, Bool.false_eq_true, if_false]

theorem exec_scrRun_reaches (hr : reaches s a aScrRun = true) (v : Word) : exec (.scrRun a v) s = .next (busOk (runRequest v s)) :=
  congrArg ok (privWrite_reaches hr _)

theorem runRequest_notGo (hg : fbit v 63 = false) : runRequest v s = s := by simp [runRequest, hg]

theorem runRequest_badNode (hg : fbit v 63 = true) (hk : fld v 62 60 ≠ skAnalog)
    (hn : fld v 55 44 < 0x800 ∨ tested s (fld v 55 44 - 0x800) = false) :
    runRequest v s = modScr (fun c => { c with result := 3 }) s := by
  rcases hn with hn | hn <;> simp [runRequest, hg, hk, hn]

/-- A request for a tested tile is refused for its kind, refused while slices are suspended, or collected. -/
theorem runRequest_tested (hg : fbit v 63 = true) (hk : fld v 62 60 ≠ skAnalog) (hn : fld v 55 44 = 0x800 + p) (ht : tested s p = true)
    {r : OnDemand}
    (hr : r = { port := p, kind := fld v 62 60, pattern := fld v 31 16, issued := if s.stk.phase == 0 then now s else now s + 1 }) :
    runRequest v s =
      if fld v 62 60 == 0 || decide (5 < fld v 62 60) || (requestEntry s r).isNone then modScr (fun c => { c with result := 4 }) s
      else if holdsSuspended s then modScr (fun c => { c with result := 6 }) s
      else modScr (fun c => { c with result := 0, waiting := c.waiting ++ [r] }) s := by
  subst hr
  have hnode : ¬ (decide (0x800 + p < 0x800) || !(tested s p)) = true := by simp [ht]
  simp only [runRequest, hg, beq_false_of_ne hk, hn, Nat.add_sub_cancel_left, Bool.not_true, Bool.false_eq_true, if_false, if_neg hnode]

theorem kindServed (h0 : fld v 62 60 ≠ 0) (h5 : fld v 62 60 ≤ 5) {r : OnDemand} (he : (requestEntry s r).isSome = true) :
    ¬ (fld v 62 60 == 0 || decide (5 < fld v 62 60) || (requestEntry s r).isNone) = true := by
  simp [h0, h5, Option.isSome_iff_ne_none.mp he]

/-! ### Trims (R217) -/

/-- A trim that is due: enabled, the sentinel attached, and the mean low for 10,000 readings. -/
def trimDue (s : State) (p : Nat) : Bool := s.scr.cfg.trimEn && (sent s p).attached && decide (10000 ≤ (sent s p).canary.below)

theorem exec_trimRecommend_notDue (hp : p < s.build.ports) (hd : trimDue s p = false) : exec (.trimRecommend p) s = .next s := by
  refine (onUnit_built hp _).trans (congrArg Host.Outcome.next (if_pos ?_))
  have h : (s.scr.cfg.trimEn && (sent s p).attached && decide (10000 ≤ (sent s p).canary.below)) = false := hd
  simp [h]

/-- The first trim of a sentinel is made at once while no tile is held. -/
theorem exec_trimRecommend_first (hp : p < s.build.ports) (hd : trimDue s p = true) (hlast : (sent s p).canary.lastTrim = none)
    (hh : s.scr.hold = none) : exec (.trimRecommend p) s = .next (recommendTrim p s) := by
  have h : (s.scr.cfg.trimEn && (sent s p).attached && decide (10000 ≤ (sent s p).canary.below)) = true := hd
  refine (onUnit_built hp _).trans (congrArg Host.Outcome.next ?_)
  simp only [h, hlast, hh, Bool.not_true, Bool.or_false, Bool.false_eq_true, if_false]

/-- The trim of a tile that is held waits for the end of its hold. -/
theorem exec_trimRecommend_held {h : Hold} (hp : p < s.build.ports) (hd : trimDue s p = true)
    (hlast : (sent s p).canary.lastTrim = none) (hh : s.scr.hold = some h) (hport : h.port = p) :
    exec (.trimRecommend p) s = .next (modSent p (fun x => { x with canary := { x.canary with trimWaits := true } }) s) := by
  have hdue : (s.scr.cfg.trimEn && (sent s p).attached && decide (10000 ≤ (sent s p).canary.below)) = true := hd
  refine (onUnit_built hp _).trans (congrArg Host.Outcome.next ?_)
  simp only [hdue, hlast, hh, hport, Bool.not_true, Bool.or_false, Bool.false_eq_true, if_false, beq_self_eq_true, if_true]

end Requested

/-- Settles O37: each request is refused, collected or taken as `quarRequest_taken` and `runRequest_tested` say; a hold puts off the rest. -/
theorem radiiQuarantinesAndRequests : Obligations.RadiiQuarantinesAndRequests := by
  refine ⟨fun i b s hb hend hw => ?_, fun i b s hb hend hw hv => ?_, fun i r b s hb hq hearly => ?_, fun i r s hb => congrArg ok (by simp [hb]),
    fun a v s hr hg => ?_, fun a v s hr hg hop => ?_, fun a v s hr hg hop hn => ?_, fun a v p s hr hg hop hn hu ht => ?_, fun a v s hr hg => ?_,
    fun a v s hr hg hk hn => ?_, fun a v p r s hr hg hk hn ht hreq => ⟨fun hno => ?_, fun h0 h5 he hs => ?_, fun h0 h5 he hs => ?_⟩,
    fun p s hp hno => ?_, fun p s hp hen ha hb hlast hh => ?_, fun p h s hp hen ha hb hlast hh hport => ?_⟩
  · rw [exec_blastRecord hb, if_pos (by simp [radiusEnded_iff.mpr hend, hw])]
  · rw [exec_blastRecord hb, if_pos (by simp [radiusEnded_iff.mpr hend, hw, hv])]
  · rw [exec_blastRecord hb, if_neg (by simp [radiusEnded_running hq hearly])]
  · rw [exec_quarantine_reaches hr, quarRequest_notGo hg]
  · rw [exec_quarantine_reaches hr, quarRequest_badOp hg hop]
    rfl
  · rw [exec_quarantine_reaches hr, quarRequest_badNode hg hop hn]
    rfl
  · rw [exec_quarantine_reaches hr, quarRequest_taken hg hop hn hu ht]
    rfl
  · rw [exec_scrRun_reaches hr, runRequest_notGo hg]
  · rw [exec_scrRun_reaches hr, runRequest_badNode hg hk hn]
    rfl
  · rw [exec_scrRun_reaches hr, runRequest_tested hg hk hn ht hreq, if_pos]
    · rfl
    · rcases hno with hno | hno | hno <;> simp [hno]
  · rw [exec_scrRun_reaches hr, runRequest_tested hg hk hn ht hreq, if_neg (kindServed h0 h5 he), if_pos hs]
    rfl
  · rw [exec_scrRun_reaches hr, runRequest_tested hg hk hn ht hreq, if_neg (kindServed h0 h5 he), if_neg (by simp [hs])]
    rfl
  · refine exec_trimRecommend_notDue hp ?_
    rcases hno with hno | hno | hno
    · simp [trimDue, hno]
    · simp [trimDue, hno]
    · simp [trimDue, Nat.not_le.mpr hno]
  · exact exec_trimRecommend_first hp (by simp [trimDue, hen, ha, hb]) hlast hh
  · exact exec_trimRecommend_held hp (by simp [trimDue, hen, ha, hb]) hlast hh hport

end Sys2Proof.Machine
end

section
/-!
The record store and the life-cycle: what link training leaves of them, what a zeroisation does, how burns end a command, and step 2 of
bring-up.
-/
namespace Sys2Proof.Machine

open Sys2Proof

/-! ### Link training (R290, R303) -/

section Training

variable {β : Type} {g : State → β} (hlink : ∀ l f x, g (modLink l f x) = g x) (hlog : ∀ {x y}, Logged x y → g y = g x)
  (hcraq : ∀ u i f x, g (craqMod u i f x) = g x)
include hlink hlog hcraq

theorem toQuarantine_keeps (l cause : Nat) (s : State) : g (toQuarantine l cause s) = g s := by
  have hrecord (x : State) : g (linkRecord l x) = g x := hlog (recordBlock_logged ..)
  unfold toQuarantine craqLane
  exact (hrecord _).trans ((hlink ..).trans ((hcraq ..).trans (hcraq ..)))

theorem toWait_keeps (l cause : Nat) (s : State) : g (toWait l cause s) = g s := by
  have hrecord (x : State) : g (linkRecord l x) = g x := hlog (recordBlock_logged ..)
  unfold toWait
  dsimp only
  split
  · exact toQuarantine_keeps hlink hlog hcraq ..
  · split
    · exact (hlink ..).trans ((hrecord _).trans (hlink ..))
    · exact (hrecord _).trans (hlink ..)

/-- Starting and stopping links changes links, the records of it, and the craquelure entries of lanes. -/
theorem syncLinks_keeps (s : State) : g (syncLinks s) = g s := by
  refine forEach_keeps (g := g) (fun l x => ?_) _ s
  dsimp only
  split
  · exact whenB_keeps (toWait_keeps hlink hlog hcraq l lcNone) _ x
  · split
    · rfl
    · exact hlink ..

theorem retrainAll_keeps (s : State) : g (retrainAll s) = g s :=
  (syncLinks_keeps hlink hlog hcraq _).trans (forEach_keeps (g := g) (fun l x => hlink l _ x) _ s)

end Training

/-- The record store without its craquelure map, and whether the ledger goes without a store. -/
def stored (s : State) : Nvm × Bool := ({ s.nvm with craq := [] }, s.ldg.noStore)

theorem stored_of_logged {s t : State} (h : Logged s t) : stored t = stored s := by
  rw [stored, stored, h.nvm, h.ldg]

theorem craqMod_stored (u i : Nat) (f : Craq → Craq) (s : State) : stored (craqMod u i f s) = stored s := by
  unfold craqMod craqCommit
  dsimp only
  split
  · rfl
  · exact (stored_of_logged (record_logged ..)).trans rfl

theorem syncLinks_stored (s : State) : stored (syncLinks s) = stored s :=
  syncLinks_keeps (fun _ _ _ => rfl) stored_of_logged craqMod_stored s

theorem retrainAll_stored (s : State) : stored (retrainAll s) = stored s :=
  retrainAll_keeps (fun _ _ _ => rfl) stored_of_logged craqMod_stored s

/-! ### Zeroisation (R219) -/

/-- The life-cycle after a zeroisation of which so many attempts failed. -/
def zeroisedLife (fails : Nat) (x : Life) : Life :=
  if fails < 3 then { x with keys := none, attempts := fails + 1, zeroised := true, scanOk := true }
  else { x with keys := none, attempts := 3, zeroiseFail := true, scanOk := false }

theorem zeroise_life (z : List Nat) (s : State) : (zeroise z s).life = zeroisedLife z.length s.life := by
  have hrecord (t : RecType) (b : List Byte) (x : State) : (recordBlock t b x).life = x.life := (recordBlock_logged t b x).life
  unfold zeroise zeroisedLife
  dsimp only
  split
  · simp only [modLife_fields, hrecord, clearSecrets]
  · simp only [modLife_fields, hrecord, clearSecrets]

theorem zeroise_stored (z : List Nat) (s : State) : stored (zeroise z s) = stored s := by
  unfold zeroise
  dsimp only
  split
  · exact (stored_of_logged (recordBlock_logged ..)).trans rfl
  · exact (stored_of_logged (recordBlock_logged ..)).trans rfl

/-- Scan is granted when fewer than three attempts failed; keys are gone, and fuses, the lock and the command's burns stay. -/
theorem zeroisedLife_fields (n : Nat) (x : Life) : (zeroisedLife n x).keys = none ∧ (zeroisedLife n x).scanOk = decide (n < 3) ∧
    (zeroisedLife n x).keyLock = x.keyLock ∧ (zeroisedLife n x).otp = x.otp ∧ (zeroisedLife n x).req = x.req := by
  by_cases hn : n < 3
  · simp [zeroisedLife, hn]
  · simp [zeroisedLife, hn]

/-! ### Burns (R391 to R393, R431) -/

section Burns

variable {z : List Nat} {r : OtpReq} {s : State}

theorem exec_otpAccessDone (e : Bool) (z : List Nat) (s : State) : exec (.otpAccessDone e z) s = .next (otpAnswer e z s) := rfl

/-- The block whose burn has set its ones, with no other one started. -/
def burnt (r : OtpReq) (s : State) : State := modLife (fun x => { x with req := none, queue := [] }) (burn r s)

theorem otpAnswer_idle (hr : s.life.req = none) (e : Bool) : otpAnswer e z s = s := by simp [otpAnswer, hr]

theorem otpAnswer_failed (hr : s.life.req = some r) :
    otpAnswer true z s = lcReject r.op plBadBlock (modLife (fun x => { x with req := none, queue := [] }) s) := by
  simp [otpAnswer, hr]

theorem otpAnswer_next {q : OtpReq} {l : List OtpReq} (hr : s.life.req = some r) (hq : s.life.queue = q :: l) :
    otpAnswer false z s = startBurns (q :: l) (burnt r s) := by
  simp [otpAnswer, hr, hq, burnt]

theorem otpAnswer_last (hr : s.life.req = some r) (hq : s.life.queue = []) : otpAnswer false z s = burnsDone r z (burnt r s) := by
  simp [otpAnswer, hr, hq, burnt]

theorem burnsDone_lock (ho : r.op = 4 ∨ r.op = 5) : burnsDone r z s = lcDone r.op (lifeState s) s := by
  rcases ho with ho | ho <;> simp [burnsDone, ho, opProvision, opReturn]

theorem burnsDone_provision {k : KeyStore} (ho : r.op = 2) (hk : r.store = some k) : ∃ old, burnsDone r z s = provisionEnd old k s :=
  ⟨if r.addr == 0x0A && r.bits == 1 then 0 else lifeState s, by simp only [burnsDone, ho, hk, opProvision, beq_self_eq_true, if_true]⟩

theorem burnsDone_return (ho : r.op = 3) : ∃ old, burnsDone r z s = returnEnd old z s :=
  ⟨_, (if_neg (by simp [ho, opProvision])).trans (if_pos (by simp [ho, opReturn]))⟩

theorem lcDone_logged (op old : Nat) (s : State) : Logged (lcResult plDone s) (lcDone op old s) := recordBlock_logged ..

/-- PROVISION ends with the key store in the record store and unwrapped. -/
theorem provisionEnd_keys (old : Nat) (k : KeyStore) (s : State) : (provisionEnd old k s).nvm.keyStore = some k ∧
    (provisionEnd old k s).life = { s.life with keys := some k, result := plDone } := by
  have hlog := lcDone_logged opProvision old
    (retrainAll (modLife (fun x => { x with keys := some k }) (modNvm (fun n => { n with keyStore := some k }) s)))
  have hlife := (retrainAll_frame (modLife (fun x => { x with keys := some k }) (modNvm (fun n => { n with keyStore := some k }) s))).life_eq rfl
  exact ⟨congrArg (fun x : Nvm × Bool => x.1.keyStore) ((stored_of_logged hlog).trans (retrainAll_stored _)),
    hlog.life.trans (congrArg (fun x : Life => { x with result := plDone }) hlife)⟩

/-- RETURN ends with the key store erased and the secrets cleared. -/
theorem returnEnd_keys (old : Nat) (z : List Nat) (s : State) : (returnEnd old z s).nvm.keyStore = none ∧
    (returnEnd old z s).life = { zeroisedLife z.length s.life with result := plDone } := by
  have hleave := leaveAll_frame acLifecycle (modNvm (fun n => { n with keyStore := none }) s)
  have hlog := lcDone_logged opReturn old (syncLinks (zeroise z (leaveAll acLifecycle (modNvm (fun n => { n with keyStore := none }) s))))
  have hlife := (syncLinks_frame (zeroise z (leaveAll acLifecycle (modNvm (fun n => { n with keyStore := none }) s)))).life_eq rfl
  constructor
  · have hstored := ((stored_of_logged hlog).trans (syncLinks_stored _)).trans (zeroise_stored z _)
    exact (congrArg (fun x : Nvm × Bool => x.1.keyStore) hstored).trans (congrArg Nvm.keyStore (hleave.keeps .nvm rfl).symm)
  · rw [zeroise_life, hleave.life_eq rfl] at hlife
    exact hlog.life.trans (congrArg (fun x : Life => { x with result := plDone }) hlife)

end Burns

/-- Settles O32: an answer goes on as the `otpAnswer` lemmas say, and `provisionEnd_keys` and `returnEnd_keys` say what the last burn of a
command leaves. -/
theorem burnsEndLifeCycleCommands : Obligations.BurnsEndLifeCycleCommands := by
  refine ⟨fun e z s hr => ?_, fun z r s hr => ?_, fun z r q l s hr hq => ?_, fun z r s hr hq ho => ⟨_, rfl, ?_⟩, fun z r k s hr hq ho hk => ?_,
    fun z r s hr hq ho => ?_, fun s hl hs => congrArg ok (if_pos (by simp [hl, hs])), fun s h => congrArg ok (if_neg ?_)⟩
  · rw [exec_otpAccessDone, otpAnswer_idle hr]
  · rw [exec_otpAccessDone, otpAnswer_failed hr]
    rfl
  · rw [exec_otpAccessDone, otpAnswer_next hr hq]
    rfl
  · rw [exec_otpAccessDone, otpAnswer_last hr hq, burnsDone_lock ho]
    rfl
  · obtain ⟨old, hend⟩ := burnsDone_provision (z := z) (s := burnt r s) ho hk
    obtain ⟨hstore, hlife⟩ := provisionEnd_keys old k (burnt r s)
    rw [exec_otpAccessDone, otpAnswer_last hr hq, hend]
    refine ⟨_, rfl, hstore, ?_⟩
    rw [hlife]
    exact ⟨rfl, rfl, rfl, rfl⟩
  · obtain ⟨old, hend⟩ := burnsDone_return (z := z) (s := burnt r s) ho
    obtain ⟨hstore, hlife⟩ := returnEnd_keys old z (burnt r s)
    obtain ⟨hkeys, -, -, hotp, hreq⟩ := zeroisedLife_fields z.length (burnt r s).life
    rw [exec_otpAccessDone, otpAnswer_last hr hq, hend]
    refine ⟨_, rfl, hstore, ?_⟩
    rw [hlife]
    exact ⟨hkeys, rfl, hreq, hotp⟩
  · rcases h with h | h <;> simp [h]

/-! ### Step 2 of bring-up (R352, R389, R391, R397) -/

section Rom

variable {keyOk : Bool} {z : List Nat} {s : State}

theorem exec_bringupRom_due {storeOk : Bool} (hs : atStage s 2 = true) :
    exec (.bringupRom storeOk keyOk z) s = .next (romDone storeOk keyOk z s) := congrArg ok (if_pos hs)

/-- The store and the key store are read, and the time base is set. -/
def romRead (readable keyOk : Bool) (s : State) : State :=
  timeBase readable (scanLedger readable (unwrapKeys keyOk (modNvm (fun n => { n with readable := readable }) s)))

/-- What was read is recorded. -/
def romRecorded (readable keyOk : Bool) (s : State) : State :=
  strapRecords (whenB (!readable) (recordBlock .timeBaseLost []) (recordBlock .coldStart (coldStartBody (romRead readable keyOk s))
    (romRead readable keyOk s)))

theorem romRecorded_logged (readable keyOk : Bool) (s : State) : Logged (romRead readable keyOk s) (romRecorded readable keyOk s) :=
  .forEach (fun _ _ => recordBlock_logged ..) (.whenB (fun _ => recordBlock_logged ..) (recordBlock_logged ..))

/-- The secrets are cleared outside PROVISIONED; step 3 and link training follow. -/
theorem romDone_eq (readable keyOk : Bool) (z : List Nat) (s : State) : romDone readable keyOk z s =
    syncLinks (modBoot (fun b => { b with stage := 3, strapInvalid := [] })
      (whenB (!(lifeState s == 1)) (zeroise z) (romRecorded readable keyOk s))) := rfl

theorem romDone_stored (readable keyOk : Bool) (z : List Nat) (s : State) :
    stored (romDone readable keyOk z s) = stored (romRead readable keyOk s) := by
  rw [romDone_eq, syncLinks_stored]
  exact (whenB_keeps (g := stored) (zeroise_stored z) _ _).trans (stored_of_logged (romRecorded_logged ..))

theorem romDone_boot (readable keyOk : Bool) (z : List Nat) (s : State) :
    (romDone readable keyOk z s).boot = { (romRead readable keyOk s).boot with stage := 3, strapInvalid := [] } := by
  have hzero := whenB_keeps (g := State.boot) (fun x => (zeroise_frame z x).boot_eq rfl) (!(lifeState s == 1)) (romRecorded readable keyOk s)
  rw [romDone_eq, (syncLinks_frame _).boot_eq rfl]
  exact congrArg (fun b : Boot => { b with stage := 3, strapInvalid := [] }) (hzero.trans (romRecorded_logged ..).boot)

theorem romDone_life (readable keyOk : Bool) (z : List Nat) (s : State) : (romDone readable keyOk z s).life =
    if lifeState s = 1 then (romRead readable keyOk s).life else zeroisedLife z.length (romRead readable keyOk s).life := by
  rw [romDone_eq, (syncLinks_frame _).life_eq rfl, ← (romRecorded_logged readable keyOk s).life]
  by_cases h1 : lifeState s = 1
  · simp [h1]
  · have hclear : (!(lifeState s == 1)) = true := by simp [h1]
    rw [if_neg h1, hclear, whenB_true]
    exact zeroise_life z _

theorem romRead_life (readable keyOk : Bool) (s : State) : (romRead readable keyOk s).life =
    { s.life with keys := if keyOk && lifeState s == 1 then s.nvm.keyStore else none, keyLock := true } :=
  ((timeBase_frame ..).life_eq rfl).trans ((scanLedger_frame ..).life_eq rfl)

theorem scanLedger_nvm_boot (readable : Bool) (s : State) :
    (scanLedger readable s).nvm = s.nvm ∧ (scanLedger readable s).boot = s.boot :=
  ⟨((scanLedger_frame ..).keeps .nvm rfl).symm, (scanLedger_frame ..).boot_eq rfl⟩

theorem romRead_readable (keyOk : Bool) (s : State) :
    (romRead true keyOk s).nvm = { s.nvm with readable := true, pcycle := satInc 24 s.nvm.pcycle } ∧
    (romRead true keyOk s).boot = { s.boot with hours := s.nvm.ophours, cycles := satInc 24 s.nvm.pcycle } := by
  obtain ⟨hnvm, hboot⟩ := scanLedger_nvm_boot true (unwrapKeys keyOk (modNvm (fun n => { n with readable := true }) s))
  simp only [romRead, timeBase, if_true, modNvm_fields, modBoot_fields, hnvm, hboot]
  exact ⟨rfl, rfl⟩

theorem romRead_unreadable (keyOk : Bool) (s : State) :
    (romRead false keyOk s).nvm = { s.nvm with readable := false } ∧
    (romRead false keyOk s).boot = { s.boot with hours := 0, cycles := 0 } ∧ (romRead false keyOk s).ldg.noStore = true := by
  obtain ⟨hnvm, hboot⟩ := scanLedger_nvm_boot false (unwrapKeys keyOk (modNvm (fun n => { n with readable := false }) s))
  exact ⟨hnvm, congrArg (fun b : Boot => { b with hours := 0, cycles := 0 }) hboot, rfl⟩

theorem nvm_of_stored {s t : State} (h : stored t = stored s) : t.nvm.readable = s.nvm.readable ∧ t.nvm.pcycle = s.nvm.pcycle ∧
    t.nvm.units = s.nvm.units ∧ t.ldg.noStore = s.ldg.noStore :=
  ⟨congrArg (fun x => x.1.readable) h, congrArg (fun x => x.1.pcycle) h, congrArg (fun x => x.1.units) h, congrArg Prod.snd h⟩

/-- Keys are unwrapped in PROVISIONED alone, the key store is locked, and outside PROVISIONED scan goes by the zeroisation. -/
theorem romDone_secrets (readable keyOk : Bool) (z : List Nat) (s : State) :
    (romDone readable keyOk z s).life.keyLock = true ∧
    (romDone readable keyOk z s).life.keys = (if keyOk = true ∧ lifeState s = 1 then s.nvm.keyStore else none) ∧
    (lifeState s ≠ 1 → (romDone readable keyOk z s).life.scanOk = decide (z.length < 3)) := by
  obtain ⟨hkeys, hscan, hlock, -, -⟩ := zeroisedLife_fields z.length (romRead readable keyOk s).life
  rw [romDone_life]
  by_cases h1 : lifeState s = 1
  · simp [h1, romRead_life]
  · rw [if_neg h1, hkeys, hscan, hlock, romRead_life]
    simp [h1]

end Rom

/-- Settles O5: `romRead` takes what the record store holds, and neither the records of step 2, a zeroisation nor link training change it. -/
theorem bringupRomUnwrapsAndScans : Obligations.BringupRomUnwrapsAndScans := by
  refine ⟨fun k z s hs => ⟨_, exec_bringupRom_due hs, ?_⟩, fun k z s hs => ⟨_, exec_bringupRom_due hs, ?_⟩,
    fun b k z s hs => congrArg ok (if_neg (by simp [hs]))⟩
  · obtain ⟨hnvm, hboot⟩ := romRead_readable k s
    obtain ⟨hread, hcycles, hunits, -⟩ := nvm_of_stored (romDone_stored true k z s)
    rw [romDone_boot, hboot, hread, hcycles, hunits, hnvm]
    exact ⟨rfl, rfl, rfl, rfl, romDone_secrets ..⟩
  · obtain ⟨hnvm, hboot, hgone⟩ := romRead_unreadable k s
    obtain ⟨hread, hcycles, hunits, hstore⟩ := nvm_of_stored (romDone_stored false k z s)
    rw [romDone_boot, hboot, hread, hcycles, hunits, hnvm, hstore, hgone]
    exact ⟨rfl, rfl, rfl, rfl, rfl⟩

end Sys2Proof.Machine
end

section
/-!
Verdicts of a stroke: what a child's verdict, the parent's and the limits leave of a combination, and how far verification goes in an epoch that
holds a failed stroke.
-/
namespace Sys2Proof.Machine

open Sys2Proof

section Verdicts

variable {l e n k f : Nat} {b : Bool} {v : VerdictMsg} {r : VRelay} {x : Epoch} {s : State}

/-! ### Combinations (R226) -/

theorem relay?_single (hx : s.rcv.relays = [r]) (hk : relayIs e n r = true) : relay? s e n = some r := by
  rw [relay?, hx, List.find?_singleton, if_pos hk]

theorem modRelay_single (hx : s.rcv.relays = [r]) (hk : relayIs e n r = true) (g : VRelay → VRelay) :
    modRelay e n g s = { s with rcv := { s.rcv with relays := [g r] } } := by
  rw [modRelay, modRcv, hx, List.map_singleton, if_pos hk]

theorem needRelay_found (hf : relay? s e n = some r) : needRelay e n s = s := by simp only [needRelay, hf]

theorem combine_kinds (a b : VerdictMsg) (hk : k < 8) : lget (combine a b).kinds k 0 = Nat.max (lget a.kinds k 0) (lget b.kinds k 0) := by
  simp [combine, lget, hk]

/-- A combination below the root goes to the parent. -/
theorem forwardRelay_up (hf : relay? s e n = some r) (hx : epoch? s e = some x) (hroot : isRoot x = false) :
    forwardRelay e n s = sendUp clVerdict e (.verdict r.acc) (modRelay e n (fun y => { y with sent := true }) s) := by
  simp only [forwardRelay, hf, hx, hroot, Bool.false_eq_true, if_false]

theorem relayReady_found (hf : relay? s e n = some r) : relayReady e n s =
    if r.own && !r.sent && allChildren s e r.reported && decide (2 ≤ s.stk.phase || n + 1 < now s) then forwardRelay e n s else s := by
  simp only [relayReady, hf]

/-! ### Verdicts of children (R226, R304, R309) -/

theorem exec_verdictUp (hl : l < s.build.links) (b : Bool) (v : VerdictMsg) :
    exec (.verdictUp l b v) s = .next (fromTree true v.epoch l (takeUp l b v) s) := onUnit_built hl _

theorem takeUp_bypassed (hr : coreReset s = true) : takeUp l b v s = relayBypass clVerdict 3 v.epoch (.verdict v) s := if_pos hr

/-- A combination with the verdict that a child sent on a link; one that came in bypass is no report of that child. -/
def withVerdict (l : Nat) (b : Bool) (v : VerdictMsg) (r : VRelay) : VRelay :=
  { r with acc := combine r.acc v, reported := if b then r.reported else addNew r.reported l }

theorem takeUp_joins (hr : coreReset s = false) (hf : relay? s v.epoch v.stroke = some r) (hs : r.sent = false) :
    takeUp l b v s = relayReady v.epoch v.stroke (modRelay v.epoch v.stroke (withVerdict l b v) s) := by
  simp only [takeUp, hr, hf, hs, needRelay_found hf, Option.isNone_some, Bool.false_and, Bool.not_false, Bool.false_eq_true, if_false, if_true]
  rfl

/-- What a child's verdict does to the one combination it belongs to. -/
theorem exec_verdictUp_child (hl : l < s.build.links) (hm : memberOf s v.epoch = true) (hc : isChild s v.epoch l = true)
    (hr : coreReset s = false) (hx : s.rcv.relays = [r]) (hk : relayIs v.epoch v.stroke r = true) (hs : r.sent = false) :
    exec (.verdictUp l b v) s =
      .next (relayReady v.epoch v.stroke { s with rcv := { s.rcv with relays := [withVerdict l b v r] } }) := by
  rw [exec_verdictUp hl, fromTree_child hm hc, takeUp_joins hr (relay?_single hx hk) hs, modRelay_single hx hk]

theorem exec_lateFail (hl : l < s.build.links) (v : VerdictMsg) :
    exec (.lateFail l v) s = .next (fromTree true v.epoch l (takeLateFail v) s) := onUnit_built hl _

/-! ### The limit of the relay (R226) -/

theorem exec_verdictRelayTimeout_found (hf : relay? s e n = some r) : exec (.verdictRelayTimeout e n) s =
    .next (if !r.sent && decide (n + horizon s ≤ now s) then forwardRelay e n s else s) := congrArg ok (by simp only [hf])

theorem exec_verdictRelayTimeout_early (hearly : now s < n + horizon s) : exec (.verdictRelayTimeout e n) s = .next s := by
  cases hf : relay? s e n with
  | none => exact congrArg ok (by simp only [hf])
  | some r => rw [exec_verdictRelayTimeout_found hf, if_neg (by simp [hearly])]

/-! ### The parent's verdict and its limits (R227) -/

theorem exec_verdictDown (hl : l < s.build.links) (v : VerdictMsg) : exec (.verdictDown l v) s =
    .next (fromTree false v.epoch l (fun s => takeDown v (sendDown clVerdict v.epoch (.verdict v) s)) s) := onUnit_built hl _

/-- A stroke of an epoch of this block that has had no complete DOWN for `k` horizons. -/
def downOverdue (s : State) (x : Epoch) (e n k : Nat) : Bool :=
  !(partsIn s e).isEmpty && decide (x.first ≤ n) && decide (n + k * horizon s ≤ now s) && !downComplete s e n

theorem downOverdue_open (hp : partsIn s e ≠ []) (hfirst : x.first ≤ n) (hlate : n + k * horizon s ≤ now s) (hd : downComplete s e n = false) :
    downOverdue s x e n k = true := by simp [downOverdue, hp, hfirst, hlate, hd]

theorem downOverdue_early (hearly : now s < n + k * horizon s) : downOverdue s x e n k = false := by
  simp only [downOverdue, decide_eq_false (Nat.not_le.mpr hearly), Bool.and_false, Bool.false_and]

theorem downOverdue_complete (hd : downComplete s e n = true) : downOverdue s x e n k = false := by
  simp only [downOverdue, hd, Bool.not_true, Bool.and_false]

/-- The test by which a limit leaves a stroke alone that is not overdue or has been acted on. -/
theorem downOverdue_not (acted : Bool) : ((partsIn s e).isEmpty || decide (n < x.first) || decide (now s < n + k * horizon s) ||
    downComplete s e n || acted) = !(downOverdue s x e n k && !acted) := by
  simp only [downOverdue, Bool.not_and, Bool.not_not, ← Nat.not_lt, decide_not]

theorem exec_horizonMiss (hx : epoch? s e = some x) : exec (.horizonMiss e n) s = .next
    (if downOverdue s x e n 1 && !x.missWritten.contains n
      then recordBlock .horizonMiss (le 4 e ++ le 6 n ++ zeros 2 ++ le 4 (downBlocks s e n))
        (modEpoch e (fun y => { y with missWritten := (n :: y.missWritten).take 256 }) s)
      else s) := by
  have hidle := downOverdue_not (s := s) (x := x) (e := e) (n := n) (k := 1) (x.missWritten.contains n)
  rw [Nat.one_mul] at hidle
  refine congrArg ok ?_
  simp only [hx, hidle, Bool.not_eq_true', ← Bool.not_eq_true, ite_not]

theorem exec_verdictLost (hx : epoch? s e = some x) : exec (.verdictLost e n) s = .next
    (if downOverdue s x e n 2 && !x.lostRaised.contains n
      then originate acVerdictLost e noNode ((partsIn s e).headD 0) (zeros 16)
        (modEpoch e (fun y => { y with lostRaised := (n :: y.lostRaised).take 256 }) s)
      else s) := by
  have hidle := downOverdue_not (s := s) (x := x) (e := e) (n := n) (k := 2) (x.lostRaised.contains n)
  refine congrArg ok ?_
  simp only [hx, hidle, Bool.not_eq_true', ← Bool.not_eq_true, ite_not]

theorem exec_horizonMiss_unknown (hx : epoch? s e = none) : exec (.horizonMiss e n) s = .next s := congrArg ok (by simp only [hx])

theorem exec_verdictLost_unknown (hx : epoch? s e = none) : exec (.verdictLost e n) s = .next s := congrArg ok (by simp only [hx])

theorem exec_horizonMiss_idle (hi : ∀ x, downOverdue s x e n 1 = false) : exec (.horizonMiss e n) s = .next s := by
  cases hx : epoch? s e with
  | none => exact exec_horizonMiss_unknown hx
  | some x => rw [exec_horizonMiss hx, if_neg (by simp [hi x])]

theorem exec_verdictLost_idle (hi : ∀ x, downOverdue s x e n 2 = false) : exec (.verdictLost e n) s = .next s := by
  cases hx : epoch? s e with
  | none => exact exec_verdictLost_unknown hx
  | some x => rw [exec_verdictLost hx, if_neg (by simp [hi x])]

/-! ### Verification (R227) -/

theorem epoch?_modEpoch (g : Epoch → Epoch) (hg : ∀ y, (g y).id = y.id) (hx : epoch? s e = some x) :
    epoch? (modEpoch e g s) e = some (g x) := by
  have hsame : (fun y : Epoch => y.id == e) ∘ (fun y => if y.id == e then g y else y) = fun y => y.id == e := by
    funext y
    simp only [Function.comp_apply]
    split
    · rw [hg]
    · rfl
  have hid : (x.id == e) = true := List.find?_some (p := fun y : Epoch => y.id == e) hx
  change (s.epochs.map _).find? _ = _
  rw [List.find?_map, hsame, show s.epochs.find? (fun y => y.id == e) = some x from hx, Option.map_some, if_pos hid]

/-- A stroke of an epoch is pod-verified. -/
def verifyStroke (e n : Nat) (s : State) : State :=
  s |> modEpoch e (fun y => { y with verified := some n })
    |> forEach (partsIn s e) (fun j => modPart j (fun q => { q with verifiedValid := q.verifiedValid || decide (q.joined ≤ n) }))
    |> modRcv (fun r => { r with relays := r.relays.filter (fun y => !(relayIs e n y && y.sent)) })

theorem epoch?_verifyStroke (hx : epoch? s e = some x) : epoch? (verifyStroke e n s) e = some { x with verified := some n } := by
  have hkept : (verifyStroke e n s).epochs = (modEpoch e (fun y => { y with verified := some n }) s).epochs :=
    ((((Frame.refl [.parts] _).forEach fun _ _ => modPart_frame ..).keeps .epochs rfl).symm)
  unfold epoch?
  rw [hkept]
  exact epoch?_modEpoch (fun y => { y with verified := some n }) (fun _ => rfl) hx

theorem verifyRun_held (hx : epoch? s e = some x) (hf : x.failedAt = some f) : verifyRun (k + 1) e s =
    if downOk s e (nextVerify x) && decide (nextVerify x < f) then verifyRun k e (verifyStroke e (nextVerify x) s) else s := by
  simp only [verifyRun, hx, hf]
  rfl

/-- Verification stays below a stroke noted as failed. -/
theorem verifyRun_belowFailed (hx : epoch? s e = some x) (hf : x.failedAt = some f) (hn : nextVerify x ≤ f) :
    ∃ y, epoch? (verifyRun k e s) e = some y ∧ y.failedAt = some f ∧ nextVerify y ≤ f := by
  induction k generalizing s x with
  | zero => exact ⟨x, hx, hf, hn⟩
  | succ k ih =>
    rw [verifyRun_held hx hf]
    split
    next hgoes =>
      have hbelow : nextVerify x < f := by simpa using (Bool.and_eq_true_iff.mp hgoes).2
      exact ih (epoch?_verifyStroke hx) hf hbelow
    next => exact ⟨x, hx, hf, hn⟩

end Verdicts

/-- Settles O36: a child's verdict meets its combination in `exec_verdictUp_child` and `relayReady_found`, each limit is the test of its command,
`downOverdue` for those of a DOWN, and `verifyRun_belowFailed` keeps verification below a failed stroke. -/
theorem verdictsAreCombinedAndVerified : Obligations.VerdictsAreCombinedAndVerified := by
  refine ⟨fun l b v r s hl hm hc hr hx hk hs hown => ?_, fun l v r s hl hm hc hr hx hk hs hown hall hph => ?_,
    fun l b v s hl hm hc hr => ?_, fun l b v s hl h => ⟨?_, ?_⟩, fun a b => ⟨rfl, rfl, rfl, rfl, fun k hk => combine_kinds a b hk⟩,
    fun e n r s hf hs hlate => ?_, fun e n s hearly => ⟨exec_verdictRelayTimeout_early hearly, exec_horizonMiss_idle fun x => ?_⟩,
    fun e n r x s hf hx hroot => forwardRelay_up hf hx hroot, fun l v s hl hm hp => ?_, fun l v s hl h => ?_,
    fun k e f x s hx hf hn => verifyRun_belowFailed hx hf hn, fun e n x s hx hp hfirst hlate hd hw => ?_,
    fun e n x s hx hp hfirst hlate hd hw => ?_, fun e n s h => ?_, fun l v s hl hm hc => ?_⟩
  · rw [exec_verdictUp_child hl hm hc hr hx hk hs, relayReady_found (relay?_single (r := withVerdict l b v r) rfl hk),
      if_neg (by simp [withVerdict, hown]), withVerdict]
  · have hready : (r.own && !r.sent && allChildren s v.epoch (addNew r.reported l) &&
        decide (2 ≤ s.stk.phase || v.stroke + 1 < now s)) = true := by simp [hown, hs, hall, hph]
    rw [exec_verdictUp_child hl hm hc hr hx hk hs, relayReady_found (relay?_single (r := withVerdict l false v r) rfl hk)]
    exact congrArg Host.Outcome.next (if_pos hready)
  · rw [exec_verdictUp hl, fromTree_child hm hc, takeUp_bypassed hr]
  · rw [exec_verdictUp hl, fromTree_notChild h]
  · rw [exec_lateFail hl, fromTree_notChild h]
  · have hpassed : n + horizon s ≤ now s := hlate
    rw [exec_verdictRelayTimeout_found hf, if_pos (by simp [hs, hpassed])]
  · exact downOverdue_early (by rwa [Nat.one_mul])
  · rw [exec_verdictDown hl, fromTree_parent hm hp]
  · rw [exec_verdictDown hl, fromTree_notParent h]
  · have hover : downOverdue s x e n 1 = true := downOverdue_open hp hfirst (by rwa [Nat.one_mul]) hd
    rw [exec_horizonMiss hx, if_pos (by simpa [hover] using hw)]
  · have hover : downOverdue s x e n 2 = true := downOverdue_open hp hfirst hlate hd
    rw [exec_verdictLost hx, if_pos (by simpa [hover] using hw)]
  · rcases h with hd | hx
    · exact ⟨exec_horizonMiss_idle fun _ => downOverdue_complete hd, exec_verdictLost_idle fun _ => downOverdue_complete hd⟩
    · exact ⟨exec_horizonMiss_unknown hx, exec_verdictLost_unknown hx⟩
  · rw [exec_lateFail hl, fromTree_child hm hc, takeLateFail]

end Sys2Proof.Machine
end

section
/-!
Progress counters, late arrivals and the step gate: what an advance and a rebinding do to one counter, and each operation of RCV_GATE by the gate
that the context has.
-/
namespace Sys2Proof.Machine

open Sys2Proof

/-! ### Progress counters (R253, R257) -/

section Counters

variable {p n c : Nat} {s : State}

theorem onCounter_built (hn : n < 4) (s : State) : onCounter p n s = .next s := if_pos hn

theorem exec_progressInc (hp : p < s.build.ports) (hn : n < 4) : exec (.progressInc p n) s = .next (advance p n s) := by
  change execProgressInc p n s = _
  rw [execProgressInc, if_pos hp, onCounter_built hn, if_pos hn]

theorem exec_progressRebind (hp : p < s.build.ports) (hn : n < 4) (c : Nat) (a : Bool) :
    exec (.progressRebind p n c a) s = .next (rebind p n (c % 4096) a s) := by
  change execProgressRebind p n c a s = _
  rw [execProgressRebind, if_pos hp, onCounter_built hn, if_pos hn]

theorem advance_attached (ha : (sent s p).attached = true) : advance p n s =
    modProg p n (fun c => { c with count := (c.count + 1) % 2 ^ 32, moved := true, lastMove := now s }) s := if_pos ha

theorem advance_unattached (ha : (sent s p).attached = false) : advance p n s = s := if_neg (by simp [ha])

theorem rebind_unattached (ha : (sent s p).attached = false) (a : Bool) : rebind p n c a s = s := if_pos (by simp [ha])

/-- The context stays: the run goes on, and a counter that is not active names nothing. -/
theorem rebind_sameContext (ha : (sent s p).attached = true) (hc : (prog s p n).ctx = c) :
    rebind p n c false s = modProg p n (fun y => { y with ctx := c, act := false }) s := by
  simp [rebind, ha, hc]

/-- A new context: the run starts over, and the context is named, active or not. -/
theorem rebind_newContext (ha : (sent s p).attached = true) (hc : (prog s p n).ctx ≠ c) (a : Bool) : rebind p n c a s =
    nameContext p c (modProg p n (fun y => { y with ctx := c, act := a, actNow := y.actNow || a, run := 0, hung := false }) s) := by
  simp [rebind, ha, beq_false_of_ne hc]

end Counters

/-! ### The step gate (R284, R424) -/

section Gates

variable {a : Access} {v : Word} {i : Instr} {c p : Nat} {g : Gate} {s : State}

theorem exec_rcvGate_reaches (hr : reaches s a aRcvGate = true) (hi : i = .gateOn a v ∨ i = .gateStep a v ∨ i = .gateOff a v) :
    exec i s = .next (busOk (gateWrite v s)) := by
  rcases hi with rfl | rfl | rfl <;> exact congrArg ok (privWrite_reaches hr _)

theorem gateWrite_notGo (hg : fbit v 63 = false) : gateWrite v s = s := if_pos (by simp [hg])

theorem gateWrite_on (hg : fbit v 63 = true) (hop : fld v 62 61 = 1) : gateWrite v s = gateOn (fld v 55 44) s := by
  simp [gateWrite, hg, hop]

theorem gateWrite_step (hg : fbit v 63 = true) (hop : fld v 62 61 = 2) : gateWrite v s = gateStep (fld v 55 44) s := by
  simp [gateWrite, hg, hop]

theorem gateWrite_off (hg : fbit v 63 = true) (hop : fld v 62 61 = 3) : gateWrite v s = gateOff (fld v 55 44) s := by
  simp [gateWrite, hg, hop]

theorem gateOn_unbound (hp : (ctx s c).parts = []) : gateOn c s = gateResult 6 s := if_pos (by simp [hp])

/-- Some partition of a context waits for an epoch or is in one. -/
def ctxInEpoch (s : State) (c : Nat) : Bool := (ctx s c).parts.any (fun k => (part s k).state == psPending || inEpoch (part s k))

theorem gateOn_inEpoch (hp : (ctx s c).parts ≠ []) (he : ctxInEpoch s c = true) : gateOn c s = gateResult 4 s :=
  (if_neg (by simp [hp])).trans (if_pos he)

theorem gateOn_gates (hp : (ctx s c).parts ≠ []) (he : ctxInEpoch s c = false) (hg : gate? s c = none) (ht : (ctx s c).state ≠ cxTearing)
    {ps : List Nat} (hps : ps = (asc (ctx s c).ports).filter (fencePort s)) : gateOn c s =
      forEach ps nextFence (modCtx c (fun y => { y with state := cxGated }) (modRcv (fun r => { r with
        gates := r.gates ++ [{ ctx := c, ports := ps, waits := ps, holding := ps }], gateSteps := 0
        gateResult := if ps.isEmpty then 2 else 1 }) s)) := by
  subst hps
  refine (if_neg (by simp [hp])).trans ((if_neg (Bool.eq_false_iff.mp he)).trans (if_neg ?_))
  simp [hg, ht]

theorem gateStep_ungated (hg : gate? s c = none) (hp : (ctx s c).parts ≠ []) : gateStep c s = gateResult 5 s := by
  simp [gateStep, hg, hp]

theorem gateOff_ungated (hg : gate? s c = none) (hp : (ctx s c).parts ≠ []) : gateOff c s = gateResult 5 s := by
  simp [gateOff, hg, hp]

/-- Every tile holds the context, and none has a released command outstanding. -/
theorem gateStep_held (hg : gate? s c = some g) (hs : g.stepping = []) (hh : g.holding = []) : gateStep c s =
    modRcv (fun r => { r with gateSteps := satInc 32 g.steps, gateResult := if g.ports.isEmpty then 2 else 1 })
      (modGate c (fun x => { x with stepping := x.ports, steps := satInc 32 x.steps }) (forEach g.ports (fun p => emit (.stepPulse p)) s)) := by
  simp [gateStep, hg, hs, hh]

theorem gateOff_gated (hg : gate? s c = some g) : gateOff c s = gateResult 2 (dropGate g s) := by simp [gateOff, hg]

theorem exec_stepDone_outstanding (hp : p < s.build.ports) (hf : s.rcv.gates.find? (fun g => g.stepping.contains p) = some g) :
    exec (.stepDone p) s = .next (stepAnswered p g.ctx s) := (onUnit_built hp _).trans (congrArg ok (by simp only [hf]))

theorem exec_stepDone_stray (hp : p < s.build.ports) (hf : s.rcv.gates.find? (fun g => g.stepping.contains p) = none) :
    exec (.stepDone p) s = .next s := (onUnit_built hp _).trans (congrArg ok (by simp only [hf]))

/-- The last tile of the one gate answers. -/
theorem stepAnswered_last (hx : s.rcv.gates = [g]) (hs : g.stepping = [p]) : stepAnswered p g.ctx s =
    { s with rcv := { s.rcv with gates := [{ g with stepping := [] }], gateResult := 2 } } := by
  simp [stepAnswered, modGate, gateResult, modRcv, hx, hs, without]

end Gates

/-- Settles O38: an advance is `advance_attached`, a rebinding `rebind_sameContext` or `rebind_newContext`, and each write of RCV_GATE is the
operation of its OP (`gateWrite_on`, `gateWrite_step`, `gateWrite_off`) in the case of the gate that the context has. -/
theorem progressCountsAndGatesStep : Obligations.ProgressCountsAndGatesStep := by
  refine ⟨fun p n s hp hn ha => ?_, fun p n c a s hp hn ha => ⟨?_, ?_⟩, fun p n c s hp hn ha hc hx => ?_,
    fun p n c a s hp hn ha hc hx => ?_, fun s => rfl, fun p s hp => onUnit_built hp _, fun i a v s hr hi hg => ?_,
    fun a v c s hr hg hop hc hp => ?_, fun a v c s hr hg hop hc hp he => ?_, fun a v c s hr hg hop hc hp he hn ht => ⟨_, rfl, ?_⟩,
    fun i a v s hr hi hg hn hp => ?_, fun a v g s hr hg hop hx hs hh => ?_, fun a v g s hr hg hop hx => ?_,
    fun p g s hp hx hs => ?_, fun p s hp hf => exec_stepDone_stray hp hf⟩
  · rw [exec_progressInc hp hn, advance_attached ha]
  · rw [exec_progressInc hp hn, advance_unattached ha]
  · rw [exec_progressRebind hp hn, rebind_unattached ha]
  · rw [exec_progressRebind hp hn, Nat.mod_eq_of_lt hc, rebind_sameContext ha hx]
  · rw [exec_progressRebind hp hn, Nat.mod_eq_of_lt hc, rebind_newContext ha hx]
  · rw [exec_rcvGate_reaches hr hi, gateWrite_notGo hg]
  · subst hc
    rw [exec_rcvGate_reaches hr (.inl rfl), gateWrite_on hg hop, gateOn_unbound hp]
    rfl
  · subst hc
    rw [exec_rcvGate_reaches hr (.inl rfl), gateWrite_on hg hop, gateOn_inEpoch hp he]
    rfl
  · subst hc
    rw [exec_rcvGate_reaches hr (.inl rfl), gateWrite_on hg hop, gateOn_gates hp he hn ht rfl]
    rfl
  · rcases hi with ⟨rfl, hop⟩ | ⟨rfl, hop⟩
    · rw [exec_rcvGate_reaches hr (.inr (.inl rfl)), gateWrite_step hg hop, gateStep_ungated hn hp]
      rfl
    · rw [exec_rcvGate_reaches hr (.inr (.inr rfl)), gateWrite_off hg hop, gateOff_ungated hn hp]
      rfl
  · rw [exec_rcvGate_reaches hr (.inr (.inl rfl)), gateWrite_step hg hop, gateStep_held hx hs hh]
  · rw [exec_rcvGate_reaches hr (.inr (.inr rfl)), gateWrite_off hg hop, gateOff_gated hx]
  · rw [exec_stepDone_outstanding (g := g) hp (by simp [hx, hs]), stepAnswered_last hx hs]

end Sys2Proof.Machine
end

section
/-!
Teardowns and fences: the writes of RCV_FENCE, the answers of a tile and of the fabric and the limits on them, each by the request that is up, and
the end of a teardown.
-/
namespace Sys2Proof.Machine

open Sys2Proof

/-! ### Writes of RCV_FENCE (R259, R261) -/

section FenceWrites

variable {a : Access} {v : Word} {i : Instr} {s : State}

theorem exec_rcvFence_reaches (hr : reaches s a aRcvFence = true) (hi : i = .teardown a v ∨ i = .teardownPart a v) :
    exec i s = .next (busOk (fenceWrite v s)) := by
  rcases hi with rfl | rfl <;> exact congrArg ok (privWrite_reaches hr _)

theorem fenceWrite_notGo (hg : fbit v 63 = false) : fenceWrite v s = s := if_pos (by simp [hg])

theorem fenceWrite_context (hg : fbit v 63 = true) (hop : fld v 62 61 = 1) (hp : (ctx s (fld v 55 44)).parts ≠ []) :
    fenceWrite v s = startTeardown false (fld v 55 44) (ctx s (fld v 55 44)).parts acManual noNode true s :=
  (if_neg (by simp [hg])).trans (if_pos (by simp [hop, hp, opTeardown]))

theorem fenceWrite_partition (hg : fbit v 63 = true) (hop : fld v 62 61 = 2) (hk : (part s (fld v 43 38)).valid = true) :
    fenceWrite v s = startTeardown true 0 [fld v 43 38] acManual noNode true s :=
  (if_neg (by simp [hg])).trans ((if_neg (by simp [hop, opTeardown])).trans (if_pos (by simp [hop, hk, opTeardownPart])))

/-- An OP that is not defined, a context without a partition, or a partition that is not defined. -/
theorem fenceWrite_badArg (hg : fbit v 63 = true)
    (hbad : (fld v 62 61 = 1 ∧ (ctx s (fld v 55 44)).parts = []) ∨ (fld v 62 61 = 2 ∧ (part s (fld v 43 38)).valid = false) ∨
      fld v 62 61 = 0 ∨ fld v 62 61 = 3) : fenceWrite v s = modRcv (fun r => { r with fenceResult := lrBadArg }) s := by
  rcases hbad with ⟨hop, hp⟩ | ⟨hop, hk⟩ | hop | hop
  · simp [fenceWrite, hg, hop, hp, opTeardown, opTeardownPart]
  · simp [fenceWrite, hg, hop, hk, opTeardown, opTeardownPart]
  · simp [fenceWrite, hg, hop, opTeardown, opTeardownPart]
  · simp [fenceWrite, hg, hop, opTeardown, opTeardownPart]

/-- A request of RCV_FENCE that a running teardown covers: MERGED, and its record. -/
theorem startTeardown_covered {c cause node : Nat} (h : s.rcv.teardowns.any (fun t => coversTd t false c []) = true) :
    startTeardown false c [] cause node true s =
      ladderRecord 1 loMerged cause 0 noNode 0xFF (now s) (now s) (modRcv (fun r => { r with fenceResult := lrMerged }) s) := if_pos h

end FenceWrites

/-! ### Answers of a tile, and their limit (R260, R261, R284) -/

section TileFences

variable {p : Nat} {e : Bool} {s : State}

theorem exec_fenceDone (hp : p < s.build.ports) (e : Bool) : exec (.fenceDone p e) s = .next (fenceAnswer p e s) := onUnit_built hp _

theorem exec_fenceTimeout_tile (hp : p < s.build.ports) (hne : p ≠ 2048) : exec (.fenceTimeout p) s = .next (fenceLimit p s) :=
  (if_neg (by simpa using hne)).trans (onUnit_built hp _)

/-- A request that an answer decides: up, and with no outcome yet. -/
def Fence.pending (f : Fence) : Bool := f.req && !f.decided

theorem Fence.pending_iff (f : Fence) : f.pending = true ↔ f.req = true ∧ f.decided = false := by simp [Fence.pending]

theorem Fence.notPending_iff (f : Fence) : f.pending = false ↔ f.req = false ∨ f.decided = true := by
  rw [Fence.pending, Bool.and_eq_false_iff, Bool.not_eq_false']

theorem Fence.stray_eq (f : Fence) : (!f.req || f.decided) = !f.pending := by simp [Fence.pending]

theorem fenceAnswer_stray (h : (sent s p).fence.pending = false) : fenceAnswer p e s = s := if_pos (by rw [Fence.stray_eq, h]; rfl)

theorem fenceAnswer_gate (h : (sent s p).fence.pending = true) (hop : (sent s p).fence.op = opGate) :
    fenceAnswer p e s = gateHeld p (sent s p).fence.ctx (doneEvent p e (sent s p).fence.ctx s) :=
  (if_neg (by rw [Fence.stray_eq, h]; decide)).trans (if_pos (by simp [hop]))

theorem fenceAnswer_done (h : (sent s p).fence.pending = true) (hop : (sent s p).fence.op ≠ opGate) :
    fenceAnswer p false s = nextFence p (portDecided p (sent s p).fence.teardown false
      (lowerFence p (doneEvent p false (sent s p).fence.ctx s))) :=
  (if_neg (by rw [Fence.stray_eq, h]; decide)).trans (if_neg (by simp [hop]))

theorem fenceAnswer_error (h : (sent s p).fence.pending = true) (hop : (sent s p).fence.op ≠ opGate) :
    fenceAnswer p true s = nextFence p (escalate 2 p 0 (fenceCause s (sent s p).fence)
      (record .fenceError (nodeOf p) (fenceBody (sent s p).fence 1 ((fenceParts s (sent s p).fence).headD 0xFF))
        (lowerFence p (doneEvent p true (sent s p).fence.ctx s)))) :=
  (if_neg (by rw [Fence.stray_eq, h]; decide)).trans (if_neg (by simp [hop]))

theorem fenceLimit_stray (h : (sent s p).fence.pending = false) : fenceLimit p s = s :=
  if_pos (by rw [Fence.stray_eq, h]; rfl)

theorem fenceLimit_late (h : (sent s p).fence.pending = true) (hop : (sent s p).fence.op ≠ opGate) :
    fenceLimit p s = escalate 2 p 0 (fenceCause s (sent s p).fence)
      (record .fenceTimeout (nodeOf p) (fenceBody (sent s p).fence 1 ((fenceParts s (sent s p).fence).headD 0xFF))
        (modFence p (fun f => { f with decided := true }) s)) :=
  if_neg (by rw [Fence.stray_eq, h, beq_false_of_ne hop]; decide)

end TileFences

/-! ### Answers of the fabric, and their limit (R260) -/

section FabricFences

variable {e : Bool} {s : State}

theorem exec_fabricFenceDone (e : Bool) (s : State) : exec (.fabricFenceDone e) s = .next (fabricAnswer e s) := rfl

theorem exec_fenceTimeout_fabric (s : State) : exec (.fenceTimeout 2048) s = .next (fabricLimit s) := rfl

theorem fabricAnswer_stray (h : s.rcv.fabric.pending = false) : fabricAnswer e s = s := if_pos (by rw [Fence.stray_eq, h]; rfl)

theorem fabricAnswer_done (h : s.rcv.fabric.pending = true) : fabricAnswer false s = nextFabric (checkTeardown s.rcv.fabric.teardown
    (modTeardown s.rcv.fabric.teardown (fun t => { t with fabric := false }) (lowerFabric s))) :=
  if_neg (by rw [Fence.stray_eq, h]; decide)

theorem fabricAnswer_error (h : s.rcv.fabric.pending = true) : fabricAnswer true s = nextFabric (escalateFabric s.rcv.fabric (lowerFabric
    (recordBlock .fenceTimeout (fenceBody s.rcv.fabric 2 ((fenceParts s s.rcv.fabric).headD 0xFF)) s))) :=
  if_neg (by rw [Fence.stray_eq, h]; decide)

theorem fabricLimit_stray (h : s.rcv.fabric.pending = false) : fabricLimit s = s := if_pos (by rw [Fence.stray_eq, h]; rfl)

theorem fabricLimit_late (h : s.rcv.fabric.pending = true) : fabricLimit s = escalateFabric s.rcv.fabric
    (recordBlock .fenceTimeout (fenceBody s.rcv.fabric 2 ((fenceParts s s.rcv.fabric).headD 0xFF))
      (modRcv (fun r => { r with fabric := { r.fabric with decided := true } }) s)) := if_neg (by rw [Fence.stray_eq, h]; decide)

theorem checkTeardown_found {id : Nat} {t : Teardown} (h : teardown? s id = some t) : checkTeardown id s =
    if t.ports = [] ∧ t.fabric = false then finishTeardown id (if t.escalated then loEscalated else loDone) s else s := by
  simp [checkTeardown, h]

end FabricFences

/-- Settles O39: a write of RCV_FENCE is one case of `fenceWrite`, and an answer or a limit is decided by whether its request is pending
(`Fence.pending`) and, for a tile, by whether a gate drives it. -/
theorem teardownsFenceAndFinish : Obligations.TeardownsFenceAndFinish := by
  refine ⟨fun i a v s hr hi hg => ?_, fun a v s hr hg hop hp => ?_, fun a v s hr hg hop hk => ?_, fun i a v s hr hi hg hbad => ?_,
    fun w c cause node s h hw => ?_, fun p e s hp hne h => ?_, fun p s hp hq hd hop => ?_, fun p s hp hq hd hop => ?_,
    fun p e s hp hq hd hop => ?_, fun p s hp hne hq hd hop => ?_, fun e s h => ?_, fun s hq hd => ?_, fun s hq hd => ?_, fun s hq hd => ?_,
    fun id t s h => checkTeardown_found h⟩
  · rw [exec_rcvFence_reaches hr hi, fenceWrite_notGo hg]
  · rw [exec_rcvFence_reaches hr (.inl rfl), fenceWrite_context hg hop hp]
  · rw [exec_rcvFence_reaches hr (.inr rfl), fenceWrite_partition hg hop hk]
  · rw [exec_rcvFence_reaches hr hi, fenceWrite_badArg hg hbad]
    rfl
  · subst hw
    exact startTeardown_covered h
  · have hclosed := (Fence.notPending_iff _).mpr h
    rw [exec_fenceDone hp, exec_fenceTimeout_tile hp hne, fenceAnswer_stray hclosed, fenceLimit_stray hclosed]
    exact ⟨rfl, rfl⟩
  · rw [exec_fenceDone hp, fenceAnswer_done ((Fence.pending_iff _).mpr ⟨hq, hd⟩) hop]
  · rw [exec_fenceDone hp, fenceAnswer_error ((Fence.pending_iff _).mpr ⟨hq, hd⟩) hop]
  · rw [exec_fenceDone hp, fenceAnswer_gate ((Fence.pending_iff _).mpr ⟨hq, hd⟩) hop]
  · rw [exec_fenceTimeout_tile hp hne, fenceLimit_late ((Fence.pending_iff _).mpr ⟨hq, hd⟩) hop]
  · have hclosed := (Fence.notPending_iff _).mpr h
    rw [exec_fabricFenceDone, exec_fenceTimeout_fabric, fabricAnswer_stray hclosed, fabricLimit_stray hclosed]
    exact ⟨rfl, rfl⟩
  · rw [exec_fabricFenceDone, fabricAnswer_done ((Fence.pending_iff _).mpr ⟨hq, hd⟩)]
  · rw [exec_fabricFenceDone, fabricAnswer_error ((Fence.pending_iff _).mpr ⟨hq, hd⟩)]
  · rw [exec_fenceTimeout_fabric, fabricLimit_late ((Fence.pending_iff _).mpr ⟨hq, hd⟩)]
    rfl

end Sys2Proof.Machine
end

section
/-!
The reset ladder: a write of RCV_LADDER by the level that it names, the answers to the reset requests, the level that follows one that fails,
and L5.
-/
namespace Sys2Proof.Machine

open Sys2Proof

/-! ### Writes of RCV_LADDER (R263, R285) -/

section LadderWrites

variable {a : Access} {v : Word} {i : Instr} {p l : Nat} {s : State}

theorem exec_rcvLadder_reaches (hr : reaches s a aRcvLadder = true)
    (hi : i = .ladderL2 a v ∨ i = .ladderL3 a v ∨ i = .ladderL4 a v ∨ i = .ladderL5 a v) :
    exec i s = .next (busOk (ladderWrite v s)) := by
  rcases hi with rfl | rfl | rfl | rfl <;> exact congrArg ok (privWrite_reaches hr _)

theorem ladderWrite_notGo (hg : fbit v 63 = false) : ladderWrite v s = s := if_pos (by simp [hg])

theorem ladderWrite_badLevel (hg : fbit v 63 = true) (hl : fld v 62 60 < 2 ∨ 5 < fld v 62 60) :
    ladderWrite v s = modRcv (fun r => { r with ladderResult := lrBadArg }) s :=
  (if_neg (by simp [hg])).trans (if_pos (by simpa using hl))

theorem ladderLevel_defined (h2 : 2 ≤ l) (h5 : l ≤ 5) : ¬ (l < 2 || 5 < l) = true := by
  rw [Bool.or_eq_true, decide_eq_true_eq, decide_eq_true_eq]
  omega

theorem ladderWrite_aboveMax (hg : fbit v 63 = true) (h2 : 2 ≤ fld v 62 60) (h5 : fld v 62 60 ≤ 5) (hm : s.gnd.policy.ladderMax < fld v 62 60) :
    ladderWrite v s = modRcv (fun r => { r with ladderResult := lrAboveMax }) s :=
  (if_neg (by simp [hg])).trans ((if_neg (ladderLevel_defined h2 h5)).trans (if_pos hm))

/-- A level that RCV_LADDER defines and LADDER_MAX admits: L2 asks for a tile in service, L3 for a defined partition. -/
theorem ladderWrite_admitted (hg : fbit v 63 = true) (hl : fld v 62 60 = l) (h2 : 2 ≤ l) (h5 : l ≤ 5) (hm : l ≤ s.gnd.policy.ladderMax) :
    ladderWrite v s =
      if l == 2 && !(decide (0x800 ≤ fld v 55 44) && fencePort s (fld v 55 44 - 0x800)) then modRcv (fun r => { r with ladderResult := lrBadArg }) s
      else if l == 3 && !(part s (fld v 43 38)).valid then modRcv (fun r => { r with ladderResult := lrBadArg }) s
      else startLevel l (fld v 55 44 - 0x800) (fld v 43 38) acManual true s := by
  subst hl
  exact (if_neg (by simp [hg])).trans ((if_neg (ladderLevel_defined h2 h5)).trans (if_neg (Nat.not_lt.mpr hm)))

theorem ladderWrite_tile (hg : fbit v 63 = true) (hl : fld v 62 60 = 2) (hm : 2 ≤ s.gnd.policy.ladderMax) (hn : fld v 55 44 = 0x800 + p) :
    ladderWrite v s = if fencePort s p then startLevel 2 p (fld v 43 38) acManual true s
      else modRcv (fun r => { r with ladderResult := lrBadArg }) s := by
  rw [ladderWrite_admitted hg hl (by decide) (by decide) hm, hn, Nat.add_sub_cancel_left]
  cases hf : fencePort s p with
  | true => simp
  | false => simp

theorem ladderWrite_partition (hg : fbit v 63 = true) (hl : fld v 62 60 = 3) (hm : 3 ≤ s.gnd.policy.ladderMax) :
    ladderWrite v s = if (part s (fld v 43 38)).valid then startLevel 3 (fld v 55 44 - 0x800) (fld v 43 38) acManual true s
      else modRcv (fun r => { r with ladderResult := lrBadArg }) s := by
  rw [ladderWrite_admitted hg hl (by decide) (by decide) hm]
  cases hk : (part s (fld v 43 38)).valid with
  | true => simp
  | false => simp

theorem ladderWrite_wide (hg : fbit v 63 = true) (hl : fld v 62 60 = 4 ∨ fld v 62 60 = 5) (hm : 5 ≤ s.gnd.policy.ladderMax) :
    ladderWrite v s = startLevel (fld v 62 60) (fld v 55 44 - 0x800) (fld v 43 38) acManual true s := by
  rw [ladderWrite_admitted hg rfl (by omega) (by omega) (by omega)]
  rcases hl with hl | hl <;> simp [hl]

end LadderWrites

/-! ### Levels (R265, R267) -/

section Levels

variable {l p k c : Nat} {x : Ladder} {s : State}

theorem startLevel_covered (h : s.rcv.ladders.any (fun x => !x.superseded && covers s x l p k) = true) : startLevel l p k c true s =
    ladderRecord l loMerged c 0 (if l == 2 then nodeOf p else noNode) (if l == 3 then k else 0xFF) (now s) (now s)
      (modRcv (fun r => { r with ladderResult := lrMerged }) s) := if_pos h

theorem ladderRecord_logged (level outcome cause sampled node q start stop : Nat) (s : State) :
    Logged s (ladderRecord level outcome cause sampled node q start stop s) := by
  unfold ladderRecord
  split
  · exact record_logged ..
  · exact recPart_logged ..

theorem startL5_rcv (c : Nat) (s : State) : (startL5 c true s).rcv = { s.rcv with
    ladders := s.rcv.ladders.map (fun x => { x with superseded := true }) ++
      [{ id := s.rcv.nextId, level := 5, cause := c, fromReg := true, start := now s }]
    nextId := s.rcv.nextId + 1, cycleAt := some (now s), ladderResult := lrRunning } := by
  have hlog : Logged s (sealRec (ladderRecord 5 loRequested c 0 noNode 0xFF (now s) (now s) s)) :=
    .step (sealRec_logged _) (ladderRecord_logged ..)
  simp only [startL5, modRcv_fields, hlog.rcv, if_true]

theorem startLevel_five (h : s.rcv.ladders = []) : startLevel 5 p k c true s = startL5 c true s := if_neg (by simp [h])

/-- A level that fails goes on to the next one, which runs over the scope that failed, or exhausts the ladder. -/
theorem failLevel_eq (x : Ladder) (s : State) : failLevel x s = if s.gnd.policy.ladderMax < x.level + 1 then exhaust x s
    else nextPm (startLevel (x.level + 1) x.port (if x.level = 2 then (tile s x.port).part else x.part) x.cause false (dropPm x.id s)) := by
  simp only [failLevel, beq_iff_eq]

theorem exec_ladderLevelTimeout_running {i : Nat} (hx : s.rcv.ladders[i]? = some x) (hs : x.superseded = false) (hl : x.level ≤ 4) :
    exec (.ladderLevelTimeout i) s = .next (failLevel x s) := congrArg ok (by simp [hx, hs, hl])

theorem exec_ladderLevelTimeout_absent {i : Nat} (hx : s.rcv.ladders[i]? = none) : exec (.ladderLevelTimeout i) s = .next s :=
  congrArg ok (by simp only [hx])

end Levels

/-! ### Answers to reset requests (R264, R265, R424) -/

section ResetAnswers

variable {p id : Nat} {x : Ladder} {s : State}

theorem exec_engineResetAck (hp : p < s.build.ports) : exec (.engineResetAck p) s = .next (resetAck p s) := onUnit_built hp _

theorem resetAck_unasked (hq : (sent s p).rstReq = false) : resetAck p s = modSent p (fun x => { x with rstAckHigh := true }) s :=
  if_pos (by simp [hq])

theorem resetAck_level (hq : (sent s p).rstReq = true)
    (hf : s.rcv.ladders.find? (fun x => x.level == 2 && x.port == p && !x.superseded && !x.waiting) = some x) :
    resetAck p s = finishLevel x.id (dropReset p (modSent p (fun x => { x with rstAckHigh := true }) s)) := by
  simp only [resetAck, hq, hf, Bool.not_true, Bool.false_eq_true, if_false]

/-- The request of a tile falls; nothing else of its sentinel changes. -/
theorem sent_dropReset (p : Nat) (s : State) : sent (dropReset p s) p = { sent s p with rstReq := false } := by
  unfold dropReset
  split
  next => exact sent_modSent_same (emit (.resetFall p) s) p _
  next hlow => rw [← Bool.eq_false_iff.mpr hlow]

theorem exec_pmResetAck (s : State) : exec .pmResetAck s = .next (pmAck s) := rfl

theorem pmAck_unasked (hq : s.rcv.pmReq = none) : pmAck s = modRcv (fun r => { r with pmAckHigh := true }) s := by simp only [pmAck, hq]

theorem dropPm_held (hq : s.rcv.pmReq = some id) : dropPm id s = modRcv (fun r => { r with pmReq := none }) (emit .pmResetFall s) :=
  if_pos (by simp [hq])

theorem pmAck_level (hq : s.rcv.pmReq = some id) : pmAck s = finishLevel id
    (modRcv (fun r => { r with pmReq := none }) (emit .pmResetFall (modRcv (fun r => { r with pmAckHigh := true }) s))) := by
  rw [← dropPm_held (s := modRcv (fun r => { r with pmAckHigh := true }) s) hq]
  simp only [pmAck, hq]

theorem exec_resetAckFall_pm (s : State) :
    exec (.resetAckFall none) s = .next (nextPm (modRcv (fun r => { r with pmAckHigh := false }) s)) := rfl

theorem exec_resetAckFall_tile (hp : p < s.build.ports)
    (hf : s.rcv.ladders.find? (fun x => x.level == 2 && x.port == p && x.waiting && !x.superseded) = none) :
    exec (.resetAckFall (some p)) s = .next (modSent p (fun x => { x with rstAckHigh := false }) s) :=
  (onUnit_built hp _).trans (congrArg ok (by simp only [ackFall, hf]))

end ResetAnswers

/-! ### The power cycle of L5 (R267) -/

section PowerCycle

variable {n : Nat} {x : Ladder} {s : State}

theorem exec_trCycleRequest_due (hn : s.rcv.cycleAt = some n) (hq : s.rcv.cycleReq = false) (hc : allCommitted s = true ∨ n + 100 ≤ now s) :
    exec .trCycleRequest s = .next (modRcv (fun r => { r with cycleReq := true }) (emit .cycleRequest s)) := by
  have hdue : (!s.rcv.cycleReq && (allCommitted s || decide (n + 100 ≤ now s))) = true := by simpa [hq] using hc
  exact congrArg ok (by simp only [hn, hdue, if_true])

theorem exec_trCycleRequest_idle (h : s.rcv.cycleAt = none ∨ s.rcv.cycleReq = true) : exec .trCycleRequest s = .next s := by
  refine congrArg ok ?_
  rcases h with h | h
  · simp only [h]
  · cases hn : s.rcv.cycleAt with
    | none => rfl
    | some n => exact if_neg (by simp [h])

theorem exec_powerCycleTimeout_asked (hf : s.rcv.ladders.find? (fun x => x.level == 5) = some x) (hq : s.rcv.cycleReq = true) :
    exec .powerCycleTimeout s = .next (cycleFailed x s) := congrArg ok (by simp only [hf, hq, if_true])

theorem exec_powerCycleTimeout_unasked (hq : s.rcv.cycleReq = false) : exec .powerCycleTimeout s = .next s := by
  refine congrArg ok ?_
  cases s.rcv.ladders.find? (fun x => x.level == 5) with
  | none => rfl
  | some x => exact if_neg (by simp [hq])

end PowerCycle

/-- Settles O40: a write of RCV_LADDER is refused or admitted by `ladderWrite_badLevel`, `ladderWrite_aboveMax` and `ladderWrite_admitted`, a covered
level merges in `startLevel_covered`, a level that fails is `failLevel_eq`, and `startL5_rcv` is what a begun L5 leaves. -/
theorem theLadderResetsAndEscalates : Obligations.TheLadderResetsAndEscalates := by
  refine ⟨fun i a v s hr hi hg => ?_, fun i a v s hr hi hg hl => ?_, fun i a v s hr hi hg h2 h5 hm => ?_, fun a v p s hr hg hl hm hn => ?_,
    fun a v s hr hg hl hm => ?_, fun i a v s hr hi hg hm => ?_, fun l p k c s h => startLevel_covered h, fun p s hp hq => ?_,
    fun p x s hp hq hf => ⟨dropReset p (modSent p (fun x => { x with rstAckHigh := true }) s), ?_, ?_, ?_, ?_⟩, fun s hq => ?_,
    fun id s hq => ?_, exec_resetAckFall_pm, fun p s hp hx => exec_resetAckFall_tile hp (by rw [hx]; rfl), fun i x s hx hs hl => ?_,
    fun i s hx => exec_ladderLevelTimeout_absent hx, fun n s hn hq hc => exec_trCycleRequest_due hn hq hc,
    fun s h => exec_trCycleRequest_idle h, fun s hq => exec_powerCycleTimeout_unasked hq,
    fun x s hf hq => exec_powerCycleTimeout_asked hf hq, fun c s hx => ⟨_, rfl, ?_⟩⟩
  · rw [exec_rcvLadder_reaches hr hi, ladderWrite_notGo hg]
  · rw [exec_rcvLadder_reaches hr hi, ladderWrite_badLevel hg hl]
    rfl
  · rw [exec_rcvLadder_reaches hr hi, ladderWrite_aboveMax hg h2 h5 hm]
    rfl
  · rw [exec_rcvLadder_reaches hr (.inl rfl), ladderWrite_tile hg hl hm hn]
    rfl
  · rw [exec_rcvLadder_reaches hr (.inr (.inl rfl)), ladderWrite_partition hg hl hm]
    rfl
  · have hwide : fld v 62 60 = 4 ∨ fld v 62 60 = 5 := hi.imp And.right And.right
    rw [exec_rcvLadder_reaches hr (.inr (.inr (hi.imp And.left And.left))), ladderWrite_wide hg hwide hm]
  · rw [exec_engineResetAck hp, resetAck_unasked hq]
  · rw [exec_engineResetAck hp, resetAck_level hq hf]
  · exact congrArg Rcv.ladders ((dropReset_frame ..).keeps .rcv rfl).symm
  · rw [sent_dropReset]
  · rw [sent_dropReset, sent_modSent_same]
  · rw [exec_pmResetAck, pmAck_unasked hq]
    rfl
  · rw [exec_pmResetAck, pmAck_level hq]
    rfl
  · rw [exec_ladderLevelTimeout_running hx hs hl, failLevel_eq]
  · rw [startLevel_five hx, startL5_rcv, hx]
    exact ⟨rfl, rfl, rfl⟩

end Sys2Proof.Machine
end

section
/-!
Epochs: a write of RCV_JOIN and what an accepted command leaves of its partition, the ticks at which partitions join and leave, and ALARMs.
-/
namespace Sys2Proof.Machine

open Sys2Proof

/-! ### Writes of RCV_JOIN (R271, R272) -/

section JoinWrites

variable {a : Access} {v : Word} {i : Instr} {b : MemRead} {k : Nat} {y : JoinBlk} {s : State}

theorem exec_rcvJoin_reaches (hr : reaches s a aRcvJoin = true) (hi : i = .join a v b ∨ i = .leave a v b) :
    exec i s = .next (busOk (joinWrite v b s)) := by
  rcases hi with rfl | rfl <;> exact congrArg ok (privWrite_reaches hr _)

/-- ADDR of RCV_JOIN as written. -/
def joinAddressed (v : Word) (s : State) : State := modRcv (fun r => { r with joinAddr := fld v 47 0 / 64 * 64 }) s

/-- RESULT of RCV_JOIN is that of the checks, and no accepted command waits for its stroke. -/
def joinChecked (v : Word) (b : MemRead) (s : State) : State :=
  modRcv (fun r => { r with joinResult := (joinCheck s (fld v 47 0) b).1, joinDone := none }) s

theorem joinWrite_notGo (hg : fbit v 63 = false) : joinWrite v b s = joinAddressed v s := if_pos (by simp [hg])

theorem joinWrite_refused (hg : fbit v 63 = true) (hc : (joinCheck (joinAddressed v s) (fld v 47 0) b).2 = none) :
    joinWrite v b s = joinChecked v b (joinAddressed v s) := by
  rw [joinAddressed] at hc
  simp only [joinWrite, hg, hc, Bool.not_true, Bool.false_eq_true, if_false]
  rfl

theorem joinWrite_accepted (hg : fbit v 63 = true) (hc : (joinCheck (joinAddressed v s) (fld v 47 0) b).2 = some y) :
    joinWrite v b s = joinAccept y (joinChecked v b (joinAddressed v s)) := by
  rw [joinAddressed] at hc
  simp only [joinWrite, hg, hc, Bool.not_true, Bool.false_eq_true, if_false]
  rfl

theorem joinCheck_misaligned {n : Nat} (hn : n % 64 ≠ 0) (b : MemRead) : joinCheck s n b = (jrBadBlock, none) := if_pos (by simp [hn])

@[simp] theorem part_modRcv (f : Rcv → Rcv) (k : Nat) (s : State) : part (modRcv f s) k = part s k := rfl

theorem irqPart_logged (k b : Nat) (s : State) : Logged s (irqPart k b s) := irqSet_logged ..

theorem part_setPart (k st e : Nat) (s : State) : part (setPart k st e s) k = { part s k with state := st, epoch := e } := by
  unfold setPart
  split
  next hsame =>
    obtain ⟨hst, he⟩ : (part s k).state = st ∧ (part s k).epoch = e := by simpa using hsame
    rw [← hst, ← he]
  next =>
    rw [(Logged.whenB (irqPart_logged k irqAlarm) (irqPart_logged k irqEpoch _)).part k, part_modPart_same]

/-- A partition that is in no epoch is PENDING for the command's. -/
theorem part_admitPart (hk : inEpoch (part s k) = false) : part (admitPart y k s) k =
    { part s k with pending := some (y.epoch, y.stroke), state := psPending, epoch := y.epoch } := by
  simp only [admitPart, hk, Bool.false_eq_true, if_false, part_setPart, part_modPart_same]

theorem part_noteEpoch (y : JoinBlk) (k : Nat) (s : State) : part (noteEpoch y s) k = part s k := by
  rw [part, ← (noteEpoch_frame y s).keeps .parts rfl, part]

theorem noteEpoch_new (he : epoch? s y.epoch = none) : (noteEpoch y s).epochs = s.epochs ++ [{
    id := y.epoch, members := y.members, parent := y.parent, children := y.children, restore := y.restore, config := y.config
    seed := y.seed.getD [], first := y.stroke }] := by
  simp only [noteEpoch, he, Option.isSome_none, Bool.false_eq_true, if_false]

theorem joinAccept_joinDone (y : JoinBlk) (s : State) : (joinAccept y s).rcv.joinDone = some y.stroke := rfl

theorem joinAccept_joins (hj : y.leave = false) (hp : y.parts = [k]) : joinAccept y s =
    modRcv (fun r => { r with joinDone := some y.stroke }) (admitPart y k (noteEpoch y s)) := by
  simp only [joinAccept, hj, hp, Bool.false_eq_true, if_false, forEach_cons, forEach_nil]

theorem part_joinAccept (hj : y.leave = false) (hp : y.parts = [k]) (hk : inEpoch (part s k) = false) : part (joinAccept y s) k =
    { part s k with pending := some (y.epoch, y.stroke), state := psPending, epoch := y.epoch } := by
  rw [joinAccept_joins hj hp, part_modRcv, part_admitPart (by rwa [part_noteEpoch]), part_noteEpoch]

theorem joinAccept_epochs (hj : y.leave = false) (hp : y.parts = [k]) : (joinAccept y s).epochs = (noteEpoch y s).epochs := by
  rw [joinAccept_joins hj hp]
  exact ((admitPart_frame ..).keeps .epochs rfl).symm

theorem joinAccept_leaves (hl : y.leave = true) (hp : y.parts = [k]) : joinAccept y s =
    modRcv (fun r => { r with joinDone := some y.stroke })
      (modPart k (fun q => { q with leaveAt := some (earlier q.leaveAt y.stroke) }) s) := by
  simp only [joinAccept, hl, hp, if_true, forEach_cons, forEach_nil]

end JoinWrites

/-! ### At the tick of STROKE (R271) -/

section Ticks

variable {k e n : Nat} {s : State}

theorem exec_joinStroke_due (hk : k < 64) (hp : (part s k).pending = some (e, n)) (hst : (part s k).state = psPending) (hn : n ≤ now s) :
    exec (.joinStroke k) s = .next (joinPart k e n (joinTick s)) :=
  (onUnit_built hk _).trans (congrArg ok (by simp [hp, hst, hn]))

theorem exec_joinStroke_early (hk : k < 64) (hp : (part s k).pending = none ∨ ((part s k).pending = some (e, n) ∧ now s < n)) :
    exec (.joinStroke k) s = .next s := by
  refine (onUnit_built hk _).trans (congrArg ok ?_)
  rcases hp with hp | ⟨hp, hn⟩
  · simp only [hp]
  · simp [hp, Nat.not_le.mpr hn]

theorem exec_leaveStroke_due (hk : k < 64) (hp : (part s k).leaveAt = some n) (hn : n ≤ now s) (he : inEpoch (part s k) = true) :
    exec (.leaveStroke k) s = .next (leavePart k (joinTick s)) :=
  (onUnit_built hk _).trans (congrArg ok (by simp [hp, hn, he]))

theorem exec_leaveStroke_early (hk : k < 64) (hp : (part s k).leaveAt = none ∨ ((part s k).leaveAt = some n ∧ now s < n)) :
    exec (.leaveStroke k) s = .next s := by
  refine (onUnit_built hk _).trans (congrArg ok ?_)
  rcases hp with hp | ⟨hp, hn⟩
  · simp only [hp]
  · simp [hp, Nat.not_le.mpr hn]

end Ticks

/-! ### ALARMs (R274, R276, R277, R310) -/

section Alarms

variable {a : Access} {v : Word} {l e t : Nat} {f : Flit} {m : AlarmMsg} {x : Epoch} {s : State}

theorem exec_alarm (hl : l < s.build.links) (m : AlarmMsg) : exec (.alarm l m) s =
    .next (takeAlarm l { newFlit s clAlarm mdFlood m.epoch (.alarm m) with src := m.origin } m s) := onUnit_built hl _

theorem takeAlarm_epochZero (h0 : m.epoch = 0) :
    takeAlarm l f m s = modLink l (fun k => { k with err := { k.err with epoch := satInc 8 k.err.epoch } }) s := if_pos (by simp [h0])

theorem takeAlarm_dropped (h0 : m.epoch ≠ 0) (hd : m.originStroke + 128 < now s ∨ alarmKnown s m = true) : takeAlarm l f m s = s :=
  (if_neg (by simp [h0])).trans (if_pos (by simpa using hd))

theorem takeAlarm_taken (h0 : m.epoch ≠ 0) (hn : now s ≤ m.originStroke + 128) (hk : alarmKnown s m = false) :
    takeAlarm l f m s = whenB (epochHere s m.epoch) (obeyAlarm m) (flood (some l) f (rememberAlarm m s)) :=
  (if_neg (by simp [h0])).trans (if_neg (by simp [hn, hk]))

theorem exec_rcvAlarm_reaches (hr : reaches s a aRcvAlarm = true) (v : Word) : exec (.rcvAlarm a v) s =
    .next (busOk (whenB (fbit v 63) (alarmPart acManual (fld v 62 57) noNode (zeros 16)) s)) := congrArg ok (privWrite_reaches hr _)

theorem exec_abortAt_due (hx : epoch? s e = some x) (ha : x.abortAt = some t) (ht : t ≤ now s) :
    exec (.abortAt e) s = .next (abortEpoch e s) := congrArg ok (by simp [hx, ha, ht])

theorem exec_abortAt_early (hx : epoch? s e = some x) (ha : x.abortAt = none ∨ (x.abortAt = some t ∧ now s < t)) :
    exec (.abortAt e) s = .next s := by
  refine congrArg ok ?_
  rcases ha with ha | ⟨ha, ht⟩
  · simp [hx, ha]
  · simp [hx, ha, Nat.not_le.mpr ht]

end Alarms

/-- Settles O41: RCV_JOIN ends in `joinWrite_refused` or `joinWrite_accepted`, an accepted command leaves its partition as `part_joinAccept` says, a
stroke command acts at its stroke and not before, and an ALARM is one case of `takeAlarm`. -/
theorem epochsAreJoinedLeftAndAborted : Obligations.EpochsAreJoinedLeftAndAborted := by
  refine ⟨fun i a v b s hr hi hg => ?_, fun i a v b s hr hi hg => ⟨joinAddressed v s, rfl, fun hc => ?_, fun y hc => ?_⟩,
    fun s n b hn => joinCheck_misaligned hn b, fun k y s hj hp he hk => ⟨_, rfl, ?_⟩, fun k y s hl hp => ⟨_, rfl, ?_⟩,
    fun k e n s hk hp hst hn => ⟨_, exec_joinStroke_due hk hp hst hn, rfl⟩, fun k e n s hk hp => exec_joinStroke_early hk hp,
    fun k n s hk hp hn he => exec_leaveStroke_due hk hp hn he, fun k n s hk hp => exec_leaveStroke_early hk hp, fun l m s hl h0 => ?_,
    fun l m s hl h0 hd => ?_, fun l m s hl h0 hn hk => ⟨_, rfl, ?_⟩, fun a v s hr hg => ?_, fun a v s hr hg => ?_,
    fun e t x s hx ha ht => exec_abortAt_due hx ha ht, fun e t x s hx ha => exec_abortAt_early hx ha⟩
  · rw [exec_rcvJoin_reaches hr hi, joinWrite_notGo hg]
    rfl
  · rw [exec_rcvJoin_reaches hr hi, joinWrite_refused hg hc]
    rfl
  · rw [exec_rcvJoin_reaches hr hi, joinWrite_accepted hg hc]
    rfl
  · rw [part_joinAccept hj hp hk]
    exact ⟨rfl, rfl, rfl, joinAccept_joinDone y s, (joinAccept_epochs hj hp).trans (noteEpoch_new he)⟩
  · rw [joinAccept_leaves hl hp, part_modRcv, part_modPart_same]
    exact ⟨rfl, rfl⟩
  · rw [exec_alarm hl, takeAlarm_epochZero h0]
  · rw [exec_alarm hl, takeAlarm_dropped h0 hd]
  · rw [exec_alarm hl, takeAlarm_taken h0 hn hk, whenB]
  · rw [exec_rcvAlarm_reaches hr, hg, whenB_false]
  · rw [exec_rcvAlarm_reaches hr, hg, whenB_true]

end Sys2Proof.Machine
end

section
/-!
Checkpoint requests: the timer of a partition, what a request leaves, and its overdue record.
-/
namespace Sys2Proof.Machine

open Sys2Proof

section Checkpoints

variable {k n : Nat} {s : State}

/-- A request notes its stroke and its bit; the record and the interrupt are log. -/
theorem requestCkpt_logged (trigger k eNew eOld : Nat) (s : State) :
    Logged (modPart k (fun q => { q with ckptSince := some (now s), ckptOverdue := false }) (modRcv (fun r => { r with ckpt := setBit r.ckpt k }) s))
      (requestCkpt trigger k eNew eOld s) := .step (irqPart_logged ..) (recPart_logged ..)

theorem requestCkpt_ckpt (trigger k eNew eOld : Nat) (s : State) : (requestCkpt trigger k eNew eOld s).rcv.ckpt = setBit s.rcv.ckpt k := by
  rw [(requestCkpt_logged trigger k eNew eOld s).rcv]
  rfl

theorem part_requestCkpt (trigger k eNew eOld : Nat) (s : State) : part (requestCkpt trigger k eNew eOld s) k =
    { part s k with ckptSince := some (now s), ckptOverdue := false } := by
  rw [(requestCkpt_logged trigger k eNew eOld s).part, part_modPart_same, part_modRcv]

/-- A checkpoint of the timer is requested. -/
def timerRequested (k : Nat) (s : State) : State := modPart k (fun q => { q with ckptDone := true }) (requestCkpt 1 k 0 0 s)

theorem part_timerRequested (k : Nat) (s : State) : part (timerRequested k s) k =
    { part s k with ckptSince := some (now s), ckptOverdue := false, ckptDone := true } := by
  rw [timerRequested, part_modPart_same, part_requestCkpt]

theorem exec_ckptTimer_due (hk : k < 64) (hm : (part s k).state = psMember) (hd : (part s k).ckptDone = false)
    (hc : s.rcv.cfg.ckptSteps = 0) (hn : ckptFrom (part s k) + s.gnd.policy.ckptInterval ≤ now s) :
    exec (.ckptTimer k) s = .next (timerRequested k s) :=
  (onUnit_built hk _).trans (congrArg ok ((if_neg (by simp [hm, hd])).trans ((if_neg (by simp [hc])).trans (if_pos hn))))

theorem exec_ckptTimer_inactive (hk : k < 64) (h : (part s k).state ≠ psMember ∨ (part s k).ckptDone = true) :
    exec (.ckptTimer k) s = .next s := (onUnit_built hk _).trans (congrArg ok (if_pos (by simpa using h)))

theorem exec_ckptTimer_early (hk : k < 64) (hc : s.rcv.cfg.ckptSteps = 0) (hn : now s < ckptFrom (part s k) + s.gnd.policy.ckptInterval) :
    exec (.ckptTimer k) s = .next s := by
  by_cases h : (part s k).state ≠ psMember ∨ (part s k).ckptDone = true
  · exact exec_ckptTimer_inactive hk h
  · exact (onUnit_built hk _).trans (congrArg ok ((if_neg (by simpa using h)).trans
      ((if_neg (by simp [hc])).trans (if_neg (Nat.not_le.mpr hn)))))

/-- The test of CKPT_OVERDUE for a request that began in stroke `n`. -/
def ckptLate (s : State) (k n : Nat) : Bool :=
  bitOf s.rcv.ckpt k && !(part s k).ckptOverdue && decide (n + s.gnd.policy.ckptInterval ≤ now s)

theorem exec_ckptOverdue_open (hk : k < 64) (hs : (part s k).ckptSince = some n) : exec (.ckptOverdue k) s = .next
    (if ckptLate s k n then recPart .ckptOverdue noNode k (le 1 k ++ zeros 1 ++ le 6 n) (modPart k (fun q => { q with ckptOverdue := true }) s)
      else s) := (onUnit_built hk _).trans (congrArg ok (by simp only [hs]; rfl))

theorem exec_ckptOverdue_none (hk : k < 64) (hs : (part s k).ckptSince = none) : exec (.ckptOverdue k) s = .next s :=
  (onUnit_built hk _).trans (congrArg ok (by simp only [hs]))

theorem exec_ckptOverdue_idle (hk : k < 64) (hl : ∀ n, (part s k).ckptSince = some n → ckptLate s k n = false) :
    exec (.ckptOverdue k) s = .next s := by
  cases hs : (part s k).ckptSince with
  | none => exact exec_ckptOverdue_none hk hs
  | some n => rw [exec_ckptOverdue_open hk hs, if_neg (by simp [hl n hs])]

end Checkpoints

/-- Settles O42: a due timer leaves `timerRequested`, whose partition has asked once (`part_timerRequested`), so that its timer is inactive; a
request that stays open is written by the test of `ckptLate`. -/
theorem checkpointsAreRequestedOnce : Obligations.CheckpointsAreRequestedOnce := by
  refine ⟨fun k s hk hm hd hc hn => exec_ckptTimer_due hk hm hd hc hn, fun k s hk h => ?_,
    fun k s hk hm hd hc hn _ => ⟨_, exec_ckptTimer_due hk hm hd hc hn, ?_, ?_, ?_⟩, fun k n s hk hs hb ho hn => ?_,
    fun k n s hk h => exec_ckptOverdue_idle hk fun m hm => ?_⟩
  · rcases h with h | h | ⟨hc, hn⟩
    · exact exec_ckptTimer_inactive hk (.inl h)
    · exact exec_ckptTimer_inactive hk (.inr h)
    · exact exec_ckptTimer_early hk hc hn
  · exact exec_ckptTimer_inactive hk (.inr (by rw [part_timerRequested]))
  · exact requestCkpt_ckpt ..
  · rw [part_timerRequested]
  · rw [exec_ckptOverdue_open hk hs, if_pos (by simp [ckptLate, hb, ho, hn])]
  · rcases h with h | h | h | ⟨h, hn⟩
    · exact absurd (hm.symm.trans h) (by simp)
    · simp [ckptLate, h]
    · simp [ckptLate, h]
    · obtain rfl : m = n := Option.some.inj (hm.symm.trans h)
      simp [ckptLate, hn]

end Sys2Proof.Machine
end

section
/-!
Lanes and training: a lane that locks and one that is lost, a link that waits for a lane, and the time limits of training.
-/
namespace Sys2Proof.Machine

open Sys2Proof

/-- A command to a unit that was built leaves the state that its change is equal to (R3). -/
theorem onUnit_next {w : String} {i n : Nat} {s t : State} (h : i < n) (e : s = t) : onUnit w i n s = .next t :=
  (onUnit_built h s).trans (congrArg ok e)

/-- Equivalent conditions choose alike between equal values. -/
theorem ite_of_iff {α : Type} {p q : Prop} [Decidable p] [Decidable q] {x y u v : α} (h : p ↔ q) (hx : x = u) (hy : y = v) :
    (if p then x else y) = if q then u else v := ite_congr (propext h) (fun _ => hx) (fun _ => hy)

/-! ### Lanes (R290, R291, R428) -/

section Lanes

variable {n : Nat} {s : State}

theorem exec_laneLock_first (hn : n < 2 * s.build.links) (he : laneEnable s n = true) (hw : (link s (n / 2)).state = lsWaitPhy) :
    exec (.laneLock n) s =
      .next (modLink (n / 2) (fun k => lanesSettled { k with state := lsAlign, lanes := [n % 2], lockAt := now s, good := 0 }) s) :=
  onUnit_next hn ((if_neg (by simp [he])).trans (if_pos (by simp [hw])))

theorem exec_laneLock_joins (hn : n < 2 * s.build.links) (he : laneEnable s n = true) (ha : (link s (n / 2)).state = lsAlign) :
    exec (.laneLock n) s = .next (modLink (n / 2) (fun k => lanesSettled { k with lanes := insAsc k.lanes (n % 2) }) s) :=
  onUnit_next hn ((if_neg (by simp [he])).trans ((if_neg (by rw [ha]; decide)).trans (if_pos (by simp [ha]))))

theorem exec_laneLock_disabled (hn : n < 2 * s.build.links) (he : laneEnable s n = false) : exec (.laneLock n) s = .next s :=
  onUnit_next hn (if_pos (by simp [he]))

/-- Only a native link in ALIGN goes by its lanes' locks: it keeps those left, or waits again with none. -/
theorem exec_laneLockLoss_align (hn : n < 2 * s.build.links) (ha : (link s (n / 2)).state = lsAlign) (ht : isTunnel s (n / 2) = false) :
    exec (.laneLockLoss n) s = .next (if (without (link s (n / 2)).lanes (n % 2)).isEmpty then toWait (n / 2) lcNone s
      else modLink (n / 2) (fun k => { k with lanes := without (link s (n / 2)).lanes (n % 2), width := 0, good := 0 }) s) :=
  onUnit_next hn (if_pos (by simp [ha, ht]))

theorem exec_laneLockLoss_other (hn : n < 2 * s.build.links) (h : (link s (n / 2)).state ≠ lsAlign ∨ isTunnel s (n / 2) = true) :
    exec (.laneLockLoss n) s = .next s := by
  refine onUnit_next hn (if_neg ?_)
  rcases h with h | h
  · simp [h]
  · simp [h]

end Lanes

/-! ### Time limits (R290, R291, R302) -/

section Limits

variable {l c : Nat} {s : State}

/-- A link of the given state starts to train: what it had queued and learnt is gone, and one more training is counted. -/
def retrained (c at0 : Nat) (k : Link) : Link :=
  { dropQueues k with
    state := lsWaitPhy, cause := c, lanes := [], width := 0, fallback := false, trains := satInc 16 k.trains
    since := at0, good := 0, rtts := [], shake := { fails := k.shake.fails }, crcWin := [] }

theorem toWait_native (c : Nat) (hg : goodLanes (link s l) ≠ []) (ht : isTunnel s l = false) :
    toWait l c s = linkRecord l (modLink l (retrained c (now s)) s) :=
  (if_neg (by simpa using hg)).trans (if_neg (by simp [ht]))

theorem strokesPassed_ticking (h : ticking s = true) (a n : Nat) : strokesPassed s a n = decide (a + n ≤ now s) := by
  simp [strokesPassed, h]

theorem exec_secondLaneTimeout_single (hl : l < s.build.links) (ha : (link s l).state = lsAlign) (hw : (link s l).width = 0)
    (h1 : (link s l).lanes.length = 1) (ht : ticking s = true) : exec (.secondLaneTimeout l) s =
      .next (if (link s l).lockAt + s.wch.eff.trainWait / 4 ≤ now s then modLink l (fun k => { k with width := 1, fallback := true }) s else s) :=
  onUnit_next hl (ite_of_iff (by simp [ha, hw, h1, strokesPassed_ticking ht]) rfl rfl)

theorem exec_trainTimeout_late (hl : l < s.build.links) (h1 : 1 ≤ (link s l).state) (h4 : (link s l).state ≤ 4)
    (hp : strokesPassed s (link s l).since s.wch.eff.trainWait = true) : exec (.trainTimeout l) s =
      .next (recordBlock .linkAbsent (le 1 l ++ zeros 3 ++ le 4 (expectedPartner s l)) (linkRecord l
        (modLink l (fun k => { k with state := lsAbsent, cause := lcAbsent, width := 0, lanes := [], since := now s }) s))) :=
  onUnit_next hl (if_pos (by simp [h1, h4, hp]))

theorem exec_trainTimeout_idle (hl : l < s.build.links) (h : (link s l).state = 0 ∨ 4 < (link s l).state ∨
    strokesPassed s (link s l).since s.wch.eff.trainWait = false) : exec (.trainTimeout l) s = .next s := by
  refine onUnit_next hl (if_neg ?_)
  rcases h with h | h | h
  · simp [h]
  · simp [Nat.not_le.mpr h]
  · simp [h]

theorem exec_absentRetry_absent (hl : l < s.build.links) (ha : (link s l).state = lsAbsent) (ht : ticking s = true) :
    exec (.absentRetry l) s = .next (if (link s l).since + 10000 ≤ now s then toWait l lcAbsent s else s) :=
  onUnit_next hl (ite_of_iff (by simp [ha, strokesPassed_ticking ht]) rfl rfl)

theorem exec_absentRetry_present (hl : l < s.build.links) (h : (link s l).state ≠ lsAbsent) : exec (.absentRetry l) s = .next s :=
  onUnit_next hl (if_neg (by simp [h]))

end Limits

/-- Settles O43: a lane acts on a link by its state, a limit by the strokes passed (`strokesPassed_ticking`), and a native link that
waits again is `retrained` (`toWait_native`). -/
theorem linksTrainOnTheirLanes : Obligations.LinksTrainOnTheirLanes := by
  refine ⟨fun n s hn he hw => exec_laneLock_first hn he hw, fun n s hn he ha => exec_laneLock_joins hn he ha,
    fun n s hn he => exec_laneLock_disabled hn he, fun n s hn ha ht h => ?_, fun n s hn ha ht h => ?_,
    fun n s hn h => exec_laneLockLoss_other hn h, fun l s hl ha hw h1 ht => exec_secondLaneTimeout_single hl ha hw h1 ht,
    fun l s hl h1 h4 hp => exec_trainTimeout_late hl h1 h4 hp, fun l s hl h => exec_trainTimeout_idle hl h,
    fun l s hl ha ht => exec_absentRetry_absent hl ha ht, fun l s hl h => exec_absentRetry_present hl h,
    fun l c s hg ht => ⟨modLink l (retrained c (now s)) s, toWait_native c hg ht, ?_⟩⟩
  · rw [exec_laneLockLoss_align hn ha ht, if_pos (List.isEmpty_iff.mpr h)]
  · rw [exec_laneLockLoss_align hn ha ht, if_neg (mt List.isEmpty_iff.mp h)]
  · rw [link_modLink_same]
    exact ⟨rfl, rfl, rfl, rfl, rfl, rfl, rfl⟩

end Sys2Proof.Machine
end

section
/-!
The handshake: the round trips of MEASURE, each step of AUTH in its order, and what a failure leaves.
-/
namespace Sys2Proof.Machine

open Sys2Proof

/-! ### Round trips (R292) -/

section Echoes

variable {l tx e r n : Nat} {s : State}

theorem exec_echo (hl : l < s.build.links) : exec (.echo l tx e r n) s = .next (takeEcho l tx e r n s) := onUnit_built hl _

/-- In MEASURE an echo of this block's own is one more round trip; the 64th ends it. -/
theorem takeEcho_measure (hm : (link s l).state = lsMeasure) (he : e ≠ 0) : takeEcho l tx e r n s =
    if 64 ≤ (link s l).rtts.length + 1 then measured l (modLink l (fun k => { k with rtts := k.rtts ++ [n - e - r] }) s)
    else sendEcho l n tx (modLink l (fun k => { k with rtts := k.rtts ++ [n - e - r] }) s) := by
  simp [takeEcho, hm, he]

theorem takeEcho_closed (h : (link s l).state = lsDown ∨ (link s l).state = lsQuarantined) : takeEcho l tx e r n s = s := by
  have hm : ¬ ((link s l).state == lsMeasure) = true := by
    rcases h with h | h <;> (rw [h]; decide)
  have ha : ¬ ((link s l).state == lsAlign) = true := by
    rcases h with h | h <;> (rw [h]; decide)
  refine (if_neg hm).trans ((if_neg ha).trans (if_pos ?_))
  rcases h with h | h
  · simp [h]
  · simp [h]

end Echoes

/-! ### Steps of AUTH (R293, R294, R296) -/

section Steps

variable {l i n r : Nat} {h : Hello} {key sig mac bs : List Byte} {s : State}

theorem exec_hello (hl : l < s.build.links) : exec (.hello l h) s = .next (takeHello l h s) := onUnit_built hl _

theorem exec_cert (hl : l < s.build.links) : exec (.cert l i n bs) s = .next (takeCert l i n bs s) := onUnit_built hl _

theorem exec_share (hl : l < s.build.links) : exec (.share l key) s = .next (takeShare l key s) := onUnit_built hl _

theorem exec_proof (hl : l < s.build.links) : exec (.proof l sig) s = .next (takeProof l sig s) := onUnit_built hl _

theorem exec_done (hl : l < s.build.links) : exec (.done l mac r) s = .next (takeDone l mac r s) := onUnit_built hl _

/-- The checks of a HELLO in their order: version, another chip, the expected partner. -/
theorem takeHello_auth (ha : (link s l).state = lsAuth) (h0 : (link s l).shake.step = 0) : takeHello l h s =
    if h.major ≠ 4 then authFail l 1 h.chip s
    else if h.chip = ownChip s then authFail l 5 h.chip s
    else if expectedPartner s l ≠ 0x1FFFF ∧ expectedPartner s l ≠ h.chip then authFail l 6 h.chip s
    else sendCert l (modShake l (fun x => { x with
        step := 1, major := h.major, chip := h.chip, device := h.device, lanes := h.lanes, role := h.role, hello := helloBytes h })
      (modLink l (fun k => { k with
        width := if isTunnel s l then 1 else ((link s l).lanes.filter (fun i => bitOf h.lanes i)).length }) s)) := by
  simp [takeHello, ha, h0]

/-- A fragment in its turn is kept; the last one is checked with the rest. -/
theorem takeCert_auth (ha : (link s l).state = lsAuth) (h1 : (link s l).shake.step = 1) (hi : i = (link s l).shake.frags) :
    takeCert l i n bs s =
      if i + 1 < n then modShake l (fun x => { x with cert := (link s l).shake.cert ++ bs, frags := i + 1 }) s
      else if partnerCert s (link s l).shake ((link s l).shake.cert ++ bs) = none then authFail l 2 (link s l).shake.chip s
      else emit (.control l 18 (Config.publicKey (Config.draw s.fresh 48))) (bumpFresh (modShake l (fun x => { x with
        cert := (link s l).shake.cert ++ bs, frags := i + 1, step := 2, secret := s.fresh
        ownShare := Config.publicKey (Config.draw s.fresh 48) }) s)) := by
  simp [takeCert, ha, h1, hi]

theorem takeShare_auth (ha : (link s l).state = lsAuth) (h2 : (link s l).shake.step = 2) {t : State}
    (ht : t = modShake l (fun x => { x with share := key, step := 3 }) s) :
    takeShare l key s = emit (.control l 19 (ownProof t (link t l).shake)) t := by
  subst ht
  exact if_neg (by simp [ha, h2])

theorem takeProof_auth (ha : (link s l).state = lsAuth) (h3 : (link s l).shake.step = 3) {t : State}
    (ht : t = modShake l (fun x => { x with proof := sig, step := 4 }) s) : takeProof l sig s =
      if (partnerCert s (link s l).shake (link s l).shake.cert).any (fun c => Config.ecdsaOk c.key sig (transcript3 s (link s l).shake)) = true
      then emit (.control l 20 (finishedMac t (link t l).shake)) t else authFail l 3 (link s l).shake.chip s := by
  subst ht
  refine (if_neg (by simp [ha, h3])).trans ?_
  rw [← ite_not]
  exact ite_of_iff (by simp) rfl rfl

/-- DONE holds the protected round trips within 10 ns of the measured ones. -/
theorem takeDone_auth (ha : (link s l).state = lsAuth) (h4 : (link s l).shake.step = 4) : takeDone l mac r s =
    if mac ≠ finishedMac s (link s l).shake then authFail l 4 (link s l).shake.chip s
    else if r ≤ minOf 0 (link s l).rtts + 10 ∧ minOf 0 (link s l).rtts ≤ r + 10 then linkReady l s
    else authFail l 8 (link s l).shake.chip s := by
  refine (if_neg (by simp [ha, h4])).trans (ite_of_iff (by simp) rfl ?_)
  rw [← ite_not]
  exact ite_of_iff (by simp) rfl rfl

/-- A message of the handshake, or its time limit, on a link outside AUTH. -/
theorem exec_handshake_closed {c : Instr} (hl : l < s.build.links) (hs : (link s l).state ≠ lsAuth)
    (hc : c = .hello l h ∨ c = .cert l r n bs ∨ c = .share l bs ∨ c = .proof l bs ∨ c = .done l bs r ∨ c = .handshakeTimeout l) :
    exec c s = .next s := by
  have hno : ((link s l).state == lsAuth) = false := beq_false_of_ne hs
  rcases hc with rfl | rfl | rfl | rfl | rfl | rfl
  · exact onUnit_next hl (if_pos (by simp [hno]))
  · exact onUnit_next hl (if_pos (by simp [hno]))
  · exact onUnit_next hl (if_pos (by simp [hno]))
  · exact onUnit_next hl (if_pos (by simp [hno]))
  · exact onUnit_next hl (if_pos (by simp [hno]))
  · exact onUnit_next hl (if_neg (by simp [hno]))

theorem exec_handshakeTimeout_auth (hl : l < s.build.links) (ha : (link s l).state = lsAuth) :
    exec (.handshakeTimeout l) s = .next (authFail l 7 (link s l).shake.chip s) := onUnit_next hl (if_pos (by simp [ha]))

/-- A failure is counted and recorded; the third in a row quarantines the link (R294). -/
theorem authFail_eq (l cause chip : Nat) (s : State) : authFail l cause chip s =
    (if (link s l).shake.fails < 2 then toWait l lcAuth else toQuarantine l lcAuth)
      (recordBlock .authFail (le 1 l ++ le 1 cause ++ le 1 ((link s l).shake.fails + 1) ++ zeros 1 ++ le 4 chip)
        (modShake l (fun x => { x with fails := (link s l).shake.fails + 1 }) s)) := by
  have hthird : (if 3 ≤ (link s l).shake.fails + 1 then toQuarantine l lcAuth else toWait l lcAuth) =
      if (link s l).shake.fails < 2 then toWait l lcAuth else toQuarantine l lcAuth := by
    rw [← ite_not]
    exact ite_of_iff (by omega) rfl rfl
  exact congrFun hthird _

end Steps

/-- Settles O44: each message is a case of its `take…` equation in AUTH and nothing outside it (`exec_handshake_closed`), and a failure is
`authFail_eq`. -/
theorem handshakesAuthenticateThePartner : Obligations.HandshakesAuthenticateThePartner := by
  refine ⟨fun l tx e r n s hl hm he hn => ?_, fun l tx e r n s hl hm he hn => ?_, fun l tx e r n s hl h => ?_,
    fun l h s hl ha h0 hv hc hp ht => ?_, fun l h s hl ha h0 hv => ?_, fun l h s hl ha h0 hv hc => ?_,
    fun l h s hl ha h0 hv hc hn hp => ?_, fun l i n bs s hl ha h1 hi hn => ?_, fun l i n bs s hl ha h1 hi hn => ?_,
    fun l key s hl ha h2 => ⟨_, rfl, ?_⟩, fun l sig s hl ha h3 => ⟨_, rfl, ?_⟩, fun l r mac s hl ha h4 => ?_,
    fun l r n h bs c s hl hs hc => exec_handshake_closed hl hs hc, fun l s hl ha => exec_handshakeTimeout_auth hl ha, authFail_eq⟩
  · rw [exec_echo hl, takeEcho_measure hm he, if_neg (by omega)]
  · rw [exec_echo hl, takeEcho_measure hm he, if_pos (by omega)]
  · rw [exec_echo hl, takeEcho_closed h]
  · have hexp : ¬ (expectedPartner s l ≠ 0x1FFFF ∧ expectedPartner s l ≠ h.chip) :=
      fun hn => hp.elim hn.1 hn.2
    rw [exec_hello hl, takeHello_auth ha h0, if_neg (not_not_intro hv), if_neg hc, if_neg hexp, ht]
    rfl
  · rw [exec_hello hl, takeHello_auth ha h0, if_pos hv]
  · rw [exec_hello hl, takeHello_auth ha h0, if_neg (not_not_intro hv), if_pos hc]
  · rw [exec_hello hl, takeHello_auth ha h0, if_neg (not_not_intro hv), if_neg hc, if_pos ⟨hn, hp⟩]
  · rw [exec_cert hl, takeCert_auth ha h1 hi, if_pos hn]
  · rw [exec_cert hl, takeCert_auth ha h1 hi, if_neg (by omega)]
  · rw [exec_share hl, takeShare_auth ha h2 rfl]
  · rw [exec_proof hl, takeProof_auth ha h3 rfl]
  · rw [exec_done hl, takeDone_auth ha h4]

end Sys2Proof.Machine
end

section
/-!
Flits: a data flit by its checks and its place in the sequence, control flits and timers on open links, and replay.
-/
namespace Sys2Proof.Machine

open Sys2Proof

/-! ### Data flits (R296, R301, R302) -/

section DataFlits

variable {l n lane t : Nat} {c g : Bool} {f : Flit} {s : State}

theorem exec_flitReceived (hl : l < s.build.links) : exec (.flitReceived l n c g f t) s = .next (takeFlit l (n % 2) c g f t s) :=
  onUnit_built hl _

theorem takeFlit_closed (h : linkOpen (link s l) = false) : takeFlit l lane c g f t s = s := if_pos (by simp [h])

/-- The checks of a flit on an open link in their order: CRC, tag, sequence. -/
theorem takeFlit_open (h : linkOpen (link s l) = true) : takeFlit l lane c g f t s =
    if c = false then crcFailed l lane t s
    else if g = false then hostile l f s
    else if f.lseq ≠ (link s l).rxSeq % 65536 then sendNack l t s
    else acceptFlit l f t (takeAck l f.ack (modLink l (fun k => rekeyIn { k with
      rxSeq := (k.rxSeq + 1) % 2 ^ 48, consumed := lmod k.consumed f.cls (fun n => (n + 1) % 65536) }) (gcount 10 1 s))) := by
  refine (if_neg (by simp [h])).trans (ite_of_iff (by simp) rfl (ite_of_iff (by simp) rfl (ite_of_iff (by simp) rfl rfl)))

end DataFlits

/-! ### Control flits and timers (R296, R297, R299, R301) -/

section ControlFlits

variable {l a t : Nat} {r : List Nat} {s : State}

theorem linkOpen_of_measure {k : Link} (h : k.state = lsMeasure) : linkOpen k = false := by
  rw [linkOpen, h]
  decide

theorem exec_credit_open (hl : l < s.build.links) (ho : linkOpen (link s l) = true) (ha : (link s l).state ≠ lsAlign) :
    exec (.credit l r a) s = .next (takeCredits l r (takeAck l a s)) :=
  onUnit_next hl ((if_neg (by simp [ha])).trans (if_pos ho))

theorem exec_credit_align (hl : l < s.build.links) (ha : (link s l).state = lsAlign) :
    exec (.credit l r a) s = .next (goodControl l s.stk.tickTime s) := onUnit_next hl (if_pos (by simp [ha]))

theorem exec_nack_open (hl : l < s.build.links) (ho : linkOpen (link s l) = true) :
    exec (.nack l a r) s = .next (replay l (takeCredits l r (takeAck l ((a + 65535) % 65536) s))) := onUnit_next hl (if_pos ho)

theorem exec_keyUpdate_open (hl : l < s.build.links) (ho : linkOpen (link s l) = true) :
    exec (.keyUpdate l a) s = .next (modLink l (fun k => rekeyIn { k with rekeyAt := some a }) s) := onUnit_next hl (if_pos ho)

theorem exec_rekey_due (hl : l < s.build.links) (ho : linkOpen (link s l) = true) (hn : 2 ^ 40 ≤ (link s l).txSeq - (link s l).txSince) :
    exec (.rekey l) s = .next (emit (.control l 4 (le 6 (link s l).txSeq)) (modLink l (fun k => { k with
      txKey := nextKey k.txKey, txKeyGen := k.txKeyGen + 1, txSince := k.txSeq }) s)) :=
  onUnit_next hl (if_pos (by rw [ho, decide_eq_true hn]; rfl))

theorem exec_rekey_early (hl : l < s.build.links) (hn : (link s l).txSeq - (link s l).txSince < 2 ^ 40) :
    exec (.rekey l) s = .next s := onUnit_next hl (if_neg (by rw [decide_eq_false (Nat.not_le.mpr hn), Bool.and_false]; decide))

theorem exec_retryTimeout_open (hl : l < s.build.links) (ho : linkOpen (link s l) = true) :
    exec (.retryTimeout l) s = .next (replay l s) := onUnit_next hl (if_pos ho)

theorem exec_control_closed {c : Instr} (hl : l < s.build.links) (ho : linkOpen (link s l) = false)
    (hc : c = .nack l a r ∨ c = .keyUpdate l a ∨ c = .rekey l ∨ c = .retryTimeout l) : exec c s = .next s := by
  have hno : ¬ linkOpen (link s l) = true := Bool.eq_false_iff.mp ho
  rcases hc with rfl | rfl | rfl | rfl
  · exact onUnit_next hl (if_neg hno)
  · exact onUnit_next hl (if_neg hno)
  · exact onUnit_next hl (if_neg (by rw [ho, Bool.false_and]; decide))
  · exact onUnit_next hl (if_neg hno)

theorem exec_controlFlitTimer_open (hl : l < s.build.links) (ho : linkOpen (link s l) = true) :
    exec (.controlFlitTimer l t) s = .next (sendControl l s) := onUnit_next hl (if_pos (by simp [ho]))

theorem exec_controlFlitTimer_measure (hl : l < s.build.links) (hm : (link s l).state = lsMeasure) :
    exec (.controlFlitTimer l t) s = .next (sendEcho l t 0 s) := by
  have hother : ¬ (linkOpen (link s l) || (link s l).state == lsAlign) = true := by
    rw [linkOpen_of_measure hm, hm]
    decide
  exact onUnit_next hl ((if_neg hother).trans (if_pos (by simp [hm])))

/-- The sixteenth replay without progress retrains the link instead (R301). -/
theorem replay_unacknowledged (hr : (link s l).retry ≠ []) : replay l s =
    if 15 ≤ (link s l).replays then toWait l lcNone (modErr l (fun e => { e with retry := satInc 12 e.retry }) s)
    else forEach (link s l).retry (fun f => emit (.flit l f))
      (modLink l (fun k => { k with replays := k.replays + 1, err := { k.err with retry := satInc 12 k.err.retry } }) s) :=
  (if_neg (by simpa using hr)).trans (ite_of_iff (by omega) rfl rfl)

theorem sendNack_again {n : Nat} (ht : (link s l).nackAt = some t) (hn : n < t + 1000) : sendNack l n s = s := by
  simp only [sendNack, ht, hn, decide_true, if_true]

end ControlFlits

/-- Settles O45: a data flit is one case of `takeFlit_open`, a control flit or timer acts on an open link, and a replay is
`replay_unacknowledged`. -/
theorem flitsAreSequencedAndReplayed : Obligations.FlitsAreSequencedAndReplayed := by
  refine ⟨fun l n t c g f s hl ho => ?_, fun l n t g f s hl ho => ?_, fun l n t f s hl ho => ?_, fun l n t f s hl ho hq => ?_,
    fun l n t f s hl ho hq => ?_, fun l a r s hl ho ha => exec_credit_open hl ho ha, fun l a r s hl ha => exec_credit_align hl ha,
    fun l a r s hl ho => exec_nack_open hl ho, fun l a s hl ho => exec_keyUpdate_open hl ho,
    fun l s hl ho hn => exec_rekey_due hl ho hn, fun l s hl hn => exec_rekey_early hl hn,
    fun l a r c s hl ho hc => exec_control_closed hl ho hc, fun l s hl ho => exec_retryTimeout_open hl ho,
    fun l t s hl ho => exec_controlFlitTimer_open hl ho, fun l t s hl hm => exec_controlFlitTimer_measure hl hm,
    fun l s hr hn => ?_, fun l s hr hn => ?_, fun l t s ht n hn => sendNack_again ht hn⟩
  · rw [exec_flitReceived hl, takeFlit_closed ho]
  · rw [exec_flitReceived hl, takeFlit_open ho, if_pos rfl]
    rfl
  · rw [exec_flitReceived hl, takeFlit_open ho, if_neg Bool.true_eq_false.mp, if_pos rfl]
    rfl
  · rw [exec_flitReceived hl, takeFlit_open ho, if_neg Bool.true_eq_false.mp, if_neg Bool.true_eq_false.mp, if_pos hq]
  · rw [exec_flitReceived hl, takeFlit_open ho, if_neg Bool.true_eq_false.mp, if_neg Bool.true_eq_false.mp, if_neg (not_not_intro hq)]
  · rw [replay_unacknowledged hr, if_neg (Nat.not_le.mpr hn)]
  · rw [replay_unacknowledged hr, if_pos hn]

end Sys2Proof.Machine
end

section
/-!
Partners that misbehave and records that arrive: the limits of a link's silence, credits and CRC failures, the end of DEGRADED, and the ring of
fragments.
-/
namespace Sys2Proof.Machine

open Sys2Proof

/-! ### Silent, slow and faulty partners (R290, R302) -/

section Partners

variable {l c n : Nat} {s : State}

theorem exec_heartbeatMiss_limit (hl : l < s.build.links) (ho : linkOpen (link s l) = true) (hm : hbLimit s l ≤ (link s l).hbMissed) :
    exec (.heartbeatMiss l) s = .next (toWait l lcSilent s) := onUnit_next hl (if_pos (by simp [ho, hm]))

theorem exec_heartbeatMiss_within (hl : l < s.build.links) (h : linkOpen (link s l) = false ∨ (link s l).hbMissed < hbLimit s l) :
    exec (.heartbeatMiss l) s = .next s := by
  refine onUnit_next hl (if_neg ?_)
  rcases h with h | h
  · simp [h]
  · simp [h]

theorem exec_creditWait_free (hl : l < s.build.links) (hw : waitsCredit (link s l) c = false) : exec (.creditWait l c) s = .next s :=
  onUnit_next hl (if_pos (by simp [hw]))

/-- A class that waits: ALARM and STROKE make the link faulty, any other one makes it slow. -/
theorem exec_creditWait_waits (hl : l < s.build.links) (hw : waitsCredit (link s l) c = true) : exec (.creditWait l c) s =
    .next (if c ≤ 1 then faulty l 1 (modErr l (fun e => { e with creditTo := satInc 8 e.creditTo }) s) else slowLink l c s) :=
  onUnit_next hl (if_neg (by simp [hw]))

theorem slowLink_eq (l c : Nat) (s : State) : slowLink l c s =
    recordBlock .linkSlow (le 1 l ++ le 1 c ++ zeros 2) (modLink l (fun k => { k with
      state := if k.state = lsUp then lsDegraded else k.state, cause := lcSlow, slowAt := now s
      err := { k.err with creditTo := satInc 8 k.err.creditTo } }) s) := by
  simp only [slowLink, beq_iff_eq]

theorem exec_crcWindow_exceeded (hl : l < s.build.links) (ho : linkOpen (link s l) = true)
    (hx : s.wch.eff.crcMax < lget (link s l).crcWin (n % 2) 0) : exec (.crcWindow l n) s = .next (faulty l 2 s) :=
  onUnit_next hl (if_pos (by simp [ho, hx]))

theorem exec_crcWindow_within (hl : l < s.build.links)
    (h : linkOpen (link s l) = false ∨ lget (link s l).crcWin (n % 2) 0 ≤ s.wch.eff.crcMax) : exec (.crcWindow l n) s = .next s := by
  refine onUnit_next hl (if_neg ?_)
  rcases h with h | h
  · simp [h]
  · simp [Nat.not_lt.mpr h]

theorem exec_degradedRecovery_due (hl : l < s.build.links) (hd : (link s l).state = lsDegraded) (hn : (link s l).slowAt + 10000 ≤ now s) :
    exec (.degradedRecovery l) s = .next (modLink l (fun k => { k with state := lsUp, cause := lcNone }) s) :=
  onUnit_next hl (if_pos (by simp [hd, hn]))

theorem exec_degradedRecovery_early (hl : l < s.build.links) (h : (link s l).state ≠ lsDegraded ∨ now s < (link s l).slowAt + 10000) :
    exec (.degradedRecovery l) s = .next s := by
  refine onUnit_next hl (if_neg ?_)
  rcases h with h | h
  · simp [h]
  · simp [Nat.not_le.mpr h]

/-- A link that has no second lane, or whose CRCs never failed, has no lane to give up. -/
theorem faulty_whole (h : (link s l).width ≠ 2 ∨ (link s l).crcWin.sum = 0) : faulty l c s = toQuarantine l lcFaulty
    (recordBlock .linkFaulty (le 1 l ++ le 1 0xFF ++ le 1 c ++ zeros 1 ++ le 4 (link s l).crcWin.sum) s) := by
  refine if_neg ?_
  rcases h with h | h
  · simp [h]
  · simp [h]

end Partners

/-! ### The ring of fragments (R316) -/

section Fragments

variable {l src : Nat} {f : RecFrag} {s : State}

theorem exec_recordFragment (hl : l < s.build.links) : exec (.recordFragment l src f) s = .next (rxRing src f s) := onUnit_built hl _

theorem rxRing_none (hb : s.wch.rxBase = 0) : rxRing src f s = s := if_pos (by simp [hb])

theorem rxRing_full (hb : s.wch.rxBase ≠ 0) (hf : (s.wch.rxHead + 1) % 65536 = s.wch.rxTail) :
    rxRing src f s = modWch (fun w => { w with rxOverflow := satInc 16 w.rxOverflow }) s :=
  (if_neg (by simp [hb])).trans (if_pos (by simp [hf]))

/-- Of the Watch a fragment that enters the ring moves the head alone; its bytes and the interrupt are the host's. -/
theorem rxRing_wch (hb : s.wch.rxBase ≠ 0) (hf : (s.wch.rxHead + 1) % 65536 ≠ s.wch.rxTail) :
    (rxRing src f s).wch = { s.wch with rxHead := (s.wch.rxHead + 1) % 65536 } := by
  refine (congrArg State.wch ((if_neg (by simp [hb])).trans (if_neg (by simp [hf])))).trans ?_
  exact ((irqSet_frame ..).keeps .wch rfl).symm

end Fragments

/-- Settles O46: each limit is met or not, a class that waits is `exec_creditWait_waits`, a link with no lane to give up is `faulty_whole`, and a
fragment enters the ring by `rxRing_wch` and `rxRing_frame`. -/
theorem linksAreWatchedForFaults : Obligations.LinksAreWatchedForFaults := by
  refine ⟨fun l s hl ho hm => exec_heartbeatMiss_limit hl ho hm, fun l s hl h => exec_heartbeatMiss_within hl h,
    fun l c s hl hw => exec_creditWait_free hl hw, fun l c s hl hw hc => ?_, fun l c s hl hw hc => ?_,
    fun l n s hl ho hx => exec_crcWindow_exceeded hl ho hx, fun l n s hl h => exec_crcWindow_within hl h,
    fun l s hl hd hn => exec_degradedRecovery_due hl hd hn, fun l s hl h => exec_degradedRecovery_early hl h,
    fun l c s h => faulty_whole h, fun l src f s hl hb => ?_, fun l src f s hl hb hf => ?_,
    fun l src f s hl hb hf => ⟨_, exec_recordFragment hl, rxRing_wch hb hf, rxRing_frame ..⟩⟩
  · rw [exec_creditWait_waits hl hw, if_pos hc]
  · rw [exec_creditWait_waits hl hw, if_neg (by omega), slowLink_eq]
  · rw [exec_recordFragment hl, rxRing_none hb]
  · rw [exec_recordFragment hl, rxRing_full hb hf]
    rfl

end Sys2Proof.Machine
end

section
/-!
Broadcast items and routes: a chunk by what is known of its item, an item that stalls, and writes of WCH_BCAST and WCH_ROUTE.
-/
namespace Sys2Proof.Machine

open Sys2Proof

/-! ### Chunks (R314, R315) -/

section Chunks

variable {l src item i : Nat} {bs : List Byte} {x : Bcast} {s : State}

theorem exec_broadcastChunk (hl : l < s.build.links) : exec (.broadcastChunk l src item i bs) s = .next (takeChunk l src item i bs s) :=
  onUnit_built hl _

theorem takeChunk_done (hd : s.wch.doneItems.contains item = true) : takeChunk l src item i bs s = dropChunk s := if_pos hd

/-- A chunk of an item in progress: an old one is dropped, one too early is ignored, and the next one is held against the hash named before it. -/
theorem takeChunk_open (hd : s.wch.doneItems.contains item = false) (hx : s.wch.items.find? (fun y => y.item == item) = some x) :
    takeChunk l src item i bs s = if i < x.got then dropChunk s else if x.got < i then s
      else if Config.sha384 bs = x.next ∧ (i + 1 = x.chunks → zeroAt bs 4048 48 = true) then
        floodChunk (some l) src item i bs (nextChunk x bs s)
      else chunkBad l item i s := by
  refine (if_neg (Bool.eq_false_iff.mp hd)).trans ?_
  rw [hx]
  exact ite_of_iff Iff.rfl rfl (ite_of_iff Iff.rfl rfl (ite_of_iff (by simp [Decidable.imp_iff_not_or]) rfl rfl))

theorem takeChunk_unknown (hd : s.wch.doneItems.contains item = false) (hx : s.wch.items.find? (fun y => y.item == item) = none)
    (hi : i ≠ 0) : takeChunk l src item i bs s = s := by
  refine (if_neg (Bool.eq_false_iff.mp hd)).trans ?_
  rw [hx]
  exact if_pos (by simp [hi])

/-- Chunk 0 of an item that is not known. -/
theorem takeChunk_head (hd : s.wch.doneItems.contains item = false) (hx : s.wch.items.find? (fun y => y.item == item) = none) :
    takeChunk l src item 0 bs s = match chunkHead s bs with
      | some h => if h.item ≠ item then chunkBad l item 0 s
          else if s.wch.items.length < 4 then floodChunk (some l) src item 0 bs (openItem h s) else s
      | none => chunkBad l item 0 s := by
  refine (if_neg (Bool.eq_false_iff.mp hd)).trans ?_
  rw [hx]
  refine (if_neg (by decide)).trans ?_
  cases chunkHead s bs with
  | none => rfl
  | some h =>
    refine ite_of_iff (by simp) rfl ?_
    rw [← ite_not]
    exact ite_of_iff Nat.not_le rfl rfl

/-- An item in progress whose next chunk has not come in 10,000 strokes. -/
def stalled (item : Nat) (s : State) : Bool := s.wch.items.any (fun x => x.item == item && strokesPassed s x.lastAt 10000)

theorem exec_broadcastStall_stalled (h : stalled item s = true) : exec (.broadcastStall item) s =
    .next (modWch (fun w => { w with
      items := w.items.filter (fun x => !(x.item == item)), frags := w.frags.filter (fun b => !(b.item == item)) }) s) :=
  congrArg ok (if_pos h)

theorem exec_broadcastStall_idle (h : stalled item s = false) : exec (.broadcastStall item) s = .next s :=
  congrArg ok (if_neg (Bool.eq_false_iff.mp h))

end Chunks

/-! ### Writes of WCH_BCAST (R315, R317) -/

section ItemWrites

variable {a : Access} {v : Word} {m : MemRead} {bs : List Byte} {s : State}

theorem exec_wchBcast_reaches (hr : reaches s a aWchBcast = true) : exec (.wchBcast a v m) s = .next (busOk (writeBcast v m s)) :=
  congrArg ok (privWrite_reaches hr _)

/-- ADDR of WCH_BCAST as written. -/
def itemAddressed (v : Word) (s : State) : State := modWch (fun w => { w with bcastAddr := fld v 47 0 }) s

theorem writeBcast_notGo (hg : fbit v 63 = false) : writeBcast v m s = itemAddressed v s := if_pos (by simp [hg])

theorem writeBcast_unread (hg : fbit v 63 = true) (h : fld v 11 0 ≠ 0 ∨ m = none) :
    writeBcast v m s = bcResult 4 (itemAddressed v s) := by
  refine (if_neg (by simp [hg])).trans ?_
  by_cases ha : fld v 11 0 = 0
  · rw [h.resolve_left (not_not_intro ha)]
    exact if_neg (by simp [ha])
  · exact if_pos (by simp [ha])

/-- An aligned item that was read: BAD, BUSY with four items open, or flooded. -/
theorem writeBcast_read (hg : fbit v 63 = true) (ha : fld v 11 0 = 0) {t : State} (ht : t = itemAddressed v s) :
    writeBcast v (some bs) s = match itemChunks t bs with
      | none => bcResult 4 t
      | some (h, cs) => if 4 ≤ s.wch.items.length then bcResult 3 t
          else bcResult 2 (forEach (cs.mapIdx (fun i c => (i, c))) (fun p => floodChunk none s.wch.chip h.item p.1 p.2)
            (modWch (fun w => { w with doneItems := (h.item :: w.doneItems).take 16 }) t)) := by
  subst ht
  exact (if_neg (by simp [hg])).trans (if_neg (by simp [ha]))

end ItemWrites

/-! ### Writes of WCH_ROUTE (R306, R317) -/

section RouteWrites

variable {c : Instr} {a : Access} {v : Word} {s : State}

theorem exec_wchRoute_reaches (hr : reaches s a aWchRoute = true) (hc : c = .routeSelect a v ∨ c = .routeWrite a v) :
    exec c s = .next (busOk (writeRoute v s)) := by
  rcases hc with rfl | rfl <;> exact congrArg ok (privWrite_reaches hr _)

theorem writeRoute_selects (hg : fbit v 63 = false) (hi : routeIndexOk v = true) : writeRoute v s =
    modWch (fun w => { w with selTable := fbit v 62, selIndex := fld v 61 51, sel := routeAt s (fbit v 62) (fld v 61 51) }) s :=
  (if_neg (by simp [hg])).trans (if_neg (by simp [hi]))

theorem writeRoute_rewrites (hg : fbit v 63 = true) (hi : routeIndexOk v = true) : writeRoute v s =
    modWch (fun w => { w with
      selTable := fbit v 62, selIndex := fld v 61 51, sel := routeFields v
      routeNext := w.routeNext ++ [(fbit v 62, fld v 61 51, routeFields v)] }) s := (if_pos hg).trans (if_neg (by simp [hi]))

theorem writeRoute_outOfTable (hi : routeIndexOk v = false) : writeRoute v s = s := by
  cases hg : fbit v 63 with
  | true => exact (if_pos hg).trans (if_pos (by simp [hi]))
  | false => exact (if_neg (by simp [hg])).trans (if_pos (by simp [hi]))

end RouteWrites

/-- Settles O47: a chunk is one case of `takeChunk` by what is known of its item, an item stalls or not, and a write of WCH_BCAST or WCH_ROUTE goes
by its GO bit and its fields. -/
theorem broadcastsFloodAndRoutesChange : Obligations.BroadcastsFloodAndRoutesChange := by
  refine ⟨fun l src item i bs s hl hd => ?_, fun l src item i bs x s hl hd hx hi => ?_, fun l src item i bs x s hl hd hx hi => ?_,
    fun l src item i bs s hl hd hx hi => ?_, fun l src item bs s hl hd hx => ?_, fun item s h => exec_broadcastStall_stalled h,
    fun item s h => exec_broadcastStall_idle h, fun a v m s hr hg => ?_, fun a v m s hr hg h => ?_, fun a v bs s t hr hg ha ht => ?_,
    fun c a v s hc hr hg hi => ?_, fun c a v s hc hr hg hi => ?_, fun c a v s hc hr hi => ?_⟩
  · rw [exec_broadcastChunk hl, takeChunk_done hd]
    rfl
  · rw [exec_broadcastChunk hl, takeChunk_open hd hx, if_pos hi]
    rfl
  · rw [exec_broadcastChunk hl, takeChunk_open hd hx, if_neg (by omega), if_neg (by omega)]
  · rw [exec_broadcastChunk hl, takeChunk_unknown hd hx hi]
  · rw [exec_broadcastChunk hl, takeChunk_head hd hx]
    rfl
  · rw [exec_wchBcast_reaches hr, writeBcast_notGo hg]
    rfl
  · rw [exec_wchBcast_reaches hr, writeBcast_unread hg h]
    rfl
  · rw [exec_wchBcast_reaches hr, writeBcast_read hg ha ht]
    subst ht
    rfl
  · rw [exec_wchRoute_reaches hr hc, writeRoute_selects hg hi]
    rfl
  · rw [exec_wchRoute_reaches hr hc, writeRoute_rewrites hg hi]
    rfl
  · rw [exec_wchRoute_reaches hr hc, writeRoute_outOfTable hi]

end Sys2Proof.Machine
end

section
/-!
Cold reset, resets of the CONTROL domain with the self-faults that start one, and the step of the block.
-/
namespace Sys2Proof.Machine

open Sys2Proof

/-- Settles O56: `step` is the match on the queue that the statement spells. -/
theorem aStepRunsTheFrontCommand : Obligations.AStepRunsTheFrontCommand := by
  refine ⟨fun c s rest h => ?_, fun c s => rfl, fun s h => ?_⟩
  · rw [step, h]
  · rw [step, h]

/-! ### Cold reset (R374, R375, R394) -/

section ColdReset

variable {s : State}

theorem exec_coldResetAssert (n : Nat) (s : State) :
    exec (.coldResetAssert n) s = .next (coldReset (if s.boot.inReset then s else commitSome n (sealQuietly s))) := rfl

/-- What is committed while the power lasts goes to the record store: a cold reset finds the build, the fuses and the queue as they were. -/
theorem commitSealed_keeps (n : Nat) (s : State) : (commitSome n (sealQuietly s)).build = s.build ∧
    (commitSome n (sealQuietly s)).life = s.life ∧ (commitSome n (sealQuietly s)).pending = s.pending := by
  have hframe := commitSome_frame n (sealQuietly s)
  exact ⟨(hframe.keeps .build rfl).symm, hframe.life_eq rfl, (hframe.keeps .pending rfl).symm⟩

theorem coldReset_eq {u : State} (hb : u.build = s.build) (hl : u.life = s.life) (hp : u.pending = s.pending) :
    coldReset u = { State.reset with
      build := s.build, cpy := resetPools s.build, nvm := (coldReset u).nvm, life := { ({} : Life) with otp := s.life.otp }
      outs := (coldReset u).outs, fresh := (coldReset u).fresh, nextTag := (coldReset u).nextTag, pending := s.pending } := by
  rw [← hb, ← hl, ← hp]
  rfl

theorem exec_coldResetDeassert_inReset (x : Straps) (h : s.boot.inReset = true) :
    exec (.coldResetDeassert x) s = .next (sampleStraps x s) := congrArg ok (if_pos h)

theorem exec_coldResetDeassert_running (x : Straps) (h : s.boot.inReset = false) : exec (.coldResetDeassert x) s = .next s :=
  congrArg ok (if_neg (by simp [h]))

/-- The encoding 3 of STRAP_STROKE_SRC acts as 1 (R14, R394). -/
theorem sampleStraps_eq (x : Straps) (s : State) : sampleStraps x s = { s with
    straps := x
    stk := { s.stk with source := if x.strokeSrc = 3 then 1 else x.strokeSrc }
    wch := { s.wch with cfg := { s.wch.cfg with linkEn := x.links }, eff := { s.wch.eff with linkEn := x.links } }
    boot := { s.boot with inReset := false, stage := 2, strapInvalid := badStraps x } } := by
  simp [sampleStraps, modStk, modWch, modBoot]

end ColdReset

/-- Settles O1: `coldReset` builds on the state after reset, and `commitSealed_keeps` says what it takes over of a block that was running. -/
theorem coldResetRestoresResetValues : Obligations.ColdResetRestoresResetValues := by
  refine ⟨fun n s => ⟨_, exec_coldResetAssert n s, ?_, rfl, fun h => ?_⟩, fun x s h => ?_, fun x s h => exec_coldResetDeassert_running x h⟩
  · obtain ⟨hb, hl, hp⟩ := commitSealed_keeps n s
    split
    · exact coldReset_eq rfl rfl rfl
    · exact coldReset_eq hb hl hp
  · rw [if_pos h]
    rfl
  · rw [exec_coldResetDeassert_inReset x h, sampleStraps_eq]

/-! ### What a CONTROL reset clears (R374, R377, R405) -/

section Resets

variable {r : DomReset} {s : State}

/-- The power window after a CONTROL reset: RAMP keeps its value where it is locked (R405). -/
def clearedPwr (p : Pwr) : Pwr := { p with ramp := if p.lock then p.ramp else 8, restore := 10, forceShed := 0 }

theorem clearWindows_pwr (s : State) : (clearWindows s).pwr = clearedPwr s.pwr := rfl

/-- Nothing that a CONTROL reset clears before the windows is in the power window. -/
theorem clearControl_pwr (s : State) : (clearControl s).pwr = clearedPwr s.pwr := by
  have hkeep : Frame [.ldg, .nvm, .energies, .gnd, .sents, .parts, .epochs, .chks, .scr, .taint, .rcv, .wch, .slots, .mem, .nextTag, .outs,
      .fresh, .judged, .cpy, .dgt] s (clearRecovery (clearCopyRegs (clearTree (abortHold scReset (freezeTraces s))))) :=
    .after (clearRecovery_frame _) rfl (.after (clearCopyRegs_frame _) rfl (.after (clearTree_frame _) rfl
      (.after (abortHold_frame ..) rfl (.within (freezeTraces_frame s) rfl))))
  simp only [clearControl, modGnd_fields, modBoot_fields, clearWindows_pwr]
  rw [← hkeep.keeps .pwr rfl]

/-- Bring-up is back at step 2, and no check is left (R377). -/
theorem clearControl_bringup (s : State) : (clearControl s).boot.stage = 2 ∧ (clearControl s).boot.ready = false ∧
    (clearControl s).boot.attached = false ∧ (clearControl s).gnd.done = false ∧ (clearControl s).chks = [] := ⟨rfl, rfl, rfl, rfl, rfl⟩

/-! ### Starting a reset (R376) -/

/-- The power window once a reset is running and counted. -/
def resetNoted (r : DomReset) (p : Pwr) : Pwr := { p with
  running := p.running ++ [r], last := r.cause
  coreResets := if r.domain == dmCore then satInc 16 p.coreResets else p.coreResets
  controlResets := if r.domain == dmControl then satInc 16 p.controlResets else p.controlResets }

theorem startReset_again (h : domainReset s r.domain = true) (alarm : Nat) : startReset alarm r s = s := if_pos h

theorem startReset_new (h : domainReset s r.domain = false) (alarm : Nat) : startReset alarm r s =
    (if r.domain == dmCore then clearCore else clearControl) (modPwr (resetNoted r) (resetLeave alarm s)) := if_neg (by simp [h])

theorem resetLeave_pwr (alarm : Nat) (s : State) : (resetLeave alarm s).pwr = s.pwr := ((resetLeave_frame alarm s).keeps .pwr rfl).symm

theorem startReset_new_pwr (h : domainReset s r.domain = false) (alarm : Nat) : (startReset alarm r s).pwr =
    if r.domain == dmCore then resetNoted r s.pwr else clearedPwr (resetNoted r s.pwr) := by
  rw [startReset_new h]
  split
  · exact ((clearCore_frame _).keeps .pwr rfl).symm.trans (congrArg (resetNoted r) (resetLeave_pwr alarm s))
  · exact (clearControl_pwr _).trans (congrArg (fun p => clearedPwr (resetNoted r p)) (resetLeave_pwr alarm s))

/-- A CONTROL reset that starts is recorded and counted, and what its domain holds is cleared. -/
theorem startReset_control (hr : r.domain = 3) (h : domainReset s 3 = false) (alarm : Nat) :
    (startReset alarm r s).pwr = clearedPwr (resetNoted r s.pwr) ∧ (startReset alarm r s).boot.stage = 2 ∧
    (startReset alarm r s).boot.ready = false ∧ (startReset alarm r s).boot.attached = false ∧
    (startReset alarm r s).gnd.done = false ∧ (startReset alarm r s).chks = [] := by
  have hnew : domainReset s r.domain = false := by rw [hr, h]
  have hcore : (r.domain == dmCore) = false := by rw [hr]; rfl
  refine ⟨(startReset_new_pwr hnew alarm).trans (if_neg (by simp [hcore])), ?_⟩
  rw [startReset_new hnew, hcore]
  exact clearControl_bringup _

/-- The stroke, its configuration and the straps are outside both domains, and so are the mailboxes and the access that starts a reset (R13). -/
theorem startReset_keeps (alarm : Nat) (r : DomReset) (s : State) : (startReset alarm r s).bus = s.bus ∧
    (startReset alarm r s).stk = s.stk ∧ (startReset alarm r s).tcfg = s.tcfg ∧ (startReset alarm r s).straps = s.straps ∧
    (startReset alarm r s).mbxs = s.mbxs := by
  have hframe := startReset_frame alarm r s
  exact ⟨(hframe.keeps .bus rfl).symm, (hframe.keeps .stk rfl).symm, (hframe.keeps .tcfg rfl).symm, hframe.straps_eq rfl,
    (hframe.keeps .mbxs rfl).symm⟩

theorem exec_controlReset_control {a : Access} {v : Word} (hr : reaches s a aPwrReset = true) (hc : fbit v 62 = true)
    (hn : fbit v 63 = false) : exec (.controlReset a v) s = .next (busOk (startReset acManual { domain := 3, cause := 1 } s)) := by
  have hwrite : resetWrite v s = startReset acManual { domain := dmControl, cause := rcSlot } s := by
    rw [resetWrite, hc, hn]
    rfl
  exact congrArg ok ((privWrite_reaches hr _).trans (congrArg busOk hwrite))

theorem exec_wardenWatchdog_running (h : s.boot.inReset = false) :
    exec .wardenWatchdog s = .next (startReset acManual { domain := 3, cause := 4 } s) := congrArg ok (if_neg (by simp [h]))

/-! ### Self-faults (R378, R379) -/

/-- A reset that starts leaves the self-faults as they were, and it runs, alone or within one of its domain. -/
theorem startReset_runs (alarm : Nat) (r : DomReset) (s : State) : domainReset (startReset alarm r s) r.domain = true ∧
    (startReset alarm r s).pwr.selfFaults = s.pwr.selfFaults ∧
    (startReset alarm r s).pwr.lastSelfFault = s.pwr.lastSelfFault ∧
    (domainReset s r.domain = false → (startReset alarm r s).pwr.last = r.cause) := by
  cases h : domainReset s r.domain with
  | true =>
    rw [startReset_again h]
    exact ⟨h, rfl, rfl, fun hf => nomatch hf⟩
  | false =>
    rw [domainReset, startReset_new_pwr h]
    split
    · simp [resetNoted]
    · simp [resetNoted, clearedPwr]

/-- The block once a self-fault is recorded and counted. -/
def faultNoted (r : DomReset) (s : State) : State :=
  modPwr (fun p => { p with selfFaults := satInc 16 p.selfFaults, lastSelfFault := some (now s) })
    (recordBlock .selfFault (faultBody r.cause r.domain r.row r.expected r.found) s)

theorem faultNoted_pwr (r : DomReset) (s : State) : (faultNoted r s).pwr =
    { s.pwr with selfFaults := satInc 16 s.pwr.selfFaults, lastSelfFault := some (now s) } :=
  congrArg (fun p : Pwr => { p with selfFaults := satInc 16 p.selfFaults, lastSelfFault := some (now s) })
    ((recordBlock_frame .selfFault _ s).keeps .pwr rfl).symm

/-- A mismatch of a CORE or CONTROL pair acts by a reset of its domain; a second self-fault holds the partitions besides. -/
theorem selfFault_lockstep {d : Nat} (hd : d = 2 ∨ d = 3) (s : State) :
    (selfFault { domain := d, cause := rcLockstep } 0 0 s).pwr =
      (startReset acSelfFault { domain := d, cause := rcLockstep } (faultNoted { domain := d, cause := rcLockstep } s)).pwr := by
  have hact : faultAct { domain := d, cause := rcLockstep } 0 0 = startReset acSelfFault { domain := d, cause := rcLockstep } := by
    rcases hd with rfl | rfl <;> rfl
  rw [← hact]
  exact whenB_keeps (g := State.pwr) (f := fun x => reportPfm "SELF_FAULT" (holdAll x)) (fun x => ((holdAll_frame x).keeps .pwr rfl).symm)
    (secondFault s) _

theorem exec_lockstepMismatch_running (h : s.boot.inReset = false) (d : Nat) :
    exec (.lockstepMismatch d) s = .next (selfFault { domain := d, cause := rcLockstep } 0 0 s) := congrArg ok (if_neg (by simp [h]))

end Resets

/-- Settles O3: `startReset_control` for a CONTROL reset and `startReset_keeps` for what it leaves; a mismatch of a pair is a self-fault that
starts a reset (`selfFault_lockstep`, `startReset_runs`). -/
theorem controlResetAndSelfFaults : Obligations.ControlResetAndSelfFaults := by
  refine ⟨fun a v s hr hc hn hd => ⟨_, exec_controlReset_control hr hc hn, ?_⟩,
    fun s h hd => ⟨_, exec_wardenWatchdog_running h, ?_⟩, fun d s h hd => ⟨_, exec_lockstepMismatch_running h d, ?_⟩⟩
  · obtain ⟨hpwr, hstage, hready, hattached, hdone, hchks⟩ := startReset_control (r := { domain := 3, cause := 1 }) rfl hd acManual
    obtain ⟨-, hstk, htcfg, hstraps, hmbxs⟩ := startReset_keeps acManual { domain := 3, cause := 1 } s
    exact ⟨hpwr, hstage, hready, hattached, hdone, hchks, rfl, hstk, htcfg, hstraps, hmbxs⟩
  · obtain ⟨hpwr, hstage, hready, hattached, hdone, hchks⟩ := startReset_control (r := { domain := 3, cause := 4 }) rfl hd acManual
    exact ⟨hpwr, hstage, hready, hattached, hdone, hchks, startReset_keeps ..⟩
  · obtain ⟨hruns, hfaults, hlast, hcause⟩ :=
      startReset_runs acSelfFault { domain := d, cause := rcLockstep } (faultNoted { domain := d, cause := rcLockstep } s)
    have hframe := selfFault_frame { domain := d, cause := rcLockstep } 0 0 s
    rw [domainReset] at hruns
    rw [domainReset, faultNoted_pwr] at hcause
    rw [faultNoted_pwr] at hfaults hlast
    rw [domainReset, selfFault_lockstep hd]
    exact ⟨hruns, hfaults, hlast, hcause, (hframe.keeps .stk rfl).symm, (hframe.keeps .tcfg rfl).symm, hframe.straps_eq rfl,
      (hframe.keeps .bus rfl).symm⟩

end Sys2Proof.Machine
end

section
/-!
The commands of PWR_LC_CMD: what a write of the register runs, and how each operation starts or is refused.
-/
namespace Sys2Proof.Machine

open Sys2Proof

/-! ### Writes of PWR_LC_CMD (R390 to R393, R399) -/

section LifeCycle

variable {a : Access} {v : Word} {b : MemRead} {s : State}

/-- The five commands are one register; a DEVKEY reads no block. -/
theorem exec_lifeCycle_reaches {c : Instr} (hr : reaches s a aPwrLcCmd = true) (hc : c = .devkey a v ∨ c = .provision a v b ∨
    c = .lifecycleReturn a v b ∨ c = .serial a v b ∨ c = .revoke a v b) : ∃ m, exec c s = .next (busOk (lcWrite v m s)) := by
  rcases hc with rfl | rfl | rfl | rfl | rfl
  · exact ⟨none, congrArg ok (privWrite_reaches hr _)⟩
  all_goals exact ⟨b, congrArg ok (privWrite_reaches hr _)⟩

/-- The block once ADDR is taken. -/
def lcAddressed (v : Word) (s : State) : State := { s with life := { s.life with addr := fld v 47 0 } }

theorem lcWrite_notGo (hg : fbit v 63 = false) (b : MemRead) : lcWrite v b s = lcAddressed v s := by
  rw [lcWrite, hg]
  rfl

theorem lcWrite_go (hg : fbit v 63 = true) (b : MemRead) : lcWrite v b s = lcGo (fld v 62 60) b (lcAddressed v s) := by
  rw [lcWrite, hg]
  rfl

theorem exec_devkey_go (hr : reaches s a aPwrLcCmd = true) (hg : fbit v 63 = true) :
    exec (.devkey a v) s = .next (busOk (lcGo (fld v 62 60) none (lcAddressed v s))) :=
  congrArg ok ((privWrite_reaches hr _).trans (congrArg busOk (lcWrite_go hg none)))

theorem exec_lifeCycle_go {c : Instr} (hr : reaches s a aPwrLcCmd = true) (hg : fbit v 63 = true) (hc : c = .provision a v b ∨
    c = .lifecycleReturn a v b ∨ c = .serial a v b ∨ c = .revoke a v b) :
    exec c s = .next (busOk (lcGo (fld v 62 60) b (lcAddressed v s))) := by
  rcases hc with rfl | rfl | rfl | rfl <;>
    exact congrArg ok ((privWrite_reaches hr _).trans (congrArg busOk (lcWrite_go hg b)))

/-! ### What GO runs -/

theorem lcGo_burning (h : s.life.req.isSome = true) (op : Nat) (b : MemRead) : lcGo op b s = lcResult plRetry s := if_pos h

/-- With no burn under way, OP chooses among the rows of the table. -/
theorem lcGo_idle (h : s.life.req = none) (op : Nat) (b : MemRead) : lcGo op b s =
    if op = 1 then devkeyGo s else if op = 2 then provisionGo b s else if op = 3 then returnGo b s
    else if op = 4 ∨ op = 5 then lockGo op b s else lcReject op plBadBlock s := by
  simp [lcGo, h, opDevkey, opProvision, opReturn, opSerial, opRevoke]

theorem lcGo_undefined (h : s.life.req = none) {op : Nat} (ho : op = 0 ∨ 5 < op) (b : MemRead) :
    lcGo op b s = lcReject op plBadBlock s := by
  rw [lcGo_idle h, if_neg (by omega), if_neg (by omega), if_neg (by omega), if_neg (by omega)]

theorem lcGo_devkey (h : s.life.req = none) {op : Nat} (ho : op = 1) (b : MemRead) : lcGo op b s = devkeyGo s := by
  rw [lcGo_idle h, if_pos ho]

theorem lcGo_provision (h : s.life.req = none) {op : Nat} (ho : op = 2) (b : MemRead) : lcGo op b s = provisionGo b s := by
  rw [lcGo_idle h, if_neg (by omega), if_pos ho]

theorem lcGo_return (h : s.life.req = none) {op : Nat} (ho : op = 3) (b : MemRead) : lcGo op b s = returnGo b s := by
  rw [lcGo_idle h, if_neg (by omega), if_neg (by omega), if_pos ho]

theorem lcGo_lock (h : s.life.req = none) {op : Nat} (ho : op = 4 ∨ op = 5) (b : MemRead) : lcGo op b s = lockGo op b s := by
  rw [lcGo_idle h, if_neg (by omega), if_neg (by omega), if_neg (by omega), if_pos ho]

theorem devkeyGo_writes (ha : s.life.addr % 64 = 0) (hl : lifeState s ≠ 2) : devkeyGo s =
    lcResult plDone (memWrite s.life.addr false (fit 96 (Config.publicKey (deviceScalar s))) s) := by
  simp [devkeyGo, ha, hl]

theorem provisionGo_eq (b : MemRead) (s : State) : provisionGo b s =
    if provisionCheck s b ≠ plRunning then lcReject opProvision (provisionCheck s b) s
    else if provisionBurns s (bundleKeys s (b.getD [])) = [] then provisionEnd (lifeState s) (bundleKeys s (b.getD [])) s
    else startBurns (provisionBurns s (bundleKeys s (b.getD []))) s := by
  simp [provisionGo]

theorem returnGo_passed (h : returnCheck s b = plRunning) : returnGo b s =
    startBurns [{ addr := 0x0A, bits := 2, op := 3 }] { s with nvm := { s.nvm with authCtr := rd (b.getD []) 16 4 } } :=
  if_neg (by simp [h])

theorem returnGo_refused (h : returnCheck s b ≠ plRunning) : returnGo b s = lcReject 3 (returnCheck s b) s := if_pos (by simp [h])

theorem lockGo_eq (op : Nat) (b : MemRead) (s : State) : lockGo op b s =
    if lockCheck op s b ≠ plRunning then lcReject op (lockCheck op s b) s
    else startBurns [lockBurn op s (b.getD [])] { s with nvm := { s.nvm with authCtr := rd (b.getD []) 16 4 } } := by
  simp [lockGo, commitCounter, modNvm]

end LifeCycle

/-- Settles O31: the five commands write one register (`exec_lifeCycle_reaches`), whose GO is one case of `lcGo_idle`. -/
theorem lifeCycleCommandsRun : Obligations.LifeCycleCommandsRun := by
  refine ⟨fun a v b c s hr hc hg => ?_, fun a v b c s hr hc hg hq => ?_, fun a v b c s hr hc hg hq ho => ?_,
    fun a v s hr hg ho hq ha hl => ?_, fun a v b s hr hg ho hq => ⟨_, rfl, ?_⟩, fun a v b s hr hg ho hq hk => ?_,
    fun a v b s hr hg ho hq hk => ?_, fun a v b c s hr hg hc hq => ⟨_, rfl, ?_⟩, fun r q s => rfl⟩
  · obtain ⟨m, hm⟩ := exec_lifeCycle_reaches hr hc
    rw [hm, lcWrite_notGo hg]
    rfl
  · obtain ⟨m, hm⟩ := exec_lifeCycle_reaches hr hc
    rw [hm, lcWrite_go hg, lcGo_burning (s := lcAddressed v s) hq]
    rfl
  · obtain ⟨m, hm⟩ := exec_lifeCycle_reaches hr hc
    rw [hm, lcWrite_go hg, lcGo_undefined (s := lcAddressed v s) hq ho]
    rfl
  · rw [exec_devkey_go hr hg, lcGo_devkey (s := lcAddressed v s) hq ho, devkeyGo_writes (s := lcAddressed v s) ha hl]
    rfl
  · rw [exec_lifeCycle_go hr hg (.inl rfl), lcGo_provision (s := lcAddressed v s) hq ho, provisionGo_eq]
    rfl
  · rw [exec_lifeCycle_go hr hg (.inr (.inl rfl)), lcGo_return (s := lcAddressed v s) hq ho, returnGo_passed (s := lcAddressed v s) hk]
    rfl
  · rw [exec_lifeCycle_go hr hg (.inr (.inl rfl)), lcGo_return (s := lcAddressed v s) hq ho, returnGo_refused (s := lcAddressed v s) hk]
    rfl
  · have hop : fld v 62 60 = 4 ∨ fld v 62 60 = 5 := hc.imp And.right And.right
    have hlock : c = .serial a v b ∨ c = .revoke a v b := hc.imp And.left And.left
    rw [exec_lifeCycle_go hr hg (.inr (.inr hlock)), lcGo_lock (s := lcAddressed v s) hq hop, lockGo_eq]
    rfl

end Sys2Proof.Machine
end

section
/-!
The mailboxes of a slot: registers of a channel, posts, pops and flushes, doorbells, and the power of a slot's domain.
-/
namespace Sys2Proof.Machine

open Sys2Proof

/-! ### Registers of a channel (R325, R339) -/

section ChannelRegisters

variable {a : Access} {n c off : Nat} {s : State}

/-- A register of a channel of slot `n` lies in that slot's window. -/
theorem aMbx_window (hn : n < 16) (hc : c < 2) (ho : off < 0x100) : inSlot (aMbx n c off) = true ∧ slotOfAddr (aMbx n c off) = n ∧
    slotOff (aMbx n c off) = 0x100 + 0x100 * c + off := by
  refine ⟨?_, ?_, ?_⟩
  · rw [inSlot, aMbx, aSlot, Bool.and_eq_true, decide_eq_true_eq, decide_eq_true_eq]
    omega
  · simp only [slotOfAddr, aMbx, aSlot]
    omega
  · simp only [slotOff, aMbx, aSlot]
    omega

theorem writeFields_ptr (hn : n < 16) (hc : c < 2) (a : Access) (v : Word) (s : State) :
    writeFields a (aMbx n c 0) v s = modMbx n c (fun m => { m with ptr := fld v 47 0 }) s := by
  obtain ⟨hin, hslot, hoff⟩ := aMbx_window (off := 0) hn hc (by omega)
  have hchan : c = 0 ∨ c = 1 := by omega
  rw [writeFields, hin, hslot, hoff]
  rcases hchan with rfl | rfl <;> rfl

theorem readReg_mbx (hn : n < 16) (hc : c < 2) (ho : off = 0x10 ∨ off = 0x18) : readReg s a (aMbx n c off) = readMbx s n c off := by
  have hlow : ¬ aMbx n c off < 0x10000 := by simp only [aMbx, aSlot]; omega
  have hhigh : aMbx n c off < 0x110000 := by simp only [aMbx, aSlot]; omega
  have hslot : (aMbx n c off - 0x10000) / 0x10000 = n := by simp only [aMbx, aSlot]; omega
  have hoff : aMbx n c off % 0x10000 = 0x100 + 0x100 * c + off := by simp only [aMbx, aSlot]; omega
  have hchan : c = 0 ∨ c = 1 := by omega
  rw [readReg, if_neg hlow, if_pos hhigh, hslot, hoff]
  rcases hchan with rfl | rfl <;> rcases ho with rfl | rfl <;> rfl

theorem readMbx_empty (h : (mbx s n c).toHost = []) : readMbx s n c 0x10 = 0 ∧ readMbx s n c 0x18 = 0 := by
  simp [readMbx, h]

theorem readMbx_response {x : Notice} {xs : List Notice} {st len : Nat} (h : (mbx s n c).toHost = x :: xs) (hx : x.answer = some (st, len)) :
    readMbx s n c 0x10 = word [at_ 6 42 (x.ptr / 64), 1] ∧ readMbx s n c 0x18 = word [at_ 60 4 st, at_ 32 28 len, at_ 0 32 x.tag] := by
  simp [readMbx, h, hx]

end ChannelRegisters

/-! ### Posts and pops (R325, R330) -/

section Posts

variable {a : Access} {n c : Nat} {v : Word} {s : State}

theorem exec_mailboxPost_reaches (hr : reachesOwn s a n (c == 1) = true) : exec (.mailboxPost a n c v) s = .next (postNotice n c v (busOk s)) := by
  simp only [reachesOwn, Bool.and_eq_true, Bool.not_eq_true', Bool.or_eq_true] at hr
  obtain ⟨⟨hrun, hslot⟩, hsec⟩ := hr
  have hdenied : (c == 1 && !a.sec && !privileged s a) = false := by
    rcases hsec with (h | h) | h <;> simp [h]
  exact congrArg ok ((if_neg (by simp [hrun])).trans (if_neg (by simp [hslot, hdenied])))

theorem postNotice_commits (hl : (mbx s n c).toBlock.length < 4) (hf : (mbx s n c).flushing = false) : postNotice n c v (busOk s) =
    busOk (modMbx n c (fun m => { m with
      toBlock := m.toBlock ++ [{ ptr := m.ptr, len := fld v 63 32, tag := fld v 31 0 }], posted := satInc 16 m.posted }) s) := by
  have hroom : ¬ (4 ≤ (mbx (busOk s) n c).toBlock.length || (mbx (busOk s) n c).flushing) = true := by
    simpa [mbx, Nat.not_le] using And.intro hl hf
  exact if_neg hroom

theorem postNotice_refused (h : 4 ≤ (mbx s n c).toBlock.length ∨ (mbx s n c).flushing = true) : postNotice n c v (busOk s) =
    busErr (modMbx n c (fun m => { m with fullErrs := satInc 16 m.fullErrs }) s) := by
  have hfull : (4 ≤ (mbx (busOk s) n c).toBlock.length || (mbx (busOk s) n c).flushing) = true := by
    simpa [mbx] using h
  exact if_pos hfull

theorem exec_pop_reaches (hr : reachesOwn s a n (c == 1) = true) : exec (.pop a n c) s = .next (busOk (popNotice n c s)) :=
  congrArg ok (ownWrite_reaches hr ..)

theorem popNotice_empty (h : (mbx s n c).toHost = []) : popNotice n c s = modMbx n c (fun m => { m with underflow := true }) s :=
  if_pos (by simp [h])

theorem popNotice_frees (h : (mbx s n c).toHost ≠ []) :
    popNotice n c s = settleChan n c (modMbx n c (fun m => { m with toHost := m.toHost.tail }) s) := if_neg (by simp [h])

end Posts

/-! ### What leaves IN_SERVICE (R326, R329, R331) -/

section Settling

variable {m : Mbx} {n c : Nat} {s : State}

theorem settleOne_none (h : leaver m = none) : settleOne m = m := by simp [settleOne, h]

theorem settle_none (h : leaver m = none) : settle m = m := by simp only [settle, settleOne_none h]

theorem leaver_nil (h : m.inService = []) : leaver m = none := by simp [leaver, h]

/-- With one notice leaving there is nothing more to settle. -/
theorem settle_of_settleOne {m' : Mbx} (h : settleOne m = m') (h' : m'.inService = []) : settle m = m' := by
  rw [settle, h, settleOne_none (leaver_nil h'), settleOne_none (leaver_nil h'), settleOne_none (leaver_nil h')]

theorem settle_discards {x : Notice} {y : Nat × Nat} (hs : m.inService = [x]) (hy : x.answer = some y) (hd : x.discard = true) :
    settle m = { m with inService := [], flushing := false } := by
  have hleaver : leaver m = some 0 := by simp [leaver, hs, hy, hd]
  refine settle_of_settleOne ?_ rfl
  simp [settleOne, hleaver, hs, hd]

theorem settle_returns {x : Notice} {y : Nat × Nat} (hs : m.inService = [x]) (hy : x.answer = some y) (hd : x.discard = false)
    (hl : m.toHost.length < 4) : settle m = { m with inService := [], toHost := m.toHost ++ [x], flushing := false } := by
  have hleaver : leaver m = some 0 := by simp [leaver, hs, hy, hl]
  refine settle_of_settleOne ?_ rfl
  simp [settleOne, hleaver, hs, hd]

/-- Settling a channel changes its mailbox as `settle` says, and beside it a wake event alone. -/
theorem mbx_settleChan (n c : Nat) (s : State) : mbx (settleChan n c s) n c = settle (mbx s n c) :=
  (whenB_keeps (g := fun x => mbx x n c) (f := modSlot n (fun w => { w with wakeEvent := true })) (fun _ => rfl) _ _).trans (mbx_modMbx_same ..)

end Settling

/-- Settles O48: a channel's registers are found by `aMbx_window` and `readReg_mbx`; a post and a pop go by what the queues hold. -/
theorem mailboxPostsCommitAndPopsFree : Obligations.MailboxPostsCommitAndPopsFree := by
  refine ⟨fun a n c v s hn hc hr hd => ?_, fun a n c v s hr hl hf => ?_, fun a n c v s hr h => ?_, fun a n c s hn hc h => ?_,
    fun a n c st len x xs s hn hc h hx => ?_, fun a n c s hr h => ?_, fun a n c s hr h => ?_, fun n c s h => ?_⟩
  · rw [exec_registerWrite, registerWrite_admitted hr hd, writeFields_ptr hn hc]
  · rw [exec_mailboxPost_reaches hr, postNotice_commits hl hf]
  · rw [exec_mailboxPost_reaches hr, postNotice_refused h]
  · rw [readReg_mbx hn hc (.inl rfl), readReg_mbx hn hc (.inr rfl)]
    exact readMbx_empty h
  · rw [readReg_mbx hn hc (.inl rfl), readReg_mbx hn hc (.inr rfl)]
    exact readMbx_response h hx
  · rw [exec_pop_reaches hr, popNotice_empty h]
  · rw [exec_pop_reaches hr, popNotice_frees h]
  · rw [mbx_settleChan, settle_none h]

/-! ### Flushes and doorbells (R331, R333) -/

section Flushes

variable {a : Access} {n c : Nat} {v : Word} {s : State}

/-- A channel whose queues are emptied, and whose notices in service complete silently. -/
def flushed (m : Mbx) : Mbx := settle { m with
  toBlock := [], toHost := [], inService := m.inService.map (fun x => { x with discard := true }), flushing := !m.inService.isEmpty }

theorem exec_flush_reaches (hr : reachesOwn s a n (c == 1) = true) : exec (.flush a n c) s = .next (busOk (flushChan n c s)) :=
  congrArg ok (ownWrite_reaches hr ..)

theorem flushChan_room (h : (mbx s n c).toBlock.length < 4) : flushChan n c s = modMbx n c flushed s := by
  have hroom : decide (4 ≤ (mbx s n c).toBlock.length) = false := by simpa using h
  rw [flushChan, hroom]
  rfl

/-- A flush of a full TO_BLOCK makes room, and raises its space interrupt. -/
theorem flushChan_full (h : 4 ≤ (mbx s n c).toBlock.length) :
    flushChan n c s = modMbx n c flushed (irqSet n (if c = 0 then irqMb0Space else irqMb1Space) s) := by
  simp only [flushChan, h, decide_true, whenB_true, beq_iff_eq]
  rfl

theorem exec_doorbell_reaches (hr : reachesOwn s a n false = true) : exec (.doorbell a n v) s = .next (busOk (ringBell n v s)) :=
  congrArg ok (ownWrite_reaches hr ..)

/-! ### Who is denied (R321) -/

/-- A view that a slot's own window keeps out: another slot's, or one without HS_SEC at a secure channel. -/
theorem ownView_denied {secure : Bool} (h : a.slot ≠ n ∨ (secure = true ∧ a.sec = false ∧ privileged s a = false)) :
    (!(a.slot == n) || (secure && !a.sec && !privileged s a)) = true := by
  rcases h with h | ⟨h1, h2, h3⟩
  · simp [h]
  · simp [h1, h2, h3]

theorem ownWrite_denied {secure : Bool} (hr : s.boot.inReset = false) (h : a.slot ≠ n ∨ (secure = true ∧ a.sec = false ∧ privileged s a = false))
    (addr : Nat) (f : State → State) : ownWrite a n secure addr f s = deny a true false addr s :=
  (if_neg (by simp [hr])).trans (if_pos (ownView_denied h))

theorem exec_channel_denied {i : Instr} {off : Nat} (hi : (i = .mailboxPost a n c v ∧ off = 0x08) ∨ (i = .pop a n c ∧ off = 0x20) ∨
    (i = .flush a n c ∧ off = 0x20)) (hr : s.boot.inReset = false)
    (h : a.slot ≠ n ∨ (c = 1 ∧ a.sec = false ∧ privileged s a = false)) : exec i s = .next (deny a true false (aMbx n c off) s) := by
  have hown : a.slot ≠ n ∨ ((c == 1) = true ∧ a.sec = false ∧ privileged s a = false) := by simpa using h
  rcases hi with ⟨rfl, rfl⟩ | ⟨rfl, rfl⟩ | ⟨rfl, rfl⟩
  · exact congrArg ok ((if_neg (by simp [hr])).trans (if_pos (ownView_denied hown)))
  · exact congrArg ok (ownWrite_denied hr hown ..)
  · exact congrArg ok (ownWrite_denied hr hown ..)

end Flushes

/-- Settles O49: `flushChan` with and without a full TO_BLOCK, `settle` by the one notice that leaves, and `deny` for every other view. -/
theorem flushesDoorbellsAndSlotPower : Obligations.FlushesDoorbellsAndSlotPower := by
  refine ⟨fun a n c s hr h => ?_, fun a n c s hr h => ?_, fun m h _ => settle_none (leaver_nil h), fun m x y hs hy hd => settle_discards hs hy hd,
    fun m x y hs hy hd hl => settle_returns hs hy hd hl, fun a n v s hr => exec_doorbell_reaches hr,
    fun i a n k off v s hi hr h => exec_channel_denied hi hr h,
    fun a n v s hr h => congrArg ok (ownWrite_denied hr (.inl h) ..), fun n s => rfl, fun n s => rfl⟩
  · rw [exec_flush_reaches hr, flushChan_room h]
    rfl
  · rw [exec_flush_reaches hr, flushChan_full h]
    rfl

end Sys2Proof.Machine
end

section
/-!
The services of the mailboxes: each answers the notice that it was called for, and changes nothing for another.
-/
namespace Sys2Proof.Machine

open Sys2Proof

section Services

variable {n c i svc st : Nat} {x : Notice} {bs : List Byte} {s : State}

/-! ### Answers (R328, R331) -/

/-- Nothing is written for a notice that a flush discards, or when there is no data. -/
theorem answerWith_silent (h : x.discard = true ∨ bs = []) : answerWith n c i st x bs s = answerNotice n c i st bs.length s := by
  have hskip : (!x.discard && !bs.isEmpty) = false := by
    rcases h with h | h <;> simp [h]
  rw [answerWith, hskip]
  rfl

theorem answerWith_writes (hd : x.discard = false) (hb : bs ≠ []) : answerWith n c i st x bs s =
    answerNotice n c i st bs.length (issueMem .mailbox (memWrite x.ptr (c == 1) bs s)) := by
  have hwrite : (!x.discard && !bs.isEmpty) = true := by simp [hd, hb]
  rw [answerWith, hwrite]
  rfl

/-! ### The service commands (R328, R357, R359) -/

/-- A notice of another service, one already answered, and none: nothing changes. -/
theorem exec_service_none {m : MemRead} {k : Instr} (hk : (k = .mailboxEcho n c i ∧ svc = svEcho) ∨ (k = .ledgerRead n c i m ∧ svc = svLedger) ∨
    (k = .counters n c i ∧ svc = svCounters) ∨ (k = .partState n c i ∧ svc = svParts)) (h : inServiceOf s n c i svc = none) :
    exec k s = .next s := by
  rcases hk with ⟨rfl, rfl⟩ | ⟨rfl, rfl⟩ | ⟨rfl, rfl⟩ | ⟨rfl, rfl⟩
  · rw [exec, execMailboxEcho, h]
    rfl
  · rw [exec]
    unfold execLedgerRead
    rw [h]
    rfl
  · rw [exec, execCounters, h]
    rfl
  · rw [exec, execPartState, h]
    rfl

theorem exec_mailboxEcho_found (h : inServiceOf s n c i svEcho = some x) :
    exec (.mailboxEcho n c i) s = .next (answerWith n c i msOk x [] s) := by
  rw [exec, execMailboxEcho, h]
  rfl

/-- The records that LEDGER_READ gives: those that the view admits, from FROM_SEQ on (R357). -/
def admittedRecs (s : State) (n c : Nat) (bs : List Byte) : List Rec :=
  (sealedRecs s).filter (fun r => recAdmitted s n c r && seqGe r.seq (rd bs 0 4))

theorem exec_ledgerRead_found (h : inServiceOf s n c i svLedger = some x) (bs : List Byte) :
    exec (.ledgerRead n c i (some bs)) s = .next (answerWith n c i
      (if (fitRecs x.len (admittedRecs s n c bs)).2 = true then msTruncated else msOk) x (fitRecs x.len (admittedRecs s n c bs)).1 s) := by
  rw [exec]
  unfold execLedgerRead
  rw [h]
  rfl

theorem exec_counters_found (h : inServiceOf s n c i svCounters = some x) :
    exec (.counters n c i) s = .next (answerWith n c i msOk x (snapshot s n c) s) := by
  rw [exec, execCounters, h]
  rfl

/-- What PART_STATE writes: two words for each partition of the slot (R328). -/
def partStates (s : State) (n : Nat) : List Byte :=
  (ownedParts s n).flatMap (fun k => le 8 (readPart s k).toNat ++ le 8 (readPartEpoch s k).toNat)

theorem exec_partState_found (h : inServiceOf s n c i svParts = some x) :
    exec (.partState n c i) s = .next (answerWith n c i msOk x (partStates s n) s) := by
  rw [exec, execPartState, h]
  rfl

theorem snapshot_ne_nil (s : State) (n c : Nat) : snapshot s n c ≠ [] := by simp [snapshot, bytes]

theorem partStates_ne_nil (h : ownedParts s n ≠ []) : partStates s n ≠ [] := by
  obtain ⟨k, ks, hk⟩ := List.exists_cons_of_ne_nil h
  simp [partStates, hk, le]

theorem exec_serviceBusy_waits (h : (mbx s n c).inService[i]? = some x) (ha : x.answer = none) :
    exec (.serviceBusy n c i) s = .next (if x.taken + 1000 ≤ now s then answerNotice n c i msBusy 0 s else s) := by
  rw [exec, execServiceBusy, h]
  simp [ha, ok]

theorem exec_serviceBusy_none (h : (mbx s n c).inService[i]? = none) : exec (.serviceBusy n c i) s = .next s := by
  rw [exec, execServiceBusy, h]
  rfl

/-- A channel's view is the slot's own partitions unless it is privileged (R319, R359). -/
theorem chanParts_owned (h : chanPriv s n c = false) : chanParts s n c = ownedParts s n := if_neg (by simp [h])

end Services

/-- Settles O50: each service answers by `answerWith`, which writes what it has unless the notice is discarded. -/
theorem servicesAnswerTheirNotices : Obligations.ServicesAnswerTheirNotices := by
  refine ⟨fun n c i svc m k s hk h => exec_service_none hk h, fun n c i x s h => ?_, fun n c i x bs s h hrs => ?_,
    fun n c i x bs rs f s h hrs hf hd hne => ?_, fun n c i x s h hd => ?_, fun n c i x s h hd ho => ⟨_, rfl, ?_⟩, fun n c i x s h hd => ?_,
    fun n c i x s h ha => exec_serviceBusy_waits h ha, fun n c i s h => exec_serviceBusy_none h, fun n c i st len s => rfl,
    fun room r rs => rfl, fun n c s => ?_⟩
  · rw [exec_mailboxEcho_found h, answerWith_silent (.inr rfl)]
    rfl
  · have hnone : admittedRecs s n c bs = [] := hrs
    rw [exec_ledgerRead_found h, hnone]
    exact congrArg _ (answerWith_silent (.inr rfl))
  · subst hrs hf
    rw [exec_ledgerRead_found h]
    exact congrArg _ (answerWith_writes hd hne)
  · rw [exec_counters_found h, answerWith_writes hd (snapshot_ne_nil s n c)]
  · rw [exec_partState_found h, answerWith_writes hd (partStates_ne_nil ho)]
    rfl
  · rw [exec_counters_found h, answerWith_silent (.inl hd)]
  · cases hp : chanPriv s n c with
    | true => exact .inr rfl
    | false => exact .inl (fun k hk => chanParts_owned hp ▸ hk)

end Sys2Proof.Machine
end

section
/-!
The ledger: sealing, rate windows and summaries, and the record store, which takes sealed records in order and erases ahead.
-/
namespace Sys2Proof.Machine

open Sys2Proof

/-! ### Sealing, rate windows and summaries (R346, R347, R360) -/

section Windows

variable {i : Nat} {k : RateKey} {r : Rec} {s : State}

theorem exec_sealTimeout_due (hr : s.ldg.openRec = some r) (ht : s.ldg.openSince + Nat.max 1 s.ldg.eff.sealAt ≤ now s) :
    exec .sealTimeout s = .next (sealRec s) := by
  have hdue : sealDue s = true := by simpa [sealDue, hr] using ht
  rw [exec, execSealTimeout, hdue]
  rfl

theorem exec_sealTimeout_early (h : s.ldg.openRec = none ∨ now s < s.ldg.openSince + Nat.max 1 s.ldg.eff.sealAt) :
    exec .sealTimeout s = .next s := by
  have hdue : sealDue s = false := by
    rcases h with h | h
    · simp [sealDue, h]
    · exact Bool.and_eq_false_iff.mpr (.inr (decide_eq_false (Nat.not_le.mpr h)))
  rw [exec, execSealTimeout, hdue]
  rfl

/-- The open record joins the buffer, and goes to the pod fault manager by its severity or its type (R346, R350). -/
theorem sealRec_open (hr : s.ldg.openRec = some r) {u : State}
    (hu : u = { s with ldg := { s.ldg with openRec := none, buffer := s.ldg.buffer ++ [r] } }) :
    sealRec s = if s.ldg.eff.fwdSev ≤ r.severity ∨ alwaysSent r.typ = true then forwardRec r u else u := by
  subst hu
  simp only [sealRec, hr, whenB, Bool.or_eq_true, decide_eq_true_eq]
  rfl

theorem sealRec_closed (hr : s.ldg.openRec = none) : sealRec s = s := by rw [sealRec, hr]

theorem exec_rateWindow_none (h : s.ldg.rates[i]? = none) : exec (.rateWindow i) s = .next s := by
  rw [exec, execRateWindow, h]
  rfl

theorem exec_rateWindow_open (hk : s.ldg.rates[i]? = some k) (ht : now s < k.opened + Nat.max 16 s.ldg.eff.rateWindow) :
    exec (.rateWindow i) s = .next s := by
  rw [exec, execRateWindow, hk]
  simp only [Nat.not_le.mpr ht, decide_false, whenB_false, ok]

theorem exec_rateWindow_ends (hk : s.ldg.rates[i]? = some k) (ht : k.opened + Nat.max 16 s.ldg.eff.rateWindow ≤ now s) :
    exec (.rateWindow i) s = .next (endWindow k s) := by
  rw [exec, execRateWindow, hk]
  simp only [ht, decide_true, whenB_true, ok]

/-- The key of a window that ends is forgotten. -/
def keyForgotten (k : RateKey) (s : State) : State := { s with ldg := { s.ldg with rates := s.ldg.rates.filter (fun x => !(x == k)) } }

theorem endWindow_quiet (h : k.count = 0) : endWindow k s = keyForgotten k s := by
  rw [endWindow, h]
  rfl

theorem endWindow_counted (h : 0 < k.count) : endWindow k s = writeNew (rateRec s k) (keyForgotten k s) := by
  simp only [endWindow, h, decide_true, whenB_true]
  rfl

theorem exec_summary_due (h0 : s.ldg.eff.summary ≠ 0) (hp : s.ldg.eff.summary ≤ s.ldg.acc.period) : exec .summary s = .next (writeSummary s) := by
  have hdue : summaryDue s = true := by simp [summaryDue, h0, hp]
  rw [exec, execSummary, hdue]
  rfl

theorem exec_summary_early (h : s.ldg.eff.summary = 0 ∨ s.ldg.acc.period < s.ldg.eff.summary) : exec .summary s = .next s := by
  have hdue : summaryDue s = false := by
    rcases h with h | h <;> simp [summaryDue, h]
  rw [exec, execSummary, hdue]
  rfl

/-- A record that finds room takes the next SEQ and becomes the open one (R346, R348). -/
theorem writeNew_room {q : Rec} (ho : s.ldg.openRec = none) (hm : makeRoom s.ldg (recLen r) r.severity = some s.ldg.buffer)
    (hs : r.severity < 4) (hq : q = { r with seq := s.ldg.next }) : writeNew r s = occurrence q (gcount 1 1 { s with ldg := { s.ldg with
      openRec := some q, openSince := now s, next := (s.ldg.next + 1) % 2 ^ 32
      ext := if s.ldg.next + 1 = 2 ^ 32 then s.ldg.ext + 1 else s.ldg.ext, acc := { s.ldg.acc with recs := satInc 32 s.ldg.acc.recs } } }) := by
  subst hq
  simp only [writeNew, sealRec_closed ho, hm, Nat.not_le.mpr hs, decide_false, whenB_false, modLdg, seqMod, beq_iff_eq]

end Windows

/-- Settles O51: each limit is the test of its command; `sealRec_open`, `endWindow_counted` and `writeNew_room` say what a due one does. -/
theorem recordsSealAndWindowsEnd : Obligations.RecordsSealAndWindowsEnd := by
  refine ⟨fun r s hr ht => ⟨_, rfl, ?_⟩, fun s h => exec_sealTimeout_early h, fun i k s hk ht h0 => ?_,
    fun i k s hk ht h0 => ⟨rateRec s k, keyForgotten k s, rfl, ?_, rfl, rfl, rfl, rfl, rfl, rfl⟩, fun i s h => exec_rateWindow_none h,
    fun i k s hk ht => exec_rateWindow_open hk ht, fun s h0 hp => exec_summary_due h0 hp, fun s h => exec_summary_early h,
    fun r q s ho hm hs hq => writeNew_room ho hm hs hq⟩
  · rw [exec_sealTimeout_due hr ht, sealRec_open hr rfl]
  · rw [exec_rateWindow_ends hk ht, endWindow_quiet h0]
    rfl
  · rw [exec_rateWindow_ends hk ht, endWindow_counted h0]

/-! ### Units of the record store (R351, R352) -/

section Units

variable {i j : Nat} {f : LUnit → LUnit} {s : State}

theorem find?_insBy_match {α : Type} {key : α → Nat} {p : α → Bool} {l : List α} {x : α} (hl : ∀ y ∈ l, p y = false) (hx : p x = true) :
    (insBy key l x).find? p = some x := by
  induction l with
  | nil => simp [insBy, hx]
  | cons y l ih =>
    have hy : p y = false := hl y List.mem_cons_self
    rw [insBy]
    split
    · simp [hx]
    · simpa [hy] using ih fun z hz => hl z (List.mem_cons_of_mem y hz)

theorem find?_insBy_other {α : Type} {key : α → Nat} {p : α → Bool} (l : List α) {x : α} (hx : p x = false) :
    (insBy key l x).find? p = l.find? p := by
  induction l with
  | nil => simp [insBy, hx]
  | cons y l ih =>
    rw [insBy]
    split
    · simp [hx]
    · simp only [List.find?_cons, ih]

theorem lunit_idx (s : State) (i : Nat) : (lunit s i).idx = i := by
  rw [lunit]
  cases h : s.nvm.units.find? (fun u => u.idx == i) with
  | none => rfl
  | some u => simpa using List.find?_some h

theorem lunit_modLUnit_same (hf : (f (lunit s i)).idx = i) : lunit (modLUnit i f s) i = f (lunit s i) := by
  have hfind := find?_insBy_match (key := fun u : LUnit => u.idx) (p := fun u => u.idx == i)
    (l := s.nvm.units.filter (fun u => !(u.idx == i))) (x := f (lunit s i)) (by simp) (by simp [hf])
  exact congrArg (fun o : Option LUnit => o.getD { idx := i }) hfind

theorem lunit_modLUnit_other (hf : (f (lunit s i)).idx = i) (hj : j ≠ i) : lunit (modLUnit i f s) j = lunit s j := by
  have hfind := find?_insBy_other (key := fun u : LUnit => u.idx) (p := fun u => u.idx == j)
    (s.nvm.units.filter (fun u => !(u.idx == i))) (x := f (lunit s i)) (by simpa [hf] using hj.symm)
  have hkept : (s.nvm.units.filter (fun u => !(u.idx == i))).find? (fun u => u.idx == j) = s.nvm.units.find? (fun u => u.idx == j) := by
    rw [List.find?_filter]
    congr 1
    funext u
    by_cases hu : u.idx = j
    · simp [hu, hj]
    · simp [hu]
  exact congrArg (fun o : Option LUnit => o.getD { idx := j }) (hfind.trans hkept)

theorem lunit_of_nvm {t : State} (h : t.nvm = s.nvm) (j : Nat) : lunit t j = lunit s j := by rw [lunit, lunit, h]

end Units

/-! ### Programs (R351, R352, R354) -/

section Programs

variable {i : Nat} {r : Rec} {rs : List Rec} {s : State}

theorem exec_recordCommit_idle (g : Bool) (h : s.ldg.noStore = true ∨ s.ldg.buffer = []) : exec (.recordCommit g) s = .next s := by
  show execRecordCommit g s = .next s
  unfold execRecordCommit
  split
  · rfl
  · next hn =>
    rw [h.resolve_left hn]
    rfl

theorem exec_recordCommit_noPlace (g : Bool) (hb : s.ldg.buffer.head? = some r) (hp : programPlace s r = none) :
    exec (.recordCommit g) s = .next s := by
  show execRecordCommit g s = .next s
  unfold execRecordCommit
  rw [hb]
  split
  · rfl
  · simp only [hp]
    rfl

theorem exec_recordCommit_placed {n : Bool} (hs : s.ldg.noStore = false) (hb : s.ldg.buffer = r :: rs) (hp : programPlace s r = some (i, n)) :
    exec (.recordCommit true) s = .next (programmed i n r s) ∧ exec (.recordCommit false) s = .next (unitFailed i s) := by
  have hcommit (g : Bool) : execRecordCommit g s = ok (if g then programmed i n r s else unitFailed i s) := by
    unfold execRecordCommit
    rw [hs, hb]
    simp only [List.head?_cons, hp]
    rfl
  exact ⟨(hcommit true).trans (congrArg ok (if_pos rfl)), (hcommit false).trans (congrArg ok (if_neg Bool.false_ne_true))⟩

/-- A unit with one record more. -/
def withRec (r : Rec) (u : LUnit) : LUnit := { u with recs := u.recs ++ [r] }

/-- The record joins its unit, and the ledger notes the commit. -/
def appended (i : Nat) (r : Rec) (s : State) : State :=
  refreshOldest (modLdg (fun l => { l with
    buffer := l.buffer.drop 1, committed := r.seq, highStroke := Nat.max l.highStroke (r.stroke + r.span), hasStrokes := true, lastFail := false })
    (modLUnit i (withRec r) s))

theorem clearDone_idle (h : s.nvm.clearPending = false ∨ s.ldg.clearing = false) : clearDone s = s := by
  rcases h with h | h
  · exact if_neg (by simp [h])
  · exact if_neg (by simp [h])

theorem writeLoss_none (h : s.ldg.loss.count = 0) : writeLoss s = s := if_pos (by simp [h])

/-- A record that starts no unit, with no clear under way and no loss pending, is appended and that is all. -/
theorem programmed_appends (hr : startsUnit r = false) (hc : s.nvm.clearPending = false) (hl : s.ldg.loss.count = 0) :
    programmed i false r s = appended i r s := by
  have hdone : clearDone (appended i r s) = appended i r s := clearDone_idle (.inl hc)
  have hloss : writeLoss (appended i r s) = appended i r s := writeLoss_none hl
  have hstarts : whenB (startsUnit r) (clearCommitted i) (appended i r s) = appended i r s := by rw [hr, whenB_false]
  show writeLoss (clearDone (whenB (startsUnit r) (clearCommitted i) (appended i r s))) = _
  rw [hstarts, hdone, hloss]

theorem appended_frame (i : Nat) (r : Rec) (s : State) : Frame [.nvm, .ldg] s (appended i r s) :=
  .after (refreshOldest_frame _) rfl (.after (modLdg_frame ..) rfl (.within (modLUnit_frame ..) rfl))

theorem lunit_appended_same (i : Nat) (r : Rec) (s : State) : (lunit (appended i r s) i).recs = (lunit s i).recs ++ [r] :=
  congrArg LUnit.recs (lunit_modLUnit_same (f := withRec r) (lunit_idx s i))

theorem lunit_appended_other {j : Nat} (hj : j ≠ i) : lunit (appended i r s) j = lunit s j :=
  lunit_modLUnit_other (f := withRec r) (lunit_idx s i) hj

/-! ### Failures (R354) -/

/-- A unit with one failure more; the third makes it bad. -/
def withFailure (u : LUnit) : LUnit := { u with fails := u.fails + 1, bad := u.bad || decide (2 ≤ u.fails) }

/-- The failure is noted and counted against the unit. -/
def unitFailureNoted (i : Nat) (s : State) : State :=
  modLUnit i withFailure (modLdg (fun l => { l with nvmErr := true, lastFail := true }) s)

theorem lunit_unitFailureNoted (i : Nat) (s : State) : lunit (unitFailureNoted i s) i = withFailure (lunit s i) :=
  lunit_modLUnit_same (f := withFailure) (s := modLdg (fun l => { l with nvmErr := true, lastFail := true }) s) (lunit_idx s i)

/-- With no good unit left the store is gone besides. -/
theorem unitFailed_keeps {β : Type} {g : State → β} (h : ∀ x, g (modLdg (fun l => { l with noStore := true }) x) = g x) (i : Nat) (s : State) :
    g (unitFailed i s) = g (unitFailureNoted i s) := whenB_keeps h _ _

theorem lunit_unitFailed (i : Nat) (s : State) : lunit (unitFailed i s) i = lunit (unitFailureNoted i s) i :=
  unitFailed_keeps (g := fun x => lunit x i) (fun _ => rfl) i s

/-! ### Erases (R353, R356) -/

theorem exec_unitErase_idle {u : Nat} (hu : u < unitCount s) (h : s.ldg.noStore = true ∨ eraseDue s u = false) (g : Bool) :
    exec (.unitErase u g) s = .next s := by
  have hskip : (!s.ldg.noStore && eraseDue s u) = false := by
    rcases h with h | h <;> simp [h]
  show execUnitErase u g s = _
  rw [execUnitErase, onUnit_built hu, hskip]
  rfl

theorem exec_unitErase_due {u : Nat} (hu : u < unitCount s) (hs : s.ldg.noStore = false) (hd : eraseDue s u = true) :
    exec (.unitErase u true) s = .next (erased u s) ∧ exec (.unitErase u false) s = .next (eraseFailed u s) := by
  have herase (g : Bool) : execUnitErase u g s = ok (if g then erased u s else eraseFailed u s) := by
    rw [execUnitErase, onUnit_built hu, hs, hd]
    rfl
  exact ⟨(herase true).trans (congrArg ok (if_pos rfl)), (herase false).trans (congrArg ok (if_neg Bool.false_ne_true))⟩

theorem exec_unitErase_absent {u : Nat} (hu : unitCount s ≤ u) (g : Bool) : exec (.unitErase u g) s = .fault (.notBuilt "ledger unit" u) := by
  show execUnitErase u g s = _
  rw [execUnitErase, onUnit_absent hu]

/-- A unit with no record and one erase more. -/
def emptiedUnit (u : LUnit) : LUnit := { u with written := false, torn := false, firstSeq := 0, recs := [], erases := u.erases + 1 }

/-- The unit is empty, and the ledger notes the erase. -/
def unitEmptied (i : Nat) (s : State) : State :=
  refreshOldest (modLdg (fun l => { l with clearTodo := without l.clearTodo i, lastFail := false })
    (modLUnit i emptiedUnit s))

theorem erased_noClear (hc : s.ldg.clearing = false) : erased i s = unitEmptied i s := clearDone_idle (s := unitEmptied i s) (.inr hc)

theorem unitEmptied_frame (i : Nat) (s : State) : Frame [.nvm, .ldg] s (unitEmptied i s) :=
  .after (refreshOldest_frame _) rfl (.after (modLdg_frame ..) rfl (.within (modLUnit_frame ..) rfl))

theorem lunit_unitEmptied_same (i : Nat) (s : State) : lunit (unitEmptied i s) i = emptiedUnit (lunit s i) :=
  lunit_modLUnit_same (f := emptiedUnit) (lunit_idx s i)

theorem lunit_unitEmptied_other {j : Nat} (hj : j ≠ i) : lunit (unitEmptied i s) j = lunit s j :=
  lunit_modLUnit_other (f := emptiedUnit) (lunit_idx s i) hj

end Programs

/-- Settles O52: a program and an erase act by `programPlace` and `eraseDue`; `appended`, `unitFailureNoted` and `unitEmptied` say what they leave
of the units. -/
theorem theStoreTakesRecordsInOrder : Obligations.TheStoreTakesRecordsInOrder := by
  refine ⟨fun g s h => exec_recordCommit_idle g h, fun g r s hb hp => exec_recordCommit_noPlace g hb hp,
    fun i n r rs s hs hb hp => exec_recordCommit_placed hs hb hp,
    fun i r rs s hs hb hp hr hc hl => ⟨_, (exec_recordCommit_placed hs hb hp).1, ?_⟩, fun i s => ⟨_, rfl, ?_⟩,
    fun u g s hu h => exec_unitErase_idle hu h g, fun u s hu hs hd => exec_unitErase_due hu hs hd,
    fun u s hc => ⟨_, rfl, ?_⟩, fun u g s hu => exec_unitErase_absent hu g⟩
  · rw [programmed_appends hr hc hl]
    have hrest : (appended i r s).ldg.buffer = rs := congrArg (List.drop 1) hb
    exact ⟨lunit_appended_same i r s, hrest, rfl, rfl, fun j hj => lunit_appended_other hj, appended_frame i r s⟩
  · rw [lunit_unitFailed, lunit_unitFailureNoted, unitFailed_keeps (g := fun x => x.ldg.nvmErr) (fun _ => rfl),
      unitFailed_keeps (g := fun x => x.ldg.lastFail) (fun _ => rfl)]
    exact ⟨rfl, rfl, rfl, rfl, rfl, unitFailed_frame i s⟩
  · rw [erased_noClear hc, lunit_unitEmptied_same]
    exact ⟨rfl, rfl, rfl, rfl, fun j hj => lunit_unitEmptied_other hj, unitEmptied_frame u s⟩

end Sys2Proof.Machine
end

section
/-!
Signed commands, the trace buffers, and the entries of tensor watch.
-/
namespace Sys2Proof.Machine

open Sys2Proof

/-! ### Signed commands (R355, R356) -/

section Signed

variable {a : Access} {v : Word} {m : MemRead} {b : SignedBlk} {s : State}

/-- The ledger once a write has given the block's address. -/
def signedAddressed (v : Word) (s : State) : State := { s with ldg := { s.ldg with signedAddr := fld v 47 0 } }

/-- CLEAR and RELEASE are one register. -/
theorem exec_signed_reaches {c : Instr} (hc : c = .clear a v m ∨ c = .release a v m) (hr : reaches s a aLdgSigned = true) :
    exec c s = .next (busOk (whenB (fbit v 63) (signedGo (fld v 47 0) m) (signedAddressed v s))) := by
  rcases hc with rfl | rfl <;> exact congrArg ok (privWrite_reaches hr _)

/-- The OP of the bytes at the address; 0 when they could not be read. -/
def blockOp : MemRead → Nat
  | some bs => rd bs 5 1
  | none => 0

theorem signedGo_malformed {n : Nat} (hb : signedBlk n m = none) (t : State) : signedGo n m t = signedReject (blockOp m) sgBadBlock t := by
  unfold signedGo
  rw [hb]
  cases m <;> rfl

/-- A block in form is rejected by its first failed check, or commits AUTH_CTR before it acts. -/
theorem signedGo_formed {n : Nat} (hb : signedBlk n m = some b) (t : State) : signedGo n m t =
    if signedCheck t b ≠ sgRunning then signedReject b.op (signedCheck t b) t
    else if b.op = 1 then clearBegin b.counter { t with nvm := { t.nvm with authCtr := b.counter } }
    else releasePort b.target { t with nvm := { t.nvm with authCtr := b.counter } } := by
  by_cases hk : signedCheck t b = sgRunning
  · by_cases ho : b.op = 1
    · simp [signedGo, hb, hk, ho, modNvm]
    · simp [signedGo, hb, hk, ho, modNvm]
  · simp [signedGo, hb, hk]

theorem signedCheck_keyless (h : s.life.keys = none) : signedCheck s b = sgNoKey := by rw [signedCheck, h]

/-- The counter is checked after the signature and the device; each of the three stops a block. -/
theorem signedCheck_counter {k : KeyStore} (hk : s.life.keys = some k) (hc : b.counter ≠ s.nvm.authCtr + 1) : signedCheck s b ≠ sgRunning := by
  rw [signedCheck, hk]
  dsimp only
  split
  · decide
  · split
    · decide
    · rw [if_pos (by simp [hc])]
      decide

end Signed

/-! ### Trace buffers (R363, R364, R370) -/

theorem lget_lmod_same {α : Type} {l : List α} {i : Nat} (h : i < l.length) (f : α → α) (d : α) : lget (lmod l i f) i d = f (lget l i d) := by
  simp [lget, lmod, h]

theorem lget_lmod_other {α : Type} (l : List α) {i j : Nat} (h : j ≠ i) (f : α → α) (d : α) : lget (lmod l i f) j d = lget l j d := by
  simp only [lget, lmod, List.getD_eq_getElem?_getD, List.getElem?_mapIdx]
  cases l[j]? with
  | none => rfl
  | some x => simp [h]

theorem lmod_lmod {α : Type} (l : List α) (i : Nat) (f g : α → α) : lmod (lmod l i f) i g = lmod l i (fun x => g (f x)) := by
  simp only [lmod, List.mapIdx_mapIdx]
  congr 1
  funext j x
  by_cases h : j = i <;> simp [h]

section Traces

variable {a : Access} {b j : Nat} {v : Word} {f g : Trace → Trace} {s : State}

theorem modTrace_four (hl : s.ldg.traces.length = 4) : modTrace b f s = { s with ldg := { s.ldg with traces := lmod s.ldg.traces b f } } := by
  have hfour : fourTraces s.ldg.traces = s.ldg.traces := if_neg (by simp [List.ne_nil_of_length_pos, hl])
  simp only [modTrace, modLdg, hfour]

theorem modTrace_length (hl : s.ldg.traces.length = 4) : (modTrace b f s).ldg.traces.length = 4 := by
  rw [modTrace_four hl]
  simpa [lmod] using hl

theorem modTrace_modTrace (hl : s.ldg.traces.length = 4) : modTrace b g (modTrace b f s) = modTrace b (fun x => g (f x)) s := by
  rw [modTrace_four (modTrace_length hl), modTrace_four hl, modTrace_four hl]
  simp only [lmod_lmod]

theorem trace_modTrace_same (hl : s.ldg.traces.length = 4) (hb : b < 4) : trace (modTrace b f s) b = f (trace s b) := by
  rw [modTrace_four hl]
  exact lget_lmod_same (hl ▸ hb) f {}

theorem trace_modTrace_other (hl : s.ldg.traces.length = 4) (hj : j ≠ b) : trace (modTrace b f s) j = trace s j := by
  rw [modTrace_four hl]
  exact lget_lmod_other _ hj f {}

/-- ARM and TRIG are one register. -/
theorem exec_trace_reaches (hb : b < 4) (hr : reaches s a (aLdgTrace b) = true) :
    exec (.traceArm a b v) s = .next (busOk (traceWrite b v s)) ∧ exec (.traceTrig a b v) s = .next (busOk (traceWrite b v s)) := by
  have hrun : onUnit "trace buffer" b 4 (privWrite a (aLdgTrace b) (traceWrite b v) s) = .next (busOk (traceWrite b v s)) := by
    rw [onUnit_built hb, privWrite_reaches hr]
  exact ⟨hrun, hrun⟩

theorem exec_trace_absent {c : Instr} (hc : c = .traceArm a b v ∨ c = .traceTrig a b v) (hb : 4 ≤ b) :
    exec c s = .fault (.notBuilt "trace buffer" b) := by
  rcases hc with rfl | rfl <;> exact onUnit_absent hb _

theorem traceReport_quiet (h : (trace s b).report = false) : traceReport b s = s := if_neg (by simp [h])

/-- A buffer with no report to write is cleared under the configuration of the write. -/
theorem traceWrite_arms (hb : b < 4) (hl : s.ldg.traces.length = 4) (ha : fbit v 63 = true) (ht : fbit v 62 = false)
    (hq : (trace s b).report = false) : traceWrite b v s = modTrace b (fun _ => armed (traceFields v)) s := by
  have hquiet : traceReport b (modTrace b (fun x => { x with cfg := traceFields v }) s) = modTrace b (fun x => { x with cfg := traceFields v }) s :=
    traceReport_quiet (by rw [trace_modTrace_same hl hb]; exact hq)
  simp only [traceWrite, ha, ht, whenB_true, whenB_false, hquiet, modTrace_modTrace hl]

/-- TRIG alone: the buffer takes the configuration of the write, and what a manual trigger makes of it. -/
theorem traceWrite_triggers (hl : s.ldg.traces.length = 4) (ha : fbit v 63 = false) (ht : fbit v 62 = true) : traceWrite b v s =
    bumpFresh (modTrace b (fun x => manualTrigger (manualEntry s) { x with cfg := traceFields v, eff := traceFields v }) s) := by
  have hentry : manualEntry (modTrace b (fun x => { x with cfg := traceFields v }) s) = manualEntry s := rfl
  simp only [traceWrite, ha, ht, whenB_true, whenB_false, hentry, modTrace_modTrace hl]

theorem manualTrigger_armed {e : TraceEntry} {x : Trace} (h : x.state = 1) : manualTrigger e x = traceTrigger x e := if_pos (by simp [h])

end Traces

/-! ### Tensor watch (R366, R370) -/

section Watched

variable {a : Access} {i : Nat} {v : Word} {s : State}

theorem exec_tensorWatchWrite (hi : i < 64) : exec (.tensorWatchWrite a i v) s = .next (twWrite a i v s) := onUnit_built hi _

theorem twWrite_admitted (hr : s.boot.inReset = false) (hc : controlReset s = false) (hm : twMay s a i (twFields v) = true) :
    twWrite a i v s = busOk (twPut i (twFields v) s) := by
  simp [twWrite, hr, hc, hm]

theorem twWrite_denied (hr : s.boot.inReset = false) (hm : twMay s a i (twFields v) = false) :
    twWrite a i v s = deny a true false (aLdgTw i) s := by
  simp [twWrite, hr, hm]

theorem twPut_eq (i : Nat) (x : TwEntry) (s : State) : twPut i x s =
    if twLegal x = true then { s with ldg := { s.ldg with tw := tput s.ldg.tw i x } } else { s with ldg := { s.ldg with twErr := true } } := by
  unfold twPut modLdg
  split <;> rfl

end Watched

/-- Settles O53: a signed command is `signedGo_malformed` or `signedGo_formed`, a write of a trace buffer `traceWrite_arms` or
`traceWrite_triggers`, and a tensor watch entry is written by `twPut_eq` for who may. -/
theorem signedCommandsTracesAndTensorWatch : Obligations.SignedCommandsTracesAndTensorWatch := by
  refine ⟨fun c a v m s hc hr hg => ?_, fun c a v m s t hc hr hg ht hb => ?_, fun c a v m b s t hc hr hg ht hb => ?_,
    fun b s h => signedCheck_keyless h, fun b k s hk hc => signedCheck_counter hk hc, fun a b v s hb hr ha ht hq hl => ?_,
    fun a b v s hb hr ha ht hl hs => ⟨_, manualEntry s, (exec_trace_reaches hb hr).2, ?_⟩, fun a b v c s hc hb => exec_trace_absent hc hb,
    fun a i v s hi hr hc hm => ?_, fun a i v s hi hr hm => ?_, fun a i v s hi => onUnit_absent hi _⟩
  · rw [exec_signed_reaches hc hr, hg]
    rfl
  · subst ht
    rw [exec_signed_reaches hc hr, hg, whenB_true, signedGo_malformed hb]
    cases m <;> rfl
  · subst ht
    rw [exec_signed_reaches hc hr, hg, whenB_true, signedGo_formed hb]
    rfl
  · rw [(exec_trace_reaches hb hr).1, traceWrite_arms hb hl ha ht hq, modTrace_four hl]
  · have harmed : manualTrigger (manualEntry s) { trace s b with cfg := traceFields v, eff := traceFields v } =
        traceTrigger { trace s b with cfg := traceFields v, eff := traceFields v } (manualEntry s) := manualTrigger_armed hs
    rw [traceWrite_triggers hl ha ht]
    exact ⟨(trace_modTrace_same hl hb).trans harmed, rfl, rfl, fun j hj => trace_modTrace_other hl hj,
      .after (busOk_frame _) rfl (.after (bumpFresh_frame _) rfl (.within (modTrace_frame ..) rfl))⟩
  · rw [exec_tensorWatchWrite hi, twWrite_admitted hr hc hm, twPut_eq]
  · rw [exec_tensorWatchWrite hi, twWrite_denied hr hm]
    rfl

end Sys2Proof.Machine
end

section
/-!
What every step keeps. A relation between the states before and after, which depends on one part of the block alone, holds over every
command that leaves the part as it was; the commands that change it are taken one by one.
-/
namespace Sys2Proof.Machine

open Sys2Proof

/-- A relation of states that can be chained, and that holds where the part `c` is the same. -/
structure Keeping (c : Comp) (R : State → State → Prop) : Prop where
  of_same : ∀ {s t : State}, c.same s t → R s t
  trans : ∀ {s t u : State}, R t u → R s t → R s u

/-- The parts that a self-fault changes beside its action: the records, and the partitions that are held (R379). -/
def faultParts : List Comp := logParts ++ [.pwr, .energies, .parts, .epochs, .chks, .cpy, .dgt, .rcv]

/-- The parts that a REGISTER_WRITE changes outside the slot windows, STROKE and SCREEN. -/
def fieldParts : List Comp := logParts ++ [.pwr, .parts, .cpy, .dgt, .taint, .rcv]

namespace Keeping

variable {c : Comp} {R : State → State → Prop} {s : State}

theorem refl (K : Keeping c R) (s : State) : R s s := K.of_same (c.same_refl s)

theorem of_frame (K : Keeping c R) {l : List Comp} {s t : State} (h : Frame l s t) (hc : l.contains c = false) : R s t :=
  K.of_same (h.keeps c hc)

/-- A change that leaves the part alone, after one that keeps the relation. -/
theorem after (K : Keeping c R) {l : List Comp} {s t u : State} (h : Frame l t u) (hc : l.contains c = false) (k : R s t) : R s u :=
  K.trans (K.of_frame h hc) k

theorem whenB (K : Keeping c R) {f : State → State} (h : R s (f s)) (b : Bool) : R s (Machine.whenB b f s) := by
  cases b
  · exact K.refl s
  · exact h

theorem ifOnly (K : Keeping c R) {p : Prop} [Decidable p] {t : State} (h : R s t) : R s (if p then t else s) := by
  split
  · exact h
  · exact K.refl s

theorem ifNot (K : Keeping c R) {p : Prop} [Decidable p] {t : State} (h : R s t) : R s (if p then s else t) := by
  split
  · exact K.refl s
  · exact h

theorem forEach (K : Keeping c R) {α : Type} {f : α → State → State} (h : ∀ a x, R x (f a x)) (l : List α) (s : State) :
    R s (Machine.forEach l f s) := by
  induction l generalizing s with
  | nil => exact K.refl s
  | cons a l ih => exact K.trans (ih (f a s)) (h a s)

/-- A write to a register of the privileged view, denied or admitted. -/
theorem privWrite (K : Keeping c R) (hc : accessParts.contains c = false) {f : State → State} (h : R s (f s)) (a : Access) (addr : Nat) :
    R s (Machine.privWrite a addr f s) := by
  unfold Machine.privWrite
  refine K.ifNot ?_
  split
  · exact K.of_frame (deny_frame ..) hc
  · split
    · exact K.of_frame ((busErr_frame s).within rfl) hc
    · exact K.after ((busOk_frame _).within rfl) hc h

/-- A write to a register of a slot's own window, denied or admitted. -/
theorem ownWrite (K : Keeping c R) (hc : accessParts.contains c = false) {f : State → State} (h : R s (f s)) (a : Access) (n addr : Nat)
    (secure : Bool) : R s (Machine.ownWrite a n secure addr f s) := by
  unfold Machine.ownWrite
  refine K.ifNot ?_
  split
  · exact K.of_frame (deny_frame ..) hc
  · exact K.after ((busOk_frame _).within rfl) hc h

/-- The fields that REGISTER_WRITE takes, by window. -/
theorem writeFields (K : Keeping c R) (hc : fieldParts.contains c = false) {a : Access} {v : Word}
    (hslot : ∀ n off, R s (writeSlot a n off v s)) (hstroke : ∀ off, R s (writeStroke off v s))
    (hscreen : ∀ off, R s (writeScreen off v s)) (addr : Nat) : R s (Machine.writeFields a addr v s) := by
  unfold Machine.writeFields
  dsimp only
  split
  · exact hslot ..
  · split
    · exact hstroke _
    · exact K.of_frame ((writeCopyist_frame ..).within rfl) hc
    · exact K.of_frame ((writeDigest_frame ..).within rfl) hc
    · exact K.of_frame ((writeWatch_frame ..).within rfl) hc
    · exact K.of_frame ((writeLedger_frame ..).within rfl) hc
    · exact K.of_frame ((writePower_frame ..).within rfl) hc
    · exact hscreen _
    · exact K.of_frame ((writeRecovery_frame ..).within rfl) hc
    · exact K.refl s

/-- A REGISTER_WRITE, refused or admitted. -/
theorem registerWrite (K : Keeping c R) (hc : accessParts.contains c = false) {a : Access} {addr : Nat} {v : Word}
    (h : R s (Machine.writeFields a addr v s)) : R s (Machine.registerWrite a addr v s) := by
  unfold Machine.registerWrite
  refine K.ifNot ?_
  split
  · exact K.of_frame (refuse_frame ..) hc
  · exact K.after ((busOk_frame _).within rfl) hc h

/-- A self-fault is recorded, acts, and the second one holds every partition. -/
theorem selfFault (K : Keeping c R) (hc : faultParts.contains c = false) {r : DomReset} {unit sub : Nat}
    (h : ∀ x, R x (faultAct r unit sub x)) (s : State) : R s (Machine.selfFault r unit sub s) := by
  unfold Machine.selfFault
  have hheld (x : State) : R x (reportPfm "SELF_FAULT" (holdAll x)) :=
    K.of_frame (.after (reportPfm_frame ..) rfl (.within (holdAll_frame x) rfl)) hc
  refine K.trans (K.whenB (hheld _) _) (K.trans (h _) ?_)
  exact K.of_frame (.after (modPwr_frame ..) rfl (.within (recordBlock_frame ..) rfl)) hc

/-- Audits of Guard: a count found otherwise is a self-fault. -/
theorem audits (K : Keeping c R) (hc : faultParts.contains c = false) (h : ∀ r unit sub x, R x (faultAct r unit sub x))
    (l : List AuditReading) (s : State) : R s (Machine.forEach l auditCount s) :=
  K.forEach (fun _ x => K.ifNot (K.selfFault hc (h _ _ _) x)) l s

/-- A phase boundary runs its work and sets the phase. -/
theorem enterPhase (K : Keeping c R) (hc : c ≠ .stk) {f : State → State} (h : R s (f s)) (k : Nat) : R s (Machine.enterPhase k f s) := by
  unfold Machine.enterPhase
  refine K.ifNot (K.after (modStk_frame ..) (by simpa using hc) ?_)
  exact K.ifNot h

theorem exec_untouched (K : Keeping c R) {i : Instr} {s t : State} (h : exec i s = .next t) (hc : (touches i).contains c = false) :
    R s t := K.of_frame (exec_frame h) hc

/-- A step runs the front command on the state without it. -/
theorem step (K : Keeping c R) (hp : c ≠ .pending) (h : ∀ (i : Instr) (s t : State), exec i s = .next t → R s t) {s t : State}
    (hs : Machine.step s = .next t) : R s t := by
  have hpop (rest : List Instr) : c.same s { s with pending := rest } := by
    cases c
    case pending => exact absurd rfl hp
    all_goals rfl
  unfold Machine.step at hs
  split at hs
  · cases hs
    exact K.refl s
  · exact K.trans (h _ _ _ hs) (K.of_same (hpop _))

end Keeping

/-! ### PERIOD and LEAD (R9) -/

/-- PERIOD and LEAD stay ones that R9 admits. -/
structure LegalKept (s t : State) : Prop where
  legal : TickLegal s → TickLegal t

theorem legalKept_of_period {s t : State} (hp : t.tcfg.period = s.tcfg.period) (hl : t.tcfg.lead = s.tcfg.lead) : LegalKept s t :=
  ⟨fun h => by rwa [TickLegal, hp, hl]⟩

theorem legalKeeping : Keeping .tcfg LegalKept where
  of_same {s t} h := by
    have htcfg : s.tcfg = t.tcfg := h
    exact legalKept_of_period (by rw [htcfg]) (by rw [htcfg])
  trans k h := ⟨fun hs => k.legal (h.legal hs)⟩

@[simp] theorem periodOk_iff {n : Nat} : periodOk n = true ↔ 50000 ≤ n ∧ n ≤ 400000 := by simp [periodOk]

@[simp] theorem leadOk_iff {n : Nat} : leadOk n = true ↔ 1 ≤ n ∧ n ≤ 15 := by simp [leadOk]

/-- What a write gives is taken only when R9 admits it. -/
theorem writeRate_legal (v : Word) (s : State) : LegalKept s (writeRate v s) := by
  refine ⟨fun ⟨hplow, hphigh, hllow, hlhigh⟩ => ?_⟩
  unfold writeRate
  dsimp only
  split
  · exact ⟨hplow, hphigh, hllow, hlhigh⟩
  · simp only [TickLegal, periodOk_iff, leadOk_iff]
    refine ⟨?_, ?_, ?_, ?_⟩ <;> split <;> omega

theorem writeLock_legal (v : Word) (s : State) : LegalKept s (writeLock v s) :=
  legalKeeping.ifOnly (legalKeeping.after (compareRate_frame _) rfl (legalKept_of_period rfl rfl))

theorem writeEnable_legal (v : Word) (s : State) : LegalKept s (writeEnable v s) := by
  unfold writeEnable
  refine legalKeeping.ifNot ?_
  dsimp only
  split
  · exact legalKeeping.after (masterStart_frame _) rfl (legalKept_of_period rfl rfl)
  · exact legalKeeping.after (.when startCheck_frame) rfl (legalKeeping.after (modStk_frame ..) rfl (legalKept_of_period rfl rfl))

theorem writeStkCfg_legal (v : Word) (s : State) : LegalKept s (writeStkCfg v s) :=
  legalKeeping.trans (writeEnable_legal v _) (legalKeeping.trans (writeLock_legal v _) (writeRate_legal v s))

/-- STK_START is the one field of the settings that a REGISTER_WRITE takes. -/
theorem writeStroke_legal (off : Nat) (v : Word) (s : State) : LegalKept s (writeStroke off v s) := by
  unfold writeStroke
  split
  · exact legalKeeping.ifNot (legalKept_of_period rfl rfl)
  · exact legalKeeping.of_frame (modStk_frame ..) rfl
  · exact legalKeeping.of_frame (modStk_frame ..) rfl
  · exact legalKeeping.refl s

theorem reset_tickLegal : TickLegal State.reset := ⟨by decide, by decide, by decide, by decide⟩

theorem exec_tickLegal (i : Instr) (s t : State) (h : exec i s = .next t) : LegalKept s t := by
  cases hc : (touches i).contains .tcfg with
  | false => exact legalKeeping.exec_untouched h hc
  | true =>
    cases i
    case coldResetAssert n =>
      cases h
      exact ⟨fun _ => reset_tickLegal⟩
    case strokeEnable a v =>
      cases h
      exact legalKeeping.privWrite rfl (writeStkCfg_legal v s) ..
    case strokeLock a v =>
      cases h
      exact legalKeeping.privWrite rfl (writeStkCfg_legal v s) ..
    case periodWrite a v =>
      cases h
      exact legalKeeping.privWrite rfl (writeStkCfg_legal v s) ..
    case registerWrite a addr v =>
      cases h
      exact legalKeeping.registerWrite rfl (legalKeeping.writeFields rfl (fun _ _ => legalKeeping.of_frame (writeSlot_frame ..) rfl)
        (fun off => writeStroke_legal off v s) (fun _ => legalKeeping.of_frame (writeScreen_frame ..) rfl) addr)
    all_goals exact absurd hc Bool.false_ne_true

/-! ### The queues of the mailboxes (R324, R329) -/

/-- No queue of a channel holds more than its four notices. -/
def QueuesFit (m : Mbx) : Prop := m.toBlock.length ≤ 4 ∧ m.inService.length ≤ 4 ∧ m.toHost.length ≤ 4

/-- The queues of every channel stay within four notices. -/
structure QueuesKept (s t : State) : Prop where
  bounded : MailboxesBounded s → MailboxesBounded t

theorem queuesKeeping : Keeping .mbxs QueuesKept where
  of_same {s t} h := by
    have hmbxs : s.mbxs = t.mbxs := h
    exact ⟨fun hs => by rwa [MailboxesBounded, ← hmbxs]⟩
  trans k h := ⟨fun hs => k.bounded (h.bounded hs)⟩

theorem mbx_fits {s : State} (h : MailboxesBounded s) (n c : Nat) : QueuesFit (mbx s n c) := by
  unfold mbx tgetD
  cases hm : tget s.mbxs (mbxNo n c) with
  | none => exact ⟨Nat.zero_le 4, Nat.zero_le 4, Nat.zero_le 4⟩
  | some m => exact h _ (mem_of_tget hm)

theorem modMbx_queues {n c : Nat} {f : Mbx → Mbx} {s : State} (hf : QueuesFit (mbx s n c) → QueuesFit (f (mbx s n c))) :
    QueuesKept s (modMbx n c f s) := by
  refine ⟨fun h e he => ?_⟩
  rcases mem_tput he with rfl | he
  · exact hf (mbx_fits h n c)
  · exact h e he

/-- One notice leaves for a TO_HOST that has room, or is discarded. -/
theorem settleOne_fits {m : Mbx} (h : QueuesFit m) : QueuesFit (settleOne m) := by
  obtain ⟨hblock, hservice, hhost⟩ := h
  unfold settleOne
  cases hi : leaver m with
  | none => exact ⟨hblock, hservice, hhost⟩
  | some i =>
    obtain ⟨hlt, hleaves, -⟩ := List.findIdx?_eq_some_iff_getElem.mp hi
    simp only [Bool.and_eq_true, Bool.or_eq_true, decide_eq_true_eq] at hleaves
    refine ⟨hblock, (List.length_eraseIdx_le ..).trans hservice, ?_⟩
    dsimp only
    rw [List.getElem?_eq_getElem hlt, List.length_append]
    rcases hleaves.2 with hd | hroom
    · simpa [hd] using hhost
    · have hone := List.length_filter_le (fun x : Notice => !x.discard) (some m.inService[i]).toList
      rw [Option.toList_some, List.length_singleton] at hone
      exact (Nat.add_le_add_left hone _).trans hroom

theorem settle_fits {m : Mbx} (h : QueuesFit m) : QueuesFit (settle m) :=
  settleOne_fits (settleOne_fits (settleOne_fits (settleOne_fits h)))

theorem settleChan_queues (n c : Nat) (s : State) : QueuesKept s (settleChan n c s) :=
  queuesKeeping.trans (queuesKeeping.whenB (queuesKeeping.of_frame (modSlot_frame ..) rfl) _) (modMbx_queues settle_fits)

/-- A change of the notices in service, one by one, settled afterwards. -/
theorem answered_queues {n c : Nat} {f : Mbx → List Notice} (hf : ∀ m, (f m).length = m.inService.length) (s : State) :
    QueuesKept s (settleChan n c (modMbx n c (fun m => { m with inService := f m }) s)) :=
  queuesKeeping.trans (settleChan_queues ..) (modMbx_queues fun ⟨hblock, hservice, hhost⟩ => ⟨hblock, (hf _).trans_le hservice, hhost⟩)

theorem answerNotice_queues (n c i st len : Nat) (s : State) : QueuesKept s (answerNotice n c i st len s) :=
  answered_queues (fun _ => List.length_mapIdx) s

theorem answerWith_queues (n c i st : Nat) (x : Notice) (bs : List Byte) (s : State) : QueuesKept s (answerWith n c i st x bs s) := by
  have hwrite : QueuesKept s (issueMem .mailbox (memWrite x.ptr (c == 1) bs s)) :=
    queuesKeeping.after (issueMem_frame ..) rfl (queuesKeeping.of_frame (memWrite_frame ..) rfl)
  exact queuesKeeping.trans (answerNotice_queues ..) (queuesKeeping.whenB hwrite _)

/-- A notice is taken only while IN_SERVICE has room (R329). -/
theorem takeNotice_queues (n c : Nat) (s : State) : QueuesKept s (takeNotice n c s) := by
  unfold takeNotice
  dsimp only
  split
  · exact queuesKeeping.refl s
  · next x rest hblock =>
    split
    · exact queuesKeeping.refl s
    · next hroom =>
      refine queuesKeeping.trans (queuesKeeping.whenB (queuesKeeping.of_frame (irqSet_frame ..) rfl) _) (modMbx_queues ?_)
      rintro ⟨hb, -, hhost⟩
      rw [hblock] at hb
      refine ⟨(Nat.le_succ _).trans hb, ?_, hhost⟩
      rw [List.length_append]
      exact Nat.lt_of_not_le hroom

theorem takeNotices_queues (n c : Nat) (s : State) : QueuesKept s (takeNotices n c s) := by
  have htake := takeNotice_queues n c
  exact queuesKeeping.trans (settleChan_queues ..) (queuesKeeping.trans (htake _) (queuesKeeping.trans (htake _)
    (queuesKeeping.trans (htake _) (htake s))))

theorem publishMailboxes_queues (s : State) : QueuesKept s (publishMailboxes s) :=
  queuesKeeping.ifNot (queuesKeeping.forEach (fun n _ => queuesKeeping.after (modSlot_frame ..) rfl
    (queuesKeeping.trans (takeNotices_queues n 1 _) (takeNotices_queues n 0 _))) _ s)

theorem resetNotices_queues (s : State) : QueuesKept s (resetNotices s) :=
  queuesKeeping.forEach (fun _ x => answered_queues (fun _ => List.length_map _) x) _ s

/-- A full channel refuses a post (R325). -/
theorem postNotice_queues (n c : Nat) (v : Word) (s : State) : QueuesKept s (postNotice n c v s) := by
  unfold postNotice
  dsimp only
  split
  · exact queuesKeeping.after (busErr_frame _) rfl (modMbx_queues id)
  · next hroom =>
    simp only [Bool.or_eq_true, decide_eq_true_eq, not_or, Nat.not_le] at hroom
    refine modMbx_queues fun ⟨_, hservice, hhost⟩ => ⟨?_, hservice, hhost⟩
    rw [List.length_append]
    exact hroom.1

theorem popNotice_queues (n c : Nat) (s : State) : QueuesKept s (popNotice n c s) := by
  unfold popNotice
  split
  · exact modMbx_queues id
  · refine queuesKeeping.trans (settleChan_queues ..) (modMbx_queues fun ⟨hblock, hservice, hhost⟩ => ⟨hblock, hservice, ?_⟩)
    rw [List.length_tail]
    exact (Nat.sub_le ..).trans hhost

theorem flushChan_queues (n c : Nat) (s : State) : QueuesKept s (flushChan n c s) := by
  refine queuesKeeping.trans (modMbx_queues fun ⟨_, hservice, _⟩ => settle_fits ⟨Nat.zero_le 4, ?_, Nat.zero_le 4⟩)
    (queuesKeeping.whenB (queuesKeeping.of_frame (irqSet_frame ..) rfl) _)
  rw [List.length_map]
  exact hservice

/-- The registers of a channel that a REGISTER_WRITE takes are no queue. -/
theorem writeSlot_queues (a : Access) (n off : Nat) (v : Word) (s : State) : QueuesKept s (writeSlot a n off v s) := by
  unfold writeSlot
  dsimp only
  split
  · exact queuesKeeping.of_frame (clearIrq_frame ..) rfl
  · exact queuesKeeping.of_frame (writeIrqEn_frame ..) rfl
  · exact queuesKeeping.of_frame (modSlot_frame ..) rfl
  · exact queuesKeeping.of_frame (modSlot_frame ..) rfl
  · exact modMbx_queues id
  · exact modMbx_queues id
  · exact modMbx_queues id
  · exact modMbx_queues id
  · exact queuesKeeping.refl s

/-- A mismatch of mailbox entries flushes the channel; no other act of a self-fault reaches a mailbox. -/
theorem faultAct_queues (r : DomReset) (unit sub : Nat) (s : State) : QueuesKept s (faultAct r unit sub s) := by
  unfold faultAct
  split
  · exact queuesKeeping.after (toWait_frame ..) rfl (queuesKeeping.of_frame (leaveAll_frame ..) rfl)
  · split
    · exact queuesKeeping.after (leaveAll_frame ..) rfl (flushChan_queues ..)
    · split
      · exact queuesKeeping.of_frame (holdAll_frame s) rfl
      · exact queuesKeeping.of_frame (startReset_frame ..) rfl

/-- Before the mailboxes and after them, Publish leaves every queue as it is. -/
theorem publish_queues (s : State) : QueuesKept s (publish s) := by
  unfold publish
  refine queuesKeeping.after (sendHearts_frame _) rfl (queuesKeeping.after (traceReports_frame _) rfl
    (queuesKeeping.trans (publishMailboxes_queues _) ?_))
  have hverdicts : QueuesKept s (publishVerdicts (modStk (fun x => { x with phase := 2 }) (countsJudge (closeJudge s)))) :=
    queuesKeeping.after (publishVerdicts_frame _) rfl (queuesKeeping.after (modStk_frame ..) rfl
      (queuesKeeping.after (countsJudge_frame _) rfl (queuesKeeping.of_frame (closeJudge_frame s) rfl)))
  have hdigests (x : State) : QueuesKept x (publishTw (publishShards (publishXport (publishTally x)))) :=
    queuesKeeping.after (publishTw_frame _) rfl (queuesKeeping.after (publishShards_frame _) rfl
      (queuesKeeping.after (publishXport_frame _) rfl (queuesKeeping.of_frame (publishTally_frame x) rfl)))
  have hcopies (x : State) : QueuesKept x (publishSpill (admitPublish (startCanaries (peerPublish (peerAdmit x))))) :=
    queuesKeeping.after (publishSpill_frame _) rfl (queuesKeeping.after (admitPublish_frame _) rfl
      (queuesKeeping.after (startCanaries_frame _) rfl (queuesKeeping.after (peerPublish_frame _) rfl
        (queuesKeeping.of_frame (peerAdmit_frame x) rfl))))
  exact queuesKeeping.trans (hcopies _) (queuesKeeping.trans (hdigests _) hverdicts)

theorem controlResume_queues (s : State) : QueuesKept s (controlResume s) :=
  queuesKeeping.after (modBoot_frame ..) rfl (queuesKeeping.after (holdGoesOn_frame _) rfl (resetNotices_queues s))

theorem endReset_queues (d : Nat) (s : State) : QueuesKept s (endReset d s) := by
  unfold endReset
  split
  · exact queuesKeeping.refl s
  · refine queuesKeeping.ifNot (queuesKeeping.after (recordBlock_frame ..) rfl ?_)
    exact queuesKeeping.trans (queuesKeeping.whenB (controlResume_queues _) _) (queuesKeeping.of_frame (modPwr_frame ..) rfl)

theorem exec_queues (i : Instr) (s t : State) (h : exec i s = .next t) : QueuesKept s t := by
  cases hc : (touches i).contains .mbxs with
  | false => exact queuesKeeping.exec_untouched h hc
  | true =>
    cases i
    case coldResetAssert n =>
      cases h
      exact ⟨fun _ _ he => absurd he List.not_mem_nil⟩
    case domainResetDone d =>
      cases h
      exact endReset_queues d s
    case lockstepMismatch d =>
      cases h
      exact queuesKeeping.ifNot (queuesKeeping.selfFault rfl (faultAct_queues _ _ _) s)
    case publishPhase =>
      cases h
      exact queuesKeeping.enterPhase (by decide) (publish_queues s) 1
    case guardPhase l =>
      cases h
      exact queuesKeeping.enterPhase (by decide) (queuesKeeping.audits rfl faultAct_queues l s) 2
    case mailboxPost a n c v =>
      cases h
      refine queuesKeeping.ifNot ?_
      split
      · exact queuesKeeping.of_frame (deny_frame ..) rfl
      · exact queuesKeeping.trans (postNotice_queues ..) (queuesKeeping.of_frame (busOk_frame s) rfl)
    case pop a n c =>
      cases h
      exact queuesKeeping.ownWrite rfl (popNotice_queues n c s) ..
    case flush a n c =>
      cases h
      exact queuesKeeping.ownWrite rfl (flushChan_queues n c s) ..
    case mailboxEcho n c j =>
      cases h
      split
      · exact answerWith_queues ..
      · exact queuesKeeping.refl s
    case ledgerRead n c j req =>
      cases h
      split
      · exact answerWith_queues ..
      · exact queuesKeeping.refl s
    case counters n c j =>
      cases h
      split
      · exact answerWith_queues ..
      · exact queuesKeeping.refl s
    case partState n c j =>
      cases h
      split
      · exact answerWith_queues ..
      · exact queuesKeeping.refl s
    case serviceBusy n c j =>
      cases h
      split
      · exact queuesKeeping.ifOnly (answerNotice_queues ..)
      · exact queuesKeeping.refl s
    case registerWrite a addr v =>
      cases h
      exact queuesKeeping.registerWrite rfl (queuesKeeping.writeFields rfl (fun n off => writeSlot_queues a n off v s)
        (fun _ => queuesKeeping.of_frame (writeStroke_frame ..) rfl) (fun _ => queuesKeeping.of_frame (writeScreen_frame ..) rfl) addr)
    all_goals exact absurd hc Bool.false_ne_true

/-! ### Blown fuses (R388, R431) -/

/-- Every fuse that is blown stays blown. -/
structure FusesStay (s t : State) : Prop where
  kept : FusesKept s t

theorem fusesStay_of_otp {s t : State} (h : t.life.otp = s.life.otp) : FusesStay s t := ⟨fun a b hb => by rwa [otpWord, h]⟩

theorem fusesKeeping : Keeping .life FusesStay where
  of_same {s t} h := by
    have hlife : s.life = t.life := h
    exact fusesStay_of_otp (by rw [hlife])
  trans k h := ⟨fun a b hb => k.kept a b (h.kept a b hb)⟩

/-- A burn programs ones into one word and takes none away. -/
theorem burn_fuses (r : OtpReq) (s : State) : FusesStay s (burn r s) := by
  refine ⟨fun a b hb => ?_⟩
  by_cases ha : a = r.addr
  · subst ha
    have hword : otpWord (burn r s) r.addr = (r.bits ||| otpWord s r.addr) % 2 ^ 32 := by
      simp only [otpWord, burn, modLife, tgetD, tget_tput_same, Option.getD_some, BitVec.toNat_ofNat]
    have hlt : b < 32 := by
      by_contra hle
      have hpow : 2 ^ 32 ≤ 2 ^ b := Nat.pow_le_pow_right (by decide) (Nat.le_of_not_lt hle)
      rw [otpWord, Nat.testBit_lt_two_pow ((BitVec.isLt _).trans_le hpow)] at hb
      exact Bool.false_ne_true hb
    rw [hword, Nat.testBit_mod_two_pow, Nat.testBit_or, hb]
    simp [hlt]
  · have hword : otpWord (burn r s) a = otpWord s a := by simp only [otpWord, burn, modLife, tgetD, tget_tput_other _ _ ha]
    rwa [hword]

theorem zeroise_fuses (z : List Nat) (s : State) : FusesStay s (zeroise z s) := by
  obtain ⟨-, -, -, hotp, -⟩ := zeroisedLife_fields z.length s.life
  exact fusesStay_of_otp ((congrArg Life.otp (zeroise_life z s)).trans hotp)

/-! #### Bring-up and resets -/

theorem romDone_fuses (readable keys : Bool) (z : List Nat) (s : State) : FusesStay s (romDone readable keys z s) := by
  have hunwrap (x : State) : FusesStay x (unwrapKeys keys x) := fusesStay_of_otp rfl
  unfold romDone
  refine fusesKeeping.after (syncLinks_frame _) rfl (fusesKeeping.after (modBoot_frame ..) rfl
    (fusesKeeping.trans (fusesKeeping.whenB (zeroise_fuses z _) _) ?_))
  refine fusesKeeping.after (strapRecords_frame _) rfl (fusesKeeping.after (.when fun _ => recordBlock_frame ..) rfl
    (fusesKeeping.after (recordBlock_frame ..) rfl ?_))
  exact fusesKeeping.after (timeBase_frame ..) rfl (fusesKeeping.after (scanLedger_frame ..) rfl
    (fusesKeeping.trans (hunwrap _) (fusesKeeping.of_frame (modNvm_frame ..) rfl)))

/-- Only step 2 of bring-up writes the life-cycle. -/
theorem stepCut_fuses (s : State) : FusesStay s (stepCut s) := by
  unfold stepCut
  split
  · exact fusesKeeping.after (stepRecord_frame _) rfl (romDone_fuses ..)
  · split
    · refine fusesKeeping.ifNot ?_
      split
      · exact fusesKeeping.after (modBoot_frame ..) rfl (fusesKeeping.after (.each tileFailed_frame) rfl
          (fusesKeeping.of_frame (stepRecord_frame s) rfl))
      · exact fusesKeeping.after (modBoot_frame ..) rfl (fusesKeeping.after (.each linkAbsentNow_frame) rfl
          (fusesKeeping.of_frame (stepRecord_frame s) rfl))
    · exact fusesKeeping.ifOnly (fusesKeeping.after (censusCut_frame _) rfl (fusesKeeping.of_frame (stepRecord_frame s) rfl))

theorem clearControl_fuses (s : State) : FusesStay s (clearControl s) := by
  have hwindows (x : State) : FusesStay x (clearWindows x) := fusesStay_of_otp rfl
  refine fusesKeeping.after (modGnd_frame ..) rfl (fusesKeeping.after (modBoot_frame ..) rfl (fusesKeeping.trans (hwindows _) ?_))
  exact fusesKeeping.after (clearRecovery_frame _) rfl (fusesKeeping.after (clearCopyRegs_frame _) rfl
    (fusesKeeping.after (clearTree_frame _) rfl (fusesKeeping.after (abortHold_frame ..) rfl
      (fusesKeeping.of_frame (freezeTraces_frame s) rfl))))

theorem startReset_fuses (alarm : Nat) (r : DomReset) (s : State) : FusesStay s (startReset alarm r s) := by
  cases h : domainReset s r.domain with
  | true => rw [startReset_again h]; exact fusesKeeping.refl s
  | false =>
    rw [startReset_new h]
    refine fusesKeeping.trans ?_ (fusesKeeping.after (modPwr_frame (resetNoted r) _) rfl
      (fusesKeeping.of_frame (resetLeave_frame alarm s) rfl))
    split
    · exact fusesKeeping.of_frame (clearCore_frame _) rfl
    · exact clearControl_fuses _

theorem resetWrite_fuses (v : Word) (s : State) : FusesStay s (resetWrite v s) :=
  fusesKeeping.trans (fusesKeeping.whenB (startReset_fuses ..) _) (fusesKeeping.whenB (startReset_fuses ..) _)

theorem faultAct_fuses (r : DomReset) (unit sub : Nat) (s : State) : FusesStay s (faultAct r unit sub s) := by
  unfold faultAct
  split
  · exact fusesKeeping.after (toWait_frame ..) rfl (fusesKeeping.of_frame (leaveAll_frame ..) rfl)
  · split
    · exact fusesKeeping.after (leaveAll_frame ..) rfl (fusesKeeping.of_frame (flushChan_frame ..) rfl)
    · split
      · exact fusesKeeping.of_frame (holdAll_frame s) rfl
      · exact startReset_fuses ..

theorem execClockLoss_fuses (s : State) : FusesStay s (if s.boot.inReset || s.pwr.clockLost then s else
    startReset acManual { domain := dmCore, cause := rcClock } (modPwr (fun p => { p with clockLost := true })
      (recordBlock .clockLoss (le 1 1 ++ zeros 3) s))) :=
  fusesKeeping.ifNot (fusesKeeping.trans (startReset_fuses ..) (fusesKeeping.after (modPwr_frame ..) rfl
    (fusesKeeping.of_frame (recordBlock_frame ..) rfl)))

/-! #### PWR_LC_CMD -/

theorem lcReject_fuses (op r : Nat) (s : State) : FusesStay s (lcReject op r s) :=
  fusesKeeping.after (recordBlock_frame ..) rfl (fusesStay_of_otp rfl)

theorem startBurns_fuses (rs : List OtpReq) (s : State) : FusesStay s (startBurns rs s) := by
  cases rs with
  | nil => exact fusesKeeping.refl s
  | cons r rs => exact fusesKeeping.after (emit_frame ..) rfl (fusesStay_of_otp rfl)

theorem devkeyGo_fuses (s : State) : FusesStay s (devkeyGo s) := by
  unfold devkeyGo
  split
  · exact lcReject_fuses ..
  · split
    · exact lcReject_fuses ..
    · exact fusesStay_of_otp rfl

theorem provisionEnd_fuses (old : Nat) (k : KeyStore) (s : State) : FusesStay s (provisionEnd old k s) :=
  fusesStay_of_otp ((congrArg Life.otp (provisionEnd_keys old k s).2).trans rfl)

theorem returnEnd_fuses (old : Nat) (z : List Nat) (s : State) : FusesStay s (returnEnd old z s) := by
  obtain ⟨-, -, -, hotp, -⟩ := zeroisedLife_fields z.length s.life
  exact fusesStay_of_otp ((congrArg Life.otp (returnEnd_keys old z s).2).trans hotp)

theorem provisionGo_fuses (blk : MemRead) (s : State) : FusesStay s (provisionGo blk s) := by
  rw [provisionGo_eq]
  split
  · exact lcReject_fuses ..
  · split
    · exact provisionEnd_fuses ..
    · exact startBurns_fuses ..

theorem signedGo_fuses (blk : MemRead) (rs : List OtpReq) (s : State) : FusesStay s (startBurns rs (commitCounter blk s)) :=
  fusesKeeping.trans (startBurns_fuses ..) (fusesKeeping.of_frame (modNvm_frame ..) rfl)

theorem lcGo_fuses (op : Nat) (blk : MemRead) (s : State) : FusesStay s (lcGo op blk s) := by
  cases hr : s.life.req with
  | some r => rw [lcGo_burning (by simp [hr])]; exact fusesStay_of_otp rfl
  | none =>
    rw [lcGo_idle hr]
    split
    · exact devkeyGo_fuses s
    · split
      · exact provisionGo_fuses blk s
      · split
        · unfold returnGo
          dsimp only
          split
          · exact lcReject_fuses ..
          · exact signedGo_fuses ..
        · split
          · unfold lockGo
            dsimp only
            split
            · exact lcReject_fuses ..
            · exact signedGo_fuses ..
          · exact lcReject_fuses ..

theorem lcWrite_fuses (v : Word) (blk : MemRead) (s : State) : FusesStay s (lcWrite v blk s) :=
  fusesKeeping.trans (fusesKeeping.whenB (lcGo_fuses ..) _) (fusesStay_of_otp rfl)

theorem burnsDone_fuses (r : OtpReq) (z : List Nat) (s : State) : FusesStay s (burnsDone r z s) := by
  unfold burnsDone
  split
  · split
    · exact provisionEnd_fuses ..
    · exact fusesKeeping.refl s
  · split
    · exact returnEnd_fuses ..
    · exact fusesKeeping.after (lcDone_logged _ _ s).frame rfl (fusesStay_of_otp rfl)

theorem otpAnswer_fuses (err : Bool) (z : List Nat) (s : State) : FusesStay s (otpAnswer err z s) := by
  have hburnt (r : OtpReq) : FusesStay s (burnt r s) := fusesKeeping.trans (t := burn r s) (fusesStay_of_otp rfl) (burn_fuses r s)
  cases hr : s.life.req with
  | none => rw [otpAnswer_idle hr]; exact fusesKeeping.refl s
  | some r =>
    cases err with
    | true =>
      rw [otpAnswer_failed hr]
      exact fusesKeeping.trans (lcReject_fuses ..) (fusesStay_of_otp rfl)
    | false =>
      cases hq : s.life.queue with
      | nil => rw [otpAnswer_last hr hq]; exact fusesKeeping.trans (burnsDone_fuses ..) (hburnt r)
      | cons q l => rw [otpAnswer_next hr hq]; exact fusesKeeping.trans (startBurns_fuses ..) (hburnt r)

/-- No register of SCREEN is a fuse. -/
theorem writeScreen_fuses (off : Nat) (v : Word) (s : State) : FusesStay s (writeScreen off v s) := by
  unfold writeScreen
  split
  · exact fusesKeeping.of_frame (modScr_frame ..) rfl
  · exact fusesStay_of_otp rfl
  · exact fusesKeeping.refl s

theorem coldReset_fuses (n : Nat) (s : State) : FusesStay s (coldReset (if s.boot.inReset then s else commitSome n (sealQuietly s))) := by
  refine fusesStay_of_otp ?_
  show Life.otp (State.life (if s.boot.inReset then s else commitSome n (sealQuietly s))) = _
  split
  · rfl
  · rw [(commitSealed_keeps n s).2.1]

theorem exec_fuses (i : Instr) (s t : State) (h : exec i s = .next t) : FusesStay s t := by
  cases hc : (touches i).contains .life with
  | false => exact fusesKeeping.exec_untouched h hc
  | true =>
    cases i
    case coldResetAssert n =>
      cases h
      exact coldReset_fuses n s
    case bringupRom good keyOk z =>
      cases h
      exact fusesKeeping.ifOnly (romDone_fuses ..)
    case bringupStepTimeout =>
      cases h
      exact fusesKeeping.ifNot (stepCut_fuses s)
    case clockLoss =>
      cases h
      exact execClockLoss_fuses s
    case coreReset a v =>
      cases h
      exact fusesKeeping.privWrite rfl (resetWrite_fuses v s) _ _
    case controlReset a v =>
      cases h
      exact fusesKeeping.privWrite rfl (resetWrite_fuses v s) _ _
    case lockstepMismatch d =>
      cases h
      exact fusesKeeping.ifNot (fusesKeeping.selfFault rfl (faultAct_fuses _ _ _) s)
    case wardenWatchdog =>
      cases h
      exact fusesKeeping.ifNot (startReset_fuses ..)
    case devkey a v =>
      cases h
      exact fusesKeeping.privWrite rfl (lcWrite_fuses v none s) _ _
    case provision a v blk =>
      cases h
      exact fusesKeeping.privWrite rfl (lcWrite_fuses v blk s) _ _
    case lifecycleReturn a v blk =>
      cases h
      exact fusesKeeping.privWrite rfl (lcWrite_fuses v blk s) _ _
    case serial a v blk =>
      cases h
      exact fusesKeeping.privWrite rfl (lcWrite_fuses v blk s) _ _
    case revoke a v blk =>
      cases h
      exact fusesKeeping.privWrite rfl (lcWrite_fuses v blk s) _ _
    case otpAccessDone err z =>
      cases h
      exact otpAnswer_fuses err z s
    case guardPhase l =>
      cases h
      exact fusesKeeping.enterPhase (by decide) (fusesKeeping.audits rfl faultAct_fuses l s) 2
    case deepTestAccess =>
      cases h
      exact fusesKeeping.ifNot (fusesKeeping.after (recordBlock_frame ..) rfl (fusesStay_of_otp rfl))
    case registerWrite a addr v =>
      cases h
      exact fusesKeeping.registerWrite rfl (fusesKeeping.writeFields rfl (fun _ _ => fusesKeeping.of_frame (writeSlot_frame ..) rfl)
        (fun _ => fusesKeeping.of_frame (writeStroke_frame ..) rfl) (fun off => writeScreen_fuses off v s) addr)
    all_goals exact absurd hc Bool.false_ne_true

/-- Settles O58: each of the three is a `Keeping` relation of one part of the block, which `exec_tickLegal`, `exec_queues` and `exec_fuses`
follow through the commands that touch the part. -/
theorem invariantsHoldAfterEveryStep : Obligations.InvariantsHoldAfterEveryStep :=
  ⟨fun _ _ hl hs => (legalKeeping.step (by decide) exec_tickLegal hs).legal hl,
    fun _ _ hb hs => (queuesKeeping.step (by decide) exec_queues hs).bounded hb,
    fun _ _ hs => (fusesKeeping.step (by decide) exec_fuses hs).kept⟩

end Sys2Proof.Machine
end

section
/-!
The settings of the stroke and where a follower's ticks come from: STK_CFG, markers, missing ones, and the edges of the pin pair.
-/
namespace Sys2Proof.Machine

open Sys2Proof

/-! ### STK_CFG (R9, R10, R12, R15) -/

section Settings

variable {a : Access} {v : Word} {s : State}

/-- The three commands write one register. -/
theorem exec_stkCfg_reaches (hr : reaches s a aStkCfg = true) {c : Instr} (hc : c = .periodWrite a v ∨ c = .strokeLock a v ∨
    c = .strokeEnable a v) : exec c s = .next (busOk (writeStkCfg v s)) := by
  rcases hc with rfl | rfl | rfl
  all_goals exact congrArg ok (privWrite_reaches hr _)

theorem writeRate_locked (h : s.tcfg.lock = true) (v : Word) : writeRate v s = s := if_pos h

/-- The block once PERIOD and LEAD of a write are taken, each where R9 admits it. -/
def rated (v : Word) (s : State) : State := { s with
  tcfg := { s.tcfg with
    period := if 50000 ≤ fld v 19 0 ∧ fld v 19 0 ≤ 400000 then fld v 19 0 else s.tcfg.period
    lead := if 1 ≤ fld v 31 28 ∧ fld v 31 28 ≤ 15 then fld v 31 28 else s.tcfg.lead }
  stk := { s.stk with cfgErr := s.stk.cfgErr || !(periodOk (fld v 19 0)) || !(leadOk (fld v 31 28)) } }

theorem writeRate_unlocked (h : s.tcfg.lock = false) (v : Word) : writeRate v s = rated v s := by
  simp only [writeRate, h, Bool.false_eq_true, if_false, periodOk_iff, leadOk_iff, rated]

theorem rated_admitted (hp : 50000 ≤ fld v 19 0 ∧ fld v 19 0 ≤ 400000) (hn : 1 ≤ fld v 31 28 ∧ fld v 31 28 ≤ 15) (s : State) :
    rated v s = { s with tcfg := { s.tcfg with period := fld v 19 0, lead := fld v 31 28 } } := by
  simp only [rated, if_pos hp, if_pos hn, periodOk_iff.mpr hp, leadOk_iff.mpr hn, Bool.not_true, Bool.or_false]

theorem writeLock_idle (h : fbit v 63 = false ∨ s.tcfg.lock = true) : writeLock v s = s := by
  rcases h with h | h <;> simp [writeLock, h]

/-- Nothing is compared before an image is loaded (R10). -/
theorem compareRate_unloaded (h : s.gnd.state ≠ 3) : compareRate s = s := by
  have hstate : (s.gnd.state == 3) = false := beq_eq_false_iff_ne.mpr h
  simp [compareRate, hstate]

theorem writeLock_unloaded (hv : fbit v 63 = true) (hl : s.tcfg.lock = false) (hg : s.gnd.state ≠ 3) :
    writeLock v s = { s with tcfg := { s.tcfg with lock := true } } := by
  have hlock : (fbit v 63 && !s.tcfg.lock) = true := by simp [hv, hl]
  exact (if_pos hlock).trans (compareRate_unloaded hg)

theorem writeEnable_idle (h : fbit v 32 = false) : writeEnable v s = s := by simp [writeEnable, h]

/-- The block that a first ENABLE finds. -/
def enabled (s : State) : State := { s with tcfg := { s.tcfg with enable := true }, stk := { s.stk with enabledAt := now s } }

theorem writeEnable_first (hv : fbit v 32 = true) (he : s.tcfg.enable = false) : writeEnable v s =
    if s.stk.source = 0 then masterStart (enabled s)
    else whenB (s.stk.source == 2) startCheck (modStk (fun x => { x with state := skAcquire }) (enabled s)) := by
  simp [writeEnable, hv, he, enabled]

theorem writeStkCfg_locked (hv : fbit v 63 = false) (hl : s.tcfg.lock = true) : writeStkCfg v s = writeEnable v s := by
  rw [writeStkCfg, writeRate_locked hl, writeLock_idle (.inl hv)]

theorem masterStart_conflict (hs : s.stk.source = 0) (he : s.tcfg.enable = true) (hg : s.gnd.state = 3) (hm : s.wch.chip ≠ s.gnd.pod.master) :
    masterStart s = masterConflict s := by simp [masterStart, hs, he, hg, hm]

theorem fld_lead_le (v : Word) : fld v 31 28 ≤ 15 := by
  have h : fld v 31 28 < 2 ^ 4 := Nat.mod_lt _ (by decide)
  exact Nat.le_of_lt_succ h

end Settings

/-- Settles O12: the three commands write one register, whose rate, LOCK and ENABLE are taken in that order. -/
theorem strokeConfigurationIsCheckedAndLocked : Obligations.StrokeConfigurationIsCheckedAndLocked := by
  refine ⟨fun a v s hr hlock hen hl => ?_, fun a v s hr hen hl => ?_, fun a v s hr hlock hen hl hg hp1 hp2 hn => ?_,
    fun a v s hr hlock hen hl he hs => ?_, fun a v s hr hlock hen hl he hs hg hm => ?_, fun s hc hs ht => ?_⟩
  · rw [exec_stkCfg_reaches hr (.inl rfl), writeStkCfg, writeLock_idle (.inl hlock), writeEnable_idle hen, writeRate_unlocked hl]
    rfl
  · rw [exec_stkCfg_reaches hr (.inl rfl), writeStkCfg, writeRate_locked hl, writeLock_idle (.inr hl), writeEnable_idle hen]
  · rw [exec_stkCfg_reaches hr (.inr (.inl rfl)), writeStkCfg, writeRate_unlocked hl, writeLock_unloaded (s := rated v s) hlock hl hg,
      writeEnable_idle hen, rated_admitted ⟨hp1, hp2⟩ ⟨hn, fld_lead_le v⟩]
  · rw [exec_stkCfg_reaches hr (.inr (.inr rfl)), writeStkCfg_locked hlock hl, writeEnable_first hen he, if_neg (by simp [hs]), hs]
    rfl
  · rw [exec_stkCfg_reaches hr (.inr (.inr rfl)), writeStkCfg_locked hlock hl, writeEnable_first hen he, if_pos hs,
      masterStart_conflict (s := enabled s) hs rfl hg hm]
    rfl
  · have hrepeat : (s.stk.conflictMaster && s.stk.source == 0 && !ticking s) = true := by simp [hc, hs, ht]
    exact congrArg ok (if_pos hrepeat)

/-! ### Markers (R15, R18 to R20) -/

section Markers

variable {l : Nat} {m : Marker} {now0 r : Nat} {s : State}

theorem exec_strokeMarker (hl : l < s.build.links) : exec (.strokeMarker l m now0 r) s = .next (takeMarker l m now0 r s) := onUnit_built hl _

theorem takeMarker_foreign (h : s.gnd.state ≠ 3 ∨ m.master ≠ s.gnd.pod.master ∨ (s.stk.source = 1 ∧ 255 ≤ m.hops)) :
    takeMarker l m now0 r s = foreignMarker s := by
  have hforeign : (!(s.gnd.state == 3 && m.master == s.gnd.pod.master) || (s.stk.source == 1 && decide (255 ≤ m.hops))) = true := by
    rcases h with h | h | ⟨h1, h2⟩
    · simp [beq_eq_false_iff_ne.mpr h]
    · simp [beq_eq_false_iff_ne.mpr h]
    · simp [h1, h2]
  exact if_pos hforeign

theorem takeMarker_unfed (hs : s.stk.source ≠ 1) (hg : s.gnd.state = 3) (hm : m.master = s.gnd.pod.master) :
    takeMarker l m now0 r s = s := by
  have hsource : (s.stk.source == 1) = false := beq_eq_false_iff_ne.mpr hs
  simp [takeMarker, hsource, hg, hm]

/-- When a marker's stroke begins at this block: LEAD periods after it left the master, less the delays of its way (R18). -/
def markerTick (l : Nat) (m : Marker) (now0 : Nat) (s : State) : Nat :=
  now0 + m.lead * s.tcfg.period - (m.acc + tgetD s.stk.linkDelay l 0)

theorem followMarker_expected {t : Nat} (hst : s.stk.state = 2 ∨ s.stk.state = 3) (hn : m.num = ownAt s t) :
    followMarker l m t r s = supply l m t r s := by
  rcases hst with h | h
  · simp [followMarker, h, ← hn, skAcquire, skLost, skLocked]
  · simp [followMarker, h, ← hn, skAcquire, skLost, skLocked, skFlywheel]

/-- The first marker of its number on a link that feeds the block, with the number that a locked block expects. -/
theorem takeMarker_first (hs : s.stk.source = 1) (hg : s.gnd.state = 3) (hm : m.master = s.gnd.pod.master) (hh : m.hops < 255)
    (hl : l = s.gnd.chip.parentLink ∨ s.gnd.chip.backups.contains l = true) (hst : s.stk.state = 2 ∨ s.stk.state = 3)
    (ht : m.acc + tgetD s.stk.linkDelay l 0 ≤ m.lead * s.tcfg.period) (hseen : s.stk.seen.any (fun e => e.1 == m.num) = false)
    (hn : m.num = ownAt s (markerTick l m now0 s)) :
    takeMarker l m now0 r s = supply l m (markerTick l m now0 s) r (noteSkew (l == s.gnd.chip.parentLink) m.num (markerTick l m now0 s) s) := by
  have hknown : (!(s.gnd.state == 3 && m.master == s.gnd.pod.master) || (s.stk.source == 1 && decide (255 ≤ m.hops))) = false := by
    simp [hg, hm, hh]
  have hfed : (!(s.stk.source == 1) || !(l == s.gnd.chip.parentLink || s.gnd.chip.backups.contains l) || s.stk.state == skIdle ||
      decide (m.lead * s.tcfg.period < m.acc + tgetD s.stk.linkDelay l 0)) = false := by
    have hlink : (l == s.gnd.chip.parentLink || s.gnd.chip.backups.contains l) = true := by
      rcases hl with hl | hl
      · simp [hl]
      · rw [hl, Bool.or_true]
    have hidle : (s.stk.state == skIdle) = false := beq_eq_false_iff_ne.mpr (show s.stk.state ≠ 0 by omega)
    rw [hlink, hidle]
    simp [hs, ht]
  unfold takeMarker
  simp only [hknown, hfed, hseen, Bool.false_eq_true, if_false]
  exact followMarker_expected (s := noteSkew _ m.num (markerTick l m now0 s) s) hst hn

/-- The STROKE window once a marker has scheduled its tick. -/
def suppliedStk (l : Nat) (m : Marker) (t : Nat) (x : Stk) : Stk := { x with
  sched := insBy Prod.snd (x.sched.filter (fun e => !(e.1 == m.num))) (m.num, t)
  seen := ((m.num, l) :: x.seen).take 64, lastNum := some m.num }

theorem supply_stk (l : Nat) (m : Marker) (t r : Nat) (s : State) : (supply l m t r s).stk = suppliedStk l m t s.stk :=
  ((flood_frame ..).keeps .stk rfl).symm

theorem supply_frame_of_source (l : Nat) (m : Marker) (t r : Nat) (s : State) :
    Frame [.stk, .wch, .ldg, .mem, .nextTag, .outs] s (supply l m t r s) :=
  .after (flood_frame ..) rfl (.after (modStk_frame ..) rfl (.within (modStk_frame ..) rfl))

end Markers

/-! ### Missing markers and the pin pair (R16, R22, R24) -/

section Sources

variable {now0 : Nat} {s : State}

theorem missTick_due (hs : s.stk.source ≠ 0) (hn : s.stk.sched.any (fun e => e.1 == now s + 1) = false) : missTick s =
    if s.stk.state = 2 ∨ s.stk.state = 3 ∨ s.stk.state = 4 then scheduleOwn s
    else modStk (fun y => { y with valid4 := 0, edgeRun := 0, nextTick := y.nextTick + s.tcfg.period }) s := by
  have hsource : (s.stk.source == 0) = false := beq_eq_false_iff_ne.mpr hs
  simp [missTick, hsource, hn, skLocked, skFlywheel, skLost, or_assoc]

theorem takeEdge_first (hs : s.stk.source = 2) (hst : s.stk.state ≠ 0) (ht : s.stk.ticked = false) : takeEdge now0 s =
    modStk (fun y => { y with edgeRun := 1, nextTick := now0 + s.tcfg.period }) (schedule s.tcfg.start now0 s) := by
  have hidle : (s.stk.state == skIdle) = false := beq_eq_false_iff_ne.mpr hst
  simp [takeEdge, hs, hidle, ht]

theorem takeEdge_early (hs : s.stk.source = 2) (hst : s.stk.state ≠ 0) (ht : s.stk.ticked = true)
    (hn : now0 + s.tcfg.period / 100 < s.stk.nextTick) : takeEdge now0 s = modStk (fun y => { y with runt := satInc 16 y.runt }) s := by
  have hidle : (s.stk.state == skIdle) = false := beq_eq_false_iff_ne.mpr hst
  simp [takeEdge, hs, hidle, ht, hn]

/-- Only an acquiring block may lock at an edge (R25). -/
theorem pinTryLock_idle (h : s.stk.state ≠ 1) : pinTryLock s = s := by
  have hacquire : (s.stk.state == skAcquire) = false := beq_eq_false_iff_ne.mpr h
  simp [pinTryLock, hacquire]

theorem takeEdge_onTime (hs : s.stk.source = 2) (hst : s.stk.state = 2 ∨ s.stk.state = 3) (ht : s.stk.ticked = true)
    (hlow : s.stk.nextTick ≤ now0 + s.tcfg.period / 100) (hhigh : now0 ≤ s.stk.nextTick + s.tcfg.period / 100) :
    takeEdge now0 s = modStk (fun y => { y with edgeRun := y.edgeRun + 1 }) (schedule (now s + 1) now0 s) := by
  have hidle : (s.stk.state == skIdle) = false := by rcases hst with h | h <;> rw [h] <;> rfl
  have hlost : (s.stk.state == skLost) = false := by rcases hst with h | h <;> rw [h] <;> rfl
  have hacquire : s.stk.state ≠ 1 := by omega
  unfold takeEdge
  simp only [hs, hidle, ht, Nat.not_lt.mpr hlow, Nat.not_lt.mpr hhigh, beq_self_eq_true, Bool.not_true, Bool.or_self, Bool.false_eq_true,
    if_false]
  rw [pinTryLock_idle]
  · simp only [schedule, modStk, hlost, Bool.false_eq_true, if_false]
  · simp [schedule, modStk, hlost, hacquire]

end Sources

/-- Settles O11: a marker is `takeMarker_foreign`, `takeMarker_unfed` or `takeMarker_first`, a missing one `missTick_due`, and an edge one of
the `takeEdge` lemmas. -/
theorem followersScheduleTheirTicks : Obligations.FollowersScheduleTheirTicks := by
  refine ⟨fun l m now0 r s hb hs hg hm hh hl hst ht hseen hn => ⟨_, exec_strokeMarker hb, ?_, ?_⟩, fun l m now0 r s hb h => ?_,
    fun l m now0 r s hb hs hg hm => ?_, fun s hs hn hst => ?_, fun s hs hn hst => ?_, fun now0 s hs hst ht hn => ?_,
    fun now0 s hs hst ht hlow hhigh => ?_, fun now0 s hs hst ht => ?_⟩
  · rw [takeMarker_first hs hg hm hh hl hst ht hseen hn]
    exact .trans (.within (noteSkew_frame ..) rfl) (supply_frame_of_source ..)
  · rw [takeMarker_first hs hg hm hh hl hst ht hseen hn, supply_stk]
    rfl
  · rw [exec_strokeMarker hb, takeMarker_foreign h]
    rfl
  · rw [exec_strokeMarker hb, takeMarker_unfed hs hg hm]
  · refine congrArg ok ((missTick_due hs hn).trans ?_)
    rw [if_pos hst]
    rfl
  · refine congrArg ok ((missTick_due hs hn).trans ?_)
    rw [if_neg (by omega)]
    rfl
  · exact congrArg ok (takeEdge_early hs hst ht hn)
  · exact congrArg ok (takeEdge_onTime hs hst ht hlow hhigh)
  · exact congrArg ok (takeEdge_first hs hst ht)

end Sys2Proof.Machine
end

section
/-!
Heartbeats: what one changes on its link, a partner whose configuration differs, and the numbering that an acquiring block adopts.
-/
namespace Sys2Proof.Machine

open Sys2Proof

section Heartbeats

variable {l : Nat} {h : Heart} {n : Nat} {s : State}

theorem exec_heartbeat (hl : l < s.build.links) : exec (.heartbeat l h n) s = .next (takeHeart l h n s) := onUnit_built hl _

/-- What every heartbeat sets on its link (R302, R313). -/
def heartNoted (h : Heart) (k : Link) : Link := { k with hbSeen := true, hbMissed := 0, hbStroke := h.num, hbEpochs := h.epochs.take 12 }

theorem takeHeart_closed (ho : linkOpen (link s l) = false) : takeHeart l h n s = s := by simp [takeHeart, ho]

theorem takeHeart_open (ho : linkOpen (link s l) = true) : takeHeart l h n s = pinHeart l h n (whenB (isTunnel s l) (tunnelDelay l h n)
    (whenB (!(fit 16 h.config == fit 16 s.gnd.configDigest)) (configDiffers l h) (modLink l (heartNoted h) s))) := by
  simp only [takeHeart, ho, Bool.not_true, Bool.false_eq_true, if_false]
  rfl

/-- On a link that is no tunnel, with the block's own digest, the numbering follows at once. -/
theorem takeHeart_sameDigest (ho : linkOpen (link s l) = true) (ht : isTunnel s l = false)
    (hc : fit 16 h.config = fit 16 s.gnd.configDigest) : takeHeart l h n s = pinHeart l h n (modLink l (heartNoted h) s) := by
  simp only [takeHeart_open ho, ht, hc, beq_self_eq_true, Bool.not_true, whenB_false]

theorem takeHeart_otherDigest (ho : linkOpen (link s l) = true) (ht : isTunnel s l = false)
    (hc : fit 16 h.config ≠ fit 16 s.gnd.configDigest) : takeHeart l h n s = pinHeart l h n (configDiffers l h (modLink l (heartNoted h) s)) := by
  simp only [takeHeart_open ho, ht, beq_eq_false_iff_ne.mpr hc, Bool.not_false, whenB_true, whenB_false]

/-- A block that the pins do not feed takes no number from a neighbour. -/
theorem pinHeart_unfed (hs : s.stk.source ≠ 2) : pinHeart l h n s = s := by
  have hsource : (s.stk.source == 2) = false := beq_eq_false_iff_ne.mpr hs
  simp [pinHeart, hsource]

/-! ### Another configuration (R75) -/

/-- The link of a partner whose digest differs, with the stroke of its record when one is due. -/
def mismatchNoted (due : Bool) (at0 : Nat) (k : Link) : Link :=
  { k with cfgMismatch := true, mismatchAt := if due then some at0 else k.mismatchAt }

/-- A record is due when the last one is 1,024 strokes old. -/
def mismatchDue (s : State) (l : Nat) : Bool := match (link s l).mismatchAt with | some x => decide (x + 1024 ≤ now s) | none => true

theorem configDiffers_eq (l : Nat) (h : Heart) (s : State) : configDiffers l h s =
    whenB (mismatchDue s l) (recordBlock .configMismatch (le 1 l ++ zeros 3 ++ le 4 (link s l).partner ++ fit 16 h.config))
      (modLink l (mismatchNoted (mismatchDue s l) (now s)) s) := rfl

theorem configDiffers_logged (l : Nat) (h : Heart) (s : State) :
    Logged (modLink l (mismatchNoted (mismatchDue s l) (now s)) s) (configDiffers l h s) :=
  .whenB (fun _ => recordBlock_logged ..) (.refl _)

theorem modLink_modLink (l : Nat) (f g : Link → Link) (s : State) : modLink l g (modLink l f s) = modLink l (fun k => g (f k)) s := by
  simp only [modLink, tmod, tgetD, tget_tput_same, Option.getD_some, tput_tput]

theorem mismatchDue_recent {x : Nat} (hx : (link s l).mismatchAt = some x) (hn : now s < x + 1024) : mismatchDue s l = false := by
  simp [mismatchDue, hx, hn]

/-- A second difference within 1,024 strokes changes the link alone. -/
theorem configDiffers_recent {x : Nat} (hx : (link s l).mismatchAt = some x) (hn : now s < x + 1024) :
    configDiffers l h s = modLink l (mismatchNoted false (now s)) s := by
  rw [configDiffers_eq, mismatchDue_recent hx hn]
  rfl

theorem configDiffers_link (l : Nat) (h : Heart) (s : State) : (link (configDiffers l h s) l).cfgMismatch = true ∧
    (link (configDiffers l h s) l).hbSeen = (link s l).hbSeen ∧ (link (configDiffers l h s) l).hbMissed = (link s l).hbMissed := by
  rw [(configDiffers_logged l h s).links l, link_modLink_same]
  exact ⟨rfl, rfl, rfl⟩

/-! ### Numbers at the pins (R25) -/

theorem strokeStep_logged (old new cause l : Nat) (s : State) : Logged s (strokeStep old new cause l s) := recordBlock_logged ..

theorem pinHeart_adopts (hs : s.stk.source = 2) (ht : s.stk.ticked = true) (hst : s.stk.state = 1 ∨ s.stk.state = 4)
    (hn : ownAt s (n - tgetD s.stk.linkDelay l 0 - h.txOffset) < h.num) : pinHeart l h n s =
      mapNeighbour l h.num h.num (adoptNumber l h.num (ownAt s (n - tgetD s.stk.linkDelay l 0 - h.txOffset)) s) := by
  have hstate : (s.stk.state == skAcquire || s.stk.state == skLost) = true := by rcases hst with h | h <;> rw [h] <;> rfl
  simp [pinHeart, hs, ht, hn, hstate]

/-- The stroke goes on by the difference, and no neighbour counts as low any more. -/
theorem adoptNumber_stk (l num own : Nat) (s : State) : (adoptNumber l num own s).stk = { s.stk with
    stroke := s.stk.stroke + (num - own), sched := s.stk.sched.map (fun e => (e.1 + (num - own), e.2))
    neighbours := s.stk.neighbours.map (fun x => { x with agree := 0, low := false }), conflictPin := false } := by
  have hrecord : (strokeStep own num 3 l s).stk = s.stk := ((strokeStep_logged ..).frame.keeps .stk rfl).symm
  unfold adoptNumber
  dsimp only [modStk]
  rw [hrecord]

/-- A neighbour that agrees with the block's number is not low, and where no other is, the conflict has ended. -/
theorem mapNeighbour_agrees (hlow : ∀ x ∈ s.stk.neighbours, x.low = false) (l num : Nat) :
    (mapNeighbour l num num s).stk.stroke = s.stk.stroke ∧ (mapNeighbour l num num s).stk.conflictPin = false := by
  refine ⟨rfl, ?_⟩
  show List.any _ (fun x : Neighbour => x.low) = false
  rw [List.any_append, Bool.or_eq_false_iff]
  constructor
  · refine List.any_eq_false.mpr fun x hx => ?_
    simp [hlow x (List.mem_of_mem_filter hx)]
  · simp

end Heartbeats

/-- Settles O13: a heartbeat on an open link is `takeHeart_open`; another digest is `configDiffers`, and a larger number at the pins
`pinHeart_adopts`. -/
theorem heartbeatsKeepTheLinkAlive : Obligations.HeartbeatsKeepTheLinkAlive := by
  refine ⟨fun l h n s hl ho hs ht hc => ?_, fun l h n s hl ho hs ht hc => ⟨_, exec_heartbeat hl, ?_⟩,
    fun l h n s hl ho hs ht hc hk hst hn => ⟨_, exec_heartbeat hl, ?_⟩, fun l h n s hl ho hs => ?_, fun l h n s hl ho => ?_⟩
  · rw [exec_heartbeat hl, takeHeart_sameDigest ho ht hc, pinHeart_unfed (s := modLink l (heartNoted h) s) hs]
    rfl
  · have hstk : (configDiffers l h (modLink l (heartNoted h) s)).stk = s.stk := ((configDiffers_frame ..).keeps .stk rfl).symm
    have hunfed : (configDiffers l h (modLink l (heartNoted h) s)).stk.source ≠ 2 := by rwa [hstk]
    obtain ⟨hflag, hseen, hmissed⟩ := configDiffers_link l h (modLink l (heartNoted h) s)
    rw [link_modLink_same] at hseen hmissed
    rw [takeHeart_otherDigest ho ht hc, pinHeart_unfed hunfed]
    refine ⟨hflag, hseen, hmissed, hstk, .after (configDiffers_frame ..) rfl (.within (modLink_frame ..) rfl), fun x hx hn => ?_⟩
    have hx' : (link (modLink l (heartNoted h) s) l).mismatchAt = some x := by rw [link_modLink_same]; exact hx
    exact ⟨_, (configDiffers_recent hx' hn).trans (modLink_modLink ..)⟩
  · obtain ⟨hstroke, hpin⟩ := mapNeighbour_agrees (s := adoptNumber l h.num (ownAt s (n - tgetD s.stk.linkDelay l 0 - h.txOffset))
      (modLink l (heartNoted h) s)) (by simp [adoptNumber_stk]) l h.num
    rw [takeHeart_sameDigest ho ht hc, pinHeart_adopts (s := modLink l (heartNoted h) s) hs hk hst hn]
    refine ⟨hstroke.trans (congrArg Stk.stroke (adoptNumber_stk ..)), hpin, ?_⟩
    exact .after (mapNeighbour_frame ..) rfl (.after (adoptNumber_frame ..) rfl (.within (modLink_frame ..) rfl))
  · rw [exec_heartbeat hl, takeHeart_open ho]
    rfl
  · rw [exec_heartbeat hl, takeHeart_closed ho]

end Sys2Proof.Machine
end

section
/-!
Power estimates and grants, the ends of CORE and CONTROL resets, and the operating hours.
-/
namespace Sys2Proof.Machine

open Sys2Proof

section Power

variable {d g : Nat} {r : DomReset} {s : State}

/-! ### Estimates and grants (R381 to R385) -/

theorem exec_powerEstimate_running (hr : s.boot.inReset = false) (e : Nat) :
    exec (.powerEstimate e) s = .next (takeEstimate (e % 1024) s) := congrArg ok (if_neg (by simp [hr]))

theorem exec_grantStrobe_running (hr : s.boot.inReset = false) (g : Nat) :
    exec (.grantStrobe g) s = .next (takeGrant (g % 1024) s) := congrArg ok (if_neg (by simp [hr]))

/-- PM_OVERDRAW says whether the grant in force lies below the floor; the record of a change is all that comes with it. -/
theorem overdraw_pwr (s : State) : (overdraw s).pwr = { s.pwr with overdraw := decide (s.pwr.grant < 36) } := by
  unfold overdraw
  dsimp only
  split
  · next h =>
    have hsame : decide (s.pwr.grant < 36) = s.pwr.overdraw := beq_iff_eq.mp h
    rw [hsame]
  · exact ((recordBlock_frame ..).keeps .pwr rfl).symm

theorem overdraw_unchanged (h : s.pwr.overdraw = decide (s.pwr.grant < 36)) : overdraw s = s := if_pos (beq_iff_eq.mpr h.symm)

/-- The power window once a grant is in force. -/
def granting (g : Nat) (p : Pwr) : Pwr := { p with grant := g, grantSeen := true, gating := p.gating || decide (g < p.est) }

theorem takeGrant_eq (g : Nat) (s : State) : takeGrant g s = overdraw (modPwr (granting g) s) := rfl

/-! ### Ends of resets (R373, R376, R377) -/

/-- The reset of a domain is taken from those that run. -/
def resetEnded (d : Nat) (s : State) : State := { s with pwr := { s.pwr with running := s.pwr.running.filter (fun x => !(x.domain == d)) } }

/-- The record of a reset that has ended. -/
def endedRecord (r : DomReset) : State → State := recordBlock .domainReset (faultBody r.cause r.domain r.row r.expected r.found)

theorem endReset_none (h : s.pwr.running.find? (fun x => x.domain == d) = none) : endReset d s = s := by
  unfold endReset
  rw [h]

/-- Clock loss holds a CORE reset (R373). -/
theorem endReset_held (h : s.pwr.clockLost = true) : endReset 2 s = s := by
  unfold endReset
  split
  · rfl
  · exact if_pos (by simp [h, dmCore])

theorem endReset_found (h : s.pwr.running.find? (fun x => x.domain == d) = some r) (hd : d = 2 → s.pwr.clockLost = false) :
    endReset d s = endedRecord r (whenB (d == 3) controlResume (resetEnded d s)) := by
  have hgoes : (d == dmCore && s.pwr.clockLost) = false := by
    by_cases h2 : d = 2
    · rw [hd h2, Bool.and_false]
    · have hdomain : (d == dmCore) = false := beq_eq_false_iff_ne.mpr h2
      rw [hdomain, Bool.false_and]
  unfold endReset
  rw [h]
  exact if_neg (by simp [hgoes])

theorem endedRecord_logged (r : DomReset) (s : State) : Logged s (endedRecord r s) := recordBlock_logged ..

theorem controlReset_resetEnded (s : State) : controlReset (resetEnded 3 s) = false := by
  simp [controlReset, resetEnded]

/-- Bring-up goes on where the image and the firmware that are kept let it (R377). -/
theorem controlResume_boot (s : State) : (controlResume s).boot = { s.boot with
    stage := if s.gnd.state = 3 then 5 else if s.boot.fw.isSome then 4 else 3, linksSettled := s.gnd.state == 3 } := by
  have hboot : (holdGoesOn (resetNotices s)).boot = s.boot :=
    ((holdGoesOn_frame _).boot_eq rfl).trans ((resetNotices_frame s).boot_eq rfl)
  unfold controlResume
  simp only [modBoot_fields, hboot, beq_iff_eq]

/-! ### Operating hours (R32) -/

theorem exec_operatingHoursUnit_running (hr : s.boot.inReset = false) (hst : 3 ≤ s.boot.stage) :
    exec .operatingHoursUnit s = .next (hoursUnit s) := by
  have hruns : ¬ (s.boot.inReset || decide (s.boot.stage < 3)) = true := by simp [hr, Nat.not_lt.mpr hst]
  exact congrArg ok (if_neg hruns)

theorem commitCanary_boot (p : Nat) (s : State) : (commitCanary p s).boot = s.boot :=
  ((modSent_frame ..).boot_eq rfl).trans ((craqMod_frame ..).boot_eq rfl)

theorem hoursUnit_boot (s : State) : (hoursUnit s).boot = { s.boot with hours := satInc 32 s.boot.hours } := by
  unfold hoursUnit
  dsimp only
  refine (whenB_keeps (g := State.boot) (forEach_keeps (g := State.boot) commitCanary_boot _) _ _).trans ?_
  exact (whenB_keeps (g := State.boot) (f := modNvm _) (fun _ => rfl) _ _).trans rfl

/-- Within an hour a unit of it counts in the block and in the store, and nothing else changes. -/
theorem hoursUnit_within (hh : satInc 32 s.boot.hours % 64 ≠ 0) (hn : s.nvm.readable = true) : hoursUnit s =
    { s with boot := { s.boot with hours := satInc 32 s.boot.hours }, nvm := { s.nvm with ophours := satInc 32 s.boot.hours } } := by
  have hour : (satInc 32 s.boot.hours % 64 == 0) = false := beq_eq_false_iff_ne.mpr hh
  exact (if_neg (by simp [hour])).trans (if_pos hn)

end Power

/-- Settles O4: a grant is `overdraw` once it is in force, a reset ends by `endReset_found`, and a unit of an hour counts as the
`hoursUnit` lemmas say. -/
theorem grantsResetsAndHoursCount : Obligations.GrantsResetsAndHoursCount := by
  refine ⟨fun e s hr => exec_powerEstimate_running hr e, fun g s hr => ⟨_, exec_grantStrobe_running hr g, ?_⟩, fun s => rfl,
    fun r s hf hc => ?_, fun r s hf => ⟨_, congrArg ok (endReset_found hf fun h => absurd h (by decide)), ?_⟩, fun d s h => ?_,
    fun s hr hst => ⟨_, exec_operatingHoursUnit_running hr hst, hoursUnit_boot s, fun hh hn => hoursUnit_within hh hn⟩⟩
  · rw [takeGrant_eq]
    refine ⟨overdraw_pwr _, .after (overdraw_frame _) rfl (.within (modPwr_frame ..) rfl), fun h => ?_⟩
    rw [overdraw_unchanged (s := modPwr (granting (g % 1024)) s) h]
    rfl
  · exact congrArg ok (endReset_found hf fun _ => hc)
  · have hlog := endedRecord_logged r (controlResume (resetEnded 3 s))
    have hpwr : (endedRecord r (controlResume (resetEnded 3 s))).pwr = (resetEnded 3 s).pwr :=
      (hlog.frame.keeps .pwr rfl).symm.trans ((controlResume_frame _).keeps .pwr rfl).symm
    have hboot := hlog.boot.trans (controlResume_boot (resetEnded 3 s))
    refine ⟨hpwr, ?_, congrArg Boot.stage hboot, congrArg Boot.linksSettled hboot⟩
    exact (congrArg (fun p : Pwr => p.running.any (fun x => x.domain == 3)) hpwr).trans (controlReset_resetEnded s)
  · rcases h with h | ⟨rfl, h⟩
    · exact congrArg ok (endReset_none h)
    · exact congrArg ok (endReset_held h)

end Sys2Proof.Machine
end

section
/-!
The tick and the phase boundaries of a stroke: the number, the time and the phase that they set, and the stroke that Judge and Publish name.
-/
namespace Sys2Proof.Machine

open Sys2Proof

/-! ### The tick (R11, R13) -/

section Ticks

variable {n x : Nat} {s : State}

/-- Where the block stands in its stroke: the number, the phase, and the last tick. -/
def tickAt (s : State) : Nat × Nat × Bool × Nat := (s.stk.stroke, s.stk.phase, s.stk.ticked, s.stk.tickTime)

theorem tickAt_of_frame {l : List Comp} {s t : State} (h : Frame l s t) (hl : l.contains .stk = false) : tickAt t = tickAt s := by
  have hstk : s.stk = t.stk := h.keeps .stk hl
  rw [tickAt, tickAt, hstk]

theorem advanceStroke_tickAt (n x : Nat) (s : State) : tickAt (advanceStroke n x s) = (n, 0, true, x) := rfl

/-- A follower's state machine moves at a tick, but not the tick. -/
theorem followTick_tickAt (fly : Bool) (s : State) : tickAt (followTick fly s) = tickAt s := by
  have hlost (y : State) : tickAt (enterLost y) = tickAt y := (tickAt_of_frame (leaveAll_frame ..) rfl).trans rfl
  unfold followTick
  dsimp only
  split
  · rfl
  · split
    · rfl
    · split
      · rfl
      · split
        · exact (hlost _).trans rfl
        · rfl

/-- Overruns are counted in the STROKE window; nothing else that Gather does is in it. -/
theorem overrunsTick_tickAt (s : State) : tickAt (overrunsTick s) = tickAt s := by
  have hitem (i : Nat × Nat) (y : State) : tickAt (recordBlock .overrun (overrunBody i.1 i.2)
      (modStk (fun x => { x with overrun := satInc 16 x.overrun }) y)) = tickAt y := (tickAt_of_frame (recordBlock_frame ..) rfl).trans rfl
  exact (tickAt_of_frame (modCpy_frame ..) rfl).trans (forEach_keeps (g := tickAt) hitem _ s)

theorem gather_tickAt (sig : TickSignals) (ended : Nat) (s : State) : tickAt (gather sig ended s) = tickAt s := by
  have hsame {l : List Comp} {x y : State} (h : Frame l x y) (hl : l.contains .stk = false) : tickAt y = tickAt x := tickAt_of_frame h hl
  have htiles (x : State) : tickAt (countsTick (progTick ended (storeTouches ended (sentinelsTick sig ended x)))) = tickAt x :=
    (hsame (countsTick_frame _) rfl).trans ((hsame (progTick_frame ..) rfl).trans ((hsame (storeTouches_frame ..) rfl).trans
      (hsame (sentinelsTick_frame ..) rfl)))
  have hsampling (x : State) : tickAt (rlTick (samplingTick (phasesTick (linksTick (configTick (gcount 0 1 x)))))) = tickAt x :=
    (hsame (rlTick_frame _) rfl).trans ((hsame (samplingTick_frame _) rfl).trans ((hsame (phasesTick_frame _) rfl).trans
      ((hsame (linksTick_frame _) rfl).trans ((hsame (configTick_frame _) rfl).trans (hsame (gcount_frame ..) rfl)))))
  have hjoins (x : State) : tickAt (tallyTick (joinTick (markBorrowed (substTick x)))) = tickAt x :=
    (hsame (tallyTick_frame _) rfl).trans ((hsame (joinTick_frame _) rfl).trans ((hsame (markBorrowed_frame _) rfl).trans
      (hsame (substTick_frame x) rfl)))
  have hadmits (x : State) : tickAt (admitGather (craqRetry (canaryTick sig.slack x))) = tickAt x :=
    (hsame (admitGather_frame _) rfl).trans ((hsame (craqRetry_frame _) rfl).trans (hsame (canaryTick_frame ..) rfl))
  unfold gather
  refine (hsame (modCpy_frame _ _) rfl).trans ((hadmits _).trans ((hjoins _).trans ?_))
  exact (hsampling _).trans ((htiles _).trans (overrunsTick_tickAt s))

theorem exec_strokeTick_none (h : nextTickOf s = none) (sig : TickSignals) : exec (.strokeTick sig) s = .next s := by
  have htick : tick sig s = s := by simp [tick, h]
  exact congrArg ok htick

/-- The number, the time and the phase of the tick, whatever is in reset. -/
theorem tick_tickAt (h : nextTickOf s = some (n, x)) (sig : TickSignals) : tickAt (tick sig s) = (n, 0, true, x) := by
  have hsent : tickAt (sendMarker (followTick s.stk.flyTick (advanceStroke n x s))) = (n, 0, true, x) :=
    (tickAt_of_frame (sendMarker_frame _) rfl).trans ((followTick_tickAt ..).trans (advanceStroke_tickAt ..))
  unfold tick
  rw [h]
  dsimp only
  split
  · exact hsent
  · exact (gather_tickAt ..).trans hsent

end Ticks

/-! ### The phase boundaries (R26) -/

section Phases

variable {k : Nat} {f : State → State} {s : State}

/-- A boundary out of its order changes nothing. -/
theorem enterPhase_other (h : s.stk.ticked = false ∨ s.stk.phase ≠ k) (f : State → State) : enterPhase k f s = s := by
  have hother : (!s.stk.ticked || !(s.stk.phase == k)) = true := by
    rcases h with h | h
    · simp [h]
    · simp [beq_eq_false_iff_ne.mpr h]
  exact if_pos hother

theorem enterPhase_next (ht : s.stk.ticked = true) (hp : s.stk.phase = k) (f : State → State) :
    enterPhase k f s = modStk (fun x => { x with phase := k + 1 }) (if controlReset s then s else f s) := by
  have hnext : ¬ (!s.stk.ticked || !(s.stk.phase == k)) = true := by simp [ht, hp]
  exact if_neg hnext

/-- In a CONTROL reset the phase alone moves (R13). -/
theorem enterPhase_inReset (ht : s.stk.ticked = true) (hp : s.stk.phase = k) (hc : controlReset s = true) (f : State → State) :
    enterPhase k f s = { s with stk := { s.stk with phase := k + 1 } } := by
  rw [enterPhase_next ht hp, if_pos hc]
  rfl

/-- Whatever the work of the phase does to the phase itself, the boundary sets it. -/
theorem enterPhase_stk (ht : s.stk.ticked = true) (hp : s.stk.phase = k)
    (hf : { (f s).stk with phase := k + 1 } = { s.stk with phase := k + 1 }) : (enterPhase k f s).stk = { s.stk with phase := k + 1 } := by
  rw [enterPhase_next ht hp]
  split
  · rfl
  · exact hf

theorem enterPhase_judgedStroke (ht : s.stk.ticked = true) (hp : s.stk.phase = k) (hc : controlReset s = false) (f : State → State) :
    (enterPhase k f s).judgedStroke = (f s).judgedStroke := by
  rw [enterPhase_next ht hp, if_neg (by simp [hc])]
  rfl

/-- The STROKE window, and the stroke that Judge judges. -/
def stkAndJudged (s : State) : Stk × Nat := (s.stk, s.judgedStroke)

theorem stkAndJudged_of_frame {l : List Comp} {s t : State} (h : Frame l s t) (hs : l.contains .stk = false)
    (hj : l.contains .judgedStroke = false) : stkAndJudged t = stkAndJudged s :=
  Prod.ext (h.keeps .stk hs).symm (h.keeps .judgedStroke hj).symm

/-- A pass of Judge names the stroke before. -/
theorem judgePass_stkAndJudged (first : Bool) (s : State) : stkAndJudged (judgePass first s) = (s.stk, now s - 1) := by
  have hchecks (cs : List Chk) (x : State) : stkAndJudged (classifyAll cs (forEach cs judgeChk x)) = stkAndJudged x :=
    (stkAndJudged_of_frame (classifyAll_frame ..) rfl rfl).trans
      (forEach_keeps (g := stkAndJudged) (fun c x => stkAndJudged_of_frame (judgeChk_frame c x) rfl rfl) cs x)
  exact (hchecks ..).trans rfl

theorem judgePass_after {x : State} (first : Bool) (h : stkAndJudged x = stkAndJudged s) : stkAndJudged (judgePass first x) = (s.stk, now s - 1) := by
  obtain ⟨hstk, -⟩ := Prod.mk.inj h
  rw [judgePass_stkAndJudged, now, now, hstk]

/-- Judge judges the stroke before the one in which it runs, and leaves the STROKE window as it is. -/
theorem judge_stkAndJudged (u : List Nat) (s : State) : stkAndJudged (judge u s) = (s.stk, now s - 1) := by
  have hsame {l : List Comp} {x y : State} (h : Frame l x y) (hs : l.contains .stk = false) (hj : l.contains .judgedStroke = false) :
      stkAndJudged y = stkAndJudged x := stkAndJudged_of_frame h hs hj
  have hends (x : State) : stkAndJudged (rlJudge (copyCounts (abortOverruns x))) = stkAndJudged x :=
    (hsame (rlJudge_frame _) rfl rfl).trans ((hsame (copyCounts_frame _) rfl rfl).trans (hsame (abortOverruns_frame x) rfl rfl))
  have hsilent (x : State) (l : List Nat) : stkAndJudged (forEach l childSilent x) = stkAndJudged x :=
    forEach_keeps (g := stkAndJudged) (fun c y => hsame (childSilent_frame c y) rfl rfl) l x
  have hrequests (x : State) : stkAndJudged (decideRequests (judgeTrend (judgeHangs (fillVacancies x)))) = stkAndJudged x :=
    (hsame (decideRequests_frame _) rfl rfl).trans ((hsame (judgeTrend_frame _) rfl rfl).trans ((hsame (judgeHangs_frame _) rfl rfl).trans
      (hsame (fillVacancies_frame x) rfl rfl)))
  have hbudget (x : State) : stkAndJudged (computeBudget (decidePhases (dividePower (taintedVarnish (dgtArbitrate x))))) = stkAndJudged x :=
    (hsame (computeBudget_frame _) rfl rfl).trans ((hsame (decidePhases_frame _) rfl rfl).trans ((hsame (dividePower_frame _) rfl rfl).trans
      ((hsame (taintedVarnish_frame _) rfl rfl).trans (hsame (dgtArbitrate_frame x) rfl rfl))))
  have hcounts (x : State) : stkAndJudged (countsJudge (sumStroke (traceVerdicts (countMembers x)))) = stkAndJudged x :=
    (hsame (countsJudge_frame _) rfl rfl).trans ((hsame (sumStroke_frame _) rfl rfl).trans ((hsame (traceVerdicts_frame _) rfl rfl).trans
      (hsame (countMembers_frame x) rfl rfl)))
  unfold judge
  exact (hcounts _).trans ((hbudget _).trans ((hrequests _).trans (judgePass_after true ((hsilent _ _).trans (hends s)))))

theorem closeJudge_stkAndJudged (s : State) : stkAndJudged (closeJudge s) = (s.stk, now s - 1) :=
  (forEach_keeps (g := stkAndJudged) (fun e y => stkAndJudged_of_frame (formVerdict_frame _ e y) rfl rfl) _ _).trans
    (judgePass_stkAndJudged false s)

/-- The phase of Publish is set in the STROKE window, whatever was judged. -/
theorem setPhase_stkAndJudged {w : Stk} {j : Nat} (h : stkAndJudged s = (w, j)) :
    stkAndJudged (modStk (fun x => { x with phase := 2 }) s) = ({ w with phase := 2 }, j) := by
  obtain ⟨rfl, rfl⟩ := Prod.mk.inj h
  rfl

/-- Publish closes the Judge of the stroke before, and sets the phase alone in the STROKE window. -/
theorem publish_stkAndJudged (s : State) : stkAndJudged (publish s) = ({ s.stk with phase := 2 }, now s - 1) := by
  have hsame {l : List Comp} {x y : State} (h : Frame l x y) (hs : l.contains .stk = false) (hj : l.contains .judgedStroke = false) :
      stkAndJudged y = stkAndJudged x := stkAndJudged_of_frame h hs hj
  have hdigests (x : State) : stkAndJudged (publishTw (publishShards (publishXport (publishTally (publishVerdicts x))))) = stkAndJudged x :=
    (hsame (publishTw_frame _) rfl rfl).trans ((hsame (publishShards_frame _) rfl rfl).trans ((hsame (publishXport_frame _) rfl rfl).trans
      ((hsame (publishTally_frame _) rfl rfl).trans (hsame (publishVerdicts_frame x) rfl rfl))))
  have hcopies (x : State) : stkAndJudged (publishSpill (admitPublish (startCanaries (peerPublish (peerAdmit x))))) = stkAndJudged x :=
    (hsame (publishSpill_frame _) rfl rfl).trans ((hsame (admitPublish_frame _) rfl rfl).trans ((hsame (startCanaries_frame _) rfl rfl).trans
      ((hsame (peerPublish_frame _) rfl rfl).trans (hsame (peerAdmit_frame x) rfl rfl))))
  have hsends (x : State) : stkAndJudged (sendHearts (traceReports (publishMailboxes x))) = stkAndJudged x :=
    (hsame (sendHearts_frame _) rfl rfl).trans ((hsame (traceReports_frame _) rfl rfl).trans (hsame (publishMailboxes_frame x) rfl rfl))
  have hclosed : stkAndJudged (countsJudge (closeJudge s)) = (s.stk, now s - 1) :=
    (hsame (countsJudge_frame _) rfl rfl).trans (closeJudge_stkAndJudged s)
  unfold publish
  exact (hsends _).trans ((hcopies _).trans ((hdigests _).trans (setPhase_stkAndJudged hclosed)))

theorem audits_found {l : List AuditReading} (h : ∀ x ∈ l, x.expected = x.found) (s : State) : forEach l auditCount s = s := by
  induction l with
  | nil => rfl
  | cons a l ih =>
    have hpass : auditCount a s = s := if_pos (beq_iff_eq.mpr (h a List.mem_cons_self))
    rw [forEach_cons, hpass]
    exact ih fun x hx => h x (List.mem_cons_of_mem a hx)

end Phases

/-- Settles O10: the tick is `tick_tickAt`, a boundary `enterPhase_next` or `enterPhase_other`, and what a command does not touch is
`exec_frame`. -/
theorem ticksAndPhasesFollowInOrder : Obligations.TicksAndPhasesFollowInOrder := by
  refine ⟨fun sig n x s h => ⟨_, rfl, ?_⟩, fun sig s h => exec_strokeTick_none h sig, fun u s ht hp => ⟨_, rfl, ?_⟩,
    fun s ht hp => ⟨_, rfl, ?_⟩, fun l s ht hp hl => ?_, fun l u s ht => ?_, fun l u s h0 h1 h2 => ?_⟩
  · have hframe := exec_frame (c := .strokeTick sig) (s := s) rfl
    have htick := tick_tickAt h sig
    simp only [tickAt, Prod.mk.injEq] at htick
    obtain ⟨hstroke, hphase, hticked, htime⟩ := htick
    exact ⟨hstroke, hphase, hticked, htime, (hframe.keeps .tcfg rfl).symm, (hframe.keeps .pwr rfl).symm, hframe.boot_eq rfl,
      (hframe.keeps .mbxs rfl).symm, (hframe.keeps .bus rfl).symm⟩
  · have hframe := exec_frame (c := .judgePhase u) (s := s) rfl
    have hwork := judge_stkAndJudged u (modStk (fun x => { x with phase := 1 }) s)
    obtain ⟨hstk, hjudged⟩ := Prod.mk.inj hwork
    refine ⟨enterPhase_stk ht hp (congrArg (fun x : Stk => { x with phase := 1 }) hstk), (hframe.keeps .tcfg rfl).symm,
      hframe.boot_eq rfl, (hframe.keeps .mbxs rfl).symm, fun hc => ?_, fun hc => ?_⟩
    · exact (enterPhase_judgedStroke ht hp hc _).trans hjudged
    · rw [enterPhase_inReset ht hp hc]
  · have hframe := exec_frame (c := .publishPhase) (s := s) rfl
    obtain ⟨hstk, hjudged⟩ := Prod.mk.inj (publish_stkAndJudged s)
    refine ⟨enterPhase_stk ht hp (congrArg (fun x : Stk => { x with phase := 2 }) hstk), (hframe.keeps .tcfg rfl).symm,
      hframe.boot_eq rfl, (hframe.keeps .pwr rfl).symm, fun hc => ?_, fun hc => ?_⟩
    · exact (enterPhase_judgedStroke ht hp hc _).trans hjudged
    · rw [enterPhase_inReset ht hp hc]
  · refine congrArg ok ((enterPhase_next ht hp _).trans ?_)
    rw [audits_found hl, ite_self]
    rfl
  · exact ⟨congrArg ok (enterPhase_other (.inl ht) _), congrArg ok (enterPhase_other (.inl ht) _), congrArg ok (enterPhase_other (.inl ht) _)⟩
  · exact ⟨congrArg ok (enterPhase_other (.inr h0) _), congrArg ok (enterPhase_other (.inr h1) _), congrArg ok (enterPhase_other (.inr h2) _)⟩

end Sys2Proof.Machine
end

section
/-!
Resets and the tick: nothing that a CORE or CONTROL reset sets off (its ALARMs, its leaves, the windows that it clears) moves the image,
the master or the chip number, which with the WATCH domain give the next tick.
-/
namespace Sys2Proof.Machine

open Sys2Proof

/-! ### What of the CONTROL domain's windows a tick reads (R11, R12) -/

/-- The state of the image, the chip that it names as the master, and this block's chip. -/
def tickSource (s : State) : Nat × Nat × Nat := (s.gnd.state, s.gnd.pod.master, s.wch.chip)

/-- What a tick reads of the CONTROL domain stands as it stood. -/
structure SourceKept (s t : State) : Prop where
  same : tickSource t = tickSource s

namespace SourceKept

variable {s t u : State}

theorem refl (s : State) : SourceKept s s := ⟨rfl⟩

theorem step (k : SourceKept t u) (h : SourceKept s t) : SourceKept s u := ⟨k.same.trans h.same⟩

theorem of_logged (h : Logged s t) : SourceKept s t := ⟨by rw [tickSource, tickSource, h.gnd, h.wch]⟩

theorem of_frame {l : List Comp} (h : Frame l s t) (hg : l.contains .gnd = false) (hw : l.contains .wch = false) : SourceKept s t := by
  have hgnd : s.gnd = t.gnd := h.keeps .gnd hg
  have hwch : s.wch = t.wch := h.keeps .wch hw
  exact ⟨by rw [tickSource, tickSource, hgnd, hwch]⟩

theorem of_modWch {f : Wch → Wch} (hf : ∀ w, (f w).chip = w.chip) : SourceKept s (modWch f s) :=
  ⟨congrArg (fun n => (s.gnd.state, s.gnd.pod.master, n)) (hf s.wch)⟩

theorem whenB {b : Bool} {f : State → State} (hf : ∀ x, SourceKept x (f x)) (h : SourceKept s t) : SourceKept s (Machine.whenB b f t) :=
  step ⟨whenB_keeps (g := tickSource) (fun x => (hf x).same) b t⟩ h

theorem forEach {α : Type} {l : List α} {f : α → State → State} (hf : ∀ a x, SourceKept x (f a x)) (h : SourceKept s t) :
    SourceKept s (Machine.forEach l f t) :=
  step ⟨forEach_keeps (g := tickSource) (fun a x => (hf a x).same) l t⟩ h

end SourceKept

/-! ### ALARMs and the end of an epoch (R228, R274) -/

theorem energyRecord_sourceKept (last e : Nat) (s : State) : SourceKept s (energyRecord last e s) := by
  unfold energyRecord
  split
  · exact .refl s
  · exact .step (.of_frame (forgetEnergy_frame ..) rfl rfl) (.of_logged (recordBlock_logged ..))

theorem dropEpoch_sourceKept (last e : Nat) (s : State) : SourceKept s (dropEpoch last e s) := by
  unfold dropEpoch
  split
  · exact .step (energyRecord_sourceKept ..) ⟨rfl⟩
  · exact .refl s

theorem afterLeave_sourceKept (k : Nat) (s : State) : SourceKept s (afterLeave k s) := by
  have hmod (f : Part → Part) (x : State) : SourceKept x (modPart k f x) := .of_frame (modPart_frame ..) rfl rfl
  have hset (st e : Nat) (x : State) : SourceKept x (setPart k st e x) := .of_frame (setPart_frame ..) rfl rfl
  have hheld (x : State) : SourceKept x (setPart k psHeld 0 (modPart k (fun q => { q with heldNext := false, pending := none }) x)) :=
    .step (hset ..) (hmod ..)
  unfold afterLeave
  dsimp only
  split
  · unfold whenSome
    split
    · exact .step (dropEpoch_sourceKept ..) (.step (hheld _) (hmod ..))
    · exact .step (hheld _) (hmod ..)
  · split
    · split
      · exact .step (hset ..) (.step (hmod ..) (hmod ..))
      · exact .step (hset ..) (hmod ..)
    · exact .step (hset ..) (hmod ..)

theorem cancelPending_sourceKept (e : Nat) (s : State) : SourceKept s (cancelPending e s) := by
  have hleft (l : List Nat) : SourceKept s (forgetJoins e (forEach l afterLeave s)) :=
    .step (.of_frame (forgetJoins_frame ..) rfl rfl) (.forEach afterLeave_sourceKept (.refl s))
  unfold cancelPending
  dsimp only
  split
  · split
    · exact .step (dropEpoch_sourceKept ..) (hleft _)
    · exact .step (.of_frame (modRcv_frame ..) rfl rfl) (hleft _)
  · exact hleft _

theorem actOnAlarm_sourceKept (m : AlarmMsg) (role : Nat) (s : State) : SourceKept s (actOnAlarm m role s) := by
  unfold actOnAlarm
  dsimp only
  refine .step (cancelPending_sourceKept ..) (.forEach (fun _ _ => .of_frame (setPart_frame ..) rfl rfl) ?_)
  refine .step (.of_frame (modEpoch_frame ..) rfl rfl) (.forEach (fun _ _ => .of_frame (pcount_frame ..) rfl rfl) ?_)
  exact .step (.of_logged (gcount_logged ..)) (.step (.of_frame (modRcv_frame ..) rfl rfl) (.of_logged (recordBlock_logged ..)))

theorem originate_sourceKept (cause e node k : Nat) (detail : List Byte) (s : State) :
    SourceKept s (originate cause e node k detail s) := by
  unfold originate
  split
  · exact .refl s
  · split
    · exact .refl s
    · refine .step (actOnAlarm_sourceKept ..) (.step (.of_modWch fun _ => rfl) ?_)
      exact .step (.of_logged (flood_logged ..)) (.of_frame (modEpoch_frame ..) rfl rfl)

theorem alarmEpochs_sourceKept (cause : Nat) (es : List Nat) (s : State) : SourceKept s (alarmEpochs cause es s) :=
  .forEach (fun _ _ => originate_sourceKept ..) (.refl s)

theorem alarmPart_sourceKept (cause k node : Nat) (detail : List Byte) (s : State) : SourceKept s (alarmPart cause k node detail s) := by
  unfold alarmPart
  split
  · exact originate_sourceKept ..
  · exact .refl s

/-! ### Teardowns (R246 to R249) -/

theorem raiseFence_sourceKept (p : Nat) (t : Teardown) (s : State) : SourceKept s (raiseFence p t s) := by
  unfold raiseFence
  split
  · exact .of_frame (modFence_frame ..) rfl rfl
  · exact .step (.of_logged (event_logged ..)) (.step (.of_frame (modFence_frame ..) rfl rfl) (.of_logged (emit_logged ..)))

theorem raiseGate_sourceKept (p : Nat) (g : Gate) (s : State) : SourceKept s (raiseGate p g s) := by
  unfold raiseGate
  refine .step (.of_logged (event_logged ..)) (.step (.of_frame (modRcv_frame ..) rfl rfl) ?_)
  exact .step (.of_frame (modFence_frame ..) rfl rfl) (.of_logged (emit_logged ..))

theorem nextFence_sourceKept (p : Nat) (s : State) : SourceKept s (nextFence p s) := by
  unfold nextFence
  split
  · exact .refl s
  · split
    · split
      · exact raiseGate_sourceKept ..
      · exact .refl s
    · dsimp only
      split
      · exact .step (raiseFence_sourceKept ..) (.of_frame (modFence_frame ..) rfl rfl)
      · exact .of_frame (modFence_frame ..) rfl rfl

theorem endGate_sourceKept (g : Gate) (s : State) : SourceKept s (endGate g s) := by
  unfold endGate dropGate
  dsimp only
  refine .step (.of_logged (recordBlock_logged ..)) (.forEach nextFence_sourceKept ?_)
  refine .step (.of_frame (modRcv_frame ..) rfl rfl) (.step (.of_frame (modCtx_frame ..) rfl rfl) ?_)
  exact .forEach (fun _ _ => .of_frame (lowerFence_frame ..) rfl rfl) (.refl s)

theorem startTeardown_sourceKept (whole : Bool) (c : Nat) (ps : List Nat) (cause node : Nat) (fromFence : Bool) (s : State) :
    SourceKept s (startTeardown whole c ps cause node fromFence s) := by
  unfold startTeardown
  dsimp only
  split
  · refine .step (.of_logged (ladderRecord_logged ..)) (.step (.of_frame (modRcv_frame ..) rfl rfl) ?_)
    exact .forEach (fun _ _ => alarmPart_sourceKept ..) (.refl s)
  · refine .step (.of_frame (raiseFabric_frame ..) rfl rfl) (.forEach (fun _ _ => raiseFence_sourceKept ..) ?_)
    refine .step (.of_frame (modRcv_frame ..) rfl rfl) (.forEach (fun _ _ => .of_frame (modCtx_frame ..) rfl rfl) ?_)
    exact .forEach (fun _ _ => alarmPart_sourceKept ..) (.forEach endGate_sourceKept (.refl s))

/-! ### A partition leaves (R273, R277) -/

theorem endSweep_sourceKept (p : Nat) (epochEnd : Bool) (s : State) : SourceKept s (endSweep p epochEnd s) := by
  unfold endSweep
  split
  · exact .refl s
  · refine .step (.of_frame (openSweeps_frame _) rfl rfl) (.whenB (fun x => .of_frame (addChk_frame ..) rfl rfl) ?_)
    refine .step (.of_frame (modRcv_frame ..) rfl rfl) (.forEach (fun _ _ => .of_frame (releaseClaim_frame ..) rfl rfl) ?_)
    exact .of_logged (record_logged ..)

theorem dropCopies_sourceKept (k : Nat) (s : State) : SourceKept s (dropCopies k s) :=
  .forEach (fun _ _ => .of_frame (discardCapture_frame ..) rfl rfl) (.of_frame (modCpy_frame ..) rfl rfl)

theorem rejectRestore_sourceKept (n status detail : Nat) (s : State) : SourceKept s (rejectRestore n status detail s) :=
  .step (.of_frame (dgtFinish_frame ..) rfl rfl) (.of_logged (recPart_logged ..))

theorem endCommands_sourceKept (k : Nat) (s : State) : SourceKept s (endCommands k s) :=
  .forEach (fun _ _ => rejectRestore_sourceKept ..) (.forEach (fun _ _ => .of_frame (dgtFinish_frame ..) rfl rfl) (.refl s))

theorem leavePart_sourceKept (k : Nat) (s : State) : SourceKept s (leavePart k s) := by
  have hsweeps : SourceKept s (endSweeps k s) := .forEach (fun _ _ => endSweep_sourceKept ..) (.refl s)
  unfold leavePart
  dsimp only
  refine .step (dropEpoch_sourceKept ..) (.step (afterLeave_sourceKept ..) (.step (.of_frame (modPart_frame ..) rfl rfl) ?_))
  refine .step (.of_frame (unbindPart_frame ..) rfl rfl) (.step (.of_frame (endRadii_frame ..) rfl rfl) (.step (endCommands_sourceKept ..) ?_))
  exact .step (.of_frame (dropDigests_frame ..) rfl rfl) (.step (dropCopies_sourceKept ..) hsweeps)

theorem abortEpoch_sourceKept (e : Nat) (s : State) : SourceKept s (abortEpoch e s) := by
  have habort (k : Nat) (x : State) : SourceKept x (abortPart k x) := .step (leavePart_sourceKept ..) (startTeardown_sourceKept ..)
  exact .step (.of_frame (modEpoch_frame ..) rfl rfl) (.forEach habort (.refl s))

/-- Every epoch that the block holds is alarmed, its waiting joins are cancelled, and its partitions leave. -/
theorem leaveEpochs_sourceKept (cause : Nat) (es fs gs : List Nat) (s : State) :
    SourceKept s (forEach gs abortEpoch (forEach fs cancelPending (alarmEpochs cause es s))) :=
  .forEach abortEpoch_sourceKept (.forEach cancelPending_sourceKept (alarmEpochs_sourceKept ..))

theorem holdPart_sourceKept (k : Nat) (s : State) : SourceKept s (holdPart k s) := by
  unfold holdPart
  dsimp only
  split
  · exact .of_frame (modPart_frame ..) rfl rfl
  · split
    · exact .step (dropEpoch_sourceKept ..) (.step (afterLeave_sourceKept ..) (.of_frame (modPart_frame ..) rfl rfl))
    · exact .of_frame (setPart_frame ..) rfl rfl

theorem holdAll_sourceKept (s : State) : SourceKept s (holdAll s) := .forEach holdPart_sourceKept (leaveEpochs_sourceKept ..)

/-! ### A hold is aborted (R204 to R217) -/

theorem landCheck_sourceKept (c : Chk) (s : State) : SourceKept s (landCheck c s) := by
  unfold landCheck
  extract_lets d
  split
  · refine .whenB (fun x => ?_) (.step (.of_frame (touchCheck_frame ..) rfl rfl) (.of_frame (addChk_frame ..) rfl rfl))
    split
    · exact .step (originate_sourceKept ..) (.of_logged (sendUp_logged ..))
    · exact .step (.of_frame (noteFail_frame ..) rfl rfl) (.of_logged (sendUp_logged ..))
  · exact .of_frame (addChk_frame ..) rfl rfl

theorem modSched_sourceKept (p : Nat) (f : Sched → Sched) (s : State) : SourceKept s (modSched p f s) := ⟨rfl⟩

theorem sliceResult_sourceKept (h : Hold) (outcome cause : Nat) (s : State) : SourceKept s (sliceResult h outcome cause s) := by
  unfold sliceResult
  refine .step (.of_frame (modScr_frame ..) rfl rfl) (.step (modSched_sourceKept ..) (.step (.of_frame (pcount_frame ..) rfl rfl) ?_))
  exact .step (.of_logged (gcount_logged ..)) (landCheck_sourceKept ..)

theorem craqMod_sourceKept (u i : Nat) (f : Craq → Craq) (s : State) : SourceKept s (craqMod u i f s) := by
  unfold craqMod craqCommit
  dsimp only
  split
  · exact .step (.of_frame (modLdg_frame ..) rfl rfl) (.of_frame (modNvm_frame ..) rfl rfl)
  · exact .step (.of_logged (record_logged ..)) (.of_frame (modLdg_frame ..) rfl rfl)

theorem recommendTrim_sourceKept (p : Nat) (s : State) : SourceKept s (recommendTrim p s) := by
  have hsent (f : Sentinel → Sentinel) (x : State) : SourceKept x (modSent p f x) := ⟨rfl⟩
  unfold recommendTrim
  dsimp only
  split
  · exact .step (hsent ..) (.of_logged (record_logged ..))
  · refine .step (.of_logged (record_logged ..)) (.step (.of_frame (modScr_frame ..) rfl rfl) (.step (.of_logged (emit_logged ..)) ?_))
    exact .step (hsent ..) (craqMod_sourceKept ..)

theorem advanceSched_sourceKept (h : Hold) (s : State) : SourceKept s (advanceSched h s) := by
  unfold advanceSched
  dsimp only
  split
  · exact .refl s
  · exact modSched_sourceKept ..

theorem closeHold_sourceKept (h : Hold) (outcome : Nat) (s : State) : SourceKept s (closeHold h outcome s) := by
  unfold closeHold
  refine .whenB (recommendTrim_sourceKept _) (.step (.of_frame (modScr_frame ..) rfl rfl) (.step (.of_frame (requestDone_frame ..) rfl rfl) ?_))
  refine .step (modSched_sourceKept ..) (.step (advanceSched_sourceKept ..) ?_)
  exact .step (.of_logged (event_logged ..)) (.of_frame (lowerHold_frame ..) rfl rfl)

theorem endHold_sourceKept (outcome cause : Nat) (s : State) : SourceKept s (endHold outcome cause s) := by
  unfold endHold
  split
  · exact .refl s
  · split
    · exact .of_frame (modHold_frame ..) rfl rfl
    · exact .step (closeHold_sourceKept ..) (sliceResult_sourceKept ..)

theorem abortHold_sourceKept (cause : Nat) (s : State) : SourceKept s (abortHold cause s) := by
  unfold abortHold
  split
  · exact .refl s
  · split
    · exact .refl s
    · refine .step (endHold_sourceKept ..) (.step (.of_frame (modHold_frame ..) rfl rfl) ?_)
      exact .whenB (fun x => .of_frame (askStress_frame ..) rfl rfl) (.whenB (fun x => .of_logged (emit_logged ..)) (.refl s))

/-! ### What a reset clears (R374, R376, R377) -/

/-- WATCH keeps its chip number: its other registers are cleared. -/
theorem clearWindows_sourceKept (s : State) : SourceKept s (clearWindows s) := by
  unfold clearWindows
  refine .step (.of_frame (modLife_frame ..) rfl rfl) (.step (.of_frame (modBoot_frame ..) rfl rfl) ?_)
  refine .step (.of_frame (modScr_frame ..) rfl rfl) (.step (.of_frame (modPwr_frame ..) rfl rfl) ?_)
  exact .step (.of_frame (modLdg_frame ..) rfl rfl) (.of_modWch fun _ => rfl)

/-- GROUND keeps its image and WATCH its chip number: the cleared fields of both are others. -/
theorem clearControl_sourceKept (s : State) : SourceKept s (clearControl s) := by
  have htree (x : State) : SourceKept x (clearTree x) := ⟨rfl⟩
  have hdone (x : State) : SourceKept x (modGnd (fun g => { g with done := false }) x) := ⟨rfl⟩
  unfold clearControl
  refine .step (hdone _) (.step (.of_frame (modBoot_frame ..) rfl rfl) (.step (clearWindows_sourceKept _) ?_))
  refine .step (.of_frame (clearRecovery_frame _) rfl rfl) (.step (.of_frame (clearCopyRegs_frame _) rfl rfl) (.step (htree _) ?_))
  exact .step (abortHold_sourceKept ..) (.of_frame (freezeTraces_frame _) rfl rfl)

theorem startReset_sourceKept (alarm : Nat) (r : DomReset) (s : State) : SourceKept s (startReset alarm r s) := by
  have hnoted : SourceKept s (modPwr (resetNoted r) (resetLeave alarm s)) :=
    .step (.of_frame (modPwr_frame ..) rfl rfl) (leaveEpochs_sourceKept ..)
  cases h : domainReset s r.domain with
  | true =>
    rw [startReset_again h]
    exact .refl s
  | false =>
    rw [startReset_new h]
    split
    · exact .step (.of_frame (clearCore_frame _) rfl rfl) hnoted
    · exact .step (clearControl_sourceKept _) hnoted

theorem resetWrite_sourceKept (v : Word) (s : State) : SourceKept s (resetWrite v s) :=
  .whenB (startReset_sourceKept _ _) (.whenB (startReset_sourceKept _ _) (.refl s))

theorem privWrite_sourceKept {f : State → State} {s : State} (h : SourceKept s (f s)) (a : Access) (addr : Nat) :
    SourceKept s (privWrite a addr f s) := by
  have hbus (x : State) (b : Bus) : SourceKept x { x with bus := b } := ⟨rfl⟩
  unfold privWrite deny
  split
  · exact .refl s
  · split
    · exact .step (hbus ..) (.step (.of_logged (gcount_logged ..)) (.of_logged (recordBlock_logged ..)))
    · split
      · exact hbus ..
      · exact .step (hbus ..) h

/-- A lockstep mismatch of the CORE or the CONTROL domain resets it (R379). -/
theorem lockstep_sourceKept {d : Nat} (hd : d = 2 ∨ d = 3) (s : State) : SourceKept s (selfFault { domain := d, cause := rcLockstep } 0 0 s) := by
  have hact (x : State) : SourceKept x (faultAct { domain := d, cause := rcLockstep } 0 0 x) := by
    rcases hd with rfl | rfl <;> exact startReset_sourceKept ..
  have hheld (x : State) : SourceKept x (reportPfm "SELF_FAULT" (holdAll x)) := .step (.of_logged (reportPfm_logged ..)) (holdAll_sourceKept x)
  unfold selfFault
  refine .whenB hheld (.step (hact _) (.step (.of_frame (modPwr_frame ..) rfl rfl) ?_))
  exact .of_logged (recordBlock_logged ..)

/-! ### The commands that reset a domain -/

/-- CORE_RESET, CONTROL_RESET, CLOCK_LOSS, WARDEN_WATCHDOG and LOCKSTEP_MISMATCH of either domain. -/
def resetsDomain (a : Access) (v : Word) (c : Instr) : Prop :=
  c = .coreReset a v ∨ c = .controlReset a v ∨ c = .clockLoss ∨ c = .wardenWatchdog ∨ c = .lockstepMismatch 2 ∨ c = .lockstepMismatch 3

/-- A command that does nothing in one case keeps the source when it keeps it in the other. -/
theorem outOfReset_sourceKept {p : Prop} [Decidable p] {s t : State} (h : SourceKept s t) : SourceKept s (if p then s else t) := by
  split
  · exact .refl s
  · exact h

/-- A domain's reset is answered, with the STROKE window, STK_CFG, the straps and the source of the tick as they were. -/
theorem reset_answered {c : Instr} {a : Access} {v : Word} (hc : resetsDomain a v c) (s : State) :
    ∃ t, exec c s = .next t ∧ SourceKept s t ∧ t.stk = s.stk ∧ t.tcfg = s.tcfg ∧ t.straps = s.straps := by
  have hanswer {c : Instr} {t : State} (h : exec c s = .next t) (k : SourceKept s t) (hstk : (touches c).contains .stk = false)
      (htcfg : (touches c).contains .tcfg = false) (hstraps : (touches c).contains .straps = false) :
      ∃ t, exec c s = .next t ∧ SourceKept s t ∧ t.stk = s.stk ∧ t.tcfg = s.tcfg ∧ t.straps = s.straps :=
    ⟨t, h, k, (exec_same h hstk).symm, (exec_same h htcfg).symm, (exec_same h hstraps).symm⟩
  rcases hc with rfl | rfl | rfl | rfl | rfl | rfl
  · exact hanswer rfl (privWrite_sourceKept (resetWrite_sourceKept v s) a _) rfl rfl rfl
  · exact hanswer rfl (privWrite_sourceKept (resetWrite_sourceKept v s) a _) rfl rfl rfl
  · refine hanswer rfl (outOfReset_sourceKept (.step (startReset_sourceKept ..) ?_)) rfl rfl rfl
    exact .step (.of_frame (modPwr_frame ..) rfl rfl) (.of_logged (recordBlock_logged ..))
  · exact hanswer rfl (outOfReset_sourceKept (startReset_sourceKept ..)) rfl rfl rfl
  · exact hanswer rfl (outOfReset_sourceKept (lockstep_sourceKept (.inl rfl) s)) rfl rfl rfl
  · exact hanswer rfl (outOfReset_sourceKept (lockstep_sourceKept (.inr rfl) s)) rfl rfl rfl

/-! ### The tick (R11, R13) -/

theorem SourceKept.ticking_eq {s t : State} (k : SourceKept s t) (hstk : t.stk = s.stk) (htcfg : t.tcfg = s.tcfg) :
    ticking t = ticking s := by
  have hsource := k.same
  simp only [tickSource, Prod.mk.injEq] at hsource
  obtain ⟨hstate, hmaster, hchip⟩ := hsource
  rw [ticking, ticking, hstk, htcfg, hstate, hmaster, hchip]

theorem SourceKept.nextTickOf_eq {s t : State} (k : SourceKept s t) (hstk : t.stk = s.stk) (htcfg : t.tcfg = s.tcfg) :
    nextTickOf t = nextTickOf s := by
  rw [nextTickOf, nextTickOf, k.ticking_eq hstk htcfg, hstk, htcfg]

/-- In a CONTROL reset the tick ends with its marker: Gather needs the CONTROL domain. -/
theorem tick_inReset {n x : Nat} {s : State} (hc : controlReset s = true) (h : nextTickOf s = some (n, x)) (sig : TickSignals) :
    tick sig s = sendMarker (followTick s.stk.flyTick (advanceStroke n x s)) := by
  have hpwr : (sendMarker (followTick s.stk.flyTick (advanceStroke n x s))).pwr = s.pwr :=
    ((sendMarker_frame _).keeps .pwr rfl).symm.trans (((followTick_frame ..).keeps .pwr rfl).symm.trans rfl)
  have hreset : controlReset (sendMarker (followTick s.stk.flyTick (advanceStroke n x s))) = true := by rw [controlReset, hpwr]; exact hc
  unfold tick
  rw [h]
  exact if_pos hreset

/-- Settles O60: `reset_answered` for the resets, and `tick_inReset` for a tick in a CONTROL reset. -/
theorem resetsDoNotStopTheTicks : Obligations.ResetsDoNotStopTheTicks := by
  refine ⟨fun c a v s hc => ?_, fun sig n x s hc h => congrArg ok (tick_inReset hc h sig), fun n x s => ⟨rfl, rfl, rfl⟩⟩
  obtain ⟨t, hexec, hkept, hstk, htcfg, hstraps⟩ := reset_answered hc s
  exact ⟨t, hexec, hstk, htcfg, hstraps, hkept.ticking_eq hstk htcfg, hkept.nextTickOf_eq hstk htcfg⟩

end Sys2Proof.Machine
end
